-- ==== Sys2Proof/Word.lean ====
section
/-! DEFINITION. The two machine words of the link: the byte and the 16-bit check (R118, R119). -/

namespace Sys2Proof

/-- One byte of a lane. -/
abbrev Byte := BitVec 8

/-- The 16-bit CHECK field, and a two-byte event set (R180). -/
abbrev Word16 := BitVec 16

end Sys2Proof
end

