-- ==== Sys2Proof/Syntax.lean ====
section
/-! DEFINITION. The commands: one constructor of `Instr` for each row of spec/opcode_table.json, with its operands. -/

namespace Sys2Proof

/-- The downstream ports (00_scope.md, Signals). -/
inductive Port where
  | d1 | d2 | d3 | d4 | d5
  deriving DecidableEq, Repr

/-- Where a run of bytes is received. -/
inductive LaneEnd where
  | u
  | d (p : Port)
  deriving DecidableEq, Repr

/-- Rails 0 to 23 (R1). -/
abbrev RailId := Fin 24

/-- Sense channels 0 to 7 (R29). -/
abbrev ChannelId := Fin 8

/-- A trigger timer of the plan: a level 1 to 4 (here 0 to 3), or commit (R94, R96). -/
inductive TriggerId where
  | level (i : Fin 4)
  | commit
  deriving DecidableEq, Repr

/-- The commands that may come to the part. A request row is that request's frame coming on port U
from the main board, and every frame row carries what its frame carries (log 1). -/
inductive Instr where
  /-- IDENTIFY (R174): tag. -/
  | identify (tag : Byte)
  /-- SNAPSHOT (R175). -/
  | snapshot (tag : Byte)
  /-- READ_EVENTS (R169). -/
  | readEvents (tag : Byte)
  /-- SET_MASK (R166): the new mask, an event set. -/
  | setMask (tag : Byte) (mask : Word16)
  /-- CLEAR_EVENTS (R170). -/
  | clearEvents (tag : Byte)
  /-- LOAD_RAIL (R25): the 25 payload bytes of R182. -/
  | loadRail (tag : Byte) (payload : List Byte)
  /-- READ_RAIL (R176): rail number. -/
  | readRail (tag : Byte) (rail : Byte)
  /-- CLEAR_FAULT (R23): rail number. -/
  | clearFault (tag : Byte) (rail : Byte)
  /-- LOAD_CHANNEL (R39): channel number, LOW, HIGH, DEBOUNCE. -/
  | loadChannel (tag : Byte) (channel : Byte) (low high : Word16) (debounce : Byte)
  /-- READ_SENSE (R40). -/
  | readSense (tag : Byte)
  /-- LOAD_ADMIT (R145): the 13 payload bytes of R182. -/
  | loadAdmit (tag : Byte) (payload : List Byte)
  /-- READ_ADMIT (R146): entry index. -/
  | readAdmit (tag : Byte) (index : Byte)
  /-- LOAD_STEPS (R72): the payload of R182, start, count and 8 bytes a step. -/
  | loadSteps (tag : Byte) (payload : List Byte)
  /-- READ_STEPS (R75): start and count. -/
  | readSteps (tag : Byte) (start count : Byte)
  /-- LOAD_PROGRAM (R73): program, FIRST, COUNT, PRIORITY. -/
  | loadProgram (tag : Byte) (program first count priority : Byte)
  /-- LOAD_TEMPLATE (R74): the payload of R182. -/
  | loadTemplate (tag : Byte) (payload : List Byte)
  /-- READ_PROGRAM (R75). -/
  | readProgram (tag : Byte) (program : Byte)
  /-- START_PROGRAM (R87). -/
  | startProgram (tag : Byte) (program : Byte)
  /-- ABORT_PROGRAM (R88). -/
  | abortProgram (tag : Byte) (program : Byte)
  /-- READ_RESULT (R86). -/
  | readResult (tag : Byte)
  /-- LOAD_PLAN (R91): the 34 payload bytes of R182. -/
  | loadPlan (tag : Byte) (payload : List Byte)
  /-- READ_PLAN (R93). -/
  | readPlan (tag : Byte)
  /-- READ_RECORD (R116). -/
  | readRecord (tag : Byte)
  /-- CLEAR_RECORD (R117). -/
  | clearRecord (tag : Byte)
  /-- READ_PORT (R177): port number. -/
  | readPort (tag : Byte) (port : Byte)
  /-- RESET_BOARD (R134): port number. -/
  | resetBoard (tag : Byte) (port : Byte)
  /-- LOAD_PORT_SETTINGS (R178): the 14 payload bytes of R182. -/
  | loadPortSettings (tag : Byte) (payload : List Byte)
  /-- SAVE_SETTINGS (R187). -/
  | saveSettings (tag : Byte)
  /-- READ_STORE_STATUS (R179). -/
  | readStoreStatus (tag : Byte)
  /-- ENTER_STANDBY (R193). -/
  | enterStandby (tag : Byte)
  /-- RESET_PART (R191). -/
  | resetPart (tag : Byte)
  /-- UNKNOWN_REQUEST_CODE (R172): class, tag and payload of a request whose class or length is wrong. -/
  | unknownRequestCode (cls tag : Byte) (payload : List Byte)
  /-- FORWARD_COMMAND (R147): a main-board command for the board on a port. -/
  | forwardCommand (port : Port) (cls tag : Byte) (payload : List Byte)
  /-- BAD_ADDRESS_COMMAND (R122): DEST and SRC as received. -/
  | badAddressCommand (dest src : BitVec 4) (cls tag : Byte) (payload : List Byte)
  /-- UPSTREAM_FRAME_RECEIVED (R121): the run of bytes received on U. -/
  | upstreamFrameReceived (bytes : List Byte)
  /-- MALFORMED_FRAME (R120): where, and the run of bytes. -/
  | malformedFrame (lane : LaneEnd) (bytes : List Byte)
  /-- UPSTREAM_TX_COMPLETE (R123). -/
  | upstreamTxComplete
  /-- U_PRESENT_FALLS (R125). -/
  | uPresentFalls
  /-- U_PRESENT_RISES (R125). -/
  | uPresentRises
  /-- PRESENT_RISES (R127). -/
  | presentRises (port : Port)
  /-- PRESENT_FALLS (R133). -/
  | presentFalls (port : Port)
  /-- PROBE_TIMER_EXPIRY (R128). -/
  | probeTimerExpiry (port : Port)
  /-- CAPABILITY_IN_EXCHANGE (R131): the frame's tag and the capability record's bytes. -/
  | capabilityInExchange (port : Port) (tag : Byte) (payload : List Byte)
  /-- UNSOLICITED_CAPABILITY (R132). -/
  | unsolicitedCapability (port : Port) (tag : Byte) (payload : List Byte)
  /-- INVALID_CAPABILITY (R129). -/
  | invalidCapability (port : Port) (tag : Byte) (payload : List Byte)
  /-- RESET_PULSE_EXPIRY (R134). -/
  | resetPulseExpiry (port : Port)
  /-- DOWNSTREAM_FRAME_DISCARDED (R137): the header fields and payload as received. -/
  | downstreamFrameDiscarded (port : Port) (dest src kind : BitVec 4) (cls tag : Byte) (payload : List Byte)
  /-- TRANSMITTER_FREE (R138). -/
  | transmitterFree (port : Port)
  /-- DOWNSTREAM_TX_COMPLETE (R140). -/
  | downstreamTxComplete (port : Port)
  /-- RAIL_CONTROL_REPLY (R6): the reply whose tag is 0xC0 plus the rail. -/
  | railControlReply (port : Port) (cls : Byte) (rail : RailId) (payload : List Byte)
  /-- RAIL_FRAME_DEADLINE (R5). -/
  | railFrameDeadline (rail : RailId)
  /-- SEQUENCER_REPLY (R51): the reply to address 0 with a tag from 0xE0. -/
  | sequencerReply (port : Port) (cls tag : Byte) (payload : List Byte)
  /-- BOARD_REPLY (R158): the reply to address 7. -/
  | boardReply (port : Port) (cls tag : Byte) (payload : List Byte)
  /-- BOARD_NOTICE (R162): the notice to address 7. -/
  | boardNotice (port : Port) (cls tag : Byte) (payload : List Byte)
  /-- OUTSTANDING_DEADLINE_EXPIRY (R160): the command by its port and tag. -/
  | outstandingDeadlineExpiry (port : Port) (tag : Byte)
  /-- HOLD_DEADLINE_EXPIRY (R154): the command by its port and tag. -/
  | holdDeadlineExpiry (port : Port) (tag : Byte)
  /-- SENSE_SAMPLE (R31): the channel and the voltage at its pin in millivolts. -/
  | senseSample (channel : ChannelId) (millivolts : Nat)
  /-- SETTLE_EXPIRY (R10). -/
  | settleExpiry (rail : RailId)
  /-- RISE_TIMEOUT (R10). -/
  | riseTimeout (rail : RailId)
  /-- FALL_EXPIRY (R11). -/
  | fallExpiry (rail : RailId)
  /-- DISCHARGE_EXPIRY (R12). -/
  | dischargeExpiry (rail : RailId)
  /-- LINE_EDGE (R43). -/
  | lineEdge
  /-- LINE_GAP_EXPIRY (R42). -/
  | lineGapExpiry
  /-- FSYNC_EDGE (R45). -/
  | fsyncEdge
  /-- WAKE_EDGE (R195). -/
  | wakeEdge
  /-- DELAY_EXPIRY (R59). -/
  | delayExpiry
  /-- SYNC_TIMEOUT (R60). -/
  | syncTimeout
  /-- SEND_WINDOW_EXPIRY (R62). -/
  | sendWindowExpiry
  /-- NOTICE_TIMEOUT (R63). -/
  | noticeTimeout
  /-- CLAIM_WAIT_EXPIRY (R19). -/
  | claimWaitExpiry
  /-- TRIGGER_TIMER_EXPIRY (R96). -/
  | triggerTimerExpiry (trigger : TriggerId)
  /-- RESUME_DELAY_EXPIRY (R112). -/
  | resumeDelayExpiry
  /-- RECORD_WRITE_COMPLETE (R114). -/
  | recordWriteComplete
  /-- SAVE_GROUP_WRITE_END (R188). -/
  | saveGroupWriteEnd
  /-- POWER_ON_RESET (R190). -/
  | powerOnReset
  /-- SUPPLY_LOW_RESET (R190). -/
  | supplyLowReset
  /-- RESET_PIN (R190). -/
  | resetPin
  /-- STARTUP_WAIT_END (R192). -/
  | startupWaitEnd
  /-- STARTUP_LOAD_COMPLETE (R192). -/
  | startupLoadComplete
  /-- UPSTREAM_TRANSMITTER_FREE (R123). -/
  | upstreamTransmitterFree
  deriving DecidableEq, Repr

end Sys2Proof
end

