-- ==== Sys2Proof/Decode.lean ====
section
/-! DEFINITION. The command that a word of the opcode table spells. The table gives no row any bits
(98_reader.md: no row with fixed bits or fields), so no word spells a command. -/

namespace Sys2Proof

/-- No row of spec/opcode_table.json gives bits: every word is rejected. -/
def decodeTableWord (_nbits _w : Nat) : Option Instr := none

end Sys2Proof
end

