-- ==== Sys2Proof/Config.lean ====
section
/-! DEFINITION. What the part fixes (capacities, times) and the free values the spec leaves open. -/

namespace Sys2Proof.Config

/-- Milliseconds in clock units: the clock counts half microseconds (log 2). -/
def ms (n : Nat) : Nat := 2000 * n

/-- Microseconds in clock units. -/
def us (n : Nat) : Nat := 2 * n

/-- One byte on a lane takes 2.5 µs (R120). -/
def byteTime : Nat := 5

/-- The idle stretch that ends a frame, 5 µs (R120, R123, R138). -/
def idleStretch : Nat := us 5

/-- The wait after reset release (R192). -/
def startupWait : Nat := ms 2

/-- The probe timer (R128). -/
def probeTime : Nat := ms 20

/-- The board reset pulse (R134). -/
def resetPulse : Nat := ms 10

/-- The least time of a record write (R114). -/
def recordWriteLeast : Nat := ms 2

/-- The least time of one group's write (R188). -/
def groupWriteLeast : Nat := ms 10

/-- The converter's interval in ACTIVE and in STANDBY (R28). -/
def roundActive : Nat := us 250
def roundStandby : Nat := ms 8

/-- Capacities (R174). -/
def receivePlaces : Nat := 4
def replyPlaces : Nat := 24
def noticePlaces : Nat := 7
def holdPlaces : Nat := 16
def forwardPlaces : Nat := 8
def outstandingPlaces : Nat := 4
def requestPlaces : Nat := 4
def railFramePlaces : Nat := 2
def payloadMost : Nat := 60

/-- Hand-ons between units that one event may take before the rest is left in `agenda` (log 10). -/
def settleFuel : Nat := 65536

/-- Free value (log 6): whether a rail's report reaches the Forwarding Unit before the Sequencer.
The spec says either may be taken first (11, Sequence 3). -/
opaque forwardingFirst : Nat → Bool

/-- Free value (log 7): which of several rails that lose their paths together is taken next
(11, Sequence 5: "their reports reach step 14 in either order"). -/
opaque pathLossPick : Nat → Nat

/-- Free value (log 21): whether COMMIT is handed before STAGE_CHANGE at entry into COMMIT (R107 item 7). -/
opaque commitKindFirst : Nat → Bool

/-- Free value (log 8): whether a time that is not a whole number of milliseconds is reported rounded up.
The spec says so for the reset pulse only (R177). -/
opaque roundsUp : Nat → Bool

end Sys2Proof.Config
end

