-- ==== Sys2Proof/Machine/State.lean ====
section
/-! DEFINITION. State: every piece of state the spec gives the part, as plain data, and State after reset. -/

namespace Sys2Proof.Machine

/-- A moment or a span, in half microseconds (log 2). -/
abbrev Time := Nat

/-- Program numbers 0 to 11 (R47). -/
abbrev ProgNo := Fin 12

/-! ### Rails (R1, R2, R5) -/

/-- STATE of a rail (R2). -/
inductive RailState where
  | off | rising | on | falling | discharging | fault
  deriving DecidableEq, Repr

/-- FAULT_CAUSE (R2). -/
inductive FaultCause where
  | riseTimeout | low | high | fallTimeout
  deriving DecidableEq, Repr

/-- CLAIM (R2, R18). -/
inductive Claim where
  | none
  | step
  | frame (port : Port) (tag : Byte)
  deriving DecidableEq, Repr

/-- The waiting or sent mark of a frame in flight, with its deadline once sent (R5). -/
inductive FrameMark where
  | waiting
  | sent (deadline : Time)
  deriving DecidableEq, Repr

/-- The record of a rail-control frame in flight (R5). -/
structure RailFrame where
  /-- direction ON -/
  isOn : Bool
  attempt : Nat
  mark : FrameMark
  /-- purpose STEP; clear for FOLLOW -/
  forStep : Bool
  thenOff : Bool
  deriving DecidableEq, Repr

/-- PATH (R1). -/
inductive Path where
  | onPart (en : Fin 12)
  | board (port : Port) (id : Fin 32) (onClass offClass : Byte)
  deriving DecidableEq, Repr

/-- DISCHARGE (R1). -/
inductive Discharge where
  | none
  | bleed (out : Fin 8)
  | force (out : Fin 8) (time : Nat)
  deriving DecidableEq, Repr

/-- The static half of a rail record (R1); times in milliseconds, levels in sense units. -/
structure RailStatic where
  used : Bool
  path : Path
  sense : Option ChannelId
  goodLevel : Nat
  safeLevel : Nat
  settleMs : Nat
  riseMs : Nat
  fallMs : Nat
  discharge : Discharge
  /-- bit n is rail n (R180) -/
  prereqs : BitVec 24
  faultAction : Option ProgNo
  standbyKeep : Bool
  deriving DecidableEq, Repr

/-- The dynamic half of a rail record (R2). -/
structure RailDynamic where
  state : RailState
  timer : Option Time
  heldGood : Bool
  faultCause : Option FaultCause
  claim : Claim
  frame : Option RailFrame
  deriving DecidableEq, Repr

/-- One record of the Rail Table. -/
structure Rail where
  static : RailStatic
  dyn : RailDynamic
  deriving DecidableEq, Repr

/-! ### Sense Monitor (R28, R29, R36) -/

inductive Alarm where
  | none | low | high
  deriving DecidableEq, Repr

/-- ROLE (R30). -/
inductive Role where
  | free
  | bound (rail : RailId)
  | bulk
  deriving DecidableEq, Repr

/-- One channel record (R29). -/
structure Channel where
  low : Nat
  high : Nat
  debounce : Nat
  alarm : Alarm
  last : Option Nat
  lowCount : Nat
  highCount : Nat
  insideCount : Nat
  goodCount : Nat
  role : Role
  deriving DecidableEq, Repr

/-- One bulk mark (R36): the level (0 to 3 for 1 to 4) or commit, threshold, BELOW, count. -/
structure BulkMark where
  id : TriggerId
  threshold : Nat
  below : Bool
  count : Nat
  deriving DecidableEq, Repr

/-- The converter (R28): whether it runs, the channel in turn, when the next round starts (log 24). -/
structure Converter where
  running : Bool
  next : ChannelId
  roundDue : Time
  deriving DecidableEq, Repr

/-! ### Line Monitor and Sync Counter (R41, R45) -/

inductive LineState where
  | unqualified | present | lost
  deriving DecidableEq, Repr

structure LineMonitor where
  state : LineState
  count : Nat
  prev : Option Time
  gap : Option Time
  deriving DecidableEq, Repr

structure SyncCounter where
  armed : Bool
  target : Option Nat
  count : Nat
  deriving DecidableEq, Repr

/-! ### Frames (R118) -/

/-- A frame, with its fields as they stand on the lane and its CHECK. -/
structure Frame where
  dest : BitVec 4
  src : BitVec 4
  kind : BitVec 4
  cls : Byte
  tag : Byte
  payload : List Byte
  check : Word16
  deriving DecidableEq, Repr

/-! ### Sequencer (R46 to R49) -/

/-- What follows if a step fails (R53). -/
inductive OnFail where
  | abort
  | proceed
  | skip (offset : Nat)
  deriving DecidableEq, Repr

/-- KIND of a step with its operands (R46); `proceed` above is CONTINUE. -/
inductive StepKind where
  | railOn (rail : RailId) (noWait : Bool)
  | railOff (rail : RailId) (noWait : Bool)
  | delay (time : Nat)
  | awaitSync (time count : Nat)
  | send (template : Fin 16)
  | awaitNotice (time : Nat) (port : Port) (cls : Byte) (cancel : Option (Fin 16))
  | check (rail : RailId) (state : RailState)
  | setOutput (out : Fin 4) (active : Bool)
  deriving DecidableEq, Repr

structure Step where
  kind : StepKind
  onFail : OnFail
  guarded : Bool
  deriving DecidableEq, Repr

structure Header where
  first : Nat
  count : Nat
  priority : Nat
  deriving DecidableEq, Repr

/-- A template that is not empty (R48). -/
structure Template where
  port : Port
  cls : Byte
  payload : List Byte
  windowMs : Nat
  retries : Nat
  deriving DecidableEq, Repr

/-- Failure reasons (R53). -/
inductive FailReason where
  | prereq | prereqLost | noPath | claimed | order | errorReply | noReply | riseTimeout | railFault
  | syncTimeout | noSync | noticeTimeout | checkFailed
  deriving DecidableEq, Repr

inductive Requester where
  | main | holdup | fault | resume
  deriving DecidableEq, Repr

/-- The SEND frame in flight (R49), with the template's WINDOW_MS and RETRIES as read at its start (R48). -/
structure SendFrame where
  port : Port
  frame : Frame
  attempt : Nat
  mark : FrameMark
  windowMs : Nat
  retries : Nat
  deriving DecidableEq, Repr

/-- The waiting mark of the current step (R49). `fall` waits for the rail to reach OFF before the order
is taken (R8); `order` waits on an order that was taken. -/
inductive Wait where
  | none | claim | fall | order | notice | sync
  deriving DecidableEq, Repr

/-- The running context (R49). -/
structure Context where
  program : ProgNo
  requester : Requester
  index : Nat
  timer : Option Time
  frame : Option SendFrame
  failed : Nat
  wait : Wait
  deriving DecidableEq, Repr

structure Sequencer where
  steps : Vector Step 256
  headers : Vector Header 12
  templates : Vector (Option Template) 16
  ctx : Option Context
  tagCounter : Byte
  cancel : Option (Port × Byte)
  deriving DecidableEq, Repr

/-! ### Scheduler (R76, R86) -/

structure Running where
  program : ProgNo
  requester : Requester
  priority : Nat
  guarded : Bool
  /-- the EXPLICIT abandonment mark -/
  marked : Bool
  deriving DecidableEq, Repr

structure Entry where
  program : ProgNo
  requester : Requester
  priority : Nat
  arrival : Nat
  deriving DecidableEq, Repr

inductive EndKind where
  | done | failed | abandoned | dropped
  deriving DecidableEq, Repr

/-- The last-result record (R86). -/
structure Result where
  program : ProgNo
  requester : Requester
  outcome : EndKind
  step : Option Nat
  reason : Option FailReason
  failedSteps : Option Nat
  deriving DecidableEq, Repr

structure Scheduler where
  running : Option Running
  queue : List Entry
  committed : Bool
  last : Option Result
  arrivals : Nat
  deriving DecidableEq, Repr

/-! ### Ride-Through Unit (R90, R94, R113, R114) -/

structure Level where
  bulkBelow : Nat
  afterMs : Nat
  program : Option ProgNo
  deriving DecidableEq, Repr

inductive Resume where
  | wait
  | auto (delayMs : Nat) (program : ProgNo)
  deriving DecidableEq, Repr

structure Plan where
  bulk : Option ChannelId
  levels : List Level
  commitBelow : Nat
  commitAfterMs : Nat
  reserveMs : Nat
  resume : Resume
  lossWindow : Nat
  returnCount : Nat
  deriving DecidableEq, Repr

/-- STAGE; `shed k` is SHED(k), 1 to 4. -/
inductive Stage where
  | lineOk | dip
  | shed (level : Nat)
  | recover | commit | dark
  deriving DecidableEq, Repr

inductive Integrity where
  | good | damaged | empty
  deriving DecidableEq, Repr

inductive CommitCause where
  | bulkLow | lineLoss
  deriving DecidableEq, Repr

inductive RecordOutcome where
  | inProgress | complete | interrupted
  deriving DecidableEq, Repr

/-- The shutdown record (R113). -/
structure Record where
  integrity : Integrity
  cause : Option CommitCause
  stageAt : Option Stage
  deepest : Option Nat
  msLoss : Option Nat
  bulkAt : Option Nat
  lineReturned : Bool
  outcome : Option RecordOutcome
  failedSteps : Option Nat
  deriving DecidableEq, Repr

/-- The record write state (R114): the copy being written, when it began, and the pending write. -/
inductive RecordWrite where
  | idle
  | writing (record : Record) (begun : Time) (next : Option Record)
  deriving DecidableEq, Repr

structure RideThrough where
  plan : Plan
  stage : Stage
  shedLevel : Nat
  lossTime : Option Time
  deepest : Nat
  levelTimers : Vector (Option Time) 4
  commitTimer : Option Time
  armed : Bool
  resumeDelay : Option Time
  record : Record
  write : RecordWrite
  deriving DecidableEq, Repr

/-! ### Port Units (R121 to R140) -/

/-- The three groups of places of the upstream transmit queue (R123). -/
inductive PlaceGroup where
  | reply | notice | attention
  deriving DecidableEq, Repr

/-- A frame in the upstream transmit queue; `reset` marks the reply a requested reset waits for (R191). -/
structure UpEntry where
  frame : Frame
  group : PlaceGroup
  reset : Bool
  deriving DecidableEq, Repr

inductive UpLine where
  | idle
  | sending (entry : UpEntry) (done : Time)
  | stretch (due : Time)
  deriving DecidableEq, Repr

/-- Port U (R121, R123); `rise` is the time of the last rise of U_PRESENT since the reset (R125; log 48). -/
structure Upstream where
  present : Bool
  rise : Option Time
  rx : List Frame
  tx : List UpEntry
  replyTaken : Nat
  line : UpLine
  deriving DecidableEq, Repr

inductive LinkState where
  | down | exchange | up | failed
  deriving DecidableEq, Repr

/-- A valid capability record (R129). -/
structure Capability where
  boardKind : Nat
  maxPayload : Nat
  notices : Bool
  syncSource : Bool
  ids : List (Fin 32)
  deriving DecidableEq, Repr

/-- The agreed record (R130); rail lists in ascending order. -/
structure Agreed where
  boardKind : Nat
  limit : Nat
  notices : Bool
  syncSource : Bool
  ids : List (Fin 32)
  rails : List RailId
  mismatch : List RailId
  deriving DecidableEq, Repr

/-- The claimant whose frame a transmitter sends (R138). -/
inductive Claimant where
  | rail (r : RailId)
  | probe | sequencer | forward
  deriving DecidableEq, Repr

/-- A Sequencer frame offered or waiting for a port (R50): a SEND frame or a cancel frame. -/
structure SeqFrame where
  frame : Frame
  isCancel : Bool
  deriving DecidableEq, Repr

/-- A downstream transmitter: free, sending (for a claimant, or for no one once withdrawn), or in the
5 µs stretch after a frame (R138, R140). -/
inductive DownLine where
  | free
  | sending (owner : Option Claimant) (frame : Frame) (done : Time)
  | stretch (due : Time)
  deriving DecidableEq, Repr

structure PortRec where
  /-- the Dn_PRESENT input -/
  present : Bool
  link : LinkState
  /-- the BRSTn output, true when asserted -/
  brst : Bool
  pulse : Option Time
  probeCount : Nat
  probeTimer : Option Time
  agreed : Option Agreed
  latch : Bool
  fairCount : Nat
  windowMs : Nat
  fair : Nat
  /-- the arbiter's two waiting places for rail-control frames -/
  railPlaces : List RailId
  probeWaiting : Bool
  seqOffer : Option SeqFrame
  seqBehind : List SeqFrame
  line : DownLine
  deriving DecidableEq, Repr

/-! ### Forwarding Unit (R141, R143) -/

inductive Action where
  | pass | hold | refuse
  deriving DecidableEq, Repr

/-- A non-empty admission entry; `cls` absent is ANY; an effect is a rail and ON (true) or OFF. -/
structure AdmitEntry where
  port : Port
  cls : Option Byte
  action : Action
  prereqs : BitVec 24
  shedClass : Nat
  holdMs : Nat
  effect : Option (RailId × Bool)
  deriving DecidableEq, Repr

/-- A command record (R141); `entry` absent is the default entry. -/
structure Cmd where
  frame : Frame
  port : Port
  order : Nat
  action : Action
  prereqs : BitVec 24
  shedClass : Nat
  holdMs : Nat
  effect : Option (RailId × Bool)
  entry : Option (Fin 64)
  deriving DecidableEq, Repr

inductive HoldReason where
  | shed | order | prereq | claimed
  deriving DecidableEq, Repr

structure HoldEntry where
  cmd : Cmd
  reason : HoldReason
  deadline : Time
  deriving DecidableEq, Repr

structure OutEntry where
  cmd : Cmd
  deadline : Time
  claimMark : Bool
  deriving DecidableEq, Repr

structure Forwarding where
  admission : Vector (Option AdmitEntry) 64
  orderHoldMs : Nat
  shedLevel : Nat
  accepted : Nat
  hold : List HoldEntry
  queues : Vector (List Cmd) 5
  outs : Vector (List OutEntry) 5
  deriving DecidableEq, Repr

/-! ### Event Unit (R165, R166) -/

/-- The sixteen event kinds, in the order of their numbers (R165). -/
inductive EventKind where
  | lineLost | lineBack | stageChange | commit | programEnd | railFault | senseAlarm | linkChange
  | capMismatch | holdExpired | lateReply | linkError | noticeDropped | saveEnd | configFallback | wake
  deriving DecidableEq, Repr

structure EventUnit where
  pending : Word16
  mask : Word16
  defaultMask : Word16
  /-- ATTN driven low -/
  attn : Bool
  deriving DecidableEq, Repr

/-! ### Settings Store (R184, R188) -/

structure GroupArea where
  code : Byte
  crc : Word16
  contents : List Byte
  deriving DecidableEq, Repr

inductive SaveState where
  | none | running | finished | abandoned
  deriving DecidableEq, Repr

inductive AbandonCause where
  | lineLoss | commit
  deriving DecidableEq, Repr

inductive SaveResult where
  | notReached | voided | applied
  deriving DecidableEq, Repr

inductive LoadResult where
  | stored | code | crc | unfit | budget
  deriving DecidableEq, Repr

/-- The record slot: never written, a record, or a write cut off by a reset (R115). -/
inductive Slot where
  | never
  | holds (record : Record)
  | cutOff
  deriving DecidableEq, Repr

structure Store where
  groups : Vector GroupArea 5
  save : SaveState
  group : Option (Fin 5)
  cause : Option AbandonCause
  results : Vector SaveResult 5
  loads : Vector LoadResult 5
  /-- when the group write in progress began -/
  begun : Time
  slot : Slot
  deriving DecidableEq, Repr

/-! ### The part -/

inductive Mode where
  | active | standby
  deriving DecidableEq, Repr

inductive ResetCause where
  | powerOn | supplyLow | resetPin | requested
  deriving DecidableEq, Repr

/-- Where the part stands in the start-up sequence (R192). -/
inductive Phase where
  | waiting (due : Time)
  | loading
  | running
  deriving DecidableEq, Repr

/-- What a rail reports to the Forwarding Unit and the Sequencer (R7). -/
inductive ReportKind where
  | state | claim | frame
  deriving DecidableEq, Repr

/-- How a program ends, as the Sequencer hands it back (R55). -/
inductive ProgramEnd where
  | done
  | failed (index : Nat) (reason : FailReason)
  | abandoned (index : Nat)
  deriving DecidableEq, Repr

/-- Work that one unit hands to another within one event. `agenda` holds what is still to be taken,
first to last; a unit's own hand-ons are taken before those already waiting (log 9). -/
inductive Work where
  /-- a rail's report (R7) -/
  | report (r : RailId) (k : ReportKind)
  /-- a pass over the hold queue (R151) -/
  | pass
  /-- the Sequencer looks at its rail step (R7, R57, R58) -/
  | seqRail (r : RailId) (k : ReportKind)
  /-- the Sequencer is told a rail lost its path (R57) -/
  | seqPathLost (r : RailId)
  /-- the Sequencer is told a rail-control frame's failure (R57, R58) -/
  | seqFrameEnd (r : RailId) (reason : FailReason)
  /-- the Sequencer is told a port left UP (R133 item 4) -/
  | seqPortDown (p : Port)
  /-- NOTICES left a port's agreed features (R132) -/
  | seqNoticesLost (p : Port)
  /-- an event kind is handed to the Event Unit -/
  | raise (k : EventKind)
  /-- entry into FAULT (R21) -/
  | fault (r : RailId) (c : FaultCause)
  /-- R21 item 4 -/
  | faultClaim (r : RailId)
  /-- R21 item 7 -/
  | faultAction (r : RailId)
  /-- the cascade over the dependents of r numbered `start` and up (R16) -/
  | cascade (r : RailId) (start : Nat)
  /-- an alarm entry handed to a rail (R13) -/
  | alarm (r : RailId) (high : Bool)
  /-- the level reports of R33 -/
  | good (r : RailId)
  | safe (r : RailId)
  | belowGood (r : RailId)
  /-- rails that lose their path (R17) -/
  | pathLost (rs : List RailId)
  /-- the effect of a forwarded command (R20) -/
  | effect (r : RailId) (isOn refused held : Bool)
  /-- the release of a FRAME claim (R18) -/
  | releaseFrame (r : RailId) (p : Port) (tag : Byte)
  /-- outstanding entries of a departed port (R163 item 3) -/
  | flushOut (p : Port)
  /-- what follows a step's end (R52, R53) -/
  | afterStep (failure : Option FailReason)
  /-- a request for a program (R77 to R79) -/
  | request (n : ProgNo) (q : Requester)
  | startHead
  /-- the first entry into SHED (R82) -/
  | shedAbandon
  | dropLow
  /-- the loss in RECOVER (R82, R102) -/
  | abandonRestore
  | dropRestore
  /-- commit (R84) -/
  | commitRequest
  | dropAll
  | startZero
  /-- Ride-Through Unit -/
  | lineLost
  | lineBack
  | markReport (id : TriggerId) (below : Bool)
  | look
  | restoreEnd (e : EndKind)
  | zeroEnd (failed : Nat)
  | finalDrop (start : Nat)
  | enterDark (failed : Nat)
  | commitEvents
  /-- Management Unit: place a reply once the request has acted (R172) -/
  | reply (f : Frame)
  /-- the reset that follows a RESET_PART reply (R191) -/
  | reset (c : ResetCause)
  deriving DecidableEq, Repr

/-- The part never stops: every refusal the spec names is an answer on the link (INVENTORY.md, Faults). -/
inductive Fault where
  deriving DecidableEq, Repr

/-- A command without a meaning is refused by its name. -/
inductive Refusal where
  /-- Raised by an arm of `exec` that has no meaning; safe: the model stops. -/
  | notModelled (mnemonic : String)
  deriving DecidableEq, Repr

/-- Every piece of state the spec gives the part, and the model's own: the command queue, the work of the event under
way, the clock and the index of free choices (logs 2, 6, 9). -/
@[ext]
structure State where
  /-- commands waiting, first in first out -/
  pending : List Instr
  agenda : List Work
  takeDue : Bool
  now : Time
  choices : Nat
  phase : Phase
  cause : ResetCause
  mode : Mode
  /-- a requested reset waits for its reply (R191) -/
  resetWaiting : Bool
  rails : Vector Rail 24
  /-- EN0 to EN11, DIS0 to DIS7, CTL0 to CTL3; true when asserted -/
  en : Vector Bool 12
  dis : Vector Bool 8
  ctl : Vector Bool 4
  chans : Vector Channel 8
  marks : List BulkMark
  conv : Converter
  line : LineMonitor
  sync : SyncCounter
  seq : Sequencer
  sched : Scheduler
  rtu : RideThrough
  ports : Vector PortRec 5
  up : Upstream
  fwd : Forwarding
  ev : EventUnit
  store : Store
  deriving DecidableEq, Repr

/-! ### Built-in values and reset -/

/-- A rail that is not defined: USED clear, the rest zero or none (log 4). -/
def RailStatic.unused : RailStatic :=
  { used := false, path := .onPart 0, sense := none, goodLevel := 0, safeLevel := 0, settleMs := 0, riseMs := 0,
    fallMs := 0, discharge := .none, prereqs := 0, faultAction := none, standbyKeep := false }

/-- Dynamic fields of a rail that is OFF with nothing in progress (R26, R27). -/
def RailDynamic.idle : RailDynamic :=
  { state := .off, timer := none, heldGood := false, faultCause := none, claim := .none, frame := none }

/-- A channel with the built-in thresholds (R29). -/
def Channel.initial : Channel :=
  { low := 0, high := 1023, debounce := 4, alarm := .none, last := none, lowCount := 0, highCount := 0,
    insideCount := 0, goodCount := 0, role := .free }

/-- The built-in default step (R46). -/
def Step.initial : Step := { kind := .delay 1, onFail := .abort, guarded := false }

/-- The built-in headers (R47). -/
def Header.initial (n : Nat) : Header :=
  { first := 0, count := 0, priority := if n = 0 then 3 else if n = 1 then 2 else 1 }

/-- The built-in plan (R90). -/
def Plan.initial : Plan :=
  { bulk := none, levels := [], commitBelow := 0, commitAfterMs := 0, reserveMs := 0, resume := .wait,
    lossWindow := 25, returnCount := 4 }

/-- A record with INTEGRITY DAMAGED or EMPTY has every other field absent (R113). LINE_RETURNED, which has no absent
form, is clear: the model's choice (log 26). -/
def Record.blank (i : Integrity) : Record :=
  { integrity := i, cause := none, stageAt := none, deepest := none, msLoss := none, bulkAt := none,
    lineReturned := false, outcome := none, failedSteps := none }

def LineMonitor.initial : LineMonitor := { state := .unqualified, count := 0, prev := none, gap := none }

def SyncCounter.initial : SyncCounter := { armed := false, target := none, count := 0 }

def Sequencer.initial : Sequencer :=
  { steps := Vector.replicate 256 Step.initial, headers := Vector.ofFn (fun n => Header.initial n.val),
    templates := Vector.replicate 16 none, ctx := none, tagCounter := 0xE0, cancel := none }

def Scheduler.initial : Scheduler := { running := none, queue := [], committed := false, last := none, arrivals := 0 }

/-- R94's values after any reset. -/
def RideThrough.initial : RideThrough :=
  { plan := Plan.initial, stage := .dark, shedLevel := 0, lossTime := none, deepest := 0,
    levelTimers := Vector.replicate 4 none, commitTimer := none, armed := false, resumeDelay := none,
    record := Record.blank .empty, write := .idle }

/-- R126's values after any reset, with the PRESENT input as it stands. -/
def PortRec.initial (present : Bool) : PortRec :=
  { present := present, link := .down, brst := false, pulse := none, probeCount := 0, probeTimer := none,
    agreed := none, latch := false, fairCount := 0, windowMs := 20, fair := 4, railPlaces := [],
    probeWaiting := false, seqOffer := none, seqBehind := [], line := .free }

def Upstream.initial (present : Bool) : Upstream :=
  { present := present, rise := none, rx := [], tx := [], replyTaken := 0, line := .idle }

def Forwarding.initial : Forwarding :=
  { admission := Vector.replicate 64 none, orderHoldMs := 500, shedLevel := 0, accepted := 0, hold := [],
    queues := Vector.replicate 5 [], outs := Vector.replicate 5 [] }

def EventUnit.initial : EventUnit := { pending := 0, mask := 0, defaultMask := 0, attn := false }

/-- A store as it leaves the factory (R184). -/
def Store.factory : Store :=
  { groups := Vector.replicate 5 { code := 0xFF, crc := 0, contents := [] }, save := .none, group := none,
    cause := none, results := Vector.replicate 5 .notReached, loads := Vector.replicate 5 .code, begun := 0,
    slot := .never }

/-- A factory-fresh part right after the release of its POWER_ON reset (R190, R192; log 3): it waits 2 ms,
its store has never been written, its tables are not loaded yet and no output is driven. -/
def State.reset : State :=
  { pending := [], agenda := [], takeDue := false, now := 0, choices := 0,
    phase := .waiting Config.startupWait, cause := .powerOn, mode := .active, resetWaiting := false,
    rails := Vector.replicate 24 { static := RailStatic.unused, dyn := RailDynamic.idle },
    en := Vector.replicate 12 false, dis := Vector.replicate 8 false, ctl := Vector.replicate 4 false,
    chans := Vector.replicate 8 Channel.initial, marks := [],
    conv := { running := false, next := 0, roundDue := 0 },
    line := LineMonitor.initial, sync := SyncCounter.initial, seq := Sequencer.initial,
    sched := Scheduler.initial, rtu := RideThrough.initial,
    ports := Vector.replicate 5 (PortRec.initial false), up := Upstream.initial false,
    fwd := Forwarding.initial, ev := EventUnit.initial, store := Store.factory }

end Sys2Proof.Machine
end

