-- ==== Sys2Proof/Machine/Frames.lean ====
section
/-! DEFINITION. Bytes, the CHECK computation and the frame layout (R118 to R120, R180, R181). -/

namespace Sys2Proof.Machine

/-- The low byte of a number. -/
def byteOf (n : Nat) : Byte := BitVec.ofNat 8 n

/-- Multi-byte numbers go most significant byte first (R180). -/
def bytes2 (n : Nat) : List Byte := [byteOf (n / 256), byteOf n]
def bytes3 (n : Nat) : List Byte := [byteOf (n / 65536), byteOf (n / 256), byteOf n]
def bytes4 (n : Nat) : List Byte := [byteOf (n / 16777216), byteOf (n / 65536), byteOf (n / 256), byteOf n]

/-- The one-, two- and three-byte numbers at a place of a payload. -/
def at1 (b : List Byte) (i : Nat) : Nat := (b.getD i 0).toNat
def at2 (b : List Byte) (i : Nat) : Nat := 256 * at1 b i + at1 b (i + 1)
def at3 (b : List Byte) (i : Nat) : Nat := 65536 * at1 b i + at2 b (i + 1)

/-- One bit of the CRC: generator x^16 + x^12 + x^5 + 1, not reflected (R119). -/
def crcBit (r : Word16) : Word16 := if r.msb then (r <<< 1) ^^^ 0x1021 else r <<< 1

/-- One byte of the CRC, most significant bit first. -/
def crcByte (r : Word16) (b : Byte) : Word16 :=
  (List.range 8).foldl (fun x _ => crcBit x) (r ^^^ ((b.setWidth 16) <<< 8))

/-- The CRC from 0xFFFF, sent without inversion (R119); also the CRC of a stored group (R184). -/
def crc16 (bs : List Byte) : Word16 := bs.foldl crcByte 0xFFFF

/-- KIND values (R118). -/
def kindCommand : BitVec 4 := 1
def kindReply : BitVec 4 := 2
def kindNotice : BitVec 4 := 3
def kindProbe : BitVec 4 := 4
def kindCapability : BitVec 4 := 5

/-- DEST and SRC through the last payload byte, as sent (R181). -/
def Frame.body (f : Frame) : List Byte :=
  [f.dest ++ f.src, f.kind ++ (0 : BitVec 4), f.cls, f.tag, byteOf f.payload.length] ++ f.payload

/-- The frame as sent, its CHECK high byte first (R181). -/
def Frame.bytes (f : Frame) : List Byte := f.body ++ bytes2 f.check.toNat

/-- A frame with its CHECK computed afresh (R119). -/
def mkFrame (dest src kind : BitVec 4) (cls tag : Byte) (payload : List Byte) : Frame :=
  let f : Frame := { dest := dest, src := src, kind := kind, cls := cls, tag := tag, payload := payload, check := 0 }
  { f with check := crc16 f.body }

/-- What makes a frame well-formed, of its fields (R120): length, KIND and CHECK. -/
def Frame.ok (f : Frame) : Bool :=
  f.payload.length ≤ Config.payloadMost && (1 ≤ f.kind.toNat && f.kind.toNat ≤ 5) && f.check == crc16 f.body

/-- The frame that a received run of bytes is, none where it is malformed (R120). -/
def frameOfBytes (b : List Byte) : Option Frame :=
  let len := at1 b 4
  if b.length < 7 || 67 < b.length || 60 < len || b.length != len + 7 || at1 b 1 % 16 != 0 then none
  else
    let f : Frame :=
      { dest := BitVec.ofNat 4 (at1 b 0 / 16), src := BitVec.ofNat 4 (at1 b 0),
        kind := BitVec.ofNat 4 (at1 b 1 / 16), cls := b.getD 2 0, tag := b.getD 3 0,
        payload := (b.drop 5).take len, check := BitVec.ofNat 16 (at2 b (5 + len)) }
    if f.ok then some f else none

/-- How long a frame takes on a lane (R120). -/
def Frame.time (f : Frame) : Time := Config.byteTime * (f.payload.length + 7)

/-- The main board's request frame: SRC 7, DEST 0 (R122). -/
def requestFrame (cls tag : Byte) (payload : List Byte) : Frame := mkFrame 0 7 kindCommand cls tag payload

/-- Reply statuses (R181). -/
def stOk : Byte := 0x00
def stRefusedRail : Byte := 0x80
def stRefusedShed : Byte := 0x81
def stRefusedCommit : Byte := 0x82
def stHoldExpired : Byte := 0x83
def stHoldFull : Byte := 0x84
def stPortFull : Byte := 0x85
def stLinkDown : Byte := 0x86
def stNoReply : Byte := 0x87
def stDupTag : Byte := 0x88
def stBadAddress : Byte := 0x89
def stTooLong : Byte := 0x8A
def stBadRequest : Byte := 0x90
def stBadIndex : Byte := 0x91
def stInUse : Byte := 0x92
def stBudget : Byte := 0x93
def stBusy : Byte := 0x94
def stAlready : Byte := 0x95
def stRole : Byte := 0x96
def stQueueFull : Byte := 0x97
def stCommitted : Byte := 0x98
def stNotSafe : Byte := 0x99
def stStage : Byte := 0x9A
def stNothing : Byte := 0x9B

/-- The reply the part makes to a command it took: SRC is the command's DEST (R124). -/
def replyFrame (f : Frame) (status : Byte) (data : List Byte) : Frame :=
  mkFrame 7 f.dest kindReply f.cls f.tag (status :: data)

/-- The first payload byte of a reply is OK, and there is one (R5, R62, R158). -/
def repliesOk (payload : List Byte) : Bool := payload.head? == some stOk

end Sys2Proof.Machine
end

