-- ==== Sys2Proof/Machine/Ops.lean ====
section
/-! DEFINITION. The named accessors of State: every read and write of a table or a queue goes through these. -/

namespace Sys2Proof

/-- The place of a port's records. -/
def Port.idx : Port → Fin 5
  | .d1 => 0 | .d2 => 1 | .d3 => 2 | .d4 => 3 | .d5 => 4

/-- The board on D3 has link address 3 (00_scope.md). -/
def Port.number (p : Port) : Nat := p.idx.val + 1

def Port.addr (p : Port) : BitVec 4 := BitVec.ofNat 4 p.number

def Port.all : List Port := [.d1, .d2, .d3, .d4, .d5]

/-- Port numbers 1 to 5 (R180). -/
def Port.ofNat? : Nat → Option Port
  | 1 => some .d1 | 2 => some .d2 | 3 => some .d3 | 4 => some .d4 | 5 => some .d5
  | _ => none

end Sys2Proof

namespace Sys2Proof.Machine

/-- Rails in ascending order. -/
def allRails : List RailId := List.finRange 24

def allChannels : List ChannelId := List.finRange 8

/-- Hand work to another unit, to be taken after what this unit has already handed on (log 9). -/
def later (w : Work) (s : State) : State := { s with agenda := s.agenda ++ [w] }

/-- Time passes up to `t` if it has not (log 2). -/
def advance (t : Time) (s : State) : State := { s with now := max s.now t }

/-- A fresh index for a free choice. -/
def draw (s : State) : State := { s with choices := s.choices + 1 }

def State.rail (s : State) (r : RailId) : Rail := s.rails.get r

def setRail (r : RailId) (x : Rail) (s : State) : State := { s with rails := s.rails.set r x }

def modDyn (r : RailId) (f : RailDynamic → RailDynamic) (s : State) : State :=
  setRail r { s.rail r with dyn := f (s.rail r).dyn } s

/-- A rail whose USED field is clear reads OFF (R1). -/
def State.railState (s : State) (r : RailId) : RailState :=
  if (s.rail r).static.used then (s.rail r).dyn.state else .off

/-- Rail r is in the PREREQS set. -/
def inSet (b : BitVec 24) (r : RailId) : Bool := b.getLsbD r.val

/-- The rails of a set, ascending. -/
def railsOf (b : BitVec 24) : List RailId := allRails.filter (inSet b)

/-- Every prerequisite of the set is ON. -/
def State.allOn (s : State) (b : BitVec 24) : Bool := (railsOf b).all (fun q => s.railState q == .on)

/-- The dependents of a rail: the USED rails that name it in PREREQS (01, 1.4), ascending. -/
def State.dependents (s : State) (r : RailId) : List RailId :=
  allRails.filter (fun d => (s.rail d).static.used && inSet (s.rail d).static.prereqs r)

def State.port (s : State) (p : Port) : PortRec := s.ports.get p.idx

def setPort (p : Port) (x : PortRec) (s : State) : State := { s with ports := s.ports.set p.idx x }

def modPort (p : Port) (f : PortRec → PortRec) (s : State) : State := setPort p (f (s.port p)) s

def State.isUp (s : State) (p : Port) : Bool := (s.port p).link == .up

/-- The port's agreed rail list, empty outside UP (R126, R130). -/
def State.agreedRails (s : State) (p : Port) : List RailId :=
  match (s.port p).agreed with
  | some a => a.rails
  | none => []

/-- Path availability (R3); a rail that is not USED has no path (R1). -/
def State.pathAvailable (s : State) (r : RailId) : Bool :=
  (s.rail r).static.used &&
    match (s.rail r).static.path with
    | .onPart _ => true
    | .board p _ _ _ => s.isUp p && (s.agreedRails p).contains r

/-- The port of a BOARD rail's PATH. -/
def RailStatic.port? (x : RailStatic) : Option Port :=
  match x.path with
  | .onPart _ => none
  | .board p _ _ _ => some p

def State.chan (s : State) (c : ChannelId) : Channel := s.chans.get c

def setChan (c : ChannelId) (x : Channel) (s : State) : State := { s with chans := s.chans.set c x }

def State.queue (s : State) (p : Port) : List Cmd := s.fwd.queues.get p.idx

def setQueue (p : Port) (q : List Cmd) (s : State) : State :=
  { s with fwd := { s.fwd with queues := s.fwd.queues.set p.idx q } }

def State.outs (s : State) (p : Port) : List OutEntry := s.fwd.outs.get p.idx

def setOuts (p : Port) (q : List OutEntry) (s : State) : State :=
  { s with fwd := { s.fwd with outs := s.fwd.outs.set p.idx q } }

def setHold (q : List HoldEntry) (s : State) : State := { s with fwd := { s.fwd with hold := q } }

def setCtx (c : Option Context) (s : State) : State := { s with seq := { s.seq with ctx := c } }

/-- The step record at a pool index (R46). -/
def State.stepAt (s : State) (i : Nat) : Step := (s.seq.steps.toList[i]?).getD Step.initial

def State.header (s : State) (n : ProgNo) : Header := s.seq.headers.get n

def State.template (s : State) (t : Fin 16) : Option Template := s.seq.templates.get t

/-- The pool indices of a program's range (R47). -/
def State.rangeOf (s : State) (n : ProgNo) : List Nat :=
  (List.range (s.header n).count).map (fun k => (s.header n).first + k)

def State.inRange (s : State) (n : ProgNo) (i : Nat) : Bool :=
  (s.header n).first ≤ i && i < (s.header n).first + (s.header n).count

/-- The rail that a rail step names (R71). -/
def StepKind.rail? : StepKind → Option RailId
  | .railOn r _ => some r
  | .railOff r _ => some r
  | _ => none

/-- The running step waits for what its order brings about on rail r (R57, R58). -/
def State.stepWaits (s : State) (r : RailId) : Bool :=
  match s.seq.ctx with
  | some c => c.wait == .order && (s.stepAt c.index).kind.rail? == some r
  | none => false

/-- The program is running or has a request in the queue (R72 to R74, R77). -/
def State.isRunning (s : State) (n : ProgNo) : Bool :=
  match s.sched.running with
  | some x => x.program == n
  | none => false

def State.isQueued (s : State) (n : ProgNo) : Bool := s.sched.queue.any (fun e => e.program == n)

def State.saving (s : State) : Bool := s.store.save == .running

/-- A time in whole milliseconds, rounded up (R177). -/
def msUp (t : Time) : Nat := (t + 1999) / 2000

/-- A time in milliseconds where the spec does not say how it is rounded (log 8). -/
def msOf (t : Time) : Nat :=
  if t % 2000 = 0 then t / 2000 else if Config.roundsUp t then t / 2000 + 1 else t / 2000

/-- The time left until an expiry. -/
def State.left (s : State) (t : Time) : Time := t - s.now

end Sys2Proof.Machine
end

