-- ==== Sys2Proof/Machine/Flags.lean ====
section
/-! DEFINITION. The event flags: pending set, mask, requesting set, ATTN and the attention notice (R165 to R168). -/

namespace Sys2Proof.Machine

/-- The number of an event kind (R165). -/
def EventKind.number : EventKind → Nat
  | .lineLost => 0 | .lineBack => 1 | .stageChange => 2 | .commit => 3 | .programEnd => 4 | .railFault => 5
  | .senseAlarm => 6 | .linkChange => 7 | .capMismatch => 8 | .holdExpired => 9 | .lateReply => 10
  | .linkError => 11 | .noticeDropped => 12 | .saveEnd => 13 | .configFallback => 14 | .wake => 15

/-- Bit n of an event set is kind n (R180). -/
def EventKind.bit (k : EventKind) : Word16 := BitVec.ofNat 16 (2 ^ k.number)

/-- The kinds both pending and enabled in the mask (R167). -/
def EventUnit.requesting (e : EventUnit) : Word16 := e.pending &&& e.mask

def UpEntry.isAttention (e : UpEntry) : Bool := e.group == .attention

/-- An attention notice waits or is being transmitted (R168). -/
def State.attentionHeld (s : State) : Bool :=
  s.up.tx.any UpEntry.isAttention ||
    match s.up.line with
    | .sending e _ => e.isAttention
    | _ => false

/-- The attention notice with the requesting set (R168). -/
def attentionNotice (req : Word16) : UpEntry :=
  { frame := mkFrame 7 0 kindNotice 0xA0 0 (bytes2 req.toNat), group := .attention, reset := false }

/-- ATTN and the attention notice once the Event Unit's sets have changed from `was` (R167, R168). -/
def followRequesting (was : Word16) (s : State) : State :=
  let req := s.ev.requesting
  if was == 0 && req != 0 then
    let s := { s with ev := { s.ev with attn := true } }
    if s.up.present && !s.attentionHeld then
      { s with up := { s.up with tx := s.up.tx ++ [attentionNotice req] } }
    else s
  else if was != 0 && req == 0 then
    { s with ev := { s.ev with attn := false },
             up := { s.up with tx := s.up.tx.filter (fun e => !e.isAttention) } }
  else s

/-- A change of the pending set or the mask. Before the outputs are enabled no requesting set is computed (R171). -/
def changeEvents (f : EventUnit → EventUnit) (s : State) : State :=
  let was := s.ev.requesting
  let s := { s with ev := f s.ev }
  if s.phase = .running then followRequesting was s else s

/-- A kind handed to the Event Unit joins the pending set (R165). -/
def raise (k : EventKind) (s : State) : State :=
  changeEvents (fun e => { e with pending := e.pending ||| k.bit }) s

end Sys2Proof.Machine
end

