-- ==== Sys2Proof/Machine/Upstream.lean ====
section
/-! DEFINITION. Port U: the receive queue, the transmit queue with its places, the transmitter (R121 to R125). -/

namespace Sys2Proof.Machine

/-- What a discarded or transmitted frame leaves: its place freed, and for the RESET_PART reply the reset
(R123, R191). A freed reply place lets the head of the receive queue be taken (R122). -/
def releaseEntry (e : UpEntry) (s : State) : State :=
  let s :=
    match e.group with
    | .reply => { s with up := { s.up with replyTaken := s.up.replyTaken - 1 }, takeDue := true }
    | _ => s
  if e.reset then later (.reset .requested) s else s

/-- A frame placed on the upstream transmit queue, or discarded while U_PRESENT is low (R123). -/
def placeUp (e : UpEntry) (s : State) : State :=
  if s.up.present then { s with up := { s.up with tx := s.up.tx ++ [e] } } else releaseEntry e s

def replyEntry (f : Frame) : UpEntry := { frame := f, group := .reply, reset := false }

/-- The part answers a command with a status (00_scope.md, Conventions; R124). -/
def answer (f : Frame) (status : Byte) (s : State) : State := placeUp (replyEntry (replyFrame f status [])) s

/-- An accepted request is answered OK with its data (R173). -/
def accept (f : Frame) (data : List Byte) (s : State) : State :=
  placeUp (replyEntry (replyFrame f stOk data)) s

/-- An accepted request whose reply follows all that the request brings about (R172 item 4). -/
def acceptLater (f : Frame) (s : State) : State := later (.reply (replyFrame f stOk [])) s

/-- Notice places taken: waiting and under transmission (R123). -/
def State.noticesTaken (s : State) : Nat :=
  (s.up.tx.filter (fun e => e.group == .notice)).length +
    match s.up.line with
    | .sending e _ => if e.group == .notice then 1 else 0
    | _ => 0

/-- A board notice offered upstream (R123, R162). -/
def offerNotice (f : Frame) (s : State) : State :=
  if !s.up.present then s
  else if Config.noticePlaces ≤ s.noticesTaken then raise .noticeDropped s
  else { s with up := { s.up with tx := s.up.tx ++ [{ frame := f, group := .notice, reset := false }] } }

/-- Port U receives a run of n bytes that ends now: U_PRESENT is high and the run began after its last rise (R121,
R125; log 48). -/
def State.hears (s : State) (n : Nat) : Bool :=
  s.phase == .running && s.up.present &&
    match s.up.rise with
    | some t => decide (t + Config.byteTime * n ≤ s.now)
    | none => true

/-- A frame received on U while the receiver listens (R120, R121). -/
def receiveUp (f : Frame) (s : State) : State :=
  if !s.hears (f.payload.length + 7) then s
  else if !f.ok then raise .linkError s
  else if Config.receivePlaces ≤ s.up.rx.length then raise .linkError s
  else { s with up := { s.up with rx := s.up.rx ++ [f] }, takeDue := true }

/-- A malformed run of n bytes on U (R120). -/
def receiveUpMalformed (n : Nat) (s : State) : State := if s.hears n then raise .linkError s else s

/-- A run of bytes on U (R120). -/
def receiveUpBytes (b : List Byte) (s : State) : State :=
  match frameOfBytes b with
  | some f => receiveUp f s
  | none => receiveUpMalformed b.length s

/-- UPSTREAM_TX_COMPLETE: the place is freed and the completion reported (R123). -/
def upTxComplete (s : State) : State :=
  match s.up.line with
  | .sending e done =>
    let s := advance done s
    releaseEntry e { s with up := { s.up with line := .stretch (s.now + Config.idleStretch) } }
  | _ => s

/-- UPSTREAM_TRANSMITTER_FREE: the oldest frame placed is sent (R123; log 13). -/
def upTransmitterFree (s : State) : State :=
  let go (s : State) : State :=
    match s.up.tx with
    | e :: rest => { s with up := { s.up with tx := rest, line := .sending e (s.now + e.frame.time) } }
    | [] => { s with up := { s.up with line := .idle } }
  match s.up.line with
  | .sending _ _ => s
  | .stretch t => go (advance t s)
  | .idle => go s

/-- U_PRESENT falls: the frame under way is cut off and every frame is discarded, oldest first (R125). -/
def uPresentFall (s : State) : State :=
  let s := { s with up := { s.up with present := false } }
  let under : List UpEntry :=
    match s.up.line with
    | .sending e _ => [e]
    | _ => []
  let waiting := s.up.tx
  let line : UpLine :=
    match s.up.line with
    | .sending _ _ => .stretch (s.now + Config.idleStretch)
    | l => l
  (under ++ waiting).foldl (fun s e => releaseEntry e s) { s with up := { s.up with tx := [], line := line } }

/-- U_PRESENT rises: the receiver listens from the next frame that begins after the rise (R125). -/
def uPresentRise (s : State) : State :=
  { s with up := { s.up with present := true, rise := if s.up.present then s.up.rise else some s.now } }

end Sys2Proof.Machine
end

