-- ==== Sys2Proof/Machine/Arbiter.lean ====
section
/-! DEFINITION. The downstream transmit arbiter of each port: claimants, grants, fairness, withdrawal
(R4, R5, R50, R138 to R140). -/

namespace Sys2Proof.Machine

/-- The claimant whose frame the transmitter is sending. -/
def PortRec.owner (x : PortRec) : Option Claimant :=
  match x.line with
  | .sending o _ _ => o
  | _ => none

/-- The transmitter goes on sending, but its completion is reported to no one (R140). -/
def PortRec.disown (x : PortRec) : PortRec :=
  match x.line with
  | .sending _ f d => { x with line := .sending none f d }
  | _ => x

/-- A rail's frame of this port waits and has no place at the arbiter yet (R5). -/
def State.railWaits (s : State) (p : Port) (r : RailId) : Bool :=
  (s.rail r).static.port? == some p &&
  (match (s.rail r).dyn.frame with
   | some f => f.mark == .waiting
   | none => false) &&
  !(s.port p).railPlaces.contains r && (s.port p).owner != some (.rail r)

/-- Frames waiting at the Rail Controller are offered in ascending rail order as places free (R5). -/
def refillPlaces (p : Port) (s : State) : State :=
  modPort p (fun x => { x with railPlaces := x.railPlaces ++
    (allRails.filter (s.railWaits p)).take (Config.railFramePlaces - x.railPlaces.length) }) s

/-- The forward head waits and is eligible (R138). -/
def State.headEligible (s : State) (p : Port) : Bool :=
  !(s.queue p).isEmpty && decide ((s.outs p).length < Config.outstandingPlaces) && (s.port p).owner != some .forward

/-- The waiting, eligible claimant that the next grant goes to (R138, R139). -/
def State.nextClaimant (s : State) (p : Port) : Option Claimant :=
  let x := s.port p
  if s.headEligible p && x.fair ≤ x.fairCount then some .forward
  else
    match x.railPlaces with
    | r :: _ => some (.rail r)
    | [] =>
      if x.probeWaiting then some .probe
      else if x.seqOffer.isSome then some .sequencer
      else if s.headEligible p then some .forward
      else none

/-- The rail-control frame for a rail (R4). -/
def railFrameOf (p : Port) (r : RailId) (x : Rail) : Frame :=
  match x.static.path, x.dyn.frame with
  | .board _ id on off, some f =>
    mkFrame p.addr 0 kindCommand (if f.isOn then on else off) (byteOf (0xC0 + r.val)) [byteOf id.val]
  | _, _ => mkFrame p.addr 0 kindCommand 0 (byteOf (0xC0 + r.val)) []

/-- A probe (R128). -/
def probeFrame (p : Port) (count : Nat) : Frame := mkFrame p.addr 0 kindProbe 0 (byteOf count) []

/-- The frame that a claimant sends. -/
def State.claimedFrame (s : State) (p : Port) : Claimant → Option Frame
  | .rail r => some (railFrameOf p r (s.rail r))
  | .probe => some (probeFrame p (s.port p).probeCount)
  | .sequencer => (s.port p).seqOffer.map SeqFrame.frame
  | .forward => (s.queue p).head?.map Cmd.frame

/-- The fairness count after a grant (R139). -/
def fairAfter (c : Claimant) (eligible : Bool) (count : Nat) : Nat :=
  if !eligible then 0
  else
    match c with
    | .sequencer => min 15 (count + 1)
    | .forward => 0
    | _ => count

/-- The transmitter starts on a claimant's frame; a rail-control frame and a probe leave their places (log 14). -/
def grant (p : Port) (c : Claimant) (s : State) : State :=
  match s.claimedFrame p c with
  | none => s
  | some f =>
    let s' := modPort p (fun x =>
      { x with
        fairCount := fairAfter c (s.headEligible p) x.fairCount
        line := .sending (some c) f (s.now + f.time)
        railPlaces := match c with
          | .rail _ => x.railPlaces.drop 1
          | _ => x.railPlaces
        probeWaiting := match c with
          | .probe => false
          | _ => x.probeWaiting }) s
    refillPlaces p s'

/-- A grant is made whenever the transmitter is free and a claimant waits (R138). -/
def arbitrate (p : Port) (s : State) : State :=
  let x := s.port p
  if x.line = .free && (x.link == .up || x.link == .exchange) then
    match s.nextClaimant p with
    | some c => grant p c s
    | none => s
  else s

/-- A rail's frame record waits for its place and is offered (R5). -/
def offerRail (r : RailId) (s : State) : State :=
  match (s.rail r).static.port? with
  | some p => arbitrate p (refillPlaces p s)
  | none => s

/-- A rail's frame that is not yet transmitted is withdrawn (R5, R140). -/
def withdrawRail (r : RailId) (s : State) : State :=
  match (s.rail r).static.port? with
  | some p =>
    let s := modPort p (fun x =>
      let x := { x with railPlaces := x.railPlaces.filter (fun q => q != r) }
      if x.owner == some (.rail r) then x.disown else x) s
    arbitrate p (refillPlaces p s)
  | none => s

/-- A Sequencer frame is offered, behind those made earlier for the port (R50). -/
def offerSeq (p : Port) (f : SeqFrame) (s : State) : State :=
  arbitrate p (modPort p (fun x =>
    if x.seqOffer.isNone then { x with seqOffer := some f } else { x with seqBehind := x.seqBehind ++ [f] }) s)

/-- The Sequencer's place is free: the frame made next is offered (R50). -/
def PortRec.nextSeq (x : PortRec) : PortRec :=
  match x.seqBehind with
  | f :: l => { x with seqOffer := some f, seqBehind := l }
  | [] => { x with seqOffer := none }

/-- The SEND frame of a step that has ended is withdrawn; a cancel frame stays (R54, R140). -/
def withdrawSend (p : Port) (s : State) : State :=
  arbitrate p (modPort p (fun x =>
    let x := { x with seqBehind := x.seqBehind.filter SeqFrame.isCancel }
    match x.seqOffer with
    | some f => if f.isCancel then x else (if x.owner == some .sequencer then x.disown else x).nextSeq
    | none => x) s)

/-- Every Sequencer frame of a port that left UP is withdrawn (R50, R64). -/
def withdrawSeqAll (p : Port) (s : State) : State :=
  modPort p (fun x => { x with seqOffer := none, seqBehind := [] }) s

/-- The forward head is withdrawn while its frame may be under way (R164). -/
def withdrawForward (p : Port) (s : State) : State :=
  modPort p (fun x => if x.owner == some .forward then x.disown else x) s

/-- A transmission under way is cut off; the lane then rests 5 µs (R140; log 30). -/
def cutOff (p : Port) (s : State) : State :=
  modPort p (fun x =>
    match x.line with
    | .sending _ _ _ => { x with line := .stretch (s.now + Config.idleStretch) }
    | _ => x) s

/-- TRANSMITTER_FREE: 5 µs after the frame's end the transmitter is free and a grant follows (R138). -/
def transmitterFree (p : Port) (s : State) : State :=
  match (s.port p).line with
  | .stretch t => arbitrate p (modPort p (fun x => { x with line := .free }) (advance t s))
  | _ => s

end Sys2Proof.Machine
end

