-- ==== Sys2Proof/Machine/Rails.lean ====
section
/-! DEFINITION. The Rail Controller: the state machine of a rail, its outputs, its rail-control frame, claims,
the cascade, faults and the final drop (R1 to R24). -/

namespace Sys2Proof.Machine

def Claim.isFrame : Claim → Bool
  | .frame _ _ => true
  | _ => false

/-- RISING or ON. -/
def RailState.isUp (x : RailState) : Bool := x == .rising || x == .on

/-- FALLING or DISCHARGING. -/
def RailState.isDown (x : RailState) : Bool := x == .falling || x == .discharging

/-- The TIMER that a state starts (R7), in milliseconds. -/
def RailStatic.timerMs (x : RailStatic) : RailState → Option Nat
  | .rising => some (if x.sense.isSome then x.riseMs else x.settleMs)
  | .falling => some x.fallMs
  | .discharging =>
    match x.discharge with
    | .force _ t => some t
    | _ => none
  | _ => none

/-- The EN and DIS outputs follow from STATE (R2). -/
def driveOutputs (r : RailId) (st : RailState) (s : State) : State :=
  let x := (s.rail r).static
  let s :=
    match x.path with
    | .onPart e => { s with en := s.en.set e st.isUp }
    | .board _ _ _ _ => s
  match x.discharge with
  | .none => s
  | .bleed o => { s with dis := s.dis.set o (st == .falling) }
  | .force o _ => { s with dis := s.dis.set o (st == .discharging) }

/-- A channel's counts and alarm when its rail changes state (R33's GOOD_COUNT; R32: a LOW alarm is left with ON, and
LOW_COUNT is zero in every state but ON). -/
def Channel.followRail (old new : RailState) (c : Channel) : Channel :=
  let c := if new = .rising ∨ old = .rising then { c with goodCount := 0 } else c
  if old = .on ∧ new ≠ .on then
    if c.alarm = .low then { c with alarm := .none, lowCount := 0, highCount := 0, insideCount := 0, goodCount := 0 }
    else { c with lowCount := 0 }
  else c

def followRail (r : RailId) (old new : RailState) (s : State) : State :=
  match (s.rail r).static.sense with
  | some c => setChan c ((s.chan c).followRail old new) s
  | none => s

/-- The rail enters a state: TIMER (R7), HELD_GOOD (R14), outputs (R2) and its channel (R32, R33). -/
def enterState (r : RailId) (st : RailState) (s : State) : State :=
  let old := (s.rail r).dyn.state
  let timer := ((s.rail r).static.timerMs st).map (fun t => s.now + Config.ms t)
  followRail r old st (driveOutputs r st
    (modDyn r (fun d => { d with state := st, timer := timer, heldGood := st == .on, faultCause := none }) s))

/-- The rail's channel is in the HIGH alarm (R10). -/
def State.highAlarm (s : State) (r : RailId) : Bool :=
  match (s.rail r).static.sense with
  | some c => (s.chan c).alarm == .high
  | none => false

/-- A change of STATE with what follows in its event: the report (R7), the cascade when RISING or ON is
left (R15), and the fault of a rail that rises into a HIGH alarm (R10), taken behind the report whatever state the report's
consequences leave the rail in (log 39). -/
def moveRail (r : RailId) (st : RailState) (s : State) : State :=
  let old := (s.rail r).dyn.state
  let s := later (.report r .state) (enterState r st s)
  let s := if old.isUp && !st.isUp then later (.cascade r 0) s else s
  if st = .rising ∧ s.highAlarm r then later (.fault r .high) s else s

/-- A new frame record, offered to the port's arbiter (R5). -/
def makeFrame (r : RailId) (isOn forStep : Bool) (s : State) : State :=
  offerRail r (modDyn r (fun d =>
    { d with frame := some { isOn := isOn, attempt := 1, mark := .waiting, forStep := forStep, thenOff := false } }) s)

/-- The rail's ON frame in flight gains the THEN_OFF mark (R5, R8). -/
def markThenOff (r : RailId) (s : State) : State :=
  modDyn r (fun d => { d with frame := d.frame.map (fun f => if f.isOn then { f with thenOff := true } else f) }) s

/-- An OFF frame is needed: an OFF frame in flight serves, an ON frame gains THEN_OFF, else one is made
(R5; log 15). -/
def needOff (r : RailId) (forStep : Bool) (s : State) : State :=
  match (s.rail r).dyn.frame with
  | some f =>
    if f.isOn then markThenOff r s
    else if forStep then modDyn r (fun d => { d with frame := some { f with forStep := true } }) s
    else s
  | none => makeFrame r false forStep s

def State.isBoard (s : State) (r : RailId) : Bool := (s.rail r).static.port?.isSome

/-- An OFF frame with purpose FOLLOW, for a BOARD rail whose path is available (R6, R16, R21, R24). -/
def followOff (r : RailId) (s : State) : State :=
  if s.isBoard r && s.pathAvailable r then needOff r false s else s

/-- The rail's frame record becomes absent, which is reported (R5, R7). -/
def clearFrame (r : RailId) (s : State) : State :=
  later (.report r .frame) (modDyn r (fun d => { d with frame := none }) s)

/-- How a rail-control frame ends (R5). -/
inductive FrameOutcome where
  | ok | errorReply | noReply
  deriving DecidableEq, Repr

/-- The Sequencer is told how the rail's frame failed, where a step waited for it as it ended (R6). -/
def tellStep (r : RailId) (x : FailReason) (waits : Bool) (s : State) : State :=
  if waits then later (.seqFrameEnd r x) s else s

/-- The outcome of a rail-control frame applied to its rail (R6). It is applied before the report that the RAIL_FRAME record
became absent is taken, so the pass of R151 finds the new state or the new OFF frame: the model's choice (log 55). -/
def frameEnd (r : RailId) (out : FrameOutcome) (s : State) : State :=
  match (s.rail r).dyn.frame with
  | none => s
  | some f =>
    let waits := s.stepWaits r
    let s := clearFrame r s
    let st := (s.rail r).dyn.state
    match f.isOn, out with
    | true, .ok =>
      if f.thenOff then followOff r s
      else if st = .off ∧ s.allOn (s.rail r).static.prereqs ∧ s.pathAvailable r then moveRail r .rising s
      else followOff r s
    | true, .errorReply => if f.thenOff then s else tellStep r .errorReply waits s
    | true, .noReply => if f.thenOff then s else tellStep r .noReply waits s
    | false, .ok => if f.forStep && st.isUp then moveRail r .falling s else s
    | false, .errorReply => if f.forStep then tellStep r .errorReply waits s else s
    | false, .noReply => if f.forStep then tellStep r .noReply waits s else s

/-- A rail-control reply with the rail's tag (R5, R6; log 16). -/
def railReply (r : RailId) (payload : List Byte) (s : State) : State :=
  match (s.rail r).dyn.frame with
  | some f =>
    match f.mark with
    | .sent _ => frameEnd r (if repliesOk payload then .ok else .errorReply) s
    | .waiting => later (.raise .lateReply) s
  | none => later (.raise .lateReply) s

/-- RAIL_FRAME_DEADLINE: a second attempt, or NO_REPLY (R5). -/
def railFrameDeadline (r : RailId) (s : State) : State :=
  match (s.rail r).dyn.frame with
  | some f =>
    match f.mark with
    | .sent d =>
      let s := advance d s
      if f.attempt = 1 then
        offerRail r (modDyn r (fun x => { x with frame := some { f with attempt := 2, mark := .waiting } }) s)
      else frameEnd r .noReply s
    | .waiting => s
  | none => s

/-- The rail-control frame of a rail has been transmitted (R5, R140). -/
def railFrameSent (p : Port) (r : RailId) (s : State) : State :=
  modDyn r (fun d =>
    { d with frame := d.frame.map (fun f => { f with mark := .sent (s.now + Config.ms (s.port p).windowMs) }) }) s

/-- Entry into FAULT (R21). -/
def enterFault (r : RailId) (c : FaultCause) (s : State) : State :=
  let s := modDyn r (fun d => { d with faultCause := some c }) (enterState r .fault s)
  let s := followOff r s
  later (.faultAction r) (later (.cascade r 0) (later (.raise .railFault) (later (.faultClaim r)
    (later (.report r .state) s))))

/-- An alarm entry taken by a rail (R13). -/
def alarmTaken (r : RailId) (high : Bool) (s : State) : State :=
  match s.railState r with
  | .off => s
  | .fault =>
    if high then later (.raise .railFault) (modDyn r (fun d => { d with faultCause := some .high }) s) else s
  | .on => enterFault r (if high then .high else .low) s
  | _ => if high then enterFault r .high s else s

/-- The claim mark of a command in an outstanding list is cleared (R159). -/
def clearClaimMark (p : Port) (tag : Byte) (s : State) : State :=
  setOuts p ((s.outs p).map (fun e => if e.cmd.frame.tag = tag then { e with claimMark := false } else e)) s

/-- The rail's claim is released, which is reported (R7, R18). -/
def dropClaim (r : RailId) (s : State) : State :=
  later (.report r .claim) (modDyn r (fun d => { d with claim := .none }) s)

/-- R21 item 4; the step itself is told by the report of the FAULT state. -/
def faultClaim (r : RailId) (s : State) : State :=
  match (s.rail r).dyn.claim with
  | .none => s
  | .step => dropClaim r s
  | .frame p tag => dropClaim r (clearClaimMark p tag s)

/-- The release of a FRAME claim by its command's answer (R18). -/
def releaseFrame (r : RailId) (p : Port) (tag : Byte) (s : State) : State :=
  if (s.rail r).dyn.claim = .frame p tag then dropClaim r s else s

/-- A rail falls with an OFF frame made for a BOARD rail whose path is available (R16, R24). -/
def fallRail (r : RailId) (s : State) : State := moveRail r .falling (followOff r s)

/-- One dependent of the cascade falls, then the cascade goes on behind what that fall brings (R16; log 19). -/
def cascade (r : RailId) (start : Nat) (s : State) : State :=
  match (s.dependents r).find? (fun d => start ≤ d.val && (s.railState d).isUp) with
  | some d => later (.cascade r (d.val + 1)) (fallRail d s)
  | none => s

/-- A rail that the final drop acts on (R24). -/
def State.dropNeeded (s : State) (r : RailId) : Bool :=
  (s.rail r).static.used &&
    ((s.rail r).dyn.state.isUp ||
      ((s.rail r).dyn.state == .off &&
        match (s.rail r).dyn.frame with
        | some f => f.isOn && !f.thenOff
        | none => false))

/-- The final drop takes the next rail in ascending order (R24). -/
def finalDrop (start : Nat) (s : State) : State :=
  match allRails.find? (fun r => start ≤ r.val && s.dropNeeded r) with
  | some r =>
    later (.finalDrop (r.val + 1)) (if (s.rail r).dyn.state.isUp then fallRail r s else markThenOff r s)
  | none => s

/-- One rail has lost its path (R5, R17, R57). The waiting step is told before the reports of the cleared frame record and
of the fall: the model's choice (log 51). -/
def losePath (r : RailId) (s : State) : State :=
  let s := later (.seqPathLost r) s
  let s := if (s.rail r).dyn.frame.isSome then withdrawRail r (clearFrame r s) else s
  if (s.railState r).isUp then moveRail r .falling s else s

/-- Rails that lose their paths in one event, one after the other in an order the spec leaves open (R17; log 7). -/
def pathLost (rs : List RailId) (s : State) : State :=
  match rs with
  | [] => s
  | [r] => losePath r s
  | r :: rest =>
    let i := Config.pathLossPick s.choices % (rest.length + 1)
    later (.pathLost (rs.eraseIdx i)) (losePath (rs.getD i r) (draw s))

/-- The effect of a forwarded command (R20, R159); `held` says that the command holds the rail's claim. -/
def applyEffect (r : RailId) (isOn refused held : Bool) (s : State) : State :=
  if !held then s
  else if isOn then
    if !refused && s.railState r == .off && (s.rail r).static.used && s.allOn (s.rail r).static.prereqs &&
        s.pathAvailable r then moveRail r .rising s
    else if (s.railState r).isUp then s
    else followOff r s
  else if (s.railState r).isUp then moveRail r .falling s
  else s

/-- The level reports of a sample, in the state that the rail is in when they are taken (R10 to R12, R14, R33). -/
def goodReport (r : RailId) (s : State) : State := if s.railState r = .rising then moveRail r .on s else s

def safeReport (r : RailId) (s : State) : State := if (s.railState r).isDown then moveRail r .off s else s

def belowGoodReport (r : RailId) (s : State) : State :=
  if s.railState r = .on then modDyn r (fun d => { d with heldGood := false }) s else s

/-- SETTLE_EXPIRY: SETTLE_MS of an unsensed RISING rail passes (R10). -/
def settleExpiry (r : RailId) (s : State) : State :=
  match (s.rail r).dyn.timer with
  | some t =>
    if s.railState r = .rising ∧ (s.rail r).static.sense = none then moveRail r .on (advance t s) else s
  | none => s

/-- RISE_TIMEOUT: RISE_MS of a sensed RISING rail passes (R10). -/
def riseTimeout (r : RailId) (s : State) : State :=
  match (s.rail r).dyn.timer with
  | some t =>
    if s.railState r = .rising ∧ (s.rail r).static.sense ≠ none then enterFault r .riseTimeout (advance t s) else s
  | none => s

def Discharge.isForce : Discharge → Bool
  | .force _ _ => true
  | _ => false

/-- FALL_EXPIRY: FALL_MS of a FALLING rail passes (R11). -/
def fallExpiry (r : RailId) (s : State) : State :=
  match (s.rail r).dyn.timer with
  | some t =>
    if s.railState r = .falling then
      let s := advance t s
      if (s.rail r).static.discharge.isForce then moveRail r .discharging s
      else if (s.rail r).static.sense.isSome then enterFault r .fallTimeout s
      else moveRail r .off s
    else s
  | none => s

/-- DISCHARGE_EXPIRY: DISCHARGE_MS passes (R12). -/
def dischargeExpiry (r : RailId) (s : State) : State :=
  match (s.rail r).dyn.timer with
  | some t =>
    if s.railState r = .discharging then
      let s := advance t s
      if (s.rail r).static.sense.isSome then enterFault r .fallTimeout s else moveRail r .off s
    else s
  | none => s

end Sys2Proof.Machine
end

