-- ==== Sys2Proof/Machine/Sense.lean ====
section
/-! DEFINITION. The Sense Monitor: the converter, the channel records, alarms, reports, roles and bulk marks
(R28 to R38). -/

namespace Sys2Proof.Machine

/-- The code of a pin voltage: 4 mV a unit, rounded down, at most 1023 (R28). -/
def codeOf (millivolts : Nat) : Nat := min 1023 (millivolts / 4)

/-- The bands of R31. -/
inductive Band where
  | low | high | inside
  deriving DecidableEq, Repr

/-- The band of a reading; where LOW is gated a low reading is inside (R31, R32). -/
def Channel.band (c : Channel) (lowWorks : Bool) (code : Nat) : Band :=
  if code < c.low then (if lowWorks then .low else .inside)
  else if c.high < code then .high
  else .inside

/-- The counts of the bands after a sample (R31). -/
def Channel.counted (c : Channel) (b : Band) : Channel :=
  match b with
  | .low => { c with lowCount := min c.debounce (c.lowCount + 1), highCount := 0, insideCount := 0 }
  | .high => { c with lowCount := 0, highCount := min c.debounce (c.highCount + 1), insideCount := 0 }
  | .inside => { c with lowCount := 0, highCount := 0, insideCount := min c.debounce (c.insideCount + 1) }

/-- ALARM after the counts (R31's table). -/
def Channel.alarmAfter (c : Channel) (b : Band) : Alarm :=
  match b with
  | .low => if c.debounce ≤ c.lowCount then .low else c.alarm
  | .high => if c.debounce ≤ c.highCount then .high else c.alarm
  | .inside => if c.debounce ≤ c.insideCount then .none else c.alarm

/-- GOOD_COUNT after a sample of a bound channel (R33). -/
def goodAfter (c : Channel) (st : RailState) (good code : Nat) : Nat :=
  if st = .rising then (if good ≤ code then min c.debounce (c.goodCount + 1) else 0) else c.goodCount

/-- The rail a channel is bound to (R30). -/
def Role.rail? : Role → Option RailId
  | .bound r => some r
  | _ => none

/-- Whether the LOW comparison of a channel works (R32, R35, R37). -/
def State.lowWorks (s : State) (c : Channel) : Bool :=
  match c.role with
  | .bound r => s.railState r == .on
  | _ => true

/-- The channel record after a sample (R29, R31 to R33). -/
def State.sampled (s : State) (c : Channel) (code : Nat) : Channel :=
  let b := c.band (s.lowWorks c) code
  let d := c.counted b
  let good := match c.role with
    | .bound r => goodAfter c (s.railState r) (s.rail r).static.goodLevel code
    | _ => c.goodCount
  { d with alarm := d.alarmAfter b, last := some code, goodCount := good }

/-- A mark after a sample, and whether its flag changed (R36). -/
def BulkMark.judged (m : BulkMark) (debounce code : Nat) : BulkMark × Bool :=
  let beyond := if m.below then decide (m.threshold ≤ code) else decide (code < m.threshold)
  if !beyond then ({ m with count := 0 }, false)
  else if debounce ≤ m.count + 1 then ({ m with below := !m.below, count := 0 }, true)
  else ({ m with count := m.count + 1 }, false)

/-- The converter's place in its round; channel 0 opens a round (R28; log 24). A change of the mode leaves the round already
set: the model's choice (log 24). -/
def convTurn (c : ChannelId) (s : State) : State :=
  if c = s.conv.next then
    let s := if c = 0 then advance s.conv.roundDue s else s
    let due := if c = 0 then s.now + (if s.mode = .active then Config.roundActive else Config.roundStandby)
               else s.conv.roundDue
    { s with conv := { s.conv with next := c + 1, roundDue := due } }
  else s

/-- What an alarm entry does: the rail is told, or SENSE_ALARM is set (R33 to R35, R37). -/
def alarmEntry (old : Alarm) (new : Channel) (s : State) : State :=
  if new.alarm = old ∨ new.alarm = .none then s
  else
    match new.role with
    | .bound r =>
      if s.railState r = .off then (if new.alarm = .high then later (.raise .senseAlarm) s else s)
      else later (.alarm r (new.alarm == .high)) s
    | _ => later (.raise .senseAlarm) s

/-- The level report of a sample, handed after an alarm entry (R33). A safe sample at the moment of a FORCE rail's FALL_MS
expiry, the expiry taken first, takes the rail from DISCHARGING to OFF: the model's choice (log 43). -/
def levelReport (new : Channel) (code : Nat) (s : State) : State :=
  match new.role with
  | .bound r =>
    match s.railState r with
    | .rising => if new.goodCount = new.debounce then later (.good r) s else s
    | .falling => if code ≤ (s.rail r).static.safeLevel then later (.safe r) s else s
    | .discharging => if code ≤ (s.rail r).static.safeLevel then later (.safe r) s else s
    | .on => if code < (s.rail r).static.goodLevel then later (.belowGood r) s else s
    | _ => s
  | _ => s

/-- Every mark judged against a sample of the bulk channel, its changes handed on from the highest threshold (R36). -/
def marksSampled (debounce code : Nat) (s : State) : State :=
  let judged := s.marks.map (fun m => m.judged debounce code)
  (judged.filter (fun x => x.2)).foldl (fun s x => later (.markReport x.1.id x.1.below) s)
    { s with marks := judged.map (fun x => x.1) }

/-- SENSE_SAMPLE: one sample of one channel (R28, R31 to R37). On the bulk channel SENSE_ALARM is handed before the
marks' reports: the model's choice (log 44). -/
def senseSample (c : ChannelId) (millivolts : Nat) (s : State) : State :=
  if s.phase ≠ .running ∨ !s.conv.running then s
  else
    let s := convTurn c s
    let code := codeOf millivolts
    let old := s.chan c
    let new := s.sampled old code
    let s := levelReport new code (alarmEntry old.alarm new (setChan c new s))
    if new.role = .bulk then marksSampled new.debounce code s else s

/-! ### Roles and marks -/

/-- ROLE as the loaded tables give it (R30). -/
def State.roleOf (s : State) (c : ChannelId) : Role :=
  if s.rtu.plan.bulk = some c then .bulk
  else
    match allRails.find? (fun r => (s.rail r).static.used && (s.rail r).static.sense == some c) with
    | some r => .bound r
    | none => .free

/-- A channel whose ROLE changes loses its alarm and counts; LAST is kept (R30). -/
def Channel.withRole (c : Channel) (role : Role) : Channel :=
  if c.role = role then c
  else { c with role := role, alarm := .none, lowCount := 0, highCount := 0, insideCount := 0, goodCount := 0 }

/-- A mark of the plan (R36). -/
def newMark (id : TriggerId) (threshold : Nat) : Option BulkMark :=
  if threshold = 0 then none else some { id := id, threshold := threshold, below := false, count := 0 }

/-- The level that a plan's i-th record describes. -/
def Plan.bulkBelow (p : Plan) (i : Fin 4) : Nat := ((p.levels[i.val]?).map Level.bulkBelow).getD 0
def Plan.afterMs (p : Plan) (i : Fin 4) : Nat := ((p.levels[i.val]?).map Level.afterMs).getD 0
def Plan.levelProgram (p : Plan) (i : Nat) : Option ProgNo := (p.levels[i]?).bind Level.program

/-- A mark put in order of threshold from highest to lowest, after those of its own threshold (R36; log 20). -/
def insertMark (m : BulkMark) : List BulkMark → List BulkMark
  | [] => [m]
  | x :: l => if x.threshold < m.threshold then m :: x :: l else x :: insertMark m l

/-- The marks of the plan in force, clear and at zero (R36, R38). -/
def Plan.marks (p : Plan) : List BulkMark :=
  if p.bulk.isNone then []
  else
    (((List.finRange 4).filterMap (fun i => newMark (.level i) (p.bulkBelow i))) ++
      (newMark .commit p.commitBelow).toList).foldl (fun l m => insertMark m l) []

def rebuildMarks (s : State) : State := { s with marks := s.rtu.plan.marks }

/-- ROLE recomputed after a load; a change of a ROLE rebuilds the marks (R30, R38; log 34). -/
def refreshRoles (s : State) : State :=
  let changed := allChannels.any (fun c => (s.chan c).role != s.roleOf c)
  let s := { s with chans := Vector.ofFn (fun c => (s.chan c).withRole (s.roleOf c)) }
  if changed then rebuildMarks s else s

end Sys2Proof.Machine
end

