-- ==== Sys2Proof/Machine/Line.lean ====
section
/-! DEFINITION. The Line Monitor and the Sync Counter (R41 to R45). -/

namespace Sys2Proof.Machine

def setLine (l : LineMonitor) (s : State) : State := { s with line := l }

/-- The gap timer's expiry after an edge now (R42). -/
def State.gapExpiry (s : State) : Time := s.now + Config.ms s.rtu.plan.lossWindow

/-- The edge count after an edge in UNQUALIFIED or LOST (R43). -/
def State.edgeCount (s : State) : Nat :=
  match s.line.prev with
  | some p => if s.now - p ≤ Config.ms s.rtu.plan.lossWindow then s.line.count + 1 else 1
  | none => 1

/-- LINE_EDGE (R42, R43). In PRESENT the edge count keeps what it was at qualification: the model's choice (log 45). -/
def lineEdge (s : State) : State :=
  if s.phase ≠ .running then s
  else if s.line.state = .present then setLine { s.line with prev := some s.now, gap := some s.gapExpiry } s
  else
    let n := s.edgeCount
    if s.rtu.plan.returnCount ≤ n then
      later .lineBack (later (.raise .lineBack)
        (setLine { state := .present, count := n, prev := some s.now, gap := some s.gapExpiry } s))
    else setLine { s.line with count := n, prev := some s.now } s

/-- LINE_GAP_EXPIRY (R42). -/
def lineGapExpiry (s : State) : State :=
  match s.line.gap with
  | some t =>
    if s.phase = .running ∧ s.line.state = .present then
      let s := advance t s
      later .lineLost (later (.raise .lineLost) (setLine { s.line with state := .lost, count := 0, gap := none } s))
    else s
  | none => s

/-- The counter armed for a step (R45). -/
def armSync (target : Nat) (s : State) : State := { s with sync := { armed := true, target := some target, count := 0 } }

def disarmSync (s : State) : State := { s with sync := SyncCounter.initial }

end Sys2Proof.Machine
end

