-- ==== Sys2Proof/Machine/Sequencer.lean ====
section
/-! DEFINITION. The Sequencer: starting, waiting and ending the steps of the running program, its frames, and the
worst-case duration (R49 to R71). -/

namespace Sys2Proof.Machine

def modCtx (f : Context → Context) (s : State) : State := setCtx (s.seq.ctx.map f) s

/-- The running context and its current step's kind. -/
def State.current (s : State) : Option (Context × StepKind) :=
  s.seq.ctx.map (fun c => (c, (s.stepAt c.index).kind))

/-- The tag after this one: from 0xFF back to 0xE0 (R50). -/
def nextTag (t : Byte) : Byte := if t = 0xFF then 0xE0 else t + 1

def stepTag (s : State) : State := { s with seq := { s.seq with tagCounter := nextTag s.seq.tagCounter } }

/-- A Sequencer frame built from a template with the tag of the counter (R50). -/
def State.seqFrame (s : State) (t : Template) : Frame :=
  mkFrame t.port.addr 0 kindCommand t.cls s.seq.tagCounter t.payload

/-- The cancel frame of an AWAIT_NOTICE step (R64). -/
def cancelFrame (c : Option (Fin 16)) (s : State) : State :=
  match c.bind s.template with
  | some t =>
    if s.isUp t.port then
      let f := s.seqFrame t
      offerSeq t.port { frame := f, isCancel := true }
        (stepTag { s with seq := { s.seq with cancel := some (t.port, f.tag) } })
    else s
  | none => s

/-- The STEP claim of the ending step is released (R18, R54). -/
def dropStepClaim (r : RailId) (s : State) : State :=
  if (s.rail r).dyn.claim = .step then dropClaim r s else s

/-- The tidying up at a step's end; `cut` for NOTICE_TIMEOUT and abandonment (R54, R64). -/
def tidyStep (cut : Bool) (s : State) : State :=
  let s :=
    match s.current with
    | some (c, k) =>
      match k with
      | .railOn r _ => dropStepClaim r (markThenOff r s)
      | .railOff r _ => dropStepClaim r s
      | .awaitSync _ _ => disarmSync s
      | .send _ =>
        match c.frame with
        | some f => withdrawSend f.port s
        | none => s
      | .awaitNotice _ _ _ x => if cut ∧ c.wait = .notice then cancelFrame x s else s
      | _ => s
    | none => s
  modCtx (fun c => { c with timer := none, frame := none, wait := .none }) s

/-- A step ends, by completing or for the reason given; what follows is taken next (R52, R53). -/
def stepEnd (failure : Option FailReason) (s : State) : State :=
  later (.afterStep failure) (tidyStep (failure == some .noticeTimeout) s)

def stepFail (x : FailReason) (s : State) : State := stepEnd (some x) s

/-- The step waits, under a time limit where it has one. -/
def stepWait (w : Wait) (timerMs : Option Nat) (s : State) : State :=
  modCtx (fun c => { c with wait := w, timer := timerMs.map (fun t => s.now + Config.ms t) }) s

/-- The reason that a RAIL_ON step records when its rail enters FAULT (R57). -/
def faultReason (c : Option FaultCause) : FailReason :=
  if c = some .riseTimeout then .riseTimeout else .railFault

/-- A switch-on order (R8, R56). -/
def switchOn (r : RailId) (s : State) : State :=
  match s.railState r with
  | .rising => stepEnd none s
  | .on => stepEnd none s
  | .off =>
    if !s.allOn (s.rail r).static.prereqs then stepFail .prereq s
    else if !s.pathAvailable r then stepFail .noPath s
    else
      let s := stepWait .order none s
      if s.isBoard r then makeFrame r true true s else moveRail r .rising s
  | .fault => stepFail .railFault s
  | _ => stepWait .fall none s

/-- Program 0 takes over a frame record: an ON frame gains THEN_OFF (R19). -/
def takeOver (n : ProgNo) (r : RailId) (s : State) : State := if n = 0 then markThenOff r s else s

/-- A switch-off order (R9, R58). -/
def switchOff (n : ProgNo) (r : RailId) (s : State) : State :=
  let s := takeOver n r s
  match s.railState r with
  | .off => stepEnd none s
  | .fault => stepFail .railFault s
  | .falling => stepWait .order none s
  | .discharging => stepWait .order none s
  | _ =>
    if (s.dependents r).any (fun d => s.railState d != .off) then stepFail .order s
    else if !s.pathAvailable r then stepFail .noPath s
    else
      let s := stepWait .order none s
      if s.isBoard r then needOff r true s else moveRail r .falling s

/-- The order of the current rail step, taken against the rail as it stands (R8, R9). -/
def takeOrder (n : ProgNo) (k : StepKind) (s : State) : State :=
  match k with
  | .railOn r _ => switchOn r s
  | .railOff r _ => switchOff n r s
  | _ => s

/-- The STEP claim is placed and the order taken (R18). -/
def claimAndOrder (n : ProgNo) (k : StepKind) (r : RailId) (s : State) : State :=
  takeOrder n k (modDyn r (fun d => { d with claim := .step }) s)

/-- The port whose reply window bounds a wait for a claim or a frame record (R19). -/
def State.claimPort (s : State) (r : RailId) : Option Port :=
  match (s.rail r).dyn.claim with
  | .frame p _ => some p
  | _ => if (s.rail r).dyn.frame.isSome then (s.rail r).static.port? else none

/-- A RAIL_ON or RAIL_OFF step starts: its claim first, then its order (R19, R56, R58). -/
def startRailStep (n : ProgNo) (k : StepKind) (r : RailId) (s : State) : State :=
  if !(s.rail r).static.used then stepFail .noPath s
  else
    match s.claimPort r with
    | none => claimAndOrder n k r s
    | some p =>
      if n = 0 then
        match (s.rail r).dyn.claim with
        | .frame q tag => claimAndOrder n k r (dropClaim r (clearClaimMark q tag s))
        | _ => claimAndOrder n k r s
      else stepWait .claim (some (s.port p).windowMs) s

/-- Some port is UP with SYNC_SOURCE among its agreed features (R60). -/
def State.syncSource (s : State) : Bool :=
  Port.all.any (fun p => s.isUp p && match (s.port p).agreed with
    | some a => a.syncSource
    | none => false)

/-- The port is UP with NOTICES among its agreed features (R63). -/
def State.noticesOn (s : State) (p : Port) : Bool :=
  s.isUp p && match (s.port p).agreed with
    | some a => a.notices
    | none => false

/-- A SEND step starts (R61). -/
def startSend (t : Fin 16) (s : State) : State :=
  match s.template t with
  | some x =>
    if s.isUp x.port then
      let f := s.seqFrame x
      let s := stepTag s
      offerSeq x.port { frame := f, isCancel := false } (modCtx (fun c =>
        { c with frame := some { port := x.port, frame := f, attempt := 1, mark := .waiting, windowMs := x.windowMs,
                                 retries := x.retries } }) s)
    else stepFail .noPath s
  | none => stepFail .noPath s

/-- The Scheduler's guarded flag is the one of the step that starts (R67, R76). -/
def setGuarded (g : Bool) (s : State) : State :=
  { s with sched := { s.sched with running := s.sched.running.map (fun (x : Running) => { x with guarded := g }) } }

/-- The step at a pool index starts (R52); the Scheduler is told whether it is guarded (R67). -/
def startStep (i : Nat) (s : State) : State :=
  let x := s.stepAt i
  let s := modCtx (fun c => { c with index := i, timer := none, frame := none, wait := .none }) s
  let s := setGuarded x.guarded s
  match s.seq.ctx with
  | none => s
  | some c =>
    match x.kind with
    | .railOn r _ => startRailStep c.program x.kind r s
    | .railOff r _ => startRailStep c.program x.kind r s
    | .delay t => stepWait .none (some t) s
    | .awaitSync t n => if s.syncSource then stepWait .sync (some t) (armSync n s) else stepFail .noSync s
    | .send t => startSend t s
    | .awaitNotice t p _ _ => if s.noticesOn p then stepWait .notice (some t) s else stepFail .noPath s
    | .check r st => if s.railState r = st then stepEnd none s else stepFail .checkFailed s
    | .setOutput o a => stepEnd none { s with ctl := s.ctl.set o a }

/-- A report of a rail, taken by the running RAIL_ON step on rail r (R57). -/
def railOnReport (c : Context) (r q : RailId) (noWait : Bool) (s : State) : State :=
  match c.wait with
  | .fall =>
    if q = r then
      match s.railState r with
      | .off => switchOn r s
      | .fault => stepFail (faultReason (s.rail r).dyn.faultCause) s
      | _ => s
    else s
  | .order =>
    if q = r then
      match s.railState r with
      | .on => stepEnd none s
      | .rising => if noWait then stepEnd none s else s
      | .fault => stepFail (faultReason (s.rail r).dyn.faultCause) s
      | _ => s
    else if inSet (s.rail r).static.prereqs q && s.railState q != .on then stepFail .prereqLost s
    else s
  | _ => s

/-- A report of a rail, taken by the running RAIL_OFF step on rail r (R58). -/
def railOffReport (c : Context) (r q : RailId) (noWait : Bool) (k : ReportKind) (s : State) : State :=
  if c.wait = .order ∧ q = r then
    match s.railState r with
    | .off => stepEnd none s
    | .fault => stepFail .railFault s
    | .falling => if noWait ∧ k = .state then stepEnd none s else s
    | .discharging => if noWait ∧ k = .state then stepEnd none s else s
    | _ => s
  else s

/-- The wait for a claim or a frame record is over: the claim is placed and the order taken (R19, R56). -/
def claimReport (c : Context) (k : StepKind) (r q : RailId) (s : State) : State :=
  if q = r ∧ (s.claimPort r).isNone then
    claimAndOrder c.program k r (modCtx (fun x => { x with timer := none, wait := .none }) s)
  else s

/-- The Sequencer takes a rail's report (R7). -/
def seqRail (q : RailId) (k : ReportKind) (s : State) : State :=
  match s.current with
  | some (c, .railOn r w) => if c.wait = .claim then claimReport c (.railOn r w) r q s else railOnReport c r q w s
  | some (c, .railOff r w) => if c.wait = .claim then claimReport c (.railOff r w) r q s else railOffReport c r q w k s
  | _ => s

/-- The Sequencer is told that a rail lost its path (R57; log 17). -/
def seqPathLost (q : RailId) (s : State) : State :=
  match s.current with
  | some (c, .railOn r _) => if q = r ∧ (c.wait = .order ∨ c.wait = .fall) then stepFail .noPath s else s
  | _ => s

/-- The Sequencer is told that a rail-control frame failed (R57, R58). -/
def seqFrameEnd (q : RailId) (x : FailReason) (s : State) : State :=
  match s.current with
  | some (c, .railOn r _) => if q = r ∧ c.wait = .order then stepFail x s else s
  | some (c, .railOff r _) => if q = r ∧ c.wait = .order ∧ (s.railState r).isUp then stepFail x s else s
  | _ => s

/-- A cancel frame of this tag still waits on the port (R64). -/
def PortRec.cancelWaits (x : PortRec) (tag : Byte) : Bool :=
  (x.seqOffer.toList ++ x.seqBehind).any (fun f => f.isCancel && f.frame.tag == tag)

/-- A port has left UP (R133 item 4). -/
def seqPortDown (p : Port) (s : State) : State :=
  let s :=
    match s.seq.cancel with
    | some (q, tag) =>
      if q = p ∧ (s.port p).cancelWaits tag then { s with seq := { s.seq with cancel := none } } else s
    | none => s
  let s := withdrawSeqAll p s
  match s.current with
  | some (c, .send _) =>
    match c.frame with
    | some f => if f.port = p then stepFail .noPath s else s
    | none => s
  | some (c, .awaitNotice _ q _ _) => if q = p ∧ c.wait = .notice then stepFail .noPath s else s
  | _ => s

/-- NOTICES has left a port's agreed features (R63, R132). -/
def seqNoticesLost (p : Port) (s : State) : State :=
  match s.current with
  | some (c, .awaitNotice _ q _ _) => if q = p ∧ c.wait = .notice then stepFail .noPath s else s
  | _ => s

/-- A notice received on a port is matched (R63). -/
def matchNotice (p : Port) (cls : Byte) (s : State) : State :=
  match s.current with
  | some (c, .awaitNotice _ q x _) => if q = p ∧ x = cls ∧ c.wait = .notice then stepEnd none s else s
  | _ => s

/-- The SEND frame in flight with this tag, sent on this port (R51). -/
def State.awaitsReply (s : State) (p : Port) (tag : Byte) : Bool :=
  match s.current with
  | some (c, .send _) =>
    match c.frame with
    | some f => f.port == p && f.frame.tag == tag && f.mark != .waiting
    | none => false
  | _ => false

/-- A reply with a Sequencer tag (R51, R62). -/
def seqReply (p : Port) (tag : Byte) (payload : List Byte) (s : State) : State :=
  if s.awaitsReply p tag then (if repliesOk payload then stepEnd none s else stepFail .errorReply s)
  else if s.seq.cancel = some (p, tag) then { s with seq := { s.seq with cancel := none } }
  else later (.raise .lateReply) s

/-- The Sequencer's frame has been transmitted (R61, R64, R140). -/
def seqSent (p : Port) (s : State) : State :=
  match (s.port p).seqOffer with
  | some f =>
    let s := modPort p PortRec.nextSeq s
    if f.isCancel then s
    else modCtx (fun c =>
      match c.frame with
      | some x => { c with frame := some { x with mark := .sent (s.now + Config.ms x.windowMs) },
                           timer := some (s.now + Config.ms x.windowMs) }
      | none => c) s
  | none => s

/-- The step's timer, run to its expiry. -/
def stepTimer (act : Context → StepKind → State → State) (s : State) : State :=
  match s.current with
  | some (c, k) =>
    match c.timer with
    | some t => if s.phase = .running then act c k (advance t s) else s
    | none => s
  | none => s

/-- FSYNC_EDGE (R45). -/
def fsyncEdge (s : State) : State :=
  if s.phase ≠ .running ∨ !s.sync.armed then s
  else
    let n := s.sync.count + 1
    if s.sync.target = some n then
      let s := disarmSync s
      match s.current with
      | some (c, .awaitSync _ _) => if c.wait = .sync then stepEnd none s else s
      | _ => s
    else { s with sync := { s.sync with count := n } }

/-- DELAY_EXPIRY (R59); an expiry with no such timer running has no effect (log 29). -/
def delayExpiry (s : State) : State :=
  match s.current with
  | some (_, .delay _) => stepTimer (fun _ _ s => stepEnd none s) s
  | _ => s

/-- SYNC_TIMEOUT (R60). -/
def syncTimeout (s : State) : State :=
  match s.current with
  | some (_, .awaitSync _ _) => stepTimer (fun _ _ s => stepFail .syncTimeout s) s
  | _ => s

/-- NOTICE_TIMEOUT (R63). -/
def noticeTimeout (s : State) : State :=
  match s.current with
  | some (_, .awaitNotice _ _ _ _) => stepTimer (fun _ _ s => stepFail .noticeTimeout s) s
  | _ => s

/-- CLAIM_WAIT_EXPIRY (R19). -/
def claimWaitExpiry (s : State) : State :=
  match s.current with
  | some (c, _) => if c.wait = .claim then stepTimer (fun _ _ s => stepFail .claimed s) s else s
  | none => s

/-- SEND_WINDOW_EXPIRY: the next attempt, or NO_REPLY (R62). -/
def sendWindowExpiry (s : State) : State :=
  match s.current with
  | some (_, .send _) =>
    stepTimer (fun c _ s =>
      match c.frame with
      | some f =>
        if f.attempt ≤ f.retries then
          offerSeq f.port { frame := f.frame, isCancel := false } (modCtx (fun c =>
            { c with timer := none, frame := some { f with attempt := f.attempt + 1, mark := .waiting } }) s)
        else stepFail .noReply s
      | none => s) s
  | _ => s

/-! ### Worst-case duration and the budget -/

/-- DISCHARGE_MS where DISCHARGE is FORCE (R70). -/
def RailStatic.dischargeMs (x : RailStatic) : Nat :=
  match x.discharge with
  | .force _ t => t
  | _ => 0

/-- Two reply windows of a BOARD rail's port (R70). -/
def State.railWindows (s : State) (x : RailStatic) : Nat :=
  match x.port? with
  | some p => 2 * (s.port p).windowMs
  | none => 0

/-- The worst case of one step in milliseconds (R70). -/
def State.stepWorst (s : State) : StepKind → Nat
  | .railOff r _ =>
    let x := (s.rail r).static
    if x.used then s.railWindows x + x.fallMs + x.dischargeMs else 0
  | .railOn r _ =>
    let x := (s.rail r).static
    if x.used then s.railWindows x + x.riseMs else 0
  | .delay t => t
  | .awaitSync t _ => t
  | .awaitNotice t _ _ _ => t
  | .send t =>
    match s.template t with
    | some x => x.windowMs * (x.retries + 1)
    | none => 0
  | .check _ _ => 0
  | .setOutput _ _ => 0

/-- The worst-case duration of a program (R70). -/
def State.worstCase (s : State) (n : ProgNo) : Nat :=
  ((s.rangeOf n).map (fun i => s.stepWorst (s.stepAt i).kind)).sum

/-- The budget check on the tables as they would stand (R71). -/
def State.budgetOk (s : State) : Bool := s.worstCase 0 ≤ s.rtu.plan.reserveMs

def StepKind.isRailOn : StepKind → Bool
  | .railOn _ _ => true
  | _ => false

/-- A step of program 0's range satisfies the test. -/
def State.zeroHas (s : State) (p : StepKind → Bool) : Bool :=
  (s.rangeOf 0).any (fun i => p (s.stepAt i).kind)

end Sys2Proof.Machine
end

