-- ==== Sys2Proof/Machine/Scheduler.lean ====
section
/-! DEFINITION. The Scheduler: requests, the queue, preemption, abandonment, program ends and results (R76 to R89),
and the return to ACTIVE that a program's start brings (R195). -/

namespace Sys2Proof.Machine

/-! ### The mode (R127, R128, R195) -/

/-- The next probe is offered (R128). -/
def sendProbe (p : Port) (s : State) : State :=
  arbitrate p (modPort p (fun x => { x with probeCount := x.probeCount + 1, probeWaiting := true }) s)

/-- A port enters EXCHANGE and sends its first probe (R127). -/
def enterExchange (p : Port) (s : State) : State :=
  sendProbe p (modPort p (fun x => { x with link := .exchange, probeCount := 0, probeTimer := none }) s)

/-- What R127 asks of a port in DOWN besides the mode. -/
def PortRec.canExchange (x : PortRec) : Bool := x.link == .down && x.present && x.pulse.isNone

/-- R127's look at one port. -/
def lookAtPort (p : Port) (s : State) : State :=
  if (s.port p).canExchange ∧ s.mode = .active then enterExchange p s else s

/-- Every port in DOWN is looked at (R127, R192). -/
def lookAtPorts (s : State) : State := Port.all.foldl (fun s p => lookAtPort p s) s

/-- The return to ACTIVE (R195). -/
def wake (s : State) : State :=
  if s.mode = .standby then lookAtPorts { s with mode := .active } else s

/-! ### Program ends and results -/

def setRunning (x : Option Running) (s : State) : State := { s with sched := { s.sched with running := x } }
def setRequests (q : List Entry) (s : State) : State := { s with sched := { s.sched with queue := q } }
def setResult (x : Result) (s : State) : State := { s with sched := { s.sched with last := some x } }

/-- A request leaves the queue, or is refused a place in it, with result DROPPED (R79, R85, R86). -/
def dropped (n : ProgNo) (q : Requester) (s : State) : State :=
  let s := later (.raise .programEnd) (setResult
    { program := n, requester := q, outcome := .dropped, step := none, reason := none, failedSteps := none } s)
  if n = 1 then later (.restoreEnd .dropped) s else s

def ProgramEnd.kind : ProgramEnd → EndKind
  | .done => .done
  | .failed _ _ => .failed
  | .abandoned _ => .abandoned

def ProgramEnd.step? : ProgramEnd → Option Nat
  | .done => none
  | .failed i _ => some i
  | .abandoned i => some i

def ProgramEnd.reason? : ProgramEnd → Option FailReason
  | .failed _ r => some r
  | _ => none

/-- The last-result record of a program's end (R86). -/
def Context.result (c : Context) (e : ProgramEnd) : Result :=
  { program := c.program, requester := c.requester, outcome := e.kind, step := e.step?, reason := e.reason?,
    failedSteps := if c.program = 0 then some c.failed else none }

/-- The end of the running program (R55, R85); `noHead` passes over R85 item 5 (R82). -/
def programEnd (e : ProgramEnd) (noHead : Bool) (s : State) : State :=
  match s.seq.ctx with
  | none => s
  | some c =>
    let s := later (.raise .programEnd) (setResult (c.result e) (setRunning none (setCtx none s)))
    let s := if c.program = 0 then later (.zeroEnd c.failed) { s with sched := { s.sched with committed := false } } else s
    let s := if c.program = 1 then later (.restoreEnd e.kind) s else s
    if noHead then s else later .startHead s

/-- The Scheduler starts a program and the Sequencer its first step (R52, R77, R195). -/
def startProgramOf (n : ProgNo) (q : Requester) (priority : Nat) (s : State) : State :=
  let s := setRunning (some { program := n, requester := q, priority := priority, guarded := false, marked := false }) (wake s)
  let h := s.header n
  let s := setCtx (some { program := n, requester := q, index := h.first, timer := none, frame := none, failed := 0,
                          wait := .none }) s
  if h.count = 0 then programEnd .done false s else startStep h.first s

/-- The head of the queue starts where no program runs (R77, R85 item 5). -/
def startHead (s : State) : State :=
  if s.sched.running.isSome || s.sched.committed then s
  else
    match s.sched.queue with
    | e :: rest => startProgramOf e.program e.requester e.priority (setRequests rest s)
    | [] => s

/-- The running program is abandoned (R83). -/
def abandon (noHead : Bool) (s : State) : State :=
  match s.seq.ctx with
  | some c => programEnd (.abandoned c.index) noHead (tidyStep true s)
  | none => s

/-- The head outranks the running program, or it carries the EXPLICIT mark (R81). -/
def State.cutOffDue (s : State) (x : Running) : Bool :=
  x.marked ||
    match s.sched.queue with
    | e :: _ => decide (x.priority < e.priority)
    | [] => false

/-- The next step of the program, or its end DONE where the position lies beyond its range (R52, R53). -/
def goTo (n : ProgNo) (i : Nat) (s : State) : State :=
  if s.inRange n i then startStep i s else programEnd .done false s

/-- What follows a step's end (R52, R53, R68, R81). -/
def afterStep (failure : Option FailReason) (s : State) : State :=
  match s.seq.ctx, s.sched.running with
  | some c, some x =>
    let last := !s.inRange c.program (c.index + 1)
    if x.guarded && s.cutOffDue x && !(failure.isNone && last) then programEnd (.abandoned c.index) false s
    else
      match failure with
      | none => goTo c.program (c.index + 1) s
      | some r =>
        if c.program = 0 then goTo 0 (c.index + 1) (modCtx (fun c => { c with failed := c.failed + 1 }) s)
        else
          match (s.stepAt c.index).onFail with
          | .abort => programEnd (.failed c.index r) false s
          | .proceed => goTo c.program (c.index + 1) s
          | .skip k => goTo c.program (c.index + k) s
  | _, _ => s

/-! ### Taking a request -/

/-- Highest priority first, then by arrival (R77). -/
def insertEntry (e : Entry) : List Entry → List Entry
  | [] => [e]
  | x :: l => if x.priority < e.priority then e :: x :: l else x :: insertEntry e l

/-- Preemption as an entry joins the queue, or the start of the head (R77, R80). -/
def judgeHead (s : State) : State :=
  match s.sched.running, s.sched.queue with
  | none, _ => startHead s
  | some x, e :: _ => if x.priority < e.priority && !x.guarded then abandon false s else s
  | some _, [] => s

/-- A new entry joins the queue (R77). -/
def joinQueue (n : ProgNo) (q : Requester) (s : State) : State :=
  let e : Entry := { program := n, requester := q, priority := (s.header n).priority, arrival := s.sched.arrivals }
  judgeHead { s with sched := { s.sched with queue := insertEntry e s.sched.queue, arrivals := s.sched.arrivals + 1 } }

/-- A new internal entry, with R79's displacement on a full queue. -/
def newEntry (n : ProgNo) (q : Requester) (s : State) : State :=
  if s.sched.queue.length < Config.requestPlaces then joinQueue n q s
  else
    match s.sched.queue.getLast? with
    | some e =>
      if e.priority < (s.header n).priority then
        joinQueue n q (dropped e.program e.requester (setRequests s.sched.queue.dropLast s))
      else dropped n q s
    | none => dropped n q s

/-- The EXPLICIT mark of the running program (R78, R82). -/
def markRunning (m : Bool) (s : State) : State :=
  { s with sched := { s.sched with running := s.sched.running.map (fun (x : Running) => { x with marked := m }) } }

/-- A request for a program from a unit of the part (R78, R79, R84, R89). -/
def takeRequest (n : ProgNo) (q : Requester) (s : State) : State :=
  if s.sched.committed then dropped n q s
  else if s.isRunning n then (if q = .holdup then markRunning false s else s)
  else if s.isQueued n then
    if q = .holdup then joinQueue n q (setRequests (s.sched.queue.filter (fun e => e.program != n)) s) else s
  else newEntry n q s

/-- An explicit abandonment of the running program (R82). -/
def orderAbandon (noHead : Bool) (s : State) : State :=
  match s.sched.running with
  | some x => if x.guarded then markRunning true s else abandon noHead s
  | none => s

/-- The first entry into SHED abandons a running program of priority 1 or lower (R82, R98). -/
def shedAbandon (s : State) : State :=
  match s.sched.running with
  | some x => if x.priority ≤ 1 then orderAbandon true s else s
  | none => s

/-- The oldest of the entries. -/
def oldest : List Entry → Option Entry
  | [] => none
  | e :: l =>
    match oldest l with
    | some x => if x.arrival < e.arrival then some x else some e
    | none => some e

/-- Queued entries of priority 1 or lower are removed, oldest first (R82). -/
def dropLow (s : State) : State :=
  match oldest (s.sched.queue.filter (fun e => e.priority ≤ 1)) with
  | some e => later .dropLow (dropped e.program e.requester (setRequests (s.sched.queue.filter (fun x => x != e)) s))
  | none => s

/-- The loss in RECOVER abandons a running RESTORE (R82, R102). -/
def abandonRestore (s : State) : State := if s.isRunning 1 then orderAbandon false s else s

/-- The loss in RECOVER removes a queued RESTORE (R82, R102). -/
def dropRestore (s : State) : State :=
  match s.sched.queue.find? (fun e => e.program == 1) with
  | some e => dropped 1 e.requester (setRequests (s.sched.queue.filter (fun x => x.program != 1)) s)
  | none => s

/-- The commit request (R84). -/
def commitRequest (s : State) : State :=
  later .startZero (later .dropAll (abandon true { s with sched := { s.sched with committed := true } }))

/-- Every queued entry is removed, head first (R84). -/
def dropAll (s : State) : State :=
  match s.sched.queue with
  | e :: rest => later .dropAll (dropped e.program e.requester (setRequests rest s))
  | [] => s

/-- Program 0 starts straight from the commit request (R84). -/
def startZero (s : State) : State := startProgramOf 0 .holdup 3 s

end Sys2Proof.Machine
end

