-- ==== Sys2Proof/Machine/Forwarding.lean ====
section
/-! DEFINITION. The Forwarding Unit: lookup, intake, the hold queue and its passes, forward queues, outstanding
lists, notices and flushes (R141 to R164). -/

namespace Sys2Proof.Machine

/-- The entry whose key this is (R143, R144). -/
def State.findAdmit (s : State) (p : Port) (c : Option Byte) : Option (Fin 64) :=
  (List.finRange 64).find? (fun i =>
    match s.fwd.admission.get i with
    | some e => e.port == p && e.cls == c
    | none => false)

/-- The entry that applies to a class of a port, absent for the default entry (R144). -/
def State.lookup (s : State) (p : Port) (c : Byte) : Option (Fin 64) :=
  match s.findAdmit p (some c) with
  | some i => some i
  | none => s.findAdmit p none

/-- The command record with the admission values that apply (R141, R144). -/
def State.recordOf (s : State) (p : Port) (f : Frame) : Cmd :=
  let i := s.lookup p f.cls
  match i.bind (fun i => s.fwd.admission.get i) with
  | some e =>
    { frame := f, port := p, order := s.fwd.accepted, action := e.action, prereqs := e.prereqs,
      shedClass := e.shedClass, holdMs := e.holdMs, effect := e.effect, entry := i }
  | none =>
    { frame := f, port := p, order := s.fwd.accepted, action := .pass, prereqs := 0, shedClass := 0,
      holdMs := s.fwd.orderHoldMs, effect := none, entry := none }

/-- The effect rail is claimed or has a RAIL_FRAME record (R148). -/
def State.railHeld (s : State) (r : RailId) : Bool :=
  (s.rail r).static.used && ((s.rail r).dyn.claim != .none || (s.rail r).dyn.frame.isSome)

/-- The effect part of a condition but for the claim and the frame record (R148; log 28). -/
def State.effectReady (s : State) : Option (RailId × Bool) → Bool
  | none => true
  | some (r, true) =>
    s.railState r != .fault && s.allOn (s.rail r).static.prereqs
  | some (r, false) => (s.dependents r).all (fun d => s.railState d == .off)

/-- The condition of a command, with the reason where it is unmet (R148). -/
def State.unmet (s : State) (c : Cmd) : Option HoldReason :=
  if c.action = .pass then none
  else if !s.allOn c.prereqs || !s.effectReady c.effect then some .prereq
  else
    match c.effect with
    | some (r, _) => if s.railHeld r then some .claimed else none
    | none => none

/-- A command is shed-blocked (R148). -/
def State.shedBlocked (s : State) (c : Cmd) : Bool := 1 ≤ c.shedClass && c.shedClass ≤ s.fwd.shedLevel

/-- What is done with a command before its queue is looked at (R149, R152). -/
inductive Verdict where
  | keep (x : HoldReason)
  | refuse (status : Byte)
  | ready
  deriving DecidableEq, Repr

/-- The first two rows of R149 and R152. -/
def State.verdict (s : State) (c : Cmd) : Verdict :=
  if s.shedBlocked c then (if c.action = .hold then .keep .shed else .refuse stRefusedShed)
  else
    match s.unmet c with
    | some x => if c.action = .hold then .keep x else .refuse stRefusedRail
    | none => .ready

/-- The command joins its port's forward queue and is offered if it is the head (R156). -/
def toForward (c : Cmd) (s : State) : State := arbitrate c.port (setQueue c.port (s.queue c.port ++ [c]) s)

/-- The command joins the hold queue (R149). -/
def toHold (c : Cmd) (x : HoldReason) (s : State) : State :=
  if Config.holdPlaces ≤ s.fwd.hold.length then answer c.frame stHoldFull s
  else setHold (s.fwd.hold ++ [{ cmd := c, reason := x, deadline := s.now + Config.ms c.holdMs }]) s

/-- A command that has passed intake is decided (R149). -/
def decideCmd (c : Cmd) (s : State) : State :=
  match s.verdict c with
  | .keep x => toHold c x s
  | .refuse st => answer c.frame st s
  | .ready =>
    if s.fwd.hold.any (fun e => e.cmd.port == c.port) then toHold c .order s
    else if Config.forwardPlaces ≤ (s.queue c.port).length then answer c.frame stPortFull s
    else toForward c s

/-- The tag of an unanswered command for the port (R147 item 4). -/
def State.tagTaken (s : State) (p : Port) (tag : Byte) : Bool :=
  s.fwd.hold.any (fun e => e.cmd.port == p && e.cmd.frame.tag == tag) ||
  (s.queue p).any (fun c => c.frame.tag == tag) || (s.outs p).any (fun e => e.cmd.frame.tag == tag)

/-- Forwarding is closed (R106, R147). -/
def State.closed (s : State) : Bool := s.rtu.stage == .commit || s.rtu.stage == .dark

/-- PAYLOAD_LIMIT of the port's agreed record (R130). -/
def State.limit (s : State) (p : Port) : Nat :=
  match (s.port p).agreed with
  | some a => a.limit
  | none => 0

/-- Intake (R147); the acceptance counter gives the command its order (R141). -/
def intake (p : Port) (f : Frame) (s : State) : State :=
  let c := s.recordOf p f
  let s := { s with fwd := { s.fwd with accepted := s.fwd.accepted + 1 } }
  if !s.isUp p then answer f stLinkDown s
  else if s.closed then answer f stRefusedCommit s
  else if s.limit p < f.payload.length then answer f stTooLong s
  else if s.tagTaken p f.tag then answer f stDupTag s
  else decideCmd c s

/-- One pass over the hold queue, from the oldest entry: `blocked` are the ports with an entry that stays,
`kept` the entries that stay, youngest first (R152). -/
def passOver : List HoldEntry → List Port → List HoldEntry → State → State
  | [], _, kept, s => setHold kept.reverse s
  | e :: es, blocked, kept, s =>
    let stay (x : HoldReason) := passOver es (e.cmd.port :: blocked) ({ e with reason := x } :: kept) s
    match s.verdict e.cmd with
    | .keep x => stay x
    | .refuse st => passOver es blocked kept (answer e.cmd.frame st s)
    | .ready =>
      if blocked.contains e.cmd.port then stay .order
      else if Config.forwardPlaces ≤ (s.queue e.cmd.port).length then stay .order
      else passOver es blocked kept (toForward e.cmd s)

/-- A rescan (R151, R152). -/
def rescan (s : State) : State := passOver s.fwd.hold [] [] s

/-- HOLD_DEADLINE_EXPIRY (R154). -/
def holdExpiry (p : Port) (tag : Byte) (s : State) : State :=
  match s.fwd.hold.find? (fun e => e.cmd.port == p && e.cmd.frame.tag == tag) with
  | some e =>
    let s := advance e.deadline s
    later .pass (later (.raise .holdExpired)
      (answer e.cmd.frame stHoldExpired (setHold (s.fwd.hold.filter (fun x => x != e)) s)))
  | none => s

/-- The FRAME claim of a command that has just been transmitted (R18, R157 item 2). -/
def takeClaim (c : Cmd) (s : State) : State × Bool :=
  match c.effect with
  | some (r, _) =>
    if (s.rail r).static.used && !s.railHeld r then
      (modDyn r (fun d => { d with claim := .frame c.port c.frame.tag }) s, true)
    else (s, false)
  | none => (s, false)

/-- The head of a forward queue has been transmitted (R157). -/
def forwardSent (p : Port) (s : State) : State :=
  match s.queue p with
  | c :: rest =>
    let taken := takeClaim c (setQueue p rest s)
    let s := taken.1
    later .pass (setOuts p (s.outs p ++
      [{ cmd := c, deadline := s.now + Config.ms (s.port p).windowMs, claimMark := taken.2 }]) s)
  | [] => s

/-- The outstanding entry of a tag (R158). -/
def State.outOf (s : State) (p : Port) (tag : Byte) : Option OutEntry :=
  (s.outs p).find? (fun e => e.cmd.frame.tag == tag)

def removeOut (p : Port) (e : OutEntry) (s : State) : State := setOuts p ((s.outs p).filter (fun x => x != e)) s

/-- The FRAME claim of an answered command is released (R18). -/
def releaseOut (p : Port) (e : OutEntry) (s : State) : State :=
  match e.cmd.effect with
  | some (r, _) => if e.claimMark then later (.releaseFrame r p e.cmd.frame.tag) s else s
  | none => s

/-- The effect of a command whose reply is OK, handed with the stage's refusal (R158 item 3, R159). -/
def handEffect (e : OutEntry) (s : State) : State :=
  match e.cmd.effect with
  | some (r, on) => later (.effect r on (on && s.closed) e.claimMark) s
  | none => s

/-- BOARD_REPLY (R158, R161; log 40). -/
def boardReplyTaken (p : Port) (f : Frame) (s : State) : State :=
  match s.outOf p f.tag with
  | some e =>
    let s := placeUp (replyEntry f) (removeOut p e s)
    let s := if repliesOk f.payload then handEffect e s else s
    arbitrate p (releaseOut p e s)
  | none => later (.raise .lateReply) s

/-- OUTSTANDING_DEADLINE_EXPIRY (R160). The freed place is used before the claim's release has its consequences: the model's
choice (log 40). -/
def outstandingExpiry (p : Port) (tag : Byte) (s : State) : State :=
  match s.outOf p tag with
  | some e =>
    let s := advance e.deadline s
    arbitrate p (releaseOut p e (answer e.cmd.frame stNoReply (removeOut p e s)))
  | none => s

/-- Commands answered one after the other with one status. -/
def answerAll (cs : List Cmd) (status : Byte) (s : State) : State := cs.foldl (fun s c => answer c.frame status s) s

/-- The hold entries of a departed port are answered, oldest first; where there were any a pass follows (R151, R163
item 1; log 32). -/
def flushHold (p : Port) (s : State) : State :=
  match (s.fwd.hold.filter (fun e => e.cmd.port == p)).map HoldEntry.cmd with
  | [] => s
  | held => rescan (answerAll held stLinkDown (setHold (s.fwd.hold.filter (fun e => e.cmd.port != p)) s))

/-- The commands of a departed port's forward queue are answered, oldest first, each freed place with its pass (R151,
R163 item 2). -/
def flushQueue (p : Port) : List Cmd → State → State
  | [], s => s
  | c :: rest, s => flushQueue p rest (rescan (answer c.frame stLinkDown (setQueue p rest s)))

/-- A port has left UP: hold entries, then forward entries; the outstanding entries follow (R163; log 32). -/
def portFlush (p : Port) (s : State) : State :=
  let s := flushHold p s
  later (.flushOut p) (flushQueue p (s.queue p) s)

/-- The oldest outstanding entry of a departed port is answered, its claim released (R163 item 3). -/
def flushOut (p : Port) (s : State) : State :=
  match s.outs p with
  | e :: rest => later (.flushOut p) (releaseOut p e (answer e.cmd.frame stLinkDown (setOuts p rest s)))
  | [] => s

/-- A command put in acceptance order, oldest first. -/
def insertOrder (c : Cmd) : List Cmd → List Cmd
  | [] => [c]
  | x :: l => if c.order < x.order then c :: x :: l else x :: insertOrder c l

/-- Every held and forward-queued command in acceptance order (R164). -/
def State.closable (s : State) : List Cmd :=
  (s.fwd.hold.map HoldEntry.cmd ++ Port.all.flatMap s.queue).foldl (fun l c => insertOrder c l) []

/-- The commit closure (R164). -/
def commitClosure (s : State) : State :=
  let cs := s.closable
  let s := Port.all.foldl (fun s p => setQueue p [] (withdrawForward p s)) (setHold [] s)
  answerAll cs stRefusedCommit s

/-- BOARD_NOTICE: offered upstream, then matched by a waiting step (R63, R162). That the forwarding comes first is the
model's choice (log 52). -/
def noticeTaken (p : Port) (f : Frame) (s : State) : State := matchNotice p f.cls (offerNotice f s)

end Sys2Proof.Machine
end

