-- ==== Sys2Proof/Machine/Operands.lean ====
section
/-! DEFINITION. The operand forms: every record layout of R181 and R182, decoded with the range checks of its
load request and encoded for its read request and for the store (log 22). Bits a layout leaves unused are
ignored when read and zero when written (R180; log 12). -/

namespace Sys2Proof.Machine

/-- A rail number of a request (R172: the owner's rule refuses BAD_INDEX). -/
def railOf? (n : Nat) : Option RailId := if h : n < 24 then some ⟨n, h⟩ else none
def channelOf? (n : Nat) : Option ChannelId := if h : n < 8 then some ⟨n, h⟩ else none
def progOf? (n : Nat) : Option ProgNo := if h : n < 12 then some ⟨n, h⟩ else none
def templateOf? (n : Nat) : Option (Fin 16) := if h : n < 16 then some ⟨n, h⟩ else none
def admitOf? (n : Nat) : Option (Fin 64) := if h : n < 64 then some ⟨n, h⟩ else none

/-- A one-byte number that 0xFF marks absent (R180): absent, out of range, or the number. -/
def orNone {α : Type} (dec : Nat → Option α) (n : Nat) : Option (Option α) :=
  if n = 255 then some none else (dec n).map some

def encOrNone {n : Nat} (x : Option (Fin n)) : Byte :=
  match x with
  | some i => byteOf i.val
  | none => 0xFF

/-- One byte with the bits given, bit 0 first. -/
def bitsByte : List Bool → Nat
  | [] => 0
  | b :: bs => (if b then 1 else 0) + 2 * bitsByte bs

def bitAt (n i : Nat) : Bool := n.testBit i

/-- Bit n of a rail set is rail n (R180). -/
def setOfList (l : List RailId) : BitVec 24 := l.foldl (fun b r => b ||| BitVec.ofNat 24 (2 ^ r.val)) 0

/-- Every item decoded, or none. -/
def allSome {α : Type} : List (Option α) → Option (List α)
  | [] => some []
  | none :: _ => none
  | some x :: l => (allSome l).map (x :: ·)

/-! ### Rail record (R182), 24 bytes from byte `o` -/

def decPath (b : List Byte) (o : Nat) : Option Path :=
  if bitAt (at1 b o) 1 then
    match Port.ofNat? (at1 b (o + 1)) with
    | some p => if h : at1 b (o + 2) < 32 then some (.board p ⟨at1 b (o + 2), h⟩ (b.getD (o + 3) 0) (b.getD (o + 4) 0)) else none
    | none => none
  else if h : at1 b (o + 1) < 12 then some (.onPart ⟨at1 b (o + 1), h⟩) else none

def decDischarge (b : List Byte) (o : Nat) : Option Discharge :=
  match at1 b (o + 16) with
  | 0 => some .none
  | 1 => (channelOf? (at1 b (o + 17))).map .bleed
  | 2 => (channelOf? (at1 b (o + 17))).map (fun c => .force c (at2 b (o + 18)))
  | _ => none

/-- FAULT_ACTION: none, or a program 1 to 11 (R1). -/
def decFaultAction (n : Nat) : Option (Option ProgNo) := orNone (fun k => if k = 0 then none else progOf? k) n

/-- The fields of a rail record, none where a number names nothing (R1). -/
def decRail (b : List Byte) (o : Nat) : Option RailStatic :=
  match decPath b o, orNone channelOf? (at1 b (o + 5)), decDischarge b o, decFaultAction (at1 b (o + 23)) with
  | some path, some sense, some dis, some fa =>
    some { used := bitAt (at1 b o) 0, path := path, sense := sense, goodLevel := at2 b (o + 6),
           safeLevel := at2 b (o + 8), settleMs := at2 b (o + 10), riseMs := at2 b (o + 12),
           fallMs := at2 b (o + 14), discharge := dis, prereqs := BitVec.ofNat 24 (at3 b (o + 20)),
           faultAction := fa, standbyKeep := bitAt (at1 b o) 2 }
  | _, _, _, _ => none

/-- The ranges of R1, and R25 item 4's checks of the record alone. -/
def railFits (r : RailId) (x : RailStatic) : Bool :=
  x.goodLevel ≤ 1023 && x.safeLevel ≤ 1023 &&
  (1 ≤ x.settleMs && x.settleMs ≤ 2000) && (1 ≤ x.riseMs && x.riseMs ≤ 2000) &&
  (1 ≤ x.fallMs && x.fallMs ≤ 5000) &&
  (match x.discharge with
   | .force _ t => 1 ≤ t && t ≤ 2000
   | _ => true) &&
  (match x.sense with
   | some _ => decide (x.safeLevel < x.goodLevel)
   | none => decide (x.settleMs ≤ x.riseMs)) &&
  (railsOf x.prereqs).all (fun q => q.val < r.val)

def encRail (x : RailStatic) : List Byte :=
  (match x.path with
   | .onPart en => [byteOf (bitsByte [x.used, false, x.standbyKeep]), byteOf en.val, 0, 0, 0]
   | .board p id on off => [byteOf (bitsByte [x.used, true, x.standbyKeep]), byteOf p.number, byteOf id.val, on, off]) ++
  [encOrNone x.sense] ++ bytes2 x.goodLevel ++ bytes2 x.safeLevel ++ bytes2 x.settleMs ++ bytes2 x.riseMs ++
  bytes2 x.fallMs ++
  (match x.discharge with
   | .none => [0, 0, 0, 0]
   | .bleed o => [1, byteOf o.val, 0, 0]
   | .force o t => [2, byteOf o.val] ++ bytes2 t) ++
  bytes3 x.prereqs.toNat ++ [encOrNone x.faultAction]

/-! ### Channel thresholds (R39, R182): LOW, HIGH, DEBOUNCE -/

def thresholdsFit (low high debounce : Nat) : Bool :=
  low ≤ 1023 && high ≤ 1023 && low < high && 1 ≤ debounce && debounce ≤ 16

def encThresholds (c : Channel) : List Byte := bytes2 c.low ++ bytes2 c.high ++ [byteOf c.debounce]

/-! ### Admission entry (R143, R182), 12 bytes from byte `o` -/

def decEffect (kind rail : Nat) : Option (Option (RailId × Bool)) :=
  match kind with
  | 0 => some none
  | 1 => (railOf? rail).map (fun r => some (r, true))
  | 2 => (railOf? rail).map (fun r => some (r, false))
  | _ => none

def decAction : Nat → Option Action
  | 0 => some .pass | 1 => some .hold | 2 => some .refuse | _ => none

/-- Malformed (none), the empty mark, or an entry; with the ranges of R145 item 3. -/
def decAdmit (b : List Byte) (o : Nat) : Option (Option AdmitEntry) :=
  match at1 b o with
  | 0 => some none
  | 1 =>
    match Port.ofNat? (at1 b (o + 1)), decAction (at1 b (o + 3) / 2 % 4), decEffect (at1 b (o + 10)) (at1 b (o + 11)) with
    | some p, some a, some eff =>
      if at1 b (o + 7) ≤ 4 && (10 ≤ at2 b (o + 8) && at2 b (o + 8) ≤ 5000) then
        some (some { port := p, cls := if bitAt (at1 b (o + 3)) 0 then none else some (b.getD (o + 2) 0),
                     action := a, prereqs := BitVec.ofNat 24 (at3 b (o + 4)), shedClass := at1 b (o + 7),
                     holdMs := at2 b (o + 8), effect := eff })
      else none
    | _, _, _ => none
  | _ => none

def Action.code : Action → Nat
  | .pass => 0 | .hold => 1 | .refuse => 2

def encAdmit : Option AdmitEntry → List Byte
  | none => List.replicate 12 0
  | some e =>
    [1, byteOf e.port.number, e.cls.getD 0, byteOf (2 * e.action.code + (if e.cls.isNone then 1 else 0))] ++
    bytes3 e.prereqs.toNat ++ [byteOf e.shedClass] ++ bytes2 e.holdMs ++
    (match e.effect with
     | none => [0, 0]
     | some (r, on) => [if on then 1 else 2, byteOf r.val])

/-! ### Step (R46, R182), 8 bytes from byte `o` -/

def RailState.code : RailState → Nat
  | .off => 0 | .rising => 1 | .on => 2 | .falling => 3 | .discharging => 4 | .fault => 5

def decRailState : Nat → Option RailState
  | 0 => some .off | 1 => some .rising | 2 => some .on | 3 => some .falling | 4 => some .discharging
  | 5 => some .fault | _ => none

/-- TIME of a step, 1 to 60000 (R46). -/
def decTime (n : Nat) : Option Nat := if 1 ≤ n && n ≤ 60000 then some n else none

def decStepKind (b : List Byte) (o : Nat) : Option StepKind :=
  let noWait := bitAt (at1 b (o + 1)) 4
  let time := decTime (at2 b (o + 3))
  match at1 b o with
  | 1 => (railOf? (at1 b (o + 3))).map (fun r => .railOn r noWait)
  | 2 => (railOf? (at1 b (o + 3))).map (fun r => .railOff r noWait)
  | 3 => time.map .delay
  | 4 => if 1 ≤ at1 b (o + 5) then time.map (fun t => .awaitSync t (at1 b (o + 5))) else none
  | 5 => (templateOf? (at1 b (o + 3))).map .send
  | 6 =>
    match time, Port.ofNat? (at1 b (o + 5)), orNone templateOf? (at1 b (o + 7)) with
    | some t, some p, some c => some (.awaitNotice t p (b.getD (o + 6) 0) c)
    | _, _, _ => none
  | 7 =>
    match railOf? (at1 b (o + 3)), decRailState (at1 b (o + 4)) with
    | some r, some st => some (.check r st)
    | _, _ => none
  | 8 => if h : at1 b (o + 3) < 4 then if at1 b (o + 4) ≤ 1 then some (.setOutput ⟨at1 b (o + 3), h⟩ (at1 b (o + 4) == 1)) else none else none
  | _ => none

def decOnFail (mode offset : Nat) : Option OnFail :=
  match mode with
  | 0 => some .abort
  | 1 => some .proceed
  | 2 => if 1 ≤ offset && offset ≤ 63 then some (.skip offset) else none
  | _ => none

def decStep (b : List Byte) (o : Nat) : Option Step :=
  match decStepKind b o, decOnFail (at1 b (o + 1) / 64) (at1 b (o + 2)) with
  | some k, some f => some { kind := k, onFail := f, guarded := bitAt (at1 b (o + 1)) 5 }
  | _, _ => none

/-- The kind byte, the NO_WAIT bit and the operand bytes 3 to 7 of a step. -/
def encStepKind : StepKind → Nat × Bool × List Byte
  | .railOn r w => (1, w, [byteOf r.val, 0, 0, 0, 0])
  | .railOff r w => (2, w, [byteOf r.val, 0, 0, 0, 0])
  | .delay t => (3, false, bytes2 t ++ [0, 0, 0])
  | .awaitSync t c => (4, false, bytes2 t ++ [byteOf c, 0, 0])
  | .send t => (5, false, [byteOf t.val, 0, 0, 0, 0])
  | .awaitNotice t p c x => (6, false, bytes2 t ++ [byteOf p.number, c, encOrNone x])
  | .check r st => (7, false, [byteOf r.val, byteOf st.code, 0, 0, 0])
  | .setOutput o a => (8, false, [byteOf o.val, if a then 1 else 0, 0, 0, 0])

def encOnFail : OnFail → Nat × Nat
  | .abort => (0, 0)
  | .proceed => (1, 0)
  | .skip k => (2, k)

def encStep (x : Step) : List Byte :=
  let k := encStepKind x.kind
  let f := encOnFail x.onFail
  [byteOf k.1, byteOf (64 * f.1 + (if x.guarded then 32 else 0) + (if k.2.1 then 16 else 0)), byteOf f.2] ++ k.2.2

/-! ### Program header (R47, R73), template (R48) -/

/-- R73 item 4. -/
def headerFits (n : Nat) (h : Header) : Bool :=
  h.count ≤ 64 && h.first + h.count ≤ 256 && h.priority ≤ 3 &&
  (if n = 0 then h.priority == 3 else if n = 1 then h.priority == 2 else h.priority != 3)

def encHeader (h : Header) : List Byte := [byteOf h.first, byteOf h.count, byteOf h.priority]

/-- PORT, CLASS, WINDOW_MS, RETRIES, payload length and payload from byte `o`, with R48's ranges. -/
def decTemplate (b : List Byte) (o : Nat) : Option Template :=
  match Port.ofNat? (at1 b o) with
  | some p =>
    if (1 ≤ at1 b (o + 2) && at1 b (o + 2) ≤ 250) && at1 b (o + 3) ≤ 3 && at1 b (o + 4) ≤ 16 then
      some { port := p, cls := b.getD (o + 1) 0, payload := (b.drop (o + 5)).take (at1 b (o + 4)),
             windowMs := at1 b (o + 2), retries := at1 b (o + 3) }
    else none
  | none => none

/-- A template in the store: 21 bytes, port 0 for an empty one (R180; log 22). -/
def encTemplate : Option Template → List Byte
  | none => List.replicate 21 0
  | some t =>
    [byteOf t.port.number, t.cls, byteOf t.windowMs, byteOf t.retries, byteOf t.payload.length] ++
    (t.payload ++ List.replicate 16 0).take 16

/-! ### Hold-up plan (R90, R91, R182) -/

def decLevel (b : List Byte) (o : Nat) : Option Level :=
  match orNone (fun k => if k < 2 then none else progOf? k) (at1 b (o + 4)) with
  | some p =>
    if at2 b o ≤ 1023 && at2 b (o + 2) ≤ 2000 then
      some { bulkBelow := at2 b o, afterMs := at2 b (o + 2), program := p }
    else none
  | none => none

def decResume (b : List Byte) : Option Resume :=
  match at1 b 28 with
  | 0 => some .wait
  | 1 =>
    match progOf? (at1 b 31) with
    | some p => if 2 ≤ p.val && (100 ≤ at2 b 29 && at2 b 29 ≤ 10000) then some (.auto (at2 b 29) p) else none
    | none => none
  | _ => none

/-- The numbers of the list but for the zeros do not rise. -/
def fallsOrStays : List Nat → Bool
  | a :: b :: l => b ≤ a && fallsOrStays (b :: l)
  | _ => true

def nonZero (l : List Nat) : List Nat := l.filter (fun n => n != 0)

/-- R91 item 4 but for its last line, which looks at the Rail Table. -/
def planFits (p : Plan) : Bool :=
  p.commitBelow ≤ 1023 && p.commitAfterMs ≤ 5000 && p.reserveMs ≤ 2000 &&
  (4 ≤ p.lossWindow && p.lossWindow ≤ 40) && (2 ≤ p.returnCount && p.returnCount ≤ 32) &&
  p.levels.all (fun l => !(l.bulkBelow == 0 && l.afterMs == 0)) &&
  fallsOrStays (nonZero (p.levels.map Level.bulkBelow)) &&
  fallsOrStays (nonZero (p.levels.map Level.afterMs)).reverse &&
  (p.bulk.isSome || (p.commitBelow == 0 && p.levels.all (fun l => l.bulkBelow == 0)))

def decPlan (b : List Byte) : Option Plan :=
  match orNone channelOf? (at1 b 0), decResume b with
  | some bulk, some resume =>
    if at1 b 1 ≤ 4 then
      match allSome ((List.range (at1 b 1)).map (fun i => decLevel b (2 + 5 * i))) with
      | some levels =>
        let p : Plan :=
          { bulk := bulk, levels := levels, commitBelow := at2 b 22, commitAfterMs := at2 b 24,
            reserveMs := at2 b 26, resume := resume, lossWindow := at1 b 32, returnCount := at1 b 33 }
        if planFits p then some p else none
      | none => none
    else none
  | _, _ => none

def encLevel (l : Level) : List Byte := bytes2 l.bulkBelow ++ bytes2 l.afterMs ++ [encOrNone l.program]

def encPlan (p : Plan) : List Byte :=
  [encOrNone p.bulk, byteOf p.levels.length] ++
  ((p.levels.flatMap encLevel) ++ List.replicate 20 0).take 20 ++
  bytes2 p.commitBelow ++ bytes2 p.commitAfterMs ++ bytes2 p.reserveMs ++
  (match p.resume with
   | .wait => [0, 0, 0, 0]
   | .auto d n => [1] ++ bytes2 d ++ [byteOf n.val]) ++
  [byteOf p.lossWindow, byteOf p.returnCount]

/-! ### Port settings (R178, R182) -/

structure PortSettings where
  windows : List Nat
  fairs : List Nat
  orderHoldMs : Nat
  defaultMask : Word16
  deriving DecidableEq, Repr

/-- R178 item 2. -/
def decPortSettings (b : List Byte) : Option PortSettings :=
  let x : PortSettings :=
    { windows := (List.range 5).map (at1 b), fairs := (List.range 5).map (fun i => at1 b (5 + i)),
      orderHoldMs := at2 b 10, defaultMask := BitVec.ofNat 16 (at2 b 12) }
  if x.windows.all (fun n => 1 ≤ n && n ≤ 250) && x.fairs.all (fun n => 1 ≤ n && n ≤ 15) &&
      (10 ≤ x.orderHoldMs && x.orderHoldMs ≤ 5000) then some x
  else none

def encPortSettings (s : State) : List Byte :=
  s.ports.toList.map (fun p => byteOf p.windowMs) ++ s.ports.toList.map (fun p => byteOf p.fair) ++
  bytes2 s.fwd.orderHoldMs ++ bytes2 s.ev.defaultMask.toNat

/-! ### Capability record (R129, R181) -/

def decIds (b : List Byte) (n : Nat) : Option (List (Fin 32)) :=
  allSome ((List.range n).map (fun i => if h : at1 b (4 + i) < 32 then some ⟨at1 b (4 + i), h⟩ else none))

/-- A valid capability record (R129). -/
def decCapability (b : List Byte) : Option Capability :=
  let n := at1 b 3
  if b.length = 4 + n && n ≤ 8 && (1 ≤ at1 b 0 && at1 b 0 ≤ 6) && (16 ≤ at1 b 1 && at1 b 1 ≤ 60) && at1 b 2 ≤ 3 then
    match decIds b n with
    | some ids =>
      if decide ids.Nodup then
        some { boardKind := at1 b 0, maxPayload := at1 b 1, notices := bitAt (at1 b 2) 0,
               syncSource := bitAt (at1 b 2) 1, ids := ids }
      else none
    | none => none
  else none

/-! ### Single fields of replies (R180, R183) -/

def Stage.code : Stage → Nat
  | .lineOk => 0 | .dip => 1 | .shed k => 1 + k | .recover => 6 | .commit => 7 | .dark => 8

def Requester.code : Requester → Nat
  | .main => 0 | .holdup => 1 | .fault => 2 | .resume => 3

def EndKind.code : EndKind → Nat
  | .done => 0 | .failed => 1 | .abandoned => 2 | .dropped => 3

def FailReason.code : FailReason → Nat
  | .prereq => 1 | .prereqLost => 2 | .noPath => 3 | .claimed => 4 | .order => 5 | .errorReply => 6
  | .noReply => 7 | .riseTimeout => 8 | .railFault => 9 | .syncTimeout => 10 | .noSync => 11
  | .noticeTimeout => 12 | .checkFailed => 13

def LineState.code : LineState → Nat
  | .unqualified => 0 | .present => 1 | .lost => 2

def LinkState.code : LinkState → Nat
  | .down => 0 | .exchange => 1 | .up => 2 | .failed => 3

def FaultCause.code : FaultCause → Nat
  | .riseTimeout => 1 | .low => 2 | .high => 3 | .fallTimeout => 4

def Alarm.code : Alarm → Nat
  | .none => 0 | .low => 1 | .high => 2

def SaveState.code : SaveState → Nat
  | .none => 0 | .running => 1 | .finished => 2 | .abandoned => 3

def SaveResult.code : SaveResult → Nat
  | .notReached => 0 | .voided => 1 | .applied => 2

def LoadResult.number : LoadResult → Nat
  | .stored => 0 | .code => 1 | .crc => 2 | .unfit => 3 | .budget => 4

def ResetCause.code : ResetCause → Nat
  | .powerOn => 1 | .supplyLow => 2 | .resetPin => 3 | .requested => 4

def RecordWrite.code : RecordWrite → Nat
  | .idle => 0
  | .writing _ _ none => 1
  | .writing _ _ (some _) => 2

end Sys2Proof.Machine
end

