-- ==== Sys2Proof/Machine/Store.lean ====
section
/-! DEFINITION. The Settings Store: groups, saves, the start-up load and the record slot (R114, R115, R184 to R189). -/

namespace Sys2Proof.Machine

def setStore (x : Store) (s : State) : State := { s with store := x }

/-! ### The groups as byte lists (log 22) -/

/-- A group's contents as the tables stand (R187). -/
def State.groupBytes (s : State) (g : Fin 5) : List Byte :=
  match g with
  | 0 => s.rails.toList.flatMap (fun r => encRail r.static) ++ s.chans.toList.flatMap encThresholds
  | 1 => s.fwd.admission.toList.flatMap encAdmit
  | 2 => s.seq.steps.toList.flatMap encStep ++ s.seq.headers.toList.flatMap encHeader ++
      s.seq.templates.toList.flatMap encTemplate
  | 3 => encPlan s.rtu.plan
  | 4 => encPortSettings s

/-- A vector from a list that has its length. -/
def vecOf {α : Type} (n : Nat) (d : α) (l : List α) : Vector α n := Vector.ofFn (fun i => l.getD i.val d)

/-! ### Saving -/

/-- The write of a group begins (R188). -/
def beginGroup (g : Fin 5) (s : State) : State :=
  setStore { s.store with
    groups := s.store.groups.set g { s.store.groups.get g with code := 0x00 }
    group := some g
    results := s.store.results.set g .voided
    begun := s.now } s

/-- An accepted SAVE_SETTINGS (R187). -/
def beginSave (s : State) : State :=
  beginGroup 0 (setStore { s.store with
    save := .running, cause := none, results := Vector.replicate 5 .notReached } s)

/-- SAVE_GROUP_WRITE_END (R188; log 23). -/
def groupWriteEnd (s : State) : State :=
  match s.store.group with
  | some g =>
    if s.store.save = .running then
      let s := advance (s.store.begun + Config.groupWriteLeast) s
      let bytes := s.groupBytes g
      let s := setStore { s.store with
        groups := s.store.groups.set g { code := 0xA5, crc := crc16 bytes, contents := bytes }
        results := s.store.results.set g .applied } s
      if h : g.val + 1 < 5 then beginGroup ⟨g.val + 1, h⟩ s
      else later (.raise .saveEnd) (setStore { s.store with save := .finished, group := none } s)
    else s
  | none => s

/-- A running save is abandoned (R189). -/
def abandonSave (c : AbandonCause) (s : State) : State :=
  if s.store.save = .running then
    later (.raise .saveEnd) (setStore { s.store with save := .abandoned, cause := some c } s)
  else s

/-! ### The record slot -/

def setRtu (x : RideThrough) (s : State) : State := { s with rtu := x }

/-- A record write is asked for (R114). -/
def askWrite (s : State) : State :=
  let rec' := s.rtu.record
  setRtu { s.rtu with write :=
    match s.rtu.write with
    | .idle => .writing rec' s.now none
    | .writing r b _ => .writing r b (some rec') } s

/-- RECORD_WRITE_COMPLETE (R114; log 23). -/
def recordWriteDone (s : State) : State :=
  match s.rtu.write with
  | .idle => s
  | .writing r b next =>
    let s := advance (b + Config.recordWriteLeast) s
    let s := setStore { s.store with slot := .holds r } s
    setRtu { s.rtu with write :=
      match next with
      | some n => .writing n s.now none
      | none => .idle } s

/-- The copy that start-up fills from the slot (R115). -/
def Slot.copy : Slot → Record
  | .never => Record.blank .empty
  | .cutOff => Record.blank .damaged
  | .holds r => if r.outcome = some .inProgress then { r with outcome := some .interrupted } else r

/-- The slot after a reset: a write under way is cut off, with another pending behind it or not: of R115's sentences on a
pending write, the model's reading (log 49). -/
def State.slotAfterReset (s : State) : Slot :=
  match s.rtu.write with
  | .idle => s.store.slot
  | .writing _ _ _ => .cutOff

/-! ### The start-up load (R185, R186) -/

/-- Distinct values. -/
def distinct {α : Type} [DecidableEq α] (l : List α) : Bool := decide l.Nodup

def RailStatic.en? (x : RailStatic) : Option (Fin 12) :=
  match x.path with
  | .onPart e => some e
  | .board _ _ _ _ => none

def RailStatic.dis? (x : RailStatic) : Option (Fin 8) :=
  match x.discharge with
  | .none => none
  | .bleed o => some o
  | .force o _ => some o

def RailStatic.boardId? (x : RailStatic) : Option (Port × Fin 32) :=
  match x.path with
  | .onPart _ => none
  | .board p i _ _ => some (p, i)

/-- No two of the rails share a sense channel, an EN or DIS output, or a port with a BOARD_ID (R25). -/
def noneShared (l : List RailStatic) : Bool :=
  distinct (l.filterMap RailStatic.sense) && distinct (l.filterMap RailStatic.en?) &&
  distinct (l.filterMap RailStatic.dis?) && distinct (l.filterMap RailStatic.boardId?)

/-- G1's checks (R185): of R1 and R25 for each USED rail, of R39 for each channel. -/
def groupOneFits (rails : List RailStatic) : Bool :=
  (allRails.all (fun r =>
    let x := rails.getD r.val RailStatic.unused
    !x.used || (railFits r x && (railsOf x.prereqs).all (fun q => (rails.getD q.val RailStatic.unused).used)))) &&
  noneShared (rails.filter RailStatic.used)

/-- A stored rail; one that is not USED is taken as it decodes, without its checks (R185). -/
def storedRail (b : List Byte) (i : Nat) : Option RailStatic :=
  match decRail b (24 * i) with
  | some x => some x
  | none => if bitAt (at1 b (24 * i)) 0 then none else some RailStatic.unused

def loadOne (b : List Byte) (s : State) : Option State :=
  match allSome ((List.range 24).map (storedRail b)) with
  | some rails =>
    let th (i : Nat) : Nat × Nat × Nat := (at2 b (576 + 5 * i), at2 b (578 + 5 * i), at1 b (580 + 5 * i))
    if groupOneFits rails && (List.range 8).all (fun i => thresholdsFit (th i).1 (th i).2.1 (th i).2.2) then
      some { s with
        rails := Vector.ofFn (fun r => { s.rails.get r with static := rails.getD r.val RailStatic.unused })
        chans := Vector.ofFn (fun c => { s.chans.get c with low := (th c.val).1, high := (th c.val).2.1, debounce := (th c.val).2.2 }) }
    else none
  | none => none

/-- No two non-empty entries hold one key (R143). -/
def keysDistinct (l : List (Option AdmitEntry)) : Bool :=
  distinct ((l.filterMap id).map (fun e => (e.port, e.cls)))

def loadTwo (b : List Byte) (s : State) : Option State :=
  match allSome ((List.range 64).map (fun i => decAdmit b (12 * i))) with
  | some l => if keysDistinct l then some { s with fwd := { s.fwd with admission := vecOf 64 none l } } else none
  | none => none

/-- A stored header (R73). -/
def storedHeader (b : List Byte) (n : Nat) : Option Header :=
  let o := 2048 + 3 * n
  let h : Header := { first := at1 b o, count := at1 b (o + 1), priority := at1 b (o + 2) }
  if headerFits n h then some h else none

/-- A stored template; port 0 is an empty one (log 22). -/
def storedTemplate (b : List Byte) (n : Nat) : Option (Option Template) :=
  let o := 2084 + 21 * n
  if at1 b o = 0 then some none else (decTemplate b o).map some

def loadThree (b : List Byte) (s : State) : Option State :=
  match allSome ((List.range 256).map (fun i => decStep b (8 * i))), allSome ((List.range 12).map (storedHeader b)),
      allSome ((List.range 16).map (storedTemplate b)) with
  | some steps, some headers, some templates =>
    let s' := { s with seq := { s.seq with
      steps := vecOf 256 Step.initial steps
      headers := vecOf 12 (Header.initial 0) headers
      templates := vecOf 16 none templates } }
    if s'.zeroHas StepKind.isRailOn then none else some s'
  | _, _, _ => none

def loadFour (b : List Byte) (s : State) : Option State :=
  (decPlan b).map (fun p => { s with rtu := { s.rtu with plan := p } })

/-- The windows, FAIR values, order hold limit and default mask take effect at once (R178). -/
def applyPortSettings (x : PortSettings) (s : State) : State :=
  { s with
    ports := Vector.ofFn (fun i => { s.ports.get i with windowMs := x.windows.getD i.val 20, fair := x.fairs.getD i.val 4 })
    fwd := { s.fwd with orderHoldMs := x.orderHoldMs }
    ev := { s.ev with defaultMask := x.defaultMask } }

def loadFive (b : List Byte) (s : State) : Option State := (decPortSettings b).map (fun x => applyPortSettings x s)

def loadGroup (g : Fin 5) (b : List Byte) (s : State) : Option State :=
  match g with
  | 0 => loadOne b s
  | 1 => loadTwo b s
  | 2 => loadThree b s
  | 3 => loadFour b s
  | 4 => loadFive b s

/-- CONFIG_FALLBACK joins the pending set; no requesting set is computed yet (R171, R185). -/
def fallback (s : State) : State :=
  { s with ev := { s.ev with pending := s.ev.pending ||| EventKind.configFallback.bit } }

def setLoad (g : Fin 5) (x : LoadResult) (s : State) : State :=
  setStore { s.store with loads := s.store.loads.set g x } s

/-- One group judged by its accept code, its CRC and its fitness; the tables hold its defaults before (R185). -/
def judgeGroup (g : Fin 5) (s : State) : State :=
  let a := s.store.groups.get g
  if a.code ≠ 0xA5 then
    (if a.code = 0xFF then setLoad g .code s else fallback (setLoad g .code s))
  else if crc16 a.contents ≠ a.crc then fallback (setLoad g .crc s)
  else
    match loadGroup g a.contents s with
    | some s' => setLoad g .stored s'
    | none => fallback (setLoad g .unfit s)

/-- G3 and G4 back on their defaults (R71, R184's table of defaults). -/
def defaultThree (s : State) : State :=
  { s with seq := { s.seq with steps := Sequencer.initial.steps, headers := Sequencer.initial.headers,
                               templates := Sequencer.initial.templates } }
def defaultFour (s : State) : State := { s with rtu := { s.rtu with plan := Plan.initial } }

/-- R186 item 1. -/
def crossBulk (s : State) : State :=
  match s.rtu.plan.bulk with
  | some c =>
    if allRails.any (fun r => (s.rail r).static.used && (s.rail r).static.sense == some c) then
      fallback (setLoad 3 .unfit (defaultFour s))
    else s
  | none => s

/-- R186 item 2. -/
def crossBudget (s : State) : State :=
  if s.budgetOk then s else fallback (setLoad 2 .budget (setLoad 3 .budget (defaultThree (defaultFour s))))

/-- A reference to a program of another priority is none (R186 item 3). -/
def State.keepRole (s : State) (priority : Nat) (n : Option ProgNo) : Option ProgNo :=
  n.filter (fun p => (s.header p).priority == priority)

def RailStatic.keepRole (s : State) (x : RailStatic) : RailStatic :=
  { x with faultAction := s.keepRole 2 x.faultAction }

def Plan.keepRoles (s : State) (p : Plan) : Plan :=
  { p with
    levels := p.levels.map (fun l => { l with program := s.keepRole 2 l.program })
    resume := match p.resume with
      | .wait => .wait
      | .auto d n => if (s.header n).priority = 1 then .auto d n else .wait }

/-- R186 item 3. It looks at all 24 rail records, USED clear too: the model's reading (log 50). -/
def crossRoles (s : State) : State :=
  let plan := s.rtu.plan.keepRoles s
  let changed := plan != s.rtu.plan || allRails.any (fun r => (s.rail r).static.keepRole s != (s.rail r).static)
  let s := { s with
    rails := Vector.ofFn (fun r => { s.rails.get r with static := (s.rails.get r).static.keepRole s })
    rtu := { s.rtu with plan := plan } }
  if changed then fallback s else s

/-- The start-up load of a part whose tables hold the defaults: the five groups, the checks of the groups
together, roles, marks and the mask, and the record copy (R115, R171, R185, R186; log 25). -/
def startupLoad (s : State) : State :=
  let s := (List.finRange 5).foldl (fun s g => judgeGroup g s) s
  let s := rebuildMarks (refreshRoles (crossRoles (crossBudget (crossBulk s))))
  { s with ev := { s.ev with mask := s.ev.defaultMask }, rtu := { s.rtu with record := s.store.slot.copy } }

end Sys2Proof.Machine
end

