-- ==== Sys2Proof/Machine/RideThrough.lean ====
section
/-! DEFINITION. The Ride-Through Unit: triggers, the stage machine, commit, DARK and resume (R94 to R112). -/

namespace Sys2Proof.Machine

/-- The shed level of a stage (R106). -/
def shedOf (st : Stage) (deepest : Nat) : Nat :=
  match st with
  | .shed k => k
  | .recover => deepest
  | _ => 0

/-- The new shed level, handed to the Forwarding Unit where it changed (R95, R106). -/
def setLevel (n : Nat) (s : State) : State :=
  if n = s.rtu.shedLevel then s
  else later .pass { s with rtu := { s.rtu with shedLevel := n }, fwd := { s.fwd with shedLevel := n } }

/-- A change of stage: the stage, then the level and the orders (R95). STAGE_CHANGE is handed right after the stage: the
model's choice (log 46). -/
def setStage (st : Stage) (s : State) : State :=
  setLevel (shedOf st s.rtu.deepest) (later (.raise .stageChange) (setRtu { s.rtu with stage := st } s))

/-- Every trigger timer stops (R94, R96). -/
def stopTriggers (s : State) : State :=
  setRtu { s.rtu with levelTimers := Vector.replicate 4 none, commitTimer := none } s

/-- A timer from LOSS_TIME, where its time is not 0 (R94). -/
def State.fromLoss (s : State) (ms : Nat) : Option Time := if ms = 0 then none else some (s.now + Config.ms ms)

/-- LOSS_TIME is now, and the trigger timers start from it (R94, R97, R102). -/
def startTriggers (s : State) : State :=
  setRtu { s.rtu with
    lossTime := some s.now
    levelTimers := Vector.ofFn (fun i => s.fromLoss (s.rtu.plan.afterMs i))
    commitTimer := s.fromLoss s.rtu.plan.commitAfterMs } s

/-- An episode ends (R94). -/
def endEpisode (s : State) : State :=
  stopTriggers (setRtu { s.rtu with lossTime := none, deepest := 0 } s)

/-- The stage goes to LINE_OK with the episode ended (R99, R101). -/
def toLineOk (s : State) : State := setStage .lineOk (endEpisode s)

/-- DARK is left for LINE_OK (R111). -/
def leaveDark (s : State) : State :=
  setStage .lineOk (setRtu { s.rtu with armed := false, resumeDelay := none } s)

/-- The look at whether DARK is to be left (R111). -/
def lookAtDark (s : State) : State :=
  if s.line.state ≠ .present then s
  else
    match s.rtu.armed, s.rtu.plan.resume with
    | true, .auto d _ => setRtu { s.rtu with resumeDelay := some (s.now + Config.ms d) } s
    | _, _ => leaveDark s

/-- A bulk mark's BELOW flag (R96). -/
def State.below (s : State) (id : TriggerId) : Bool := s.marks.any (fun m => m.id == id && m.below)

/-- A time since LOSS_TIME has passed (R96). -/
def State.passed (s : State) (ms : Nat) : Bool :=
  ms != 0 &&
    match s.rtu.lossTime with
    | some t => t + Config.ms ms ≤ s.now
    | none => false

/-- Level i + 1's trigger is met (R96). -/
def State.levelMet (s : State) (i : Fin 4) : Bool :=
  s.below (.level i) || s.passed (s.rtu.plan.afterMs i)

/-- The deepest level whose trigger is met, 0 for none (R96). -/
def State.deepestMet (s : State) : Nat :=
  ((List.finRange 4).filter s.levelMet).foldl (fun n i => max n (i.val + 1)) 0

/-- SHED(j) is entered from DIP or a shallower SHED (R98). -/
def enterShed (j : Nat) (s : State) : State :=
  let first := s.rtu.stage == .dip
  let s := setStage (.shed j) (setRtu { s.rtu with deepest := j } s)
  let s := if first then later .startHead (later .dropLow (later .shedAbandon s)) else s
  match s.rtu.plan.levelProgram (j - 1) with
  | some n => later (.request n .holdup) s
  | none => s

/-- The milliseconds since LOSS_TIME, capped (R93, R107). -/
def State.sinceLoss (s : State) : Option Nat := s.rtu.lossTime.map (fun t => min 65535 (msOf (s.now - t)))

/-- The bulk channel's LAST (R107). -/
def State.bulkLast (s : State) : Option Nat := s.rtu.plan.bulk.bind (fun c => (s.chan c).last)

/-- The record copy at entry into COMMIT (R107 item 2). -/
def State.commitRecord (s : State) (c : CommitCause) : Record :=
  { integrity := .good, cause := some c, stageAt := some s.rtu.stage, deepest := some s.rtu.deepest,
    msLoss := s.sinceLoss, bulkAt := s.bulkLast, lineReturned := false, outcome := some .inProgress,
    failedSteps := none }

/-- Entry into COMMIT (R107). -/
def enterCommit (c : CommitCause) (s : State) : State :=
  let record := s.commitRecord c
  let s := stopTriggers (setRtu { s.rtu with stage := .commit, record := record } s)
  let s := endEpisode (askWrite s)
  let s := setLevel 0 (commitClosure s)
  later .commitEvents (later .commitRequest (abandonSave .commit s))

/-- COMMIT set pending alongside STAGE_CHANGE, in an order the spec leaves open (R107 item 7; log 21). The order
can be seen only where both are enabled and nothing is requesting yet (R168). -/
def commitEvents (s : State) : State :=
  let both := EventKind.commit.bit ||| EventKind.stageChange.bit
  if s.ev.requesting = 0 ∧ s.ev.mask &&& both = both then
    let t := draw s
    if Config.commitKindFirst s.choices then raise .stageChange (raise .commit t) else raise .commit (raise .stageChange t)
  else raise .stageChange (raise .commit s)

/-- The look at the triggers after DIP, or SHED from RECOVER, is entered (R95, R96). -/
def look (s : State) : State :=
  let commitTime := s.passed s.rtu.plan.commitAfterMs
  let go (k : Nat) : State :=
    if s.below .commit then enterCommit .bulkLow s
    else if commitTime then enterCommit .lineLoss s
    else if k < s.deepestMet then enterShed s.deepestMet s
    else s
  match s.rtu.stage with
  | .dip => go 0
  | .shed k => go k
  | _ => s

/-- One trigger taken as met in the stage that takes it (R96, R98, R103). -/
def triggerMet (id : TriggerId) (bulk : Bool) (s : State) : State :=
  match id, s.rtu.stage with
  | .level i, .dip => enterShed (i.val + 1) s
  | .level i, .shed k => if k < i.val + 1 then enterShed (i.val + 1) s else s
  | .commit, .dip => enterCommit (if bulk then .bulkLow else .lineLoss) s
  | .commit, .shed _ => enterCommit (if bulk then .bulkLow else .lineLoss) s
  | .commit, .lineOk => if bulk then enterCommit .bulkLow s else s
  | .commit, .recover => if bulk then enterCommit .bulkLow s else s
  | _, _ => s

/-- A bulk mark's report (R36, R96). -/
def markReport (id : TriggerId) (below : Bool) (s : State) : State := if below then triggerMet id true s else s

/-- TRIGGER_TIMER_EXPIRY (R94, R96). -/
def triggerExpiry (id : TriggerId) (s : State) : State :=
  match id with
  | .level i =>
    match s.rtu.levelTimers.get i with
    | some t =>
      let s := advance t s
      triggerMet id false (setRtu { s.rtu with levelTimers := s.rtu.levelTimers.set i none } s)
    | none => s
  | .commit =>
    match s.rtu.commitTimer with
    | some t =>
      let s := advance t s
      triggerMet id false (setRtu { s.rtu with commitTimer := none } s)
    | none => s

/-- A line-lost report (R97, R102, R108, R112). -/
def lineLost (s : State) : State :=
  match s.rtu.stage with
  | .lineOk =>
    let s := startTriggers (setStage .dip (setRtu { s.rtu with deepest := 0 } s))
    later .look (abandonSave .lineLoss s)
  | .recover =>
    let s := startTriggers (setStage (.shed s.rtu.deepest) s)
    let s := later .dropRestore (later .abandonRestore s)
    let s := match s.rtu.plan.levelProgram (s.rtu.deepest - 1) with
      | some n => later (.request n .holdup) s
      | none => s
    later .look s
  | .dark => setRtu { s.rtu with resumeDelay := none } s
  | _ => s

/-- A line-back report (R99, R100, R108, R111). -/
def lineBack (s : State) : State :=
  match s.rtu.stage with
  | .dip => toLineOk s
  | .shed _ => later (.request 1 .holdup) (stopTriggers (setStage .recover s))
  | .commit => setRtu { s.rtu with record := { s.rtu.record with lineReturned := true } } s
  | .dark => lookAtDark s
  | _ => s

/-- An end of RESTORE, with any outcome (R101). -/
def restoreEnd (s : State) : State :=
  match s.rtu.stage with
  | .recover => toLineOk s
  | _ => s

/-- The end of program 0 (R109 item 1; the rest follows the final drop). -/
def zeroEnd (failed : Nat) (s : State) : State := later (.enterDark failed) (later (.finalDrop 0) s)

/-- R109 items 2 to 5. -/
def enterDark (failed : Nat) (s : State) : State :=
  let s := askWrite (setRtu { s.rtu with
    record := { s.rtu.record with outcome := some .complete, failedSteps := some failed } } s)
  lookAtDark (setStage .dark (setRtu { s.rtu with armed := true } s))

/-- RESUME_DELAY_EXPIRY (R112). -/
def resumeExpiry (s : State) : State :=
  match s.rtu.resumeDelay with
  | some t =>
    if s.rtu.stage = .dark then
      let s := leaveDark (advance t s)
      match s.rtu.plan.resume with
      | .auto _ n => later (.request n .resume) s
      | .wait => s
    else s
  | none => s

end Sys2Proof.Machine
end

