-- ==== Sys2Proof/Machine/Ports.lean ====
section
/-! DEFINITION. The downstream ports: link states, the agreed record, departures, board resets, what a received
frame does and what a completed transmission does (R126 to R137, R140). -/

namespace Sys2Proof.Machine

/-- The USED rails whose PATH is BOARD on the port, and whether the board listed their BOARD_ID (R130). -/
def State.portRails (s : State) (p : Port) (ids : List (Fin 32)) (listed : Bool) : List RailId :=
  allRails.filter (fun r =>
    (s.rail r).static.used &&
      match (s.rail r).static.boardId? with
      | some (q, i) => q == p && ids.contains i == listed
      | none => false)

/-- The agreed record of a capability record (R130). -/
def State.agree (s : State) (p : Port) (c : Capability) : Agreed :=
  { boardKind := c.boardKind, limit := min c.maxPayload 60, notices := c.notices, syncSource := c.syncSource,
    ids := c.ids, rails := s.portRails p c.ids true, mismatch := s.portRails p c.ids false }

/-- The agreed record recomputed from the Rail Table (R26, R130). -/
def State.reagree (s : State) (p : Port) (a : Agreed) : Agreed :=
  { a with rails := s.portRails p a.ids true, mismatch := s.portRails p a.ids false }

/-- A new agreed record with its differences handed on (R130). -/
def setAgreed (p : Port) (old : List RailId × List RailId) (a : Agreed) (s : State) : State :=
  let s := modPort p (fun x => { x with agreed := some a }) s
  let lost := old.1.filter (fun r => !a.rails.contains r)
  let s := if lost.isEmpty then s else later (.pathLost lost) s
  if a.mismatch.any (fun r => !old.2.contains r) then later (.raise .capMismatch) s else s

/-- An accepted LOAD_RAIL's recomputation for a port (R26). -/
def refreshAgreed (p : Port) (s : State) : State :=
  match (s.port p).agreed with
  | some a => if s.isUp p then setAgreed p (a.rails, a.mismatch) (s.reagree p a) s else s
  | none => s

/-- EXCHANGE is left: probing stops, and a probe under way is cut off (R128, R140). -/
def leaveExchange (p : Port) (target : LinkState) (s : State) : State :=
  let s := if (s.port p).owner == some .probe then cutOff p s else s
  modPort p (fun x => { x with link := target, probeCount := 0, probeTimer := none, probeWaiting := false }) s

/-- A valid capability frame in EXCHANGE (R131). The latch is set also where the link went down and came back, whatever
READ_PORT is then said to find (R135): the model's choice (log 54). -/
def enterUp (p : Port) (c : Capability) (s : State) : State :=
  let s := leaveExchange p .up s
  let s := setAgreed p ([], []) (s.agree p c) s
  later (.raise .linkChange) (modPort p (fun x => { x with latch := true }) s)

/-- A valid capability frame in UP (R132). LINK_CHANGE is handed before the step that waits for a notice fails: the model's
choice (log 53). -/
def unsolicited (p : Port) (c : Capability) (s : State) : State :=
  match (s.port p).agreed with
  | some old =>
    let new := s.agree p c
    let s := setAgreed p (old.rails, old.mismatch) new s
    let s := if new = old then s else later (.raise .linkChange) s
    if old.notices && !new.notices then later (.seqNoticesLost p) s else s
  | none => s

/-- A port leaves UP (R133): the order of the items is the rule's. -/
def leaveUp (p : Port) (s : State) : State :=
  let lost := s.agreedRails p
  let s := modPort p (fun x => { x with link := .down, agreed := none, latch := false }) (cutOff p s)
  let s := later (.pathLost lost) (portFlush p s)
  later (.raise .linkChange) (later (.seqPortDown p) s)

/-- A port enters DOWN from any state (R133, R134). -/
def toDown (p : Port) (s : State) : State :=
  match (s.port p).link with
  | .up => leaveUp p s
  | .exchange => leaveExchange p .down s
  | _ => modPort p (fun x => { x with link := .down }) s

/-- PRESENT_RISES (R127); before start-up is over only the level is there to be seen (R192). -/
def presentRise (p : Port) (s : State) : State :=
  let s := modPort p (fun x => { x with present := true }) s
  if s.phase = .running then lookAtPort p s else s

/-- PRESENT_FALLS (R133). -/
def presentFall (p : Port) (s : State) : State :=
  let s := modPort p (fun x => { x with present := false }) s
  if s.phase = .running then toDown p s else s

/-- PROBE_TIMER_EXPIRY (R128). -/
def probeExpiry (p : Port) (s : State) : State :=
  match (s.port p).probeTimer with
  | some t =>
    if (s.port p).link = .exchange then
      let s := modPort p (fun x => { x with probeTimer := none }) (advance t s)
      if (s.port p).probeCount < 4 then sendProbe p s
      else later (.raise .linkChange) (leaveExchange p .failed s)
    else s
  | none => s

/-- The board reset pulse starts (R134). -/
def startPulse (p : Port) (s : State) : State :=
  modPort p (fun x => { x with brst := true, pulse := some (s.now + Config.resetPulse) }) s

/-- RESET_PULSE_EXPIRY (R134). -/
def pulseExpiry (p : Port) (s : State) : State :=
  match (s.port p).pulse with
  | some t => lookAtPort p (modPort p (fun x => { x with brst := false, pulse := none }) (advance t s))
  | none => s

/-- A capability frame (R129). -/
def capability (payload : List Byte) (act : Capability → State → State) (s : State) : State :=
  match decCapability payload with
  | some c => act c s
  | none => later (.raise .linkError) s

/-- The rail of a rail-control tag (R4, R137). -/
def railOfTag (tag : Byte) : Option RailId := if 0xC0 ≤ tag.toNat then railOf? (tag.toNat - 0xC0) else none

/-- A well-formed frame from the port's own board, in UP (R137). -/
def route (p : Port) (f : Frame) (s : State) : State :=
  if f.kind = kindReply ∧ f.dest = 0 then
    match railOfTag f.tag with
    | some r => railReply r f.payload s
    | none => if 0xE0 ≤ f.tag.toNat then seqReply p f.tag f.payload s else later (.raise .linkError) s
  else if f.kind = kindReply ∧ f.dest = 7 then boardReplyTaken p f s
  else if f.kind = kindNotice ∧ f.dest = 7 then noticeTaken p f s
  else if f.kind = kindCapability ∧ f.dest = 0 then capability f.payload (unsolicited p) s
  else later (.raise .linkError) s

/-- A frame received on a downstream port (R120, R136). The link state at its last byte decides whether it is taken,
wherever it began: the model's choice (log 47). -/
def receiveDown (p : Port) (f : Frame) (s : State) : State :=
  if s.phase ≠ .running then s
  else
    match (s.port p).link with
    | .exchange =>
      if !f.ok || f.src != p.addr then later (.raise .linkError) s
      else if f.kind = kindCapability ∧ f.dest = 0 then capability f.payload (enterUp p) s
      else later (.raise .linkError) s
    | .up => if !f.ok || f.src != p.addr then later (.raise .linkError) s else route p f s
    | _ => s

/-- A run of bytes received on a downstream port (R120). -/
def receiveDownBytes (p : Port) (b : List Byte) (s : State) : State :=
  match frameOfBytes b with
  | some f => receiveDown p f s
  | none =>
    if s.phase = .running ∧ ((s.port p).link = .exchange ∨ (s.port p).link = .up) then later (.raise .linkError) s else s

/-- The probe has been transmitted (R128, R140). -/
def probeSent (p : Port) (s : State) : State :=
  if (s.port p).link = .exchange then modPort p (fun x => { x with probeTimer := some (s.now + Config.probeTime) }) s
  else s

/-- DOWNSTREAM_TX_COMPLETE: the completion is reported to the claimant that offered the frame (R140). -/
def downTxComplete (p : Port) (s : State) : State :=
  match (s.port p).line with
  | .sending owner _ done =>
    let s := advance done s
    let s := modPort p (fun x => { x with line := .stretch (s.now + Config.idleStretch) }) s
    match owner with
    | some (.rail r) => railFrameSent p r s
    | some .probe => probeSent p s
    | some .sequencer => seqSent p s
    | some .forward => forwardSent p s
    | none => s
  | _ => s

end Sys2Proof.Machine
end

