-- ==== Sys2Proof/Machine/Startup.lean ====
section
/-! DEFINITION. The four resets and the start-up sequence (R27, R190 to R192). -/

namespace Sys2Proof.Machine

/-- The store as a reset leaves it: its contents, its status cleared (R184, R190). -/
def State.storeAfterReset (s : State) : Store :=
  { Store.factory with groups := s.store.groups, slot := s.slotAfterReset }

/-- A reset, from its release on: every block at its reset value; the clock, the input pins and the store's
contents stay (R190, R192; logs 3, 27). The commands waiting outside stay too. -/
def doReset (c : ResetCause) (s : State) : State :=
  { State.reset with
    pending := s.pending
    now := s.now
    choices := s.choices
    phase := .waiting (s.now + Config.startupWait)
    cause := c
    ports := Vector.ofFn (fun i => PortRec.initial (s.ports.get i).present)
    up := Upstream.initial s.up.present
    store := s.storeAfterReset }

/-- STARTUP_WAIT_END: the store is loaded and the record slot read (R192 item 3; log 25). -/
def startupWaitEnd (s : State) : State :=
  match s.phase with
  | .waiting due => { startupLoad (advance due s) with phase := .loading }
  | _ => s

/-- Every USED rail starts FALLING under FALL_MS, with no DIS output asserted (R27). -/
def startRails (s : State) : State :=
  { s with rails := Vector.ofFn (fun r =>
      let x := s.rails.get r
      if x.static.used then
        { x with dyn := { RailDynamic.idle with state := .falling, timer := some (s.now + Config.ms x.static.fallMs) } }
      else { x with dyn := RailDynamic.idle }) }

/-- The requesting set computed as the outputs are enabled (R171). -/
def startEvents (s : State) : State := followRequesting 0 s

/-- STARTUP_LOAD_COMPLETE: outputs inactive, timers and converter start, ACTIVE in DARK, ports brought up
(R192 items 4 and 5). -/
def startupLoadComplete (s : State) : State :=
  match s.phase with
  | .loading =>
    let s := startRails { s with
      phase := .running
      mode := .active
      conv := { running := true, next := 0, roundDue := s.now } }
    lookAtPorts (startEvents s)
  | _ => s

end Sys2Proof.Machine
end

