-- ==== Sys2Proof/Machine/Requests.lean ====
section
/-! DEFINITION. The Management Unit: the bodies of the 31 requests, each with its checks in the order of its rule
and its reply (R172 to R183). -/

namespace Sys2Proof.Machine

/-- The first failing check gives the refusal; else the request acts (R172). -/
def checked (checks : List (Bool × Byte)) (f : Frame) (act : State → State) (s : State) : State :=
  match checks.find? (fun x => x.1) with
  | some (_, st) => answer f st s
  | none => act s

/-- The one-byte number that a request names. -/
def Frame.arg (f : Frame) (i : Nat) : Nat := at1 f.payload i

/-! ### Identity and status -/

/-- IDENTIFY's data (R174, R183). -/
def State.identity (s : State) : List Byte :=
  [0x41, 0x60, 0x01, byteOf s.cause.code, 24, 8] ++ bytes2 256 ++ [12, 16, 64, 16, 8, 4, 4, 24, 7, 60]

def reqIdentify (f : Frame) (s : State) : State := accept f s.identity s

/-- Save state and save group as READ_STORE_STATUS gives them (R183). -/
def Store.saveBytes (x : Store) : List Byte :=
  [byteOf x.save.code, match x.group with
    | some g => byteOf (g.val + 1)
    | none => 0]

def State.holdCount (s : State) (x : HoldReason) : Nat := (s.fwd.hold.filter (fun e => e.reason == x)).length

/-- SNAPSHOT's data (R175, R183). -/
def State.snapshot (s : State) (before : Mode) : List Byte :=
  [if before = .active then 0 else 1, byteOf s.rtu.stage.code, byteOf s.rtu.shedLevel, byteOf s.line.state.code] ++
  (match s.seq.ctx with
   | some c => [byteOf c.program.val, byteOf c.index]
   | none => [0xFF, 0]) ++
  [byteOf s.sched.queue.length, byteOf s.fwd.hold.length, byteOf (s.holdCount .shed), byteOf (s.holdCount .order),
   byteOf (s.holdCount .prereq), byteOf (s.holdCount .claimed)] ++
  Port.all.map (fun p => byteOf (s.port p).link.code) ++
  Port.all.map (fun p => byteOf (16 * (s.queue p).length + (s.outs p).length)) ++
  (List.finRange 12).map (fun k => byteOf (16 * (s.railState ⟨2 * k.val, by omega⟩).code +
    (s.railState ⟨2 * k.val + 1, by omega⟩).code)) ++
  bytes2 s.ev.pending.toNat ++ bytes2 s.ev.requesting.toNat ++ s.store.saveBytes

def reqSnapshot (before : Mode) (f : Frame) (s : State) : State := accept f (s.snapshot before) s

/-! ### Events -/

/-- READ_EVENTS: the reply first, then the requesting kinds are collected (R169). -/
def reqReadEvents (f : Frame) (s : State) : State :=
  let req := s.ev.requesting
  changeEvents (fun e => { e with pending := e.pending &&& ~~~req })
    (accept f (bytes2 s.ev.pending.toNat ++ bytes2 req.toNat) s)

/-- SET_MASK (R166). -/
def reqSetMask (f : Frame) (s : State) : State :=
  accept f [] (changeEvents (fun e => { e with mask := BitVec.ofNat 16 (at2 f.payload 0) }) s)

/-- CLEAR_EVENTS (R170). -/
def reqClearEvents (f : Frame) (s : State) : State :=
  accept f [] (changeEvents (fun e => { e with pending := 0 }) s)

/-! ### Rails and sense -/

/-- Another USED rail than r satisfies the test. -/
def State.otherRail (s : State) (r : RailId) (p : RailStatic → Bool) : Bool :=
  allRails.any (fun q => q != r && (s.rail q).static.used && p (s.rail q).static)

/-- Two optional outputs, channels or ids that are both there and equal. -/
def sharesSome {α : Type} [DecidableEq α] (a b : Option α) : Bool := a.isSome && decide (a = b)

/-- R25 item 4's checks against the other tables. -/
def State.railConflicts (s : State) (r : RailId) (x : RailStatic) : Bool :=
  (railsOf x.prereqs).any (fun q => !(s.rail q).static.used) ||
  (match x.faultAction with
   | some n => (s.header n).priority != 2
   | none => false) ||
  (x.sense.isSome && x.sense == s.rtu.plan.bulk) ||
  s.otherRail r (fun y => sharesSome x.sense y.sense || sharesSome x.en? y.en? || sharesSome x.dis? y.dis? ||
    sharesSome x.boardId? y.boardId?)

/-- R25 item 5. -/
def State.railInUse (s : State) (r : RailId) (x : RailStatic) : Bool :=
  s.railState r != .off || s.railHeld r ||
  (!x.used && s.otherRail r (fun y => inSet y.prereqs r))

/-- The static record replaced, the dynamic fields idle (R26). -/
def putRail (r : RailId) (x : RailStatic) (s : State) : State := setRail r { static := x, dyn := RailDynamic.idle } s

/-- The ports that the old or the new record names have their agreed records recomputed (R26). -/
def refreshPath (x : RailStatic) (s : State) : State :=
  match x.port? with
  | some p => refreshAgreed p s
  | none => s

/-- An accepted LOAD_RAIL (R26, R30). -/
def loadRailAct (r : RailId) (x : RailStatic) (f : Frame) (s : State) : State :=
  let old := (s.rail r).static
  let s := refreshRoles (putRail r x s)
  let s := refreshPath x s
  let s := if old.port? = x.port? then s else refreshPath old s
  acceptLater f s

/-- LOAD_RAIL (R25; log 11). -/
def reqLoadRail (f : Frame) (s : State) : State :=
  match railOf? (f.arg 0) with
  | none => answer f stBadIndex s
  | some r =>
    checked [(s.rtu.stage == .commit, stCommitted), (s.saving, stBusy)] f (fun s =>
      match decRail f.payload 1 with
      | none => answer f stBadRequest s
      | some x =>
        checked [
          (!railFits r x || s.railConflicts r x, stBadRequest),
          (s.railInUse r x, stInUse),
          (s.zeroHas (fun k => k.rail? == some r) && !(putRail r x s).budgetOk, stBudget)] f (loadRailAct r x f) s) s

def Claim.bytes : Claim → List Byte
  | .none => [0, 0, 0]
  | .step => [1, 0, 0]
  | .frame p t => [2, byteOf p.number, t]

def RailFrame.bytes (x : RailFrame) : List Byte :=
  [if x.isOn then 1 else 2,
   byteOf (x.attempt + (if x.mark = .waiting then 0 else 4) + (if x.forStep then 0 else 8) + (if x.thenOff then 16 else 0))]

/-- LAST of the channel that the rail's record names, absent where SENSE is none or no sample has come (R176). DESIGN CHOICE,
unsafe: the record's SENSE decides also where USED is clear, which R176 and R30 leave open (log 56). -/
def State.railLast (s : State) (r : RailId) : Option Nat :=
  (s.rail r).static.sense.bind (fun c => (s.chan c).last)

/-- An absent two-byte time or reading is 0xFFFF (R180). -/
def orFFFF (x : Option Nat) : List Byte := bytes2 (x.getD 0xFFFF)

/-- The live half of READ_RAIL's data (R183). -/
def State.railLive (s : State) (r : RailId) : List Byte :=
  let d := (s.rail r).dyn
  [byteOf (s.railState r).code, if d.heldGood then 1 else 0,
   match d.faultCause with
   | some c => byteOf c.code
   | none => 0] ++
  d.claim.bytes ++
  (match d.frame with
   | some x => x.bytes
   | none => [0, 0]) ++
  orFFFF (d.timer.map (fun t => msOf (s.left t))) ++ orFFFF (s.railLast r)

/-- HELD_GOOD re-armed to the rail's current state (R14). -/
def State.goodNow (s : State) (r : RailId) : Bool :=
  s.railState r == .on &&
    ((s.rail r).static.sense.isNone ||
      match s.railLast r with
      | some n => decide ((s.rail r).static.goodLevel ≤ n)
      | none => false)

/-- READ_RAIL (R14, R176). -/
def reqReadRail (f : Frame) (s : State) : State :=
  match railOf? (f.arg 0) with
  | none => answer f stBadIndex s
  | some r =>
    let good := s.goodNow r
    modDyn r (fun d => { d with heldGood := good })
      (accept f ([byteOf r.val] ++ encRail (s.rail r).static ++ s.railLive r) s)

/-- The reading that CLEAR_FAULT asks for (R23; log 35). -/
def State.safeNow (s : State) (r : RailId) : Bool :=
  (s.rail r).static.sense.isNone ||
    match s.railLast r with
    | some n => decide (n ≤ (s.rail r).static.safeLevel)
    | none => false

/-- CLEAR_FAULT (R23). -/
def reqClearFault (f : Frame) (s : State) : State :=
  match railOf? (f.arg 0) with
  | none => answer f stBadIndex s
  | some r =>
    checked [(s.railState r != .fault, stNothing), (!s.safeNow r, stNotSafe)] f
      (fun s => acceptLater f (moveRail r .off s)) s

/-- Thresholds replaced, counts at zero, alarm and LAST kept (R39). -/
def Channel.reload (c : Channel) (low high debounce : Nat) : Channel :=
  { c with low := low, high := high, debounce := debounce, lowCount := 0, highCount := 0, insideCount := 0, goodCount := 0 }

/-- Every mark's count at zero, where the channel is the bulk channel (R38, R39). -/
def zeroMarks (c : ChannelId) (s : State) : State :=
  if (s.chan c).role = .bulk then { s with marks := s.marks.map (fun m => { m with count := 0 }) } else s

/-- LOAD_CHANNEL (R39). -/
def reqLoadChannel (f : Frame) (s : State) : State :=
  match channelOf? (f.arg 0) with
  | none => answer f stBadIndex s
  | some c =>
    let low := at2 f.payload 1
    let high := at2 f.payload 3
    let debounce := f.arg 5
    checked [(s.saving, stBusy), (!thresholdsFit low high debounce, stBadRequest)] f
      (fun s => accept f [] (zeroMarks c (setChan c ((s.chan c).reload low high debounce) s))) s

/-- One channel of READ_SENSE (R183). -/
def Channel.bytes (c : Channel) : List Byte :=
  let role := match c.role with
    | .free => 0
    | .bound r => 64 + r.val
    | .bulk => 128
  [byteOf (role + (if c.last.isNone then 32 else 0))] ++
  bytes2 (16384 * c.alarm.code + 1024 * (c.debounce - 1) + c.low) ++ bytes3 (1024 * c.high + c.last.getD 0)

/-- One mark of READ_SENSE (R183). -/
def BulkMark.bytes (m : BulkMark) : List Byte :=
  let id := match m.id with
    | .level i => i.val + 1
    | .commit => 7
  bytes2 (8192 * id + (if m.below then 4096 else 0) + m.threshold)

/-- READ_SENSE (R40). -/
def reqReadSense (f : Frame) (s : State) : State :=
  accept f (s.chans.toList.flatMap Channel.bytes ++ [byteOf s.marks.length] ++
    (s.marks.flatMap BulkMark.bytes ++ List.replicate 10 0).take 10) s

/-! ### Admission -/

/-- Another index holds the entry's key (R145). -/
def State.keyTaken (s : State) (i : Fin 64) (e : AdmitEntry) : Bool :=
  (List.finRange 64).any (fun j => j != i &&
    match s.fwd.admission.get j with
    | some x => x.port == e.port && x.cls == e.cls
    | none => false)

/-- LOAD_ADMIT (R145). -/
def reqLoadAdmit (f : Frame) (s : State) : State :=
  match admitOf? (f.arg 0) with
  | none => answer f stBadIndex s
  | some i =>
    checked [(s.saving, stBusy)] f (fun s =>
      match decAdmit f.payload 1 with
      | none => answer f stBadRequest s
      | some e =>
        checked [(match e with
                  | some x => s.keyTaken i x
                  | none => false, stBadRequest)] f
          (fun s => accept f [] { s with fwd := { s.fwd with admission := s.fwd.admission.set i e } }) s) s

/-- READ_ADMIT (R146). -/
def reqReadAdmit (f : Frame) (s : State) : State :=
  match admitOf? (f.arg 0) with
  | none => answer f stBadIndex s
  | some i => accept f ([byteOf i.val] ++ encAdmit (s.fwd.admission.get i)) s

/-! ### Programs -/

/-- A program runs or has a request in the queue (R72 to R74). -/
def State.isBusyProg (s : State) (n : ProgNo) : Bool := s.isRunning n || s.isQueued n

/-- Pool records written from an index on (R72). -/
def writeSteps (start : Nat) (l : List Step) (s : State) : State :=
  let steps := (l.zipIdx start).foldl (fun v x => v.setIfInBounds x.2 x.1) s.seq.steps
  { s with seq := { s.seq with steps := steps } }

/-- LOAD_STEPS (R72). -/
def reqLoadSteps (f : Frame) (s : State) : State :=
  let start := f.arg 0
  let count := f.arg 1
  let written := (List.range count).map (fun k => start + k)
  checked [(256 < start + count, stBadIndex), (s.rtu.stage == .commit, stCommitted), (s.saving, stBusy),
      (count == 0 || 6 < count, stBadRequest)] f (fun s =>
    match allSome ((List.range count).map (fun k => decStep f.payload (2 + 8 * k))) with
    | none => answer f stBadRequest s
    | some l =>
      checked [
        ((List.finRange 12).any (fun n => s.isBusyProg n && written.any (s.inRange n)), stInUse),
        ((l.zipIdx start).any (fun x => x.1.kind.isRailOn && s.inRange 0 x.2), stRole),
        (written.any (s.inRange 0) && !(writeSteps start l s).budgetOk, stBudget)] f
        (fun s => accept f [] (writeSteps start l s)) s) s

/-- READ_STEPS (R75). -/
def reqReadSteps (f : Frame) (s : State) : State :=
  let start := f.arg 0
  let count := f.arg 1
  checked [(256 < start + count, stBadIndex), (count == 0 || 6 < count, stBadRequest)] f
    (fun s => accept f ([byteOf start, byteOf count] ++
      (List.range count).flatMap (fun k => encStep (s.stepAt (start + k)))) s) s

def putHeader (n : ProgNo) (h : Header) (s : State) : State :=
  { s with seq := { s.seq with headers := s.seq.headers.set n h } }

/-- R73 item 6: a role that the header's priority does not fit. -/
def State.roleConflict (s : State) (n : ProgNo) (h : Header) : Bool :=
  (n == 0 && (putHeader n h s).zeroHas StepKind.isRailOn) ||
  (h.priority != 2 &&
    (allRails.any (fun r => (s.rail r).static.used && (s.rail r).static.faultAction == some n) ||
      s.rtu.plan.levels.any (fun l => l.program == some n))) ||
  (h.priority != 1 &&
    match s.rtu.plan.resume with
    | .auto _ m => m == n
    | .wait => false)

/-- LOAD_PROGRAM (R73). -/
def reqLoadProgram (f : Frame) (s : State) : State :=
  match progOf? (f.arg 0) with
  | none => answer f stBadIndex s
  | some n =>
    let h : Header := { first := f.arg 1, count := f.arg 2, priority := f.arg 3 }
    checked [(s.rtu.stage == .commit, stCommitted), (s.saving, stBusy), (!headerFits n.val h, stBadRequest),
        (s.isBusyProg n, stInUse), (s.roleConflict n h, stRole),
        (n == 0 && !(putHeader n h s).budgetOk, stBudget)] f
      (fun s => accept f [] (putHeader n h s)) s

def putTemplate (t : Fin 16) (x : Template) (s : State) : State :=
  { s with seq := { s.seq with templates := s.seq.templates.set t (some x) } }

/-- A step names the template, as TEMPLATE or as CANCEL (R74). -/
def StepKind.namesTemplate (t : Fin 16) : StepKind → Bool
  | .send x => x == t
  | .awaitNotice _ _ _ c => c == some t
  | _ => false

/-- LOAD_TEMPLATE (R74). -/
def reqLoadTemplate (f : Frame) (s : State) : State :=
  match templateOf? (f.arg 0) with
  | none => answer f stBadIndex s
  | some t =>
    checked [(s.rtu.stage == .commit, stCommitted), (s.saving, stBusy)] f (fun s =>
      match decTemplate f.payload 1 with
      | none => answer f stBadRequest s
      | some x =>
        checked [
          ((List.finRange 12).any (fun n => s.isBusyProg n &&
            (s.rangeOf n).any (fun i => (s.stepAt i).kind.namesTemplate t)), stInUse),
          (s.zeroHas (fun k => k == .send t) && !(putTemplate t x s).budgetOk, stBudget)] f
          (fun s => accept f [] (putTemplate t x s)) s) s

/-- READ_PROGRAM (R75). -/
def reqReadProgram (f : Frame) (s : State) : State :=
  match progOf? (f.arg 0) with
  | none => answer f stBadIndex s
  | some n => accept f ([byteOf n.val] ++ encHeader (s.header n) ++ bytes4 (s.worstCase n)) s

def Stage.isLineOk : Stage → Bool
  | .lineOk => true
  | _ => false

/-- START_PROGRAM (R87). -/
def reqStartProgram (f : Frame) (s : State) : State :=
  match progOf? (f.arg 0) with
  | none => answer f stBadIndex s
  | some n =>
    checked [(decide (2 ≤ (s.header n).priority), stRole), (s.rtu.stage == .commit, stCommitted),
        (!s.rtu.stage.isLineOk, stStage), (s.isBusyProg n, stAlready),
        (decide (Config.requestPlaces ≤ s.sched.queue.length), stQueueFull)] f
      (fun s => acceptLater f (joinQueue n .main s)) s

/-- ABORT_PROGRAM (R88). -/
def reqAbortProgram (f : Frame) (s : State) : State :=
  match progOf? (f.arg 0) with
  | none => answer f stBadIndex s
  | some n =>
    checked [(s.rtu.stage == .commit, stCommitted), (decide (2 ≤ (s.header n).priority), stRole)] f (fun s =>
      match s.sched.queue.find? (fun e => e.program == n) with
      | some e => acceptLater f (dropped n e.requester (setRequests (s.sched.queue.filter (fun x => x.program != n)) s))
      | none => if s.isRunning n then acceptLater f (orderAbandon false s) else answer f stNothing s) s

/-- READ_RESULT's data (R183). -/
def resultBytes : Option Result → List Byte
  | none => [0]
  | some x =>
    [1, byteOf x.program.val, byteOf x.requester.code, byteOf x.outcome.code,
     byteOf (bitsByte [x.step.isSome, x.reason.isSome, x.failedSteps.isSome]), byteOf (x.step.getD 0),
     byteOf ((x.reason.map FailReason.code).getD 0), byteOf (x.failedSteps.getD 0)]

/-- READ_RESULT (R86). -/
def reqReadResult (f : Frame) (s : State) : State := accept f (resultBytes s.sched.last) s

/-! ### Ride-through -/

/-- The stages in which LOAD_PLAN is refused STAGE (R91 item 3). -/
def Stage.inEpisode : Stage → Bool
  | .dip => true
  | .shed _ => true
  | .recover => true
  | _ => false

/-- R91 item 5. -/
def State.planRoleConflict (s : State) (p : Plan) : Bool :=
  p.levels.any (fun l => match l.program with
    | some n => (s.header n).priority != 2
    | none => false) ||
  match p.resume with
  | .auto _ n => (s.header n).priority != 1
  | .wait => false

/-- R91 item 4's last line. -/
def State.bulkBound (s : State) (p : Plan) : Bool :=
  match p.bulk with
  | some c => allRails.any (fun r => (s.rail r).static.used && (s.rail r).static.sense == some c)
  | none => false

def putPlan (p : Plan) (s : State) : State := { s with rtu := { s.rtu with plan := p } }

/-- LOAD_PLAN (R91, R92). -/
def reqLoadPlan (f : Frame) (s : State) : State :=
  checked [(s.rtu.stage == .commit, stCommitted), (s.saving, stBusy), (s.rtu.stage.inEpisode, stStage)] f (fun s =>
    match decPlan f.payload with
    | none => answer f stBadRequest s
    | some p =>
      checked [(s.bulkBound p, stBadRequest), (s.planRoleConflict p, stRole),
          (p.reserveMs != s.rtu.plan.reserveMs && !(putPlan p s).budgetOk, stBudget)] f
        (fun s => accept f [] (rebuildMarks (refreshRoles (putPlan p s)))) s) s

/-- The live half of READ_PLAN's data (R183). The time left on a stopped resume delay is sent as 0: the model's reading
(log 26). -/
def State.planLive (s : State) : List Byte :=
  [byteOf s.rtu.stage.code, byteOf s.rtu.shedLevel,
   byteOf (bitsByte [s.rtu.lossTime.isSome, s.rtu.armed, s.rtu.resumeDelay.isSome])] ++
  bytes2 (s.sinceLoss.getD 0) ++ [byteOf s.rtu.deepest] ++
  bytes2 ((s.rtu.resumeDelay.map (fun t => msOf (s.left t))).getD 0)

/-- READ_PLAN (R93). -/
def reqReadPlan (f : Frame) (s : State) : State := accept f (encPlan s.rtu.plan ++ s.planLive) s

/-- READ_RECORD's data (R183; log 26). -/
def recordBytes (x : Record) (w : RecordWrite) : List Byte :=
  [match x.integrity with
   | .empty => 0 | .good => 1 | .damaged => 2,
   match x.cause with
   | none => 0 | some .lineLoss => 1 | some .bulkLow => 2,
   match x.stageAt with
   | some st => byteOf st.code
   | none => 0xFF,
   byteOf (x.deepest.getD 0),
   byteOf (bitsByte [x.lineReturned, x.msLoss.isSome, x.bulkAt.isSome, x.failedSteps.isSome])] ++
  bytes2 (x.msLoss.getD 0) ++ bytes2 (x.bulkAt.getD 0) ++
  [match x.outcome with
   | none => 0 | some .inProgress => 1 | some .complete => 2 | some .interrupted => 3,
   byteOf (x.failedSteps.getD 0), byteOf w.code]

/-- READ_RECORD (R116). -/
def reqReadRecord (f : Frame) (s : State) : State := accept f (recordBytes s.rtu.record s.rtu.write) s

/-- CLEAR_RECORD (R117). -/
def reqClearRecord (f : Frame) (s : State) : State :=
  checked [(s.rtu.stage == .commit, stCommitted), (s.rtu.write != .idle, stBusy)] f
    (fun s => accept f [] (askWrite (setRtu { s.rtu with record := Record.blank .empty } s))) s

/-! ### Ports -/

def featureByte (notices sync : Bool) : Byte := byteOf (bitsByte [notices, sync])

/-- The agreed record in READ_PORT; absent and empty outside UP (R177, R183). DESIGN CHOICE, unsafe: the absent PAYLOAD_LIMIT
and FEATURES are sent as 0; R183 says so of BOARD_KIND alone and R180 has 0xFF for an absent one-byte number (log 57). -/
def agreedBytes : Option Agreed → List Byte
  | some a =>
    [byteOf a.boardKind, byteOf a.limit, featureByte a.notices a.syncSource, byteOf a.ids.length] ++
    (a.ids.map (fun (i : Fin 32) => byteOf i.val) ++ List.replicate 8 0).take 8 ++
    bytes3 (setOfList a.rails).toNat ++ bytes3 (setOfList a.mismatch).toNat
  | none => List.replicate 18 0

/-- READ_PORT's data (R177, R183). -/
def State.portBytes (s : State) (p : Port) : List Byte :=
  let x := s.port p
  [byteOf p.number, byteOf x.link.code, if x.latch then 1 else 0,
   match x.pulse with
   | some t => byteOf (msUp (s.left t))
   | none => 0xFF,
   byteOf x.probeCount, byteOf x.windowMs, byteOf x.fair] ++ agreedBytes x.agreed

/-- READ_PORT (R135, R177). -/
def reqReadPort (f : Frame) (s : State) : State :=
  match Port.ofNat? (f.arg 0) with
  | none => answer f stBadIndex s
  | some p => modPort p (fun x => { x with latch := x.link == .up }) (accept f (s.portBytes p) s)

/-- RESET_BOARD (R134). -/
def reqResetBoard (f : Frame) (s : State) : State :=
  match Port.ofNat? (f.arg 0) with
  | none => answer f stBadIndex s
  | some p =>
    checked [(s.rtu.stage == .commit, stCommitted), ((s.port p).pulse.isSome, stBusy)] f
      (fun s => acceptLater f (startPulse p (toDown p s))) s

/-- A reply window changes for the port of a rail that program 0 switches (R178 item 3). -/
def State.windowMatters (s : State) (x : PortSettings) : Bool :=
  Port.all.any (fun p => x.windows.getD p.idx.val 20 != (s.port p).windowMs &&
    s.zeroHas (fun k => match k.rail? with
      | some r => (s.rail r).static.port? == some p
      | none => false))

/-- LOAD_PORT_SETTINGS (R178). -/
def reqLoadPortSettings (f : Frame) (s : State) : State :=
  checked [(s.saving, stBusy)] f (fun s =>
    match decPortSettings f.payload with
    | none => answer f stBadRequest s
    | some x =>
      checked [(s.windowMatters x && !(applyPortSettings x s).budgetOk, stBudget)] f
        (fun s => accept f [] (applyPortSettings x s)) s) s

/-! ### Store and part -/

/-- No program runs and the queue is empty (R187, R193). -/
def State.noProgram (s : State) : Bool := s.sched.running.isNone && s.sched.queue.isEmpty

/-- SAVE_SETTINGS (R187). -/
def reqSaveSettings (f : Frame) (s : State) : State :=
  checked [(s.saving, stBusy), (!s.rtu.stage.isLineOk, stStage), (!s.noProgram, stBusy)] f
    (fun s => accept f [] (beginSave s)) s

def abandonByte : Option AbandonCause → Byte
  | none => 0
  | some .lineLoss => 1
  | some .commit => 2

/-- READ_STORE_STATUS (R179, R183). -/
def reqReadStoreStatus (f : Frame) (s : State) : State :=
  accept f (s.store.saveBytes ++
    [abandonByte s.store.cause] ++
    s.store.results.toList.map (fun x => byteOf x.code) ++ s.store.loads.toList.map (fun x => byteOf x.number) ++
    [byteOf s.rtu.write.code]) s

/-- The rail's state permits STANDBY (R193). -/
def State.standbyFit (s : State) (r : RailId) : Bool :=
  !(s.rail r).static.used || (s.rail r).dyn.state == .off ||
    ((s.rail r).dyn.state == .on && (s.rail r).static.standbyKeep)

/-- R193's conditions. -/
def State.standbyReady (s : State) : Bool :=
  s.rtu.stage.isLineOk && s.noProgram && s.fwd.hold.isEmpty && Port.all.all (fun p => (s.queue p).isEmpty) &&
  allRails.all s.standbyFit

/-- ENTER_STANDBY (R193). -/
def reqEnterStandby (f : Frame) (s : State) : State :=
  checked [(!s.standbyReady, stBusy)] f (fun s => accept f [] { s with mode := .standby }) s

/-- RESET_PART: the reset follows the reply (R191). -/
def reqResetPart (f : Frame) (s : State) : State :=
  checked [(s.resetWaiting, stBusy), (allRails.any (fun r => s.railState r != .off), stNotSafe)] f
    (fun s => placeUp { replyEntry (replyFrame f stOk []) with reset := true } { s with resetWaiting := true }) s

/-! ### Taking a request -/

/-- A request whose layout has this length (R172 item 2). -/
def sized (n : Nat) (act : Frame → State → State) (f : Frame) (s : State) : State :=
  if f.payload.length = n then act f s else answer f stBadRequest s

/-- A request whose layout's length follows from a byte inside it (R172 item 2). -/
def sizedBy (least : Nat) (n : Nat) (act : Frame → State → State) (f : Frame) (s : State) : State :=
  if least ≤ f.payload.length ∧ f.payload.length = n then act f s else answer f stBadRequest s

/-- A request, by its code (R172, R181); `before` is the mode before it woke the part (R175). -/
def request (before : Mode) (f : Frame) (s : State) : State :=
  match f.cls.toNat with
  | 0x01 => sized 0 reqIdentify f s
  | 0x02 => sized 0 (reqSnapshot before) f s
  | 0x08 => sized 0 reqReadEvents f s
  | 0x09 => sized 2 reqSetMask f s
  | 0x0A => sized 0 reqClearEvents f s
  | 0x10 => sized 25 reqLoadRail f s
  | 0x11 => sized 1 reqReadRail f s
  | 0x12 => sized 1 reqClearFault f s
  | 0x13 => sized 6 reqLoadChannel f s
  | 0x14 => sized 0 reqReadSense f s
  | 0x18 => sized 13 reqLoadAdmit f s
  | 0x19 => sized 1 reqReadAdmit f s
  | 0x20 => sizedBy 2 (2 + 8 * f.arg 1) reqLoadSteps f s
  | 0x21 => sized 2 reqReadSteps f s
  | 0x22 => sized 4 reqLoadProgram f s
  | 0x23 => sizedBy 6 (6 + f.arg 5) reqLoadTemplate f s
  | 0x24 => sized 1 reqReadProgram f s
  | 0x25 => sized 1 reqStartProgram f s
  | 0x26 => sized 1 reqAbortProgram f s
  | 0x27 => sized 0 reqReadResult f s
  | 0x30 => sized 34 reqLoadPlan f s
  | 0x31 => sized 0 reqReadPlan f s
  | 0x32 => sized 0 reqReadRecord f s
  | 0x33 => sized 0 reqClearRecord f s
  | 0x38 => sized 1 reqReadPort f s
  | 0x39 => sized 1 reqResetBoard f s
  | 0x3A => sized 14 reqLoadPortSettings f s
  | 0x40 => sized 0 reqSaveSettings f s
  | 0x41 => sized 0 reqReadStoreStatus f s
  | 0x42 => sized 0 reqEnterStandby f s
  | 0x43 => sized 0 reqResetPart f s
  | _ => answer f stBadRequest s

end Sys2Proof.Machine
end

