-- ==== Sys2Proof/Machine/Settle.lean ====
section
/-! DEFINITION. One event taken whole: the work that units hand to one another, and the head of the upstream
receive queue, taken until nothing is left (R7, R122, R151; logs 6, 9, 10). -/

namespace Sys2Proof.Machine

/-- A rail's report reaches the Forwarding Unit and the Sequencer, in an order the spec leaves open where both
have something to do (R7; log 6). -/
def report (r : RailId) (k : ReportKind) (s : State) : State :=
  if s.fwd.hold.isEmpty || s.seq.ctx.isNone then later (.seqRail r k) (later .pass s)
  else if Config.forwardingFirst s.choices then later (.seqRail r k) (later .pass (draw s))
  else later .pass (later (.seqRail r k) (draw s))

/-- A FAULT action's request (R21 item 7). -/
def faultAction (r : RailId) (s : State) : State :=
  match (s.rail r).static.faultAction with
  | some n => takeRequest n .fault s
  | none => s

/-- One piece of work, taken by the unit it was handed to. -/
def handle : Work → State → State
  | .report r k => report r k
  | .pass => rescan
  | .seqRail r k => seqRail r k
  | .seqPathLost r => seqPathLost r
  | .seqFrameEnd r x => seqFrameEnd r x
  | .seqPortDown p => seqPortDown p
  | .seqNoticesLost p => seqNoticesLost p
  | .raise k => raise k
  | .fault r c => enterFault r c
  | .faultClaim r => faultClaim r
  | .faultAction r => faultAction r
  | .cascade r start => cascade r start
  | .alarm r high => alarmTaken r high
  | .good r => goodReport r
  | .safe r => safeReport r
  | .belowGood r => belowGoodReport r
  | .pathLost rs => pathLost rs
  | .effect r isOn refused held => applyEffect r isOn refused held
  | .releaseFrame r p tag => releaseFrame r p tag
  | .flushOut p => flushOut p
  | .afterStep x => afterStep x
  | .request n q => takeRequest n q
  | .startHead => startHead
  | .shedAbandon => shedAbandon
  | .dropLow => dropLow
  | .abandonRestore => abandonRestore
  | .dropRestore => dropRestore
  | .commitRequest => commitRequest
  | .dropAll => dropAll
  | .startZero => startZero
  | .lineLost => lineLost
  | .lineBack => lineBack
  | .markReport id below => markReport id below
  | .look => look
  | .restoreEnd _ => restoreEnd
  | .zeroEnd n => zeroEnd n
  | .finalDrop start => finalDrop start
  | .enterDark n => enterDark n
  | .commitEvents => commitEvents
  | .reply f => placeUp (replyEntry f)
  | .reset c => doReset c

def Work.isReset : Work → Bool
  | .reset _ => true
  | _ => false

/-- One piece of work taken; what it hands on is taken before what waited, and a reset leaves nothing (log 9). -/
def runWork (w : Work) (ws : List Work) (s : State) : State :=
  let t := handle w { s with agenda := [] }
  { t with agenda := t.agenda ++ (if w.isReset then [] else ws) }

/-- Where a frame taken from the upstream receive queue goes (R122). -/
def routeUp (before : Mode) (f : Frame) (s : State) : State :=
  if f.kind ≠ kindCommand then later (.raise .linkError) s
  else if f.src ≠ 7 then answer f stBadAddress s
  else if f.dest = 0 then request before f s
  else
    match Port.ofNat? f.dest.toNat with
    | some p => intake p f s
    | none => answer f stBadAddress s

/-- The head of the upstream receive queue is taken once it can be (R122, R123). -/
def takeHead (s : State) : State :=
  match s.up.rx with
  | [] => s
  | f :: rest =>
    if f.kind = kindCommand ∧ Config.replyPlaces ≤ s.up.replyTaken then s
    else
      let taken := if f.kind = kindCommand then s.up.replyTaken + 1 else s.up.replyTaken
      routeUp s.mode f (wake { s with up := { s.up with rx := rest, replyTaken := taken }, takeDue := !rest.isEmpty })

/-- The event goes on while work waits or the receive queue's head is to be looked at. -/
def settle : Nat → State → State
  | 0, s => s
  | n + 1, s =>
    match s.agenda with
    | w :: ws => settle n (runWork w ws s)
    | [] => if s.takeDue then settle n (takeHead { s with takeDue := false }) else s

/-- A command taken whole: its own effect, then all that follows from it in its event. -/
def event (f : State → State) (s : State) : Host.Outcome State Fault Refusal :=
  .next (settle Config.settleFuel (f (settle Config.settleFuel s)))

end Sys2Proof.Machine
end

