-- ==== Sys2Proof/Machine/DownstreamCommands.lean ====
section
/-! DEFINITION. The rows of the downstream ports and of the commands in flight (R126 to R163). -/

namespace Sys2Proof.Machine

/-- PRESENT_RISES (R127). -/
def execPresentRises (port : Port) (s : State) : Host.Outcome State Fault Refusal := event (presentRise port) s

/-- PRESENT_FALLS (R133). -/
def execPresentFalls (port : Port) (s : State) : Host.Outcome State Fault Refusal := event (presentFall port) s

/-- PROBE_TIMER_EXPIRY (R128). -/
def execProbeTimerExpiry (port : Port) (s : State) : Host.Outcome State Fault Refusal := event (probeExpiry port) s

/-- CAPABILITY_IN_EXCHANGE (R131). -/
def execCapabilityInExchange (port : Port) (tag : Byte) (payload : List Byte) (s : State) : Host.Outcome State Fault Refusal :=
  event (receiveDown port (mkFrame 0 port.addr kindCapability 0 tag payload)) s

/-- UNSOLICITED_CAPABILITY (R132). -/
def execUnsolicitedCapability (port : Port) (tag : Byte) (payload : List Byte) (s : State) : Host.Outcome State Fault Refusal :=
  event (receiveDown port (mkFrame 0 port.addr kindCapability 0 tag payload)) s

/-- INVALID_CAPABILITY (R129). -/
def execInvalidCapability (port : Port) (tag : Byte) (payload : List Byte) (s : State) : Host.Outcome State Fault Refusal :=
  event (receiveDown port (mkFrame 0 port.addr kindCapability 0 tag payload)) s

/-- RESET_PULSE_EXPIRY (R134). -/
def execResetPulseExpiry (port : Port) (s : State) : Host.Outcome State Fault Refusal := event (pulseExpiry port) s

/-- DOWNSTREAM_FRAME_DISCARDED (R136, R137). -/
def execDownstreamFrameDiscarded (port : Port) (dest : BitVec 4) (src : BitVec 4) (kind : BitVec 4) (cls : Byte) (tag : Byte) (payload : List Byte) (s : State) : Host.Outcome State Fault Refusal :=
  event (receiveDown port (mkFrame dest src kind cls tag payload)) s

/-- TRANSMITTER_FREE (R138). -/
def execTransmitterFree (port : Port) (s : State) : Host.Outcome State Fault Refusal := event (transmitterFree port) s

/-- DOWNSTREAM_TX_COMPLETE (R140). -/
def execDownstreamTxComplete (port : Port) (s : State) : Host.Outcome State Fault Refusal :=
  event (downTxComplete port) s

/-- RAIL_CONTROL_REPLY (R4, R6). -/
def execRailControlReply (port : Port) (cls : Byte) (rail : RailId) (payload : List Byte) (s : State) : Host.Outcome State Fault Refusal :=
  event (receiveDown port (mkFrame 0 port.addr kindReply cls (byteOf (0xC0 + rail.val)) payload)) s

/-- RAIL_FRAME_DEADLINE (R5). -/
def execRailFrameDeadline (rail : RailId) (s : State) : Host.Outcome State Fault Refusal :=
  event (railFrameDeadline rail) s

/-- SEQUENCER_REPLY (R51). -/
def execSequencerReply (port : Port) (cls : Byte) (tag : Byte) (payload : List Byte) (s : State) : Host.Outcome State Fault Refusal :=
  event (receiveDown port (mkFrame 0 port.addr kindReply cls tag payload)) s

/-- BOARD_REPLY (R158). -/
def execBoardReply (port : Port) (cls : Byte) (tag : Byte) (payload : List Byte) (s : State) : Host.Outcome State Fault Refusal :=
  event (receiveDown port (mkFrame 7 port.addr kindReply cls tag payload)) s

/-- BOARD_NOTICE (R162). -/
def execBoardNotice (port : Port) (cls : Byte) (tag : Byte) (payload : List Byte) (s : State) : Host.Outcome State Fault Refusal :=
  event (receiveDown port (mkFrame 7 port.addr kindNotice cls tag payload)) s

/-- OUTSTANDING_DEADLINE_EXPIRY (R160). -/
def execOutstandingDeadlineExpiry (port : Port) (tag : Byte) (s : State) : Host.Outcome State Fault Refusal :=
  event (outstandingExpiry port tag) s

/-- HOLD_DEADLINE_EXPIRY (R154). -/
def execHoldDeadlineExpiry (port : Port) (tag : Byte) (s : State) : Host.Outcome State Fault Refusal :=
  event (holdExpiry port tag) s

end Sys2Proof.Machine
end

