-- ==== Sys2Proof/Machine/InputCommands.lean ====
section
/-! DEFINITION. The rows of the rails' timers and of the sense, line, frame-sync and wake inputs (R10 to R12, R28 to R45, R195). -/

namespace Sys2Proof.Machine

/-- A rising edge on WAKE sets WAKE pending and wakes the part (R192, R195). -/
def wakeEdge (s : State) : State := if s.phase = .running then wake (later (.raise .wake) s) else s

/-- SENSE_SAMPLE (R28, R31). -/
def execSenseSample (channel : ChannelId) (millivolts : Nat) (s : State) : Host.Outcome State Fault Refusal :=
  event (senseSample channel millivolts) s

/-- SETTLE_EXPIRY (R10). -/
def execSettleExpiry (rail : RailId) (s : State) : Host.Outcome State Fault Refusal := event (settleExpiry rail) s

/-- RISE_TIMEOUT (R10). -/
def execRiseTimeout (rail : RailId) (s : State) : Host.Outcome State Fault Refusal := event (riseTimeout rail) s

/-- FALL_EXPIRY (R11). -/
def execFallExpiry (rail : RailId) (s : State) : Host.Outcome State Fault Refusal := event (fallExpiry rail) s

/-- DISCHARGE_EXPIRY (R12). -/
def execDischargeExpiry (rail : RailId) (s : State) : Host.Outcome State Fault Refusal :=
  event (dischargeExpiry rail) s

/-- LINE_EDGE (R42, R43). -/
def execLineEdge (s : State) : Host.Outcome State Fault Refusal := event lineEdge s

/-- LINE_GAP_EXPIRY (R42). -/
def execLineGapExpiry (s : State) : Host.Outcome State Fault Refusal := event lineGapExpiry s

/-- FSYNC_EDGE (R45). -/
def execFsyncEdge (s : State) : Host.Outcome State Fault Refusal := event fsyncEdge s

/-- WAKE_EDGE (R195). -/
def execWakeEdge (s : State) : Host.Outcome State Fault Refusal := event wakeEdge s

end Sys2Proof.Machine
end

