-- ==== Sys2Proof/Machine/ManagementCommands.lean ====
section
/-! DEFINITION. The request rows: the request's frame comes on port U from the main board (R122, R172; log 1). -/

namespace Sys2Proof.Machine

/-- IDENTIFY (R174); its bytes are R182's. -/
def execIdentify (tag : Byte) (s : State) : Host.Outcome State Fault Refusal :=
  event (receiveUp (requestFrame 0x01 tag [])) s

/-- SNAPSHOT (R175); its bytes are R182's. -/
def execSnapshot (tag : Byte) (s : State) : Host.Outcome State Fault Refusal :=
  event (receiveUp (requestFrame 0x02 tag [])) s

/-- READ_EVENTS (R169); its bytes are R182's. -/
def execReadEvents (tag : Byte) (s : State) : Host.Outcome State Fault Refusal :=
  event (receiveUp (requestFrame 0x08 tag [])) s

/-- SET_MASK (R166); its bytes are R182's. -/
def execSetMask (tag : Byte) (mask : Word16) (s : State) : Host.Outcome State Fault Refusal :=
  event (receiveUp (requestFrame 0x09 tag (bytes2 mask.toNat))) s

/-- CLEAR_EVENTS (R170); its bytes are R182's. -/
def execClearEvents (tag : Byte) (s : State) : Host.Outcome State Fault Refusal :=
  event (receiveUp (requestFrame 0x0A tag [])) s

/-- LOAD_RAIL (R25); its bytes are R182's. -/
def execLoadRail (tag : Byte) (payload : List Byte) (s : State) : Host.Outcome State Fault Refusal :=
  event (receiveUp (requestFrame 0x10 tag payload)) s

/-- READ_RAIL (R176); its bytes are R182's. -/
def execReadRail (tag : Byte) (rail : Byte) (s : State) : Host.Outcome State Fault Refusal :=
  event (receiveUp (requestFrame 0x11 tag [rail])) s

/-- CLEAR_FAULT (R23); its bytes are R182's. -/
def execClearFault (tag : Byte) (rail : Byte) (s : State) : Host.Outcome State Fault Refusal :=
  event (receiveUp (requestFrame 0x12 tag [rail])) s

/-- LOAD_CHANNEL (R39); its bytes are R182's. -/
def execLoadChannel (tag : Byte) (channel : Byte) (low : Word16) (high : Word16) (debounce : Byte) (s : State) : Host.Outcome State Fault Refusal :=
  event (receiveUp (requestFrame 0x13 tag ([channel] ++ bytes2 low.toNat ++ bytes2 high.toNat ++ [debounce]))) s

/-- READ_SENSE (R40); its bytes are R182's. -/
def execReadSense (tag : Byte) (s : State) : Host.Outcome State Fault Refusal :=
  event (receiveUp (requestFrame 0x14 tag [])) s

/-- LOAD_ADMIT (R145); its bytes are R182's. -/
def execLoadAdmit (tag : Byte) (payload : List Byte) (s : State) : Host.Outcome State Fault Refusal :=
  event (receiveUp (requestFrame 0x18 tag payload)) s

/-- READ_ADMIT (R146); its bytes are R182's. -/
def execReadAdmit (tag : Byte) (index : Byte) (s : State) : Host.Outcome State Fault Refusal :=
  event (receiveUp (requestFrame 0x19 tag [index])) s

/-- LOAD_STEPS (R72); its bytes are R182's. -/
def execLoadSteps (tag : Byte) (payload : List Byte) (s : State) : Host.Outcome State Fault Refusal :=
  event (receiveUp (requestFrame 0x20 tag payload)) s

/-- READ_STEPS (R75); its bytes are R182's. -/
def execReadSteps (tag : Byte) (start : Byte) (count : Byte) (s : State) : Host.Outcome State Fault Refusal :=
  event (receiveUp (requestFrame 0x21 tag [start, count])) s

/-- LOAD_PROGRAM (R73); its bytes are R182's. -/
def execLoadProgram (tag : Byte) (program : Byte) (first : Byte) (count : Byte) (priority : Byte) (s : State) : Host.Outcome State Fault Refusal :=
  event (receiveUp (requestFrame 0x22 tag [program, first, count, priority])) s

/-- LOAD_TEMPLATE (R74); its bytes are R182's. -/
def execLoadTemplate (tag : Byte) (payload : List Byte) (s : State) : Host.Outcome State Fault Refusal :=
  event (receiveUp (requestFrame 0x23 tag payload)) s

/-- READ_PROGRAM (R75); its bytes are R182's. -/
def execReadProgram (tag : Byte) (program : Byte) (s : State) : Host.Outcome State Fault Refusal :=
  event (receiveUp (requestFrame 0x24 tag [program])) s

/-- START_PROGRAM (R87); its bytes are R182's. -/
def execStartProgram (tag : Byte) (program : Byte) (s : State) : Host.Outcome State Fault Refusal :=
  event (receiveUp (requestFrame 0x25 tag [program])) s

/-- ABORT_PROGRAM (R88); its bytes are R182's. -/
def execAbortProgram (tag : Byte) (program : Byte) (s : State) : Host.Outcome State Fault Refusal :=
  event (receiveUp (requestFrame 0x26 tag [program])) s

/-- READ_RESULT (R86); its bytes are R182's. -/
def execReadResult (tag : Byte) (s : State) : Host.Outcome State Fault Refusal :=
  event (receiveUp (requestFrame 0x27 tag [])) s

/-- LOAD_PLAN (R91); its bytes are R182's. -/
def execLoadPlan (tag : Byte) (payload : List Byte) (s : State) : Host.Outcome State Fault Refusal :=
  event (receiveUp (requestFrame 0x30 tag payload)) s

/-- READ_PLAN (R93); its bytes are R182's. -/
def execReadPlan (tag : Byte) (s : State) : Host.Outcome State Fault Refusal :=
  event (receiveUp (requestFrame 0x31 tag [])) s

/-- READ_RECORD (R116); its bytes are R182's. -/
def execReadRecord (tag : Byte) (s : State) : Host.Outcome State Fault Refusal :=
  event (receiveUp (requestFrame 0x32 tag [])) s

/-- CLEAR_RECORD (R117); its bytes are R182's. -/
def execClearRecord (tag : Byte) (s : State) : Host.Outcome State Fault Refusal :=
  event (receiveUp (requestFrame 0x33 tag [])) s

/-- READ_PORT (R177); its bytes are R182's. -/
def execReadPort (tag : Byte) (port : Byte) (s : State) : Host.Outcome State Fault Refusal :=
  event (receiveUp (requestFrame 0x38 tag [port])) s

/-- RESET_BOARD (R134); its bytes are R182's. -/
def execResetBoard (tag : Byte) (port : Byte) (s : State) : Host.Outcome State Fault Refusal :=
  event (receiveUp (requestFrame 0x39 tag [port])) s

/-- LOAD_PORT_SETTINGS (R178); its bytes are R182's. -/
def execLoadPortSettings (tag : Byte) (payload : List Byte) (s : State) : Host.Outcome State Fault Refusal :=
  event (receiveUp (requestFrame 0x3A tag payload)) s

/-- SAVE_SETTINGS (R187); its bytes are R182's. -/
def execSaveSettings (tag : Byte) (s : State) : Host.Outcome State Fault Refusal :=
  event (receiveUp (requestFrame 0x40 tag [])) s

/-- READ_STORE_STATUS (R179); its bytes are R182's. -/
def execReadStoreStatus (tag : Byte) (s : State) : Host.Outcome State Fault Refusal :=
  event (receiveUp (requestFrame 0x41 tag [])) s

/-- ENTER_STANDBY (R193); its bytes are R182's. -/
def execEnterStandby (tag : Byte) (s : State) : Host.Outcome State Fault Refusal :=
  event (receiveUp (requestFrame 0x42 tag [])) s

/-- RESET_PART (R191); its bytes are R182's. -/
def execResetPart (tag : Byte) (s : State) : Host.Outcome State Fault Refusal :=
  event (receiveUp (requestFrame 0x43 tag [])) s

/-- UNKNOWN_REQUEST_CODE (R172). -/
def execUnknownRequestCode (cls : Byte) (tag : Byte) (payload : List Byte) (s : State) : Host.Outcome State Fault Refusal :=
  event (receiveUp (requestFrame cls tag payload)) s

end Sys2Proof.Machine
end

