-- ==== Sys2Proof/Machine/PartCommands.lean ====
section
/-! DEFINITION. The rows of the step timers, the Ride-Through Unit's timers, the store's writes, the resets and start-up (R19, R59 to R63, R96, R112, R114, R188, R190 to R192). -/

namespace Sys2Proof.Machine

/-- DELAY_EXPIRY (R59). -/
def execDelayExpiry (s : State) : Host.Outcome State Fault Refusal := event delayExpiry s

/-- SYNC_TIMEOUT (R60). -/
def execSyncTimeout (s : State) : Host.Outcome State Fault Refusal := event syncTimeout s

/-- SEND_WINDOW_EXPIRY (R62). -/
def execSendWindowExpiry (s : State) : Host.Outcome State Fault Refusal := event sendWindowExpiry s

/-- NOTICE_TIMEOUT (R63). -/
def execNoticeTimeout (s : State) : Host.Outcome State Fault Refusal := event noticeTimeout s

/-- CLAIM_WAIT_EXPIRY (R19). -/
def execClaimWaitExpiry (s : State) : Host.Outcome State Fault Refusal := event claimWaitExpiry s

/-- TRIGGER_TIMER_EXPIRY (R96). -/
def execTriggerTimerExpiry (trigger : TriggerId) (s : State) : Host.Outcome State Fault Refusal :=
  event (triggerExpiry trigger) s

/-- RESUME_DELAY_EXPIRY (R112). -/
def execResumeDelayExpiry (s : State) : Host.Outcome State Fault Refusal := event resumeExpiry s

/-- RECORD_WRITE_COMPLETE (R114). -/
def execRecordWriteComplete (s : State) : Host.Outcome State Fault Refusal := event recordWriteDone s

/-- SAVE_GROUP_WRITE_END (R188). -/
def execSaveGroupWriteEnd (s : State) : Host.Outcome State Fault Refusal := event groupWriteEnd s

/-- POWER_ON_RESET (R190). -/
def execPowerOnReset (s : State) : Host.Outcome State Fault Refusal := event (doReset .powerOn) s

/-- SUPPLY_LOW_RESET (R190). -/
def execSupplyLowReset (s : State) : Host.Outcome State Fault Refusal := event (doReset .supplyLow) s

/-- RESET_PIN (R190). -/
def execResetPin (s : State) : Host.Outcome State Fault Refusal := event (doReset .resetPin) s

/-- STARTUP_WAIT_END (R192). -/
def execStartupWaitEnd (s : State) : Host.Outcome State Fault Refusal := event startupWaitEnd s

/-- STARTUP_LOAD_COMPLETE (R192). -/
def execStartupLoadComplete (s : State) : Host.Outcome State Fault Refusal := event startupLoadComplete s

end Sys2Proof.Machine
end

