-- ==== Sys2Proof/Machine/UpstreamCommands.lean ====
section
/-! DEFINITION. The other rows of port U (R120 to R125, R147). -/

namespace Sys2Proof.Machine

/-- A run of bytes received at one end of a lane (R120). -/
def receiveRun (lane : LaneEnd) (bytes : List Byte) (s : State) : State :=
  match lane with
  | .u => receiveUpBytes bytes s
  | .d p => receiveDownBytes p bytes s

/-- FORWARD_COMMAND (R122, R147). -/
def execForwardCommand (port : Port) (cls : Byte) (tag : Byte) (payload : List Byte) (s : State) : Host.Outcome State Fault Refusal :=
  event (receiveUp (mkFrame port.addr 7 kindCommand cls tag payload)) s

/-- BAD_ADDRESS_COMMAND (R122). -/
def execBadAddressCommand (dest : BitVec 4) (src : BitVec 4) (cls : Byte) (tag : Byte) (payload : List Byte) (s : State) : Host.Outcome State Fault Refusal :=
  event (receiveUp (mkFrame dest src kindCommand cls tag payload)) s

/-- UPSTREAM_FRAME_RECEIVED (R121). -/
def execUpstreamFrameReceived (bytes : List Byte) (s : State) : Host.Outcome State Fault Refusal :=
  event (receiveUpBytes bytes) s

/-- MALFORMED_FRAME (R120). -/
def execMalformedFrame (lane : LaneEnd) (bytes : List Byte) (s : State) : Host.Outcome State Fault Refusal :=
  event (receiveRun lane bytes) s

/-- UPSTREAM_TX_COMPLETE (R123). -/
def execUpstreamTxComplete (s : State) : Host.Outcome State Fault Refusal := event upTxComplete s

/-- U_PRESENT_FALLS (R125). -/
def execUPresentFalls (s : State) : Host.Outcome State Fault Refusal := event uPresentFall s

/-- U_PRESENT_RISES (R125). -/
def execUPresentRises (s : State) : Host.Outcome State Fault Refusal := event uPresentRise s

/-- UPSTREAM_TRANSMITTER_FREE (R123). -/
def execUpstreamTransmitterFree (s : State) : Host.Outcome State Fault Refusal := event upTransmitterFree s

end Sys2Proof.Machine
end

