-- ==== Sys2Proof/Machine/Dispatch.lean ====
section
/-! DEFINITION. Every command's meaning, one arm per row of the table. -/

namespace Sys2Proof.Machine

def exec (i : Instr) (s : State) : Host.Outcome State Fault Refusal :=
  match i with
  | .identify tag => Sys2Proof.Machine.execIdentify tag s
  | .snapshot tag => Sys2Proof.Machine.execSnapshot tag s
  | .readEvents tag => Sys2Proof.Machine.execReadEvents tag s
  | .setMask tag mask => Sys2Proof.Machine.execSetMask tag mask s
  | .clearEvents tag => Sys2Proof.Machine.execClearEvents tag s
  | .loadRail tag payload => Sys2Proof.Machine.execLoadRail tag payload s
  | .readRail tag rail => Sys2Proof.Machine.execReadRail tag rail s
  | .clearFault tag rail => Sys2Proof.Machine.execClearFault tag rail s
  | .loadChannel tag channel low high debounce => Sys2Proof.Machine.execLoadChannel tag channel low high debounce s
  | .readSense tag => Sys2Proof.Machine.execReadSense tag s
  | .loadAdmit tag payload => Sys2Proof.Machine.execLoadAdmit tag payload s
  | .readAdmit tag index => Sys2Proof.Machine.execReadAdmit tag index s
  | .loadSteps tag payload => Sys2Proof.Machine.execLoadSteps tag payload s
  | .readSteps tag start count => Sys2Proof.Machine.execReadSteps tag start count s
  | .loadProgram tag program first count priority => Sys2Proof.Machine.execLoadProgram tag program first count priority s
  | .loadTemplate tag payload => Sys2Proof.Machine.execLoadTemplate tag payload s
  | .readProgram tag program => Sys2Proof.Machine.execReadProgram tag program s
  | .startProgram tag program => Sys2Proof.Machine.execStartProgram tag program s
  | .abortProgram tag program => Sys2Proof.Machine.execAbortProgram tag program s
  | .readResult tag => Sys2Proof.Machine.execReadResult tag s
  | .loadPlan tag payload => Sys2Proof.Machine.execLoadPlan tag payload s
  | .readPlan tag => Sys2Proof.Machine.execReadPlan tag s
  | .readRecord tag => Sys2Proof.Machine.execReadRecord tag s
  | .clearRecord tag => Sys2Proof.Machine.execClearRecord tag s
  | .readPort tag port => Sys2Proof.Machine.execReadPort tag port s
  | .resetBoard tag port => Sys2Proof.Machine.execResetBoard tag port s
  | .loadPortSettings tag payload => Sys2Proof.Machine.execLoadPortSettings tag payload s
  | .saveSettings tag => Sys2Proof.Machine.execSaveSettings tag s
  | .readStoreStatus tag => Sys2Proof.Machine.execReadStoreStatus tag s
  | .enterStandby tag => Sys2Proof.Machine.execEnterStandby tag s
  | .resetPart tag => Sys2Proof.Machine.execResetPart tag s
  | .unknownRequestCode cls tag payload => Sys2Proof.Machine.execUnknownRequestCode cls tag payload s
  | .forwardCommand port cls tag payload => Sys2Proof.Machine.execForwardCommand port cls tag payload s
  | .badAddressCommand dest src cls tag payload => Sys2Proof.Machine.execBadAddressCommand dest src cls tag payload s
  | .upstreamFrameReceived bytes => Sys2Proof.Machine.execUpstreamFrameReceived bytes s
  | .malformedFrame lane bytes => Sys2Proof.Machine.execMalformedFrame lane bytes s
  | .upstreamTxComplete => Sys2Proof.Machine.execUpstreamTxComplete s
  | .uPresentFalls => Sys2Proof.Machine.execUPresentFalls s
  | .uPresentRises => Sys2Proof.Machine.execUPresentRises s
  | .presentRises port => Sys2Proof.Machine.execPresentRises port s
  | .presentFalls port => Sys2Proof.Machine.execPresentFalls port s
  | .probeTimerExpiry port => Sys2Proof.Machine.execProbeTimerExpiry port s
  | .capabilityInExchange port tag payload => Sys2Proof.Machine.execCapabilityInExchange port tag payload s
  | .unsolicitedCapability port tag payload => Sys2Proof.Machine.execUnsolicitedCapability port tag payload s
  | .invalidCapability port tag payload => Sys2Proof.Machine.execInvalidCapability port tag payload s
  | .resetPulseExpiry port => Sys2Proof.Machine.execResetPulseExpiry port s
  | .downstreamFrameDiscarded port dest src kind cls tag payload => Sys2Proof.Machine.execDownstreamFrameDiscarded port dest src kind cls tag payload s
  | .transmitterFree port => Sys2Proof.Machine.execTransmitterFree port s
  | .downstreamTxComplete port => Sys2Proof.Machine.execDownstreamTxComplete port s
  | .railControlReply port cls rail payload => Sys2Proof.Machine.execRailControlReply port cls rail payload s
  | .railFrameDeadline rail => Sys2Proof.Machine.execRailFrameDeadline rail s
  | .sequencerReply port cls tag payload => Sys2Proof.Machine.execSequencerReply port cls tag payload s
  | .boardReply port cls tag payload => Sys2Proof.Machine.execBoardReply port cls tag payload s
  | .boardNotice port cls tag payload => Sys2Proof.Machine.execBoardNotice port cls tag payload s
  | .outstandingDeadlineExpiry port tag => Sys2Proof.Machine.execOutstandingDeadlineExpiry port tag s
  | .holdDeadlineExpiry port tag => Sys2Proof.Machine.execHoldDeadlineExpiry port tag s
  | .senseSample channel millivolts => Sys2Proof.Machine.execSenseSample channel millivolts s
  | .settleExpiry rail => Sys2Proof.Machine.execSettleExpiry rail s
  | .riseTimeout rail => Sys2Proof.Machine.execRiseTimeout rail s
  | .fallExpiry rail => Sys2Proof.Machine.execFallExpiry rail s
  | .dischargeExpiry rail => Sys2Proof.Machine.execDischargeExpiry rail s
  | .lineEdge => Sys2Proof.Machine.execLineEdge s
  | .lineGapExpiry => Sys2Proof.Machine.execLineGapExpiry s
  | .fsyncEdge => Sys2Proof.Machine.execFsyncEdge s
  | .wakeEdge => Sys2Proof.Machine.execWakeEdge s
  | .delayExpiry => Sys2Proof.Machine.execDelayExpiry s
  | .syncTimeout => Sys2Proof.Machine.execSyncTimeout s
  | .sendWindowExpiry => Sys2Proof.Machine.execSendWindowExpiry s
  | .noticeTimeout => Sys2Proof.Machine.execNoticeTimeout s
  | .claimWaitExpiry => Sys2Proof.Machine.execClaimWaitExpiry s
  | .triggerTimerExpiry trigger => Sys2Proof.Machine.execTriggerTimerExpiry trigger s
  | .resumeDelayExpiry => Sys2Proof.Machine.execResumeDelayExpiry s
  | .recordWriteComplete => Sys2Proof.Machine.execRecordWriteComplete s
  | .saveGroupWriteEnd => Sys2Proof.Machine.execSaveGroupWriteEnd s
  | .powerOnReset => Sys2Proof.Machine.execPowerOnReset s
  | .supplyLowReset => Sys2Proof.Machine.execSupplyLowReset s
  | .resetPin => Sys2Proof.Machine.execResetPin s
  | .startupWaitEnd => Sys2Proof.Machine.execStartupWaitEnd s
  | .startupLoadComplete => Sys2Proof.Machine.execStartupLoadComplete s
  | .upstreamTransmitterFree => Sys2Proof.Machine.execUpstreamTransmitterFree s

end Sys2Proof.Machine
end

