-- ==== Sys2Proof/WellFormed.lean ====
section
/-! DEFINITION. Which commands are well-formed: operands that a frame of the row's kind can carry (R118 to R120,
R129, R172, R181). -/

namespace Sys2Proof

open Machine

/-- The payload length that a request code's layout gives, none for no request code (R181). -/
def requestLength (cls : Byte) (payload : List Byte) : Option Nat :=
  match cls.toNat with
  | 0x01 | 0x02 | 0x08 | 0x0A | 0x14 | 0x27 | 0x31 | 0x32 | 0x33 | 0x40 | 0x41 | 0x42 | 0x43 => some 0
  | 0x11 | 0x12 | 0x19 | 0x24 | 0x25 | 0x26 | 0x38 | 0x39 => some 1
  | 0x09 | 0x21 => some 2
  | 0x22 => some 4
  | 0x13 => some 6
  | 0x18 => some 13
  | 0x3A => some 14
  | 0x10 => some 25
  | 0x30 => some 34
  | 0x20 => some (2 + 8 * at1 payload 1)
  | 0x23 => some (6 + at1 payload 5)
  | _ => none

/-- A request whose code is known and whose length is the one its layout gives (R172). -/
def requestSized (cls : Byte) (payload : List Byte) : Bool := requestLength cls payload == some payload.length

/-- A payload that a frame can carry (R118). -/
def payloadFits (payload : List Byte) : Bool := payload.length ≤ Config.payloadMost

/-- The frame that a command of a frame row carries; none for the rows that carry none, and for a run of bytes. -/
def Instr.frame? : Instr → Option Frame
  | .identify t => some (requestFrame 0x01 t [])
  | .snapshot t => some (requestFrame 0x02 t [])
  | .readEvents t => some (requestFrame 0x08 t [])
  | .setMask t m => some (requestFrame 0x09 t (bytes2 m.toNat))
  | .clearEvents t => some (requestFrame 0x0A t [])
  | .loadRail t p => some (requestFrame 0x10 t p)
  | .readRail t r => some (requestFrame 0x11 t [r])
  | .clearFault t r => some (requestFrame 0x12 t [r])
  | .loadChannel t c l h d => some (requestFrame 0x13 t ([c] ++ bytes2 l.toNat ++ bytes2 h.toNat ++ [d]))
  | .readSense t => some (requestFrame 0x14 t [])
  | .loadAdmit t p => some (requestFrame 0x18 t p)
  | .readAdmit t i => some (requestFrame 0x19 t [i])
  | .loadSteps t p => some (requestFrame 0x20 t p)
  | .readSteps t s c => some (requestFrame 0x21 t [s, c])
  | .loadProgram t n f c p => some (requestFrame 0x22 t [n, f, c, p])
  | .loadTemplate t p => some (requestFrame 0x23 t p)
  | .readProgram t n => some (requestFrame 0x24 t [n])
  | .startProgram t n => some (requestFrame 0x25 t [n])
  | .abortProgram t n => some (requestFrame 0x26 t [n])
  | .readResult t => some (requestFrame 0x27 t [])
  | .loadPlan t p => some (requestFrame 0x30 t p)
  | .readPlan t => some (requestFrame 0x31 t [])
  | .readRecord t => some (requestFrame 0x32 t [])
  | .clearRecord t => some (requestFrame 0x33 t [])
  | .readPort t p => some (requestFrame 0x38 t [p])
  | .resetBoard t p => some (requestFrame 0x39 t [p])
  | .loadPortSettings t p => some (requestFrame 0x3A t p)
  | .saveSettings t => some (requestFrame 0x40 t [])
  | .readStoreStatus t => some (requestFrame 0x41 t [])
  | .enterStandby t => some (requestFrame 0x42 t [])
  | .resetPart t => some (requestFrame 0x43 t [])
  | .unknownRequestCode c t p => some (requestFrame c t p)
  | .forwardCommand q c t p => some (mkFrame q.addr 7 kindCommand c t p)
  | .badAddressCommand d s c t p => some (mkFrame d s kindCommand c t p)
  | .capabilityInExchange q t p => some (mkFrame 0 q.addr kindCapability 0 t p)
  | .unsolicitedCapability q t p => some (mkFrame 0 q.addr kindCapability 0 t p)
  | .invalidCapability q t p => some (mkFrame 0 q.addr kindCapability 0 t p)
  | .downstreamFrameDiscarded _ d s k c t p => some (mkFrame d s k c t p)
  | .railControlReply q c r p => some (mkFrame 0 q.addr kindReply c (byteOf (0xC0 + r.val)) p)
  | .sequencerReply q c t p => some (mkFrame 0 q.addr kindReply c t p)
  | .boardReply q c t p => some (mkFrame 7 q.addr kindReply c t p)
  | .boardNotice q c t p => some (mkFrame 7 q.addr kindNotice c t p)
  | _ => none

/-- The well-formed commands. -/
def Instr.wf : Instr → Bool
  | .loadRail _ p => p.length == 25
  | .loadAdmit _ p => p.length == 13
  | .loadSteps _ p => payloadFits p && requestSized 0x20 p
  | .loadTemplate _ p => payloadFits p && requestSized 0x23 p
  | .loadPlan _ p => p.length == 34
  | .loadPortSettings _ p => p.length == 14
  | .unknownRequestCode c _ p => payloadFits p && !requestSized c p
  | .forwardCommand _ _ _ p => payloadFits p
  | .badAddressCommand d s _ _ p => payloadFits p && (s != 7 || 6 ≤ d.toNat)
  | .upstreamFrameReceived b => (frameOfBytes b).isSome
  | .malformedFrame _ b => (frameOfBytes b).isNone
  | .capabilityInExchange _ _ p => payloadFits p && (decCapability p).isSome
  | .unsolicitedCapability _ _ p => payloadFits p && (decCapability p).isSome
  | .invalidCapability _ _ p => payloadFits p && (decCapability p).isNone
  | .downstreamFrameDiscarded _ _ _ k _ _ p => payloadFits p && (1 ≤ k.toNat && k.toNat ≤ 5)
  | .railControlReply _ _ _ p => payloadFits p
  | .sequencerReply _ _ t p => payloadFits p && 0xE0 ≤ t.toNat
  | .boardReply _ _ _ p => payloadFits p
  | .boardNotice _ _ _ p => payloadFits p
  | _ => true

end Sys2Proof
end

