-- ==== Sys2Proof/Safety.lean ====
section
/-! DEFINITION. The conditions on states that the statements name: an event that is over, a part ready for a
frame from the main board, a part with nothing running, and the invariants of a step. -/

namespace Sys2Proof.Machine

/-- Nothing is left of the event before. -/
def State.Settled (s : State) : Prop := s.agenda = [] ∧ s.takeDue = false

/-- Start-up is over and nothing is left of the event before (R192). -/
structure State.Up (s : State) : Prop where
  settled : s.Settled
  running : s.phase = .running

/-- The part takes a frame from the main board at once, and no port comes up with it (R121, R122, R127, R195): U_PRESENT
rose at least the longest frame's time ago (R118, R125; log 48). -/
structure State.Ready (s : State) : Prop extends State.Up s where
  present : s.up.present = true
  listens : ∀ t, s.up.rise = some t → t + 335 ≤ s.now
  emptyRx : s.up.rx = []
  place : s.up.replyTaken < 24
  noWake : s.mode = .active ∨ ∀ p, (s.port p).canExchange = false

/-- No program runs or waits and no command is held (R76, R141). -/
structure State.Quiet (s : State) : Prop extends State.Up s where
  noContext : s.seq.ctx = none
  noRunning : s.sched.running = none
  noQueue : s.sched.queue = []
  notCommitted : s.sched.committed = false
  noHold : s.fwd.hold = []

/-- No command is held and no rail step runs: a rail's report finds nothing to do (R7). -/
structure State.Calm (s : State) : Prop extends State.Up s where
  noHold : s.fwd.hold = []
  noRailStep : ∀ c, s.seq.ctx = some c → (s.stepAt c.index).kind.rail? = none

/-- No rail step runs, and what a pass answers reaches the main board: a rail's report makes its pass over the hold queue,
whatever is held, and the Sequencer has nothing to do with it (R7, R123, R151). -/
structure State.Passing (s : State) : Prop extends State.Up s where
  present : s.up.present = true
  noRailStep : ∀ c, s.seq.ctx = some c → (s.stepAt c.index).kind.rail? = none

/-- Rail `r` of `s` is in state `st` in `t`, with this TIMER and FAULT_CAUSE: its other dynamic fields, its static half
and every other rail as they were, the EN and DIS outputs as R2 drives them, and its channel as R32
and R33 say. -/
structure State.MovedTo (r : RailId) (st : RailState) (timer : Option Time) (cause : Option FaultCause) (s t : State) :
    Prop where
  rail : t.rail r = { s.rail r with dyn := { (s.rail r).dyn with
    state := st, timer := timer, heldGood := st == .on, faultCause := cause } }
  others : ∀ q, q ≠ r → t.rail q = s.rail q
  enable : ∀ e, (s.rail r).static.path = .onPart e → t.en = s.en.set e (st == .rising || st == .on)
  noEnable : ∀ p i on off, (s.rail r).static.path = .board p i on off → t.en = s.en
  noDischarge : (s.rail r).static.discharge = .none → t.dis = s.dis
  bleed : ∀ o, (s.rail r).static.discharge = .bleed o → t.dis = s.dis.set o (st == .falling)
  force : ∀ o n, (s.rail r).static.discharge = .force o n → t.dis = s.dis.set o (st == .discharging)
  channels : ∀ c, t.chan c =
    if (s.rail r).static.sense = some c then (s.chan c).followRail (s.rail r).dyn.state st else s.chan c

/-- Rail `r` of `s` is in state `st` in `t`, as `MovedTo` says, and nothing but the rails, their outputs and their channels
differs. -/
structure State.OnlyMovedTo (r : RailId) (st : RailState) (timer : Option Time) (cause : Option FaultCause) (s t : State) :
    Prop extends State.MovedTo r st timer cause s t where
  rest : { t with rails := s.rails, en := s.en, dis := s.dis, chans := s.chans } = s

/-- A sample of `mv` millivolts on the channel `d` that is bound to rail `r` makes the channel's record `y` (R28, R30 to R33). -/
structure State.Samples (s : State) (d : ChannelId) (mv : Nat) (r : RailId) (y : Channel) : Prop where
  converts : s.conv.running = true
  role : (s.chan d).role = .bound r
  sense : (s.rail r).static.sense = some d
  record : y = s.sampled (s.chan d) (min 1023 (mv / 4))

/-- The record that a sample makes enters no alarm (R31). -/
def State.NoNewAlarm (s : State) (d : ChannelId) (y : Channel) : Prop := y.alarm = (s.chan d).alarm ∨ y.alarm = .none

/-- The record that a sample makes enters an alarm that takes rail `r` to FAULT with this cause (R13, R21). -/
def State.AlarmFaults (s : State) (d : ChannelId) (r : RailId) (y : Channel) (cause : FaultCause) : Prop :=
  (cause = .high ∧ y.alarm = .high ∧ (s.chan d).alarm ≠ .high ∧ (s.rail r).dyn.state ≠ .off ∧
    (s.rail r).dyn.state ≠ .fault) ∨
  (cause = .low ∧ y.alarm = .low ∧ (s.chan d).alarm ≠ .low ∧ (s.rail r).dyn.state = .on)

/-- The claim on rail `r` is released (R18). -/
def State.unclaimed (s : State) (r : RailId) : State := modDyn r (fun d => { d with claim := .none }) s

/-- The RAIL_FRAME record of rail `r` is absent (R5). -/
def State.unframed (s : State) (r : RailId) : State := modDyn r (fun d => { d with frame := none }) s

/-- A RAIL_FRAME record as it is made: the first attempt, waiting for its place (R5). -/
def RailFrame.made (isOn forStep : Bool) : RailFrame :=
  { isOn := isOn, attempt := 1, mark := .waiting, forStep := forStep, thenOff := false }

/-- The milliseconds that rail `r` has to rise: SETTLE_MS unsensed, RISE_MS sensed (R10). -/
def State.riseTime (s : State) (r : RailId) : Nat :=
  if (s.rail r).static.sense = none then (s.rail r).static.settleMs else (s.rail r).static.riseMs

/-- Entry of rail `r` into FAULT does no more than move it and raise RAIL_FAULT: no frame is in flight, no board can be told,
no FAULT_ACTION is named and no dependent is up (R15, R21). -/
structure State.FaultsAlone (s : State) (r : RailId) : Prop where
  noFrame : (s.rail r).dyn.frame = none
  noBoard : ∀ p i on off, (s.rail r).static.path = .board p i on off → s.pathAvailable r = false
  noAction : (s.rail r).static.faultAction = none
  noDependent : ∀ d, (s.rail d).static.used = true → inSet (s.rail d).static.prereqs r = true →
    (s.rail d).dyn.state ≠ .rising ∧ (s.rail d).dyn.state ≠ .on

/-- No dependent of rail `r` is RISING or ON: a cascade finds nothing to do (R15, R16). -/
def State.NoDependentUp (s : State) (r : RailId) : Prop :=
  ∀ d, (s.rail d).static.used = true → inSet (s.rail d).static.prereqs r = true →
    (s.rail d).dyn.state ≠ .rising ∧ (s.rail d).dyn.state ≠ .on

/-- A command's frame has been taken: the part is ACTIVE and a reply place is reserved (R122). -/
def State.taken (s : State) : State :=
  { s with mode := .active, up := { s.up with replyTaken := s.up.replyTaken + 1 } }

/-- A frame joins the upstream transmit queue (R123). -/
def State.placed (s : State) (e : UpEntry) : State := { s with up := { s.up with tx := s.up.tx ++ [e] } }

/-- A reply to a command joins the upstream transmit queue (R124, R173). -/
def State.answered (s : State) (f : Frame) (status : Byte) (data : List Byte) : State :=
  s.placed (replyEntry (replyFrame f status data))

/-- The frame taken and answered with one reply, and nothing else (R124, R173). -/
def State.replied (s : State) (f : Frame) (status : Byte) (data : List Byte) : State :=
  s.taken.answered f status data

/-- Program 2 or above runs on the last step of its range, and nothing asks for its abandonment (R52, R81). -/
structure State.LastStep (s : State) (c : Context) (x : Running) : Prop where
  context : s.seq.ctx = some c
  running : s.sched.running = some x
  ordinary : 2 ≤ c.program.val
  last : s.inRange c.program (c.index + 1) = false
  unmarked : x.marked = false
  noQueue : s.sched.queue = []

/-- The last step of such a program is a RAIL_ON or RAIL_OFF step of the USED rail `r` with ON_FAIL ABORT, and no command is
held: what the rail reports is for the step alone (R7, R57, R58). -/
structure State.RailStep (s : State) (c : Context) (x : Running) (r : RailId) (k : StepKind) : Prop extends State.Up s where
  lastStep : s.LastStep c x
  kind : (s.stepAt c.index).kind = k
  rail : k.rail? = some r
  used : (s.rail r).static.used = true
  aborts : (s.stepAt c.index).onFail = .abort
  noHold : s.fwd.hold = []

/-- The running program ended: no context, no running program, its result in the record, PROGRAM_END handed on
(R55, R85, R86). -/
def State.endedWith (s : State) (c : Context) (e : ProgramEnd) : State :=
  raise .programEnd { s with
    seq := { s.seq with ctx := none }
    sched := { s.sched with running := none, last := some (c.result e) } }

/-- The step after the one that runs has started at `now`: its position, its timer and what it waits for, and the guarded
flag that it reports (R52, R67). -/
def State.startedNext (s : State) (c : Context) (x : Running) (now : Time) (timer : Option Time) (w : Wait) : State :=
  { s with
    now := now
    seq := { s.seq with ctx := some { c with index := c.index + 1, timer := timer, frame := none, wait := w } }
    sched := { s.sched with running := some { x with guarded := (s.stepAt (c.index + 1)).guarded } } }

/-- The program's DELAY step ends by its timer at `now`, and the next step of its range, of kind `k`, starts (R52, R59). -/
structure State.NextStep (s : State) (c : Context) (x : Running) (now : Time) (k : StepKind) : Prop extends State.Up s where
  context : s.seq.ctx = some c
  program : s.sched.running = some x
  unguarded : x.guarded = false
  delay : ∃ time due, (s.stepAt c.index).kind = .delay time ∧ c.timer = some due ∧ now = max s.now due
  range : s.inRange c.program (c.index + 1) = true
  next : (s.stepAt (c.index + 1)).kind = k

/-- Such a next step is the last of program 2 or above with ON_FAIL ABORT, and nothing asks for the program's abandonment: as it
ends, so does the program (R52, R53, R81). -/
structure State.NextStepLast (s : State) (c : Context) (x : Running) (now : Time) (k : StepKind) : Prop
    extends State.NextStep s c x now k where
  ordinary : 2 ≤ c.program.val
  last : s.inRange c.program (c.index + 2) = false
  aborts : (s.stepAt (c.index + 1)).onFail = .abort
  unmarked : x.marked = false
  noQueue : s.sched.queue = []
  noHold : s.fwd.hold = []

/-- How a RAIL_ON or RAIL_OFF step of rail `r`, at pool index `i`, ends its program at once as its order is taken against the
rail as it stands (R8, R9, R56, R58). -/
def State.EndsAtOnce (s : State) (r : RailId) (i : Nat) (k : StepKind) (e : ProgramEnd) : Prop :=
  (s.rail r).dyn.claim = .none ∧ (s.rail r).dyn.frame = none ∧
  (((s.rail r).static.used = false ∧ e = .failed i .noPath) ∨
   ((s.rail r).static.used = true ∧
    (((s.rail r).dyn.state = .fault ∧ e = .failed i .railFault) ∨
     (k.isRailOn = true ∧
       ((((s.rail r).dyn.state = .rising ∨ (s.rail r).dyn.state = .on) ∧ e = .done) ∨
        ((s.rail r).dyn.state = .off ∧ s.allOn (s.rail r).static.prereqs = false ∧ e = .failed i .prereq) ∨
        ((s.rail r).dyn.state = .off ∧ s.allOn (s.rail r).static.prereqs = true ∧ s.pathAvailable r = false ∧
          e = .failed i .noPath))) ∨
     (k.isRailOn = false ∧
       (((s.rail r).dyn.state = .off ∧ e = .done) ∨
        (((s.rail r).dyn.state = .rising ∨ (s.rail r).dyn.state = .on) ∧
          (∃ d ∈ s.dependents r, s.railState d ≠ .off) ∧ e = .failed i .order) ∨
        (((s.rail r).dyn.state = .rising ∨ (s.rail r).dyn.state = .on) ∧
          (∀ d ∈ s.dependents r, s.railState d = .off) ∧ s.pathAvailable r = false ∧ e = .failed i .noPath))))))

/-- What a reset of cause `c` leaves of a part that was `s` (R190, R192 items 1 and 2, and the reset values that the
chapters give; logs 3, 4, 26, 27); a record write under way is cut off (R115; log 49). -/
structure State.ResetTo (c : ResetCause) (s t : State) : Prop where
  cause : t.cause = c
  wait : t.phase = .waiting (s.now + Config.startupWait)
  mode : t.mode = .active
  noReset : t.resetWaiting = false
  rails : ∀ r, (t.rail r).static = RailStatic.unused ∧ (t.rail r).dyn = RailDynamic.idle
  enables : ∀ i, t.en.get i = false
  discharges : ∀ i, t.dis.get i = false
  controls : ∀ i, t.ctl.get i = false
  channels : ∀ c, t.chan c = Channel.initial
  marks : t.marks = []
  converter : t.conv.running = false
  line : t.line = { state := .unqualified, count := 0, prev := none, gap := none }
  sync : t.sync = { armed := false, target := none, count := 0 }
  steps : ∀ i, t.stepAt i = Step.initial
  headers : ∀ n, t.header n = Header.initial n.val
  templates : ∀ n, t.template n = none
  context : t.seq.ctx = none ∧ t.seq.tagCounter = 0xE0 ∧ t.seq.cancel = none
  scheduler : t.sched.running = none ∧ t.sched.queue = [] ∧ t.sched.committed = false ∧ t.sched.last = none
  plan : t.rtu.plan = Plan.initial
  stage : t.rtu.stage = .dark ∧ t.rtu.shedLevel = 0 ∧ t.rtu.armed = false
  episode : t.rtu.lossTime = none ∧ t.rtu.deepest = 0 ∧ t.rtu.commitTimer = none ∧ t.rtu.resumeDelay = none
  triggers : ∀ i, t.rtu.levelTimers.get i = none
  write : t.rtu.write = .idle
  ports : ∀ p, t.port p = PortRec.initial (s.port p).present
  upstream : t.up = Upstream.initial s.up.present
  admission : ∀ i, t.fwd.admission.get i = none
  forward : t.fwd.orderHoldMs = 500 ∧ t.fwd.shedLevel = 0 ∧ t.fwd.hold = []
  queues : ∀ p, t.queue p = [] ∧ t.outs p = []
  events : t.ev = { pending := 0, mask := 0, defaultMask := 0, attn := false }
  groups : t.store.groups = s.store.groups
  save : t.store.save = .none ∧ t.store.group = none ∧ t.store.cause = none
  results : ∀ g, t.store.results.get g = .notReached
  outside : t.pending = s.pending ∧ t.now = s.now
  slotKept : s.rtu.write = .idle → t.store.slot = s.store.slot
  slotCut : s.rtu.write ≠ .idle → t.store.slot = .cutOff

/-- The tables of group G1 to G5 (R184) stand in `t` as they stand in `s`: G1 the rails' static halves and the channels'
thresholds, G2 the Admission Table, G3 steps, headers and templates, G4 the plan, G5 the port settings. -/
def State.GroupAlike (g : Fin 5) (s t : State) : Prop :=
  match g with
  | 0 => (∀ r, (t.rail r).static = (s.rail r).static) ∧ ∀ c, (t.chan c).low = (s.chan c).low ∧
      (t.chan c).high = (s.chan c).high ∧ (t.chan c).debounce = (s.chan c).debounce
  | 1 => t.fwd.admission = s.fwd.admission
  | 2 => t.seq.steps = s.seq.steps ∧ t.seq.headers = s.seq.headers ∧ t.seq.templates = s.seq.templates
  | 3 => t.rtu.plan = s.rtu.plan
  | 4 => (∀ p, (t.port p).windowMs = (s.port p).windowMs ∧ (t.port p).fair = (s.port p).fair) ∧
      t.fwd.orderHoldMs = s.fwd.orderHoldMs ∧ t.ev.defaultMask = s.ev.defaultMask

/-- ATTN is asserted exactly when some event is both pending and enabled in the mask (R167); before the outputs
are enabled it is not driven (R171, R192). -/
def State.AttnInv (s : State) : Prop :=
  (s.phase = .running → s.ev.attn = (s.ev.requesting != 0)) ∧ (s.phase ≠ .running → s.ev.attn = false)

/-- Attention notices waiting and under transmission (R123, R168). -/
def State.attentionsTaken (s : State) : Nat :=
  (s.up.tx.filter UpEntry.isAttention).length +
    match s.up.line with
    | .sending e _ => if e.isAttention then 1 else 0
    | _ => 0

/-- Queues, lists and transmit places within their sizes and the tag counter within its range (R49, R76, R121, R123,
R141); a forwarded command under transmission has its place among the outstanding ones (R138). -/
structure State.BoundsInv (s : State) : Prop where
  receive : s.up.rx.length ≤ 4
  requests : s.sched.queue.length ≤ 4
  hold : s.fwd.hold.length ≤ 16
  tag : 0xE0 ≤ s.seq.tagCounter.toNat
  forward : ∀ p, (s.queue p).length ≤ 8
  outstanding : ∀ p, (s.outs p).length ≤ 4
  granted : ∀ p, (s.port p).owner = some .forward → (s.outs p).length < 4
  replies : s.up.replyTaken ≤ 24
  notices : s.noticesTaken ≤ 7
  attention : s.attentionsTaken ≤ 1

end Sys2Proof.Machine
end

