-- ==== Sys2Proof/Certificates/Slice0/Obligations.lean ====
section
/-! DEFINITION. The statements for the provers, one definition each; OBLIGATIONS.json lists them. -/

open Sys2Proof Sys2Proof.Machine

/-! ### The step -/

/-- A step takes the command at the front of the queue and answers what `exec` answers on the queue's rest. -/
def Obligations.StepRunsFrontCommand : Prop :=
  ∀ (c : Instr) (rest : List Instr) (s : State), s.pending = c :: rest → step s = exec c { s with pending := rest }

/-- With no command waiting the clock moves on half a microsecond and nothing else changes (the model's choice, log 2). -/
def Obligations.IdleStepIsOneTick : Prop :=
  ∀ s : State, s.pending = [] → step s = .next { s with now := s.now + 1 }

/-! ### Requests that read -/

/-- The requests that report and change nothing: one OK reply with the layout's data, the part in ACTIVE, a reply place
taken, and every other field as it was. The reply data of every request that reports live state has the length of R181's
table, index bytes included: IDENTIFY, SNAPSHOT, READ_EVENTS, READ_RAIL, READ_SENSE, READ_PLAN, READ_RECORD, READ_PORT,
READ_STORE_STATUS and READ_RESULT. The model's own: how a time is rounded (log 8), and what an absent field is sent as (log
26). -/
def Obligations.StatusReadsReplyAndChangeNothing : Prop :=
  (∀ (s : State) (tag : Byte), s.Ready →
     exec (.identify tag) s = .next (s.replied (requestFrame 0x01 tag []) stOk
       [0x41, 0x60, 0x01, byteOf s.cause.code, 24, 8, 1, 0, 12, 16, 64, 16, 8, 4, 4, 24, 7, 60]) ∧
     exec (.snapshot tag) s = .next (s.replied (requestFrame 0x02 tag []) stOk (s.snapshot s.mode)) ∧
     exec (.readSense tag) s = .next (s.replied (requestFrame 0x14 tag []) stOk
       (s.chans.toList.flatMap Channel.bytes ++ [byteOf s.marks.length] ++
         (s.marks.flatMap BulkMark.bytes ++ List.replicate 10 0).take 10)) ∧
     exec (.readResult tag) s = .next (s.replied (requestFrame 0x27 tag []) stOk (resultBytes s.sched.last)) ∧
     exec (.readPlan tag) s = .next (s.replied (requestFrame 0x31 tag []) stOk (encPlan s.rtu.plan ++ s.planLive)) ∧
     exec (.readRecord tag) s = .next (s.replied (requestFrame 0x32 tag []) stOk (recordBytes s.rtu.record s.rtu.write)) ∧
     exec (.readStoreStatus tag) s = .next (s.replied (requestFrame 0x41 tag []) stOk
       (s.store.saveBytes ++ [abandonByte s.store.cause] ++ s.store.results.toList.map (fun x => byteOf x.code) ++
         s.store.loads.toList.map (fun x => byteOf x.number) ++ [byteOf s.rtu.write.code]))) ∧
  (∀ (s : State) (m : Mode) (r : RailId) (p : Port),
     s.identity.length = 18 ∧ (s.snapshot m).length = 40 ∧
     (bytes2 s.ev.pending.toNat ++ bytes2 s.ev.requesting.toNat).length = 4 ∧
     ([byteOf r.val] ++ encRail (s.rail r).static ++ s.railLive r).length = 37 ∧
     (s.chans.toList.flatMap Channel.bytes ++ [byteOf s.marks.length] ++
       (s.marks.flatMap BulkMark.bytes ++ List.replicate 10 0).take 10).length = 59 ∧
     (s.store.saveBytes ++ [abandonByte s.store.cause] ++ s.store.results.toList.map (fun x => byteOf x.code) ++
       s.store.loads.toList.map (fun x => byteOf x.number) ++ [byteOf s.rtu.write.code]).length = 14 ∧
     (encPlan s.rtu.plan ++ s.planLive).length = 42 ∧ (recordBytes s.rtu.record s.rtu.write).length = 12 ∧
     (s.portBytes p).length = 25 ∧ ((resultBytes s.sched.last).length = 1 ∨ (resultBytes s.sched.last).length = 8))

/-- R146: READ_ADMIT replies with the entry, or its empty mark, or refuses BAD_INDEX, and changes nothing, in every
stage and while a save is in progress. -/
def Obligations.ReadAdmitReplies : Prop :=
  ∀ (s : State) (tag index : Byte), s.Ready →
    (∀ h : index.toNat < 64, exec (.readAdmit tag index) s =
      .next (s.replied (requestFrame 0x19 tag [index]) stOk (index :: encAdmit (s.fwd.admission.get ⟨index.toNat, h⟩)))) ∧
    (64 ≤ index.toNat → exec (.readAdmit tag index) s =
      .next (s.replied (requestFrame 0x19 tag [index]) stBadIndex []))

/-- R75: READ_STEPS and READ_PROGRAM, with the worst-case duration that READ_PROGRAM reports: the sum over the program's range
of each step's bound, the whole of R70's table. -/
def Obligations.ReadStepsAndProgramReply : Prop :=
  (∀ (s : State) (tag start count program : Byte), s.Ready →
    (256 < start.toNat + count.toNat → exec (.readSteps tag start count) s =
      .next (s.replied (requestFrame 0x21 tag [start, count]) stBadIndex [])) ∧
    (start.toNat + count.toNat ≤ 256 → (count.toNat = 0 ∨ 6 < count.toNat) → exec (.readSteps tag start count) s =
      .next (s.replied (requestFrame 0x21 tag [start, count]) stBadRequest [])) ∧
    (start.toNat + count.toNat ≤ 256 → 1 ≤ count.toNat → count.toNat ≤ 6 → exec (.readSteps tag start count) s =
      .next (s.replied (requestFrame 0x21 tag [start, count]) stOk ([start, count] ++
        (List.range count.toNat).flatMap (fun k => encStep (s.stepAt (start.toNat + k)))))) ∧
    (∀ h : program.toNat < 12, exec (.readProgram tag program) s =
      .next (s.replied (requestFrame 0x24 tag [program]) stOk ([program] ++ encHeader (s.header ⟨program.toNat, h⟩) ++
        bytes4 (s.worstCase ⟨program.toNat, h⟩)))) ∧
    (12 ≤ program.toNat → exec (.readProgram tag program) s =
      .next (s.replied (requestFrame 0x24 tag [program]) stBadIndex []))) ∧
  (∀ (s : State) (n : ProgNo), s.worstCase n =
    ((List.range (s.header n).count).map (fun k => s.stepWorst (s.stepAt ((s.header n).first + k)).kind)).sum) ∧
  (∀ (s : State) (r : RailId) (noWait : Bool) (x : RailStatic) (d : Nat), x = (s.rail r).static →
    d = (match x.discharge with | .force _ n => n | _ => 0) →
    (x.used = false → s.stepWorst (.railOff r noWait) = 0 ∧ s.stepWorst (.railOn r noWait) = 0) ∧
    (∀ e, x.used = true → x.path = .onPart e →
      s.stepWorst (.railOff r noWait) = x.fallMs + d ∧ s.stepWorst (.railOn r noWait) = x.riseMs) ∧
    (∀ p i on off, x.used = true → x.path = .board p i on off →
      s.stepWorst (.railOff r noWait) = 2 * (s.port p).windowMs + x.fallMs + d ∧
      s.stepWorst (.railOn r noWait) = 2 * (s.port p).windowMs + x.riseMs)) ∧
  (∀ (s : State) (time count : Nat) (p : Port) (cls : Byte) (cancel : Option (Fin 16)) (r : RailId) (st : RailState)
    (o : Fin 4) (active : Bool) (n : Fin 16),
    s.stepWorst (.delay time) = time ∧ s.stepWorst (.awaitSync time count) = time ∧
    s.stepWorst (.awaitNotice time p cls cancel) = time ∧
    (∀ y, s.template n = some y → s.stepWorst (.send n) = y.windowMs * (y.retries + 1)) ∧
    (s.template n = none → s.stepWorst (.send n) = 0) ∧
    s.stepWorst (.check r st) = 0 ∧ s.stepWorst (.setOutput o active) = 0)

/-- READ_RAIL and READ_PORT report the held latch as it stood and then re-arm it to the current state, their one change; a
number outside the table is BAD_INDEX. The model's own in the reported data: how TIMER's time left is rounded (log 8), the
fields of a rail that was never loaded (log 4), LAST of a rail whose USED is clear and whose record names a channel (log 56),
and PAYLOAD_LIMIT and FEATURES of a port outside UP (log 57). -/
def Obligations.ReadRailAndReadPortReportThenRearm : Prop :=
  (∀ (s : State) (tag rail : Byte), s.Ready →
    (∀ h : rail.toNat < 24, exec (.readRail tag rail) s =
      .next (modDyn ⟨rail.toNat, h⟩ (fun d => { d with heldGood := s.goodNow ⟨rail.toNat, h⟩ })
        (s.replied (requestFrame 0x11 tag [rail]) stOk
          ([rail] ++ encRail (s.rail ⟨rail.toNat, h⟩).static ++ s.railLive ⟨rail.toNat, h⟩)))) ∧
    (24 ≤ rail.toNat → exec (.readRail tag rail) s = .next (s.replied (requestFrame 0x11 tag [rail]) stBadIndex []))) ∧
  (∀ (s : State) (tag port : Byte), s.Ready →
    (∀ p : Port, p.number = port.toNat → exec (.readPort tag port) s =
      .next (modPort p (fun x => { x with latch := x.link == .up })
        (s.replied (requestFrame 0x38 tag [port]) stOk (s.portBytes p)))) ∧
    ((port.toNat = 0 ∨ 5 < port.toNat) → exec (.readPort tag port) s =
      .next (s.replied (requestFrame 0x38 tag [port]) stBadIndex [])))

/-! ### Resets and start-up -/

/-- Each of the three resets from outside the part: its cause, the 2 ms wait, and every block at its reset value. The values of
logs 3, 4, 26 and 27, and the slot of a write that is cut off with another pending (log 49), are the model's. -/
def Obligations.ResetsLeaveEveryBlockAtItsResetValues : Prop :=
  ∀ s : State, s.Settled →
    (∃ t, exec .powerOnReset s = .next t ∧ State.ResetTo .powerOn s t) ∧
    (∃ t, exec .supplyLowReset s = .next t ∧ State.ResetTo .supplyLow s t) ∧
    (∃ t, exec .resetPin s = .next t ∧ State.ResetTo .resetPin s t)

/-- The end of the 2 ms wait. Each group is judged on its own: one that has no accept code 0xA5, whose CRC does not match or
that is unfit holds its defaults, with the load result that says which, and one that passes is applied with result STORED;
CONFIG_FALLBACK joins the pending set where a group takes its defaults other than for the code 0xFF. Then the groups
together: a plan whose bulk channel a USED rail senses is the default plan, with result UNFIT; a program 0 whose worst case
exceeds RESERVE_MS puts G3 and G4 on their defaults, with result BUDGET; a program named for a role that its priority does
not fit is none; each with CONFIG_FALLBACK. The mask is the default mask and the record copy is read from the slot. The end
of the load: every USED rail starts FALLING under FALL_MS, no output is asserted, the converter starts, the mode is ACTIVE,
ATTN follows the requesting set, and a port whose PRESENT is high enters EXCHANGE. The model's own: the layout of a stored
group (log 22), the whole load in one event (log 25), and that the names in rails with USED clear are judged too (log 50). -/
def Obligations.StartupWaitAndLoadStartThePart : Prop :=
  (∀ (s : State) (due : Time), s.Settled → s.phase = .waiting due →
    ∃ t, exec .startupWaitEnd s = .next t ∧ t.phase = .loading ∧ t.now = max s.now due ∧
      t.ev.mask = t.ev.defaultMask ∧ t.rtu.record = s.store.slot.copy ∧ t.store.groups = s.store.groups ∧
      (∀ g : Fin 5, g = 0 ∨ g = 1 ∨ g = 4 → (s.store.groups.get g).code ≠ 0xA5 → t.store.loads.get g = .code) ∧
      (∀ g : Fin 5, g = 0 ∨ g = 1 ∨ g = 4 → (s.store.groups.get g).code = 0xA5 →
        crc16 (s.store.groups.get g).contents ≠ (s.store.groups.get g).crc → t.store.loads.get g = .crc) ∧
      (∀ g : Fin 5, (s.store.groups.get g).code ≠ 0xA5 → (s.store.groups.get g).code ≠ 0xFF →
        t.ev.pending &&& EventKind.configFallback.bit ≠ 0) ∧
      t.en = s.en ∧ t.dis = s.dis ∧ t.ctl = s.ctl) ∧
  (∀ (s : State) (due : Time), s.Settled → s.phase = .waiting due → (∀ g, State.reset.GroupAlike g s) →
    ∃ t u p, exec .startupWaitEnd s = .next t ∧
      (∀ (g : Fin 5) (a : GroupArea), a = s.store.groups.get g →
        (a.code ≠ 0xA5 → u.store.loads.get g = .code ∧ State.reset.GroupAlike g u) ∧
        (a.code = 0xA5 → crc16 a.contents ≠ a.crc → u.store.loads.get g = .crc ∧ State.reset.GroupAlike g u) ∧
        (a.code = 0xA5 → crc16 a.contents = a.crc →
          (loadGroup g a.contents s = none → u.store.loads.get g = .unfit ∧ State.reset.GroupAlike g u) ∧
          (∀ v, loadGroup g a.contents s = some v → u.store.loads.get g = .stored ∧ v.GroupAlike g u))) ∧
      u.ev.pending = (if ∃ g, u.store.loads.get g ≠ .stored ∧ (s.store.groups.get g).code ≠ 0xFF then
        s.ev.pending ||| EventKind.configFallback.bit else s.ev.pending) ∧
      p = (if ∃ r, (u.rail r).static.used = true ∧ (u.rail r).static.sense ≠ none ∧
        (u.rail r).static.sense = u.rtu.plan.bulk then Plan.initial else u.rtu.plan) ∧
      (p.reserveMs < u.worstCase 0 → State.reset.GroupAlike 2 t ∧ State.reset.GroupAlike 3 t ∧
        t.store.loads.get 2 = .budget ∧ t.store.loads.get 3 = .budget) ∧
      (u.worstCase 0 ≤ p.reserveMs → u.GroupAlike 2 t ∧ t.store.loads.get 2 = u.store.loads.get 2 ∧
        t.store.loads.get 3 = (if p = u.rtu.plan then u.store.loads.get 3 else .unfit) ∧
        t.rtu.plan = { p with
          levels := p.levels.map (fun l => { l with
            program := l.program.filter (fun n => (t.header n).priority == 2) })
          resume := match p.resume with
            | .wait => .wait
            | .auto d n => if (t.header n).priority = 1 then .auto d n else .wait }) ∧
      (∀ r, (t.rail r).static = { (u.rail r).static with
        faultAction := (u.rail r).static.faultAction.filter (fun n => (t.header n).priority == 2) }) ∧
      (∀ c, (t.chan c).low = (u.chan c).low ∧ (t.chan c).high = (u.chan c).high ∧
        (t.chan c).debounce = (u.chan c).debounce ∧ (t.chan c).role = t.roleOf c) ∧
      u.GroupAlike 1 t ∧ u.GroupAlike 4 t ∧ t.marks = t.rtu.plan.marks ∧
      (∀ g : Fin 5, g = 0 ∨ g = 1 ∨ g = 4 → t.store.loads.get g = u.store.loads.get g) ∧
      t.ev.pending = (if p.reserveMs < u.worstCase 0 ∨ t.rtu.plan ≠ u.rtu.plan ∨
        (∃ r, (t.rail r).static ≠ (u.rail r).static) then
          u.ev.pending ||| EventKind.configFallback.bit else u.ev.pending)) ∧
  (∀ s : State, s.Settled → s.phase = .loading → s.ev.attn = false →
    ∃ t, exec .startupLoadComplete s = .next t ∧ t.phase = .running ∧ t.mode = .active ∧
      t.conv = { running := true, next := 0, roundDue := s.now } ∧
      (∀ r, (t.rail r).static = (s.rail r).static ∧ (t.rail r).dyn =
        if (s.rail r).static.used then
          { RailDynamic.idle with state := .falling, timer := some (s.now + Config.ms (s.rail r).static.fallMs) }
        else RailDynamic.idle) ∧
      t.en = s.en ∧ t.dis = s.dis ∧ t.ctl = s.ctl ∧ t.rtu = s.rtu ∧ t.line = s.line ∧
      t.ev = { s.ev with attn := s.ev.requesting != 0 } ∧
      (∀ p, (s.port p).canExchange = true → (t.port p).link = .exchange ∧ (t.port p).probeCount = 1) ∧
      (∀ p, (s.port p).canExchange = false → t.port p = s.port p))

/-! ### Events -/

/-- A kind handed to the Event Unit joins the pending set; ATTN follows, and a change of the requesting set from
empty makes one attention notice where U is present and the attention place is free. -/
def Obligations.RaisedKindSetsPendingAndAttention : Prop :=
  ∀ (s : State) (k : EventKind), s.phase = .running → s.AttnInv →
    (raise k s).ev = { s.ev with pending := s.ev.pending ||| k.bit,
                                 attn := ((s.ev.pending ||| k.bit) &&& s.ev.mask) != 0 } ∧
    (s.ev.requesting = 0 ∧ (raise k s).ev.requesting ≠ 0 ∧ s.up.present = true ∧ s.attentionHeld = false →
      (raise k s).up = { s.up with tx := s.up.tx ++ [attentionNotice (raise k s).ev.requesting] }) ∧
    (¬ (s.ev.requesting = 0 ∧ (raise k s).ev.requesting ≠ 0 ∧ s.up.present = true ∧ s.attentionHeld = false) →
      (raise k s).up = s.up) ∧
    { raise k s with ev := s.ev, up := s.up } = s

/-- SET_MASK and READ_EVENTS: what each does to the pending set, the mask and ATTN, the frames that the transmit queue
gains and loses by it (the reply, and the attention notice as the requesting set goes from or to empty), and that nothing
else changes. That SET_MASK's attention notice stands before its reply is the model's choice (log 37). -/
def Obligations.SetMaskAndReadEventsActOnTheSets : Prop :=
  ∀ (s : State) (tag : Byte) (mask : Word16) (r q : UpEntry), s.Ready → s.AttnInv →
    r = replyEntry (replyFrame (requestFrame 0x09 tag (bytes2 mask.toNat)) stOk []) →
    q = replyEntry (replyFrame (requestFrame 0x08 tag []) stOk
      (bytes2 s.ev.pending.toNat ++ bytes2 s.ev.requesting.toNat)) →
    (∃ t, exec (.setMask tag mask) s = .next t ∧
      t.ev = { s.ev with mask := mask, attn := (s.ev.pending &&& mask) != 0 } ∧
      (s.ev.requesting = 0 → s.ev.pending &&& mask ≠ 0 → s.attentionHeld = false →
        t.up = { s.taken.up with tx := s.up.tx ++ [attentionNotice (s.ev.pending &&& mask), r] }) ∧
      (s.ev.requesting ≠ 0 → s.ev.pending &&& mask = 0 →
        t.up = { s.taken.up with tx := s.up.tx.filter (fun e => !e.isAttention) ++ [r] }) ∧
      ((s.ev.requesting = 0 ↔ s.ev.pending &&& mask = 0) ∨ (s.ev.requesting = 0 ∧ s.attentionHeld = true) →
        t.up = { s.taken.up with tx := s.up.tx ++ [r] }) ∧
      { t with ev := s.ev, up := s.up, mode := s.mode } = s) ∧
    (∃ t, exec (.readEvents tag) s = .next t ∧
      t.ev = { s.ev with pending := s.ev.pending &&& ~~~ s.ev.requesting, attn := false } ∧
      (s.ev.requesting ≠ 0 →
        t.up = { s.taken.up with tx := s.up.tx.filter (fun e => !e.isAttention) ++ [q] }) ∧
      (s.ev.requesting = 0 → t.up = { s.taken.up with tx := s.up.tx ++ [q] }) ∧
      { t with ev := s.ev, up := s.up, mode := s.mode } = s)

/-- R170: CLEAR_EVENTS empties the pending set in every stage and mode and while a save is in progress, releases ATTN
and withdraws a waiting attention notice, leaves the mask, and is refused BAD_REQUEST with a payload. -/
def Obligations.ClearEventsEmptiesThePendingSet : Prop :=
  ∀ (s : State) (tag : Byte) (payload : List Byte), s.Ready → s.AttnInv →
    (∃ t, exec (.clearEvents tag) s = .next t ∧
      t.ev = { s.ev with pending := 0, attn := false } ∧
      replyEntry (replyFrame (requestFrame 0x0A tag []) stOk []) ∈ t.up.tx ∧
      (s.ev.requesting ≠ 0 → ∀ e ∈ t.up.tx, e.group ≠ .attention) ∧
      { t with ev := s.ev, up := s.up, mode := s.mode } = s) ∧
    (payload ≠ [] → payload.length ≤ 60 → exec (.unknownRequestCode 0x0A tag payload) s =
      .next (s.replied (requestFrame 0x0A tag payload) stBadRequest []))

/-! ### Loads -/

/-- LOAD_CHANNEL: its checks in order, and the thresholds replaced with every count at zero, the alarm, LAST and
ROLE kept, and the bulk marks' counts at zero where the channel is the bulk channel. That a load of another channel leaves
the marks' counts is the model's reading of R38 beside R39 (log 36). -/
def Obligations.LoadChannelChecksAndReplaces : Prop :=
  ∀ (s : State) (tag channel : Byte) (low high : Word16) (debounce : Byte) (f : Frame), s.Ready →
    f = requestFrame 0x13 tag ([channel] ++ bytes2 low.toNat ++ bytes2 high.toNat ++ [debounce]) →
    (8 ≤ channel.toNat → exec (.loadChannel tag channel low high debounce) s = .next (s.replied f stBadIndex [])) ∧
    (∀ h : channel.toNat < 8,
      (s.saving = true → exec (.loadChannel tag channel low high debounce) s = .next (s.replied f stBusy [])) ∧
      (s.saving = false → thresholdsFit low.toNat high.toNat debounce.toNat = false →
        exec (.loadChannel tag channel low high debounce) s = .next (s.replied f stBadRequest [])) ∧
      (s.saving = false → thresholdsFit low.toNat high.toNat debounce.toNat = true →
        exec (.loadChannel tag channel low high debounce) s = .next
          { s.replied f stOk [] with
            chans := s.chans.set channel.toNat { s.chan ⟨channel.toNat, h⟩ with
              low := low.toNat, high := high.toNat, debounce := debounce.toNat, lowCount := 0, highCount := 0,
              insideCount := 0, goodCount := 0 }
            marks := if (s.chan ⟨channel.toNat, h⟩).role = .bulk then s.marks.map (fun m => { m with count := 0 })
                     else s.marks }))

/-- LOAD_ADMIT: its checks in order, and the entry or the empty mark at its index. -/
def Obligations.LoadAdmitChecksAndReplaces : Prop :=
  ∀ (s : State) (tag : Byte) (payload : List Byte), s.Ready → payload.length = 13 →
    (64 ≤ at1 payload 0 →
      exec (.loadAdmit tag payload) s = .next (s.replied (requestFrame 0x18 tag payload) stBadIndex [])) ∧
    (∀ h : at1 payload 0 < 64,
      (s.saving = true →
        exec (.loadAdmit tag payload) s = .next (s.replied (requestFrame 0x18 tag payload) stBusy [])) ∧
      (s.saving = false → decAdmit payload 1 = none →
        exec (.loadAdmit tag payload) s = .next (s.replied (requestFrame 0x18 tag payload) stBadRequest [])) ∧
      (∀ e, s.saving = false → decAdmit payload 1 = some (some e) → s.keyTaken ⟨at1 payload 0, h⟩ e = true →
        exec (.loadAdmit tag payload) s = .next (s.replied (requestFrame 0x18 tag payload) stBadRequest [])) ∧
      (∀ e, s.saving = false → decAdmit payload 1 = some e →
        (∀ x, e = some x → s.keyTaken ⟨at1 payload 0, h⟩ x = false) →
        exec (.loadAdmit tag payload) s = .next { s.replied (requestFrame 0x18 tag payload) stOk [] with
          fwd := { s.fwd with admission := s.fwd.admission.set (at1 payload 0) e } }))

/-- LOAD_STEPS: its seven checks in order; a request that passes them writes every record of its list to the pool at its
index, and changes nothing else. -/
def Obligations.LoadStepsChecksAndWritesThePool : Prop :=
  ∀ (s : State) (tag : Byte) (payload : List Byte) (f : Frame) (start count : Nat), s.Ready → payload.length ≤ 60 →
    payload.length = 2 + 8 * count → start = at1 payload 0 → count = at1 payload 1 → f = requestFrame 0x20 tag payload →
    (256 < start + count → exec (.loadSteps tag payload) s = .next (s.replied f stBadIndex [])) ∧
    (start + count ≤ 256 → s.rtu.stage = .commit →
      exec (.loadSteps tag payload) s = .next (s.replied f stCommitted [])) ∧
    (start + count ≤ 256 → s.rtu.stage ≠ .commit →
      (s.saving = true → exec (.loadSteps tag payload) s = .next (s.replied f stBusy [])) ∧
      (s.saving = false →
        (count = 0 ∨ 6 < count → exec (.loadSteps tag payload) s = .next (s.replied f stBadRequest [])) ∧
        (∀ k, k < count → decStep payload (2 + 8 * k) = none →
          exec (.loadSteps tag payload) s = .next (s.replied f stBadRequest [])) ∧
        (∀ l : List Step, 1 ≤ count → count ≤ 6 → l.length = count →
          (∀ k, k < count → decStep payload (2 + 8 * k) = l[k]?) →
          (∀ n k, k < count → s.inRange n (start + k) = true → s.isBusyProg n = true →
            exec (.loadSteps tag payload) s = .next (s.replied f stInUse [])) ∧
          ((∀ n k, k < count → s.inRange n (start + k) = true → s.isBusyProg n = false) →
            (∀ k x, l[k]? = some x → x.kind.isRailOn = true → s.inRange 0 (start + k) = true →
              exec (.loadSteps tag payload) s = .next (s.replied f stRole [])) ∧
            ((∀ k x, l[k]? = some x → x.kind.isRailOn = true → s.inRange 0 (start + k) = false) →
              (∀ k, k < count → s.inRange 0 (start + k) = true → (writeSteps start l s).budgetOk = false →
                exec (.loadSteps tag payload) s = .next (s.replied f stBudget [])) ∧
              ((∀ k, k < count → s.inRange 0 (start + k) = false) ∨ (writeSteps start l s).budgetOk = true →
                ∃ t, exec (.loadSteps tag payload) s = .next t ∧
                  (∀ k, k < count → (t.seq.steps.toList[start + k]?) = l[k]?) ∧
                  (∀ i, i < start ∨ start + count ≤ i → (t.seq.steps.toList[i]?) = s.seq.steps.toList[i]?) ∧
                  { t with seq := { t.seq with steps := s.seq.steps } } = s.replied f stOk []))))))

/-- LOAD_PROGRAM: its checks in order, and the header replaced. -/
def Obligations.LoadProgramChecksAndReplaces : Prop :=
  ∀ (s : State) (tag program first count priority : Byte) (f : Frame) (h : Header), s.Ready →
    f = requestFrame 0x22 tag [program, first, count, priority] →
    h = { first := first.toNat, count := count.toNat, priority := priority.toNat } →
    (12 ≤ program.toNat → exec (.loadProgram tag program first count priority) s = .next (s.replied f stBadIndex [])) ∧
    (∀ n : ProgNo, n.val = program.toNat →
      (s.rtu.stage = .commit →
        exec (.loadProgram tag program first count priority) s = .next (s.replied f stCommitted [])) ∧
      (s.rtu.stage ≠ .commit → s.saving = true →
        exec (.loadProgram tag program first count priority) s = .next (s.replied f stBusy [])) ∧
      (s.rtu.stage ≠ .commit → s.saving = false →
        (headerFits n.val h = false →
          exec (.loadProgram tag program first count priority) s = .next (s.replied f stBadRequest [])) ∧
        (headerFits n.val h = true → s.isBusyProg n = true →
          exec (.loadProgram tag program first count priority) s = .next (s.replied f stInUse [])) ∧
        (headerFits n.val h = true → s.isBusyProg n = false → s.roleConflict n h = true →
          exec (.loadProgram tag program first count priority) s = .next (s.replied f stRole [])) ∧
        (headerFits n.val h = true → s.isBusyProg n = false → s.roleConflict n h = false →
          n = 0 → (putHeader n h s).budgetOk = false →
          exec (.loadProgram tag program first count priority) s = .next (s.replied f stBudget [])) ∧
        (headerFits n.val h = true → s.isBusyProg n = false → s.roleConflict n h = false →
          (n ≠ 0 ∨ (putHeader n h s).budgetOk = true) →
          exec (.loadProgram tag program first count priority) s = .next { s.replied f stOk [] with
            seq := { s.seq with headers := s.seq.headers.set n h } })))

/-- LOAD_TEMPLATE: its six checks in order, and the template replaced. -/
def Obligations.LoadTemplateChecksAndReplaces : Prop :=
  ∀ (s : State) (tag : Byte) (payload : List Byte) (f : Frame), s.Ready → payload.length ≤ 60 → 6 ≤ payload.length →
    payload.length = 6 + at1 payload 5 → f = requestFrame 0x23 tag payload →
    (16 ≤ at1 payload 0 → exec (.loadTemplate tag payload) s = .next (s.replied f stBadIndex [])) ∧
    (∀ n : Fin 16, n.val = at1 payload 0 →
      (s.rtu.stage = .commit → exec (.loadTemplate tag payload) s = .next (s.replied f stCommitted [])) ∧
      (s.rtu.stage ≠ .commit → s.saving = true → exec (.loadTemplate tag payload) s = .next (s.replied f stBusy [])) ∧
      (s.rtu.stage ≠ .commit → s.saving = false →
        (decTemplate payload 1 = none → exec (.loadTemplate tag payload) s = .next (s.replied f stBadRequest [])) ∧
        (∀ x, decTemplate payload 1 = some x →
          (∀ p i, s.isBusyProg p = true → i ∈ s.rangeOf p → (s.stepAt i).kind.namesTemplate n = true →
            exec (.loadTemplate tag payload) s = .next (s.replied f stInUse [])) ∧
          ((∀ p i, s.isBusyProg p = true → i ∈ s.rangeOf p → (s.stepAt i).kind.namesTemplate n = false) →
            (∀ i, i ∈ s.rangeOf 0 → (s.stepAt i).kind = .send n → (putTemplate n x s).budgetOk = false →
              exec (.loadTemplate tag payload) s = .next (s.replied f stBudget [])) ∧
            ((∀ i, i ∈ s.rangeOf 0 → (s.stepAt i).kind ≠ .send n) ∨ (putTemplate n x s).budgetOk = true →
              exec (.loadTemplate tag payload) s = .next { s.replied f stOk [] with
                seq := { s.seq with templates := s.seq.templates.set n (some x) } })))))

/-- LOAD_PLAN: its checks in order, and the plan in force replaced, the channel roles and the bulk marks with it. -/
def Obligations.LoadPlanChecksAndReplaces : Prop :=
  ∀ (s : State) (tag : Byte) (payload : List Byte) (f : Frame), s.Ready → payload.length = 34 →
    f = requestFrame 0x30 tag payload →
    (s.rtu.stage = .commit → exec (.loadPlan tag payload) s = .next (s.replied f stCommitted [])) ∧
    (s.rtu.stage ≠ .commit → s.saving = true → exec (.loadPlan tag payload) s = .next (s.replied f stBusy [])) ∧
    (s.rtu.stage ≠ .commit → s.saving = false → s.rtu.stage.inEpisode = true →
      exec (.loadPlan tag payload) s = .next (s.replied f stStage [])) ∧
    (s.rtu.stage ≠ .commit → s.saving = false → s.rtu.stage.inEpisode = false →
      (decPlan payload = none → exec (.loadPlan tag payload) s = .next (s.replied f stBadRequest [])) ∧
      (∀ p, decPlan payload = some p →
        (s.bulkBound p = true → exec (.loadPlan tag payload) s = .next (s.replied f stBadRequest [])) ∧
        (s.bulkBound p = false → s.planRoleConflict p = true →
          exec (.loadPlan tag payload) s = .next (s.replied f stRole [])) ∧
        (s.bulkBound p = false → s.planRoleConflict p = false → p.reserveMs ≠ s.rtu.plan.reserveMs →
          p.reserveMs < s.worstCase 0 → exec (.loadPlan tag payload) s = .next (s.replied f stBudget [])) ∧
        (s.bulkBound p = false → s.planRoleConflict p = false →
          (p.reserveMs = s.rtu.plan.reserveMs ∨ s.worstCase 0 ≤ p.reserveMs) →
          exec (.loadPlan tag payload) s = .next { s.replied f stOk [] with
            rtu := { s.rtu with plan := p }
            marks := p.marks
            chans := Vector.ofFn (fun c => (s.chan c).withRole ((putPlan p s).roleOf c)) })))

/-- LOAD_PORT_SETTINGS: its checks in order; an accepted set replaces every setting at once; the mask in force and the
ports' fairness counts stay. -/
def Obligations.LoadPortSettingsChecksAndReplaces : Prop :=
  ∀ (s : State) (tag : Byte) (payload : List Byte) (f : Frame), s.Ready → payload.length = 14 →
    f = requestFrame 0x3A tag payload →
    (s.saving = true → exec (.loadPortSettings tag payload) s = .next (s.replied f stBusy [])) ∧
    (s.saving = false → decPortSettings payload = none →
      exec (.loadPortSettings tag payload) s = .next (s.replied f stBadRequest [])) ∧
    (∀ x, s.saving = false → decPortSettings payload = some x →
      (s.windowMatters x = true → (applyPortSettings x s).budgetOk = false →
        exec (.loadPortSettings tag payload) s = .next (s.replied f stBudget [])) ∧
      (s.windowMatters x = false ∨ (applyPortSettings x s).budgetOk = true →
        ∃ t, exec (.loadPortSettings tag payload) s = .next t ∧
          (∀ p, t.port p = { s.port p with windowMs := at1 payload p.idx.val, fair := at1 payload (5 + p.idx.val) }) ∧
          t.fwd = { s.fwd with orderHoldMs := at2 payload 10 } ∧
          t.ev = { s.ev with defaultMask := BitVec.ofNat 16 (at2 payload 12) } ∧
          { t with ports := s.ports, fwd := s.fwd, ev := s.ev } = s.replied f stOk []))

/-- LOAD_RAIL: its checks in order; and a record that passes every check replaces the rail's static half: its dynamic fields
are idle, and the channel roles and, where a role changes, the bulk marks follow. Where the new PATH names a port in UP, that
port's agreed rail list and mismatch set are computed anew, with CAP_MISMATCH where a rail newly mismatches. The model's own:
which roles rebuild the marks (log 34), that a record with USED clear passes the same checks (log 11), and that the notice
CAP_MISMATCH gives rise to stands before the reply (log 37). -/
def Obligations.LoadRailChecksAndReplaces : Prop :=
  (∀ (s : State) (tag : Byte) (payload : List Byte) (f : Frame), s.Ready → payload.length = 25 →
    f = requestFrame 0x10 tag payload →
    (24 ≤ at1 payload 0 → exec (.loadRail tag payload) s = .next (s.replied f stBadIndex [])) ∧
    (∀ r : RailId, r.val = at1 payload 0 →
      (s.rtu.stage = .commit → exec (.loadRail tag payload) s = .next (s.replied f stCommitted [])) ∧
      (s.rtu.stage ≠ .commit → s.saving = true → exec (.loadRail tag payload) s = .next (s.replied f stBusy [])) ∧
      (s.rtu.stage ≠ .commit → s.saving = false →
        (decRail payload 1 = none → exec (.loadRail tag payload) s = .next (s.replied f stBadRequest [])) ∧
        (∀ x, decRail payload 1 = some x →
          (railFits r x = false ∨ s.railConflicts r x = true →
            exec (.loadRail tag payload) s = .next (s.replied f stBadRequest [])) ∧
          (railFits r x = true → s.railConflicts r x = false → s.railInUse r x = true →
            exec (.loadRail tag payload) s = .next (s.replied f stInUse [])) ∧
          (railFits r x = true → s.railConflicts r x = false → s.railInUse r x = false →
            s.zeroHas (fun k => k.rail? == some r) = true → (putRail r x s).budgetOk = false →
            exec (.loadRail tag payload) s = .next (s.replied f stBudget [])))))) ∧
  (∀ (s : State) (tag : Byte) (payload : List Byte) (r : RailId) (x : RailStatic), s.Ready → payload.length = 25 →
    r.val = at1 payload 0 → s.rtu.stage ≠ .commit → s.saving = false → decRail payload 1 = some x →
    railFits r x = true → s.railConflicts r x = false → s.railInUse r x = false →
    (s.zeroHas (fun k => k.rail? == some r) = false ∨ (putRail r x s).budgetOk = true) →
    (∀ p, x.port? = some p ∨ (s.rail r).static.port? = some p → s.isUp p = false) →
    ∃ t, exec (.loadRail tag payload) s = .next t ∧
      t.rail r = { static := x, dyn := RailDynamic.idle } ∧ (∀ q, q ≠ r → t.rail q = s.rail q) ∧
      (∀ c, t.chan c = (s.chan c).withRole (t.roleOf c)) ∧
      (t.marks = if ∃ c, (s.chan c).role ≠ t.roleOf c then s.rtu.plan.marks else s.marks) ∧
      { t with rails := s.rails, chans := s.chans, marks := s.marks } =
        s.replied (requestFrame 0x10 tag payload) stOk []) ∧
  (∀ (s : State) (tag : Byte) (payload : List Byte) (f : Frame) (r : RailId) (x : RailStatic) (p : Port) (a b : Agreed),
    s.Ready → payload.length = 25 → f = requestFrame 0x10 tag payload →
    r.val = at1 payload 0 → s.rtu.stage ≠ .commit → s.saving = false → decRail payload 1 = some x →
    railFits r x = true → s.railConflicts r x = false → s.railInUse r x = false →
    (s.zeroHas (fun k => k.rail? == some r) = false ∨ (putRail r x s).budgetOk = true) →
    x.port? = some p → (∀ q, (s.rail r).static.port? = some q → q = p ∨ s.isUp q = false) →
    (s.port p).link = .up → (s.port p).agreed = some a → b = (putRail r x s).reagree p a →
    (∀ q ∈ a.rails, q ∈ b.rails) →
    ∃ t, exec (.loadRail tag payload) s = .next t ∧
      t.rail r = { static := x, dyn := RailDynamic.idle } ∧ (∀ q, q ≠ r → t.rail q = s.rail q) ∧
      (∀ c, t.chan c = (s.chan c).withRole (t.roleOf c)) ∧
      (t.marks = if ∃ c, (s.chan c).role ≠ t.roleOf c then s.rtu.plan.marks else s.marks) ∧
      t.port p = { s.port p with agreed := some b } ∧ (∀ q, q ≠ p → t.port q = s.port q) ∧
      ((∀ q ∈ b.mismatch, q ∈ a.mismatch) →
        { t with rails := s.rails, chans := s.chans, marks := s.marks, ports := s.ports } = s.replied f stOk []) ∧
      (∀ q, q ∈ b.mismatch → q ∉ a.mismatch →
        { t with rails := s.rails, chans := s.chans, marks := s.marks, ports := s.ports } =
          (raise .capMismatch s.taken).answered f stOk []))

/-! ### Programs by request -/

/-- START_PROGRAM: its checks in order. On an idle part a program with COUNT 0 has ended DONE by the time of the reply, and
one whose first step is a DELAY runs with that step's timer at TIME. While a program of no lower priority runs, an entry
joins the queue in its order. An entry of higher priority abandons the running program at once, or, while that program's
step is guarded, waits for the step's end, which ends the program (ABANDONED, or DONE after its last step) and starts the
head. That a notice which PROGRAM_END gives rise to stands before the reply is the model's reading (log 37). -/
def Obligations.StartProgramChecksStartsAndQueues : Prop :=
  (∀ (s : State) (tag program : Byte) (f : Frame), s.Ready → f = requestFrame 0x25 tag [program] →
    (12 ≤ program.toNat → exec (.startProgram tag program) s = .next (s.replied f stBadIndex [])) ∧
    (∀ n : ProgNo, n.val = program.toNat →
      (2 ≤ (s.header n).priority → exec (.startProgram tag program) s = .next (s.replied f stRole [])) ∧
      ((s.header n).priority ≤ 1 →
        (s.rtu.stage = .commit → exec (.startProgram tag program) s = .next (s.replied f stCommitted [])) ∧
        (s.rtu.stage ≠ .commit → s.rtu.stage ≠ .lineOk →
          exec (.startProgram tag program) s = .next (s.replied f stStage [])) ∧
        (s.rtu.stage = .lineOk →
          (s.isRunning n = true ∨ s.isQueued n = true →
            exec (.startProgram tag program) s = .next (s.replied f stAlready [])) ∧
          (s.isRunning n = false → s.isQueued n = false → 4 ≤ s.sched.queue.length →
            exec (.startProgram tag program) s = .next (s.replied f stQueueFull [])))))) ∧
  (∀ (s : State) (tag program : Byte) (n : ProgNo) (f : Frame), s.Ready → s.Quiet → s.AttnInv →
    s.rtu.stage = .lineOk → n.val = program.toNat → 2 ≤ n.val → (s.header n).priority ≤ 1 →
    f = requestFrame 0x25 tag [program] →
    ((s.header n).count = 0 → exec (.startProgram tag program) s = .next
      ((raise .programEnd { s.taken with sched := { s.sched with
          arrivals := s.sched.arrivals + 1
          last := some { program := n, requester := .main, outcome := .done, step := none, reason := none,
                         failedSteps := none } } }).placed (replyEntry (replyFrame f stOk [])))) ∧
    (∀ time, (s.header n).count ≠ 0 → (s.stepAt (s.header n).first).kind = .delay time →
      exec (.startProgram tag program) s = .next { s.replied f stOk [] with
        sched := { s.sched with
          arrivals := s.sched.arrivals + 1
          running := some { program := n, requester := .main, priority := (s.header n).priority,
                            guarded := (s.stepAt (s.header n).first).guarded, marked := false } }
        seq := { s.seq with
          ctx := some { program := n, requester := .main, index := (s.header n).first,
                        timer := some (s.now + Config.ms time), frame := none, failed := 0, wait := .none } } })) ∧
  (∀ (s : State) (tag program : Byte) (n : ProgNo) (x : Running) (f : Frame), s.Ready → s.rtu.stage = .lineOk →
    n.val = program.toNat → (s.header n).priority ≤ 1 → s.sched.running = some x → x.program ≠ n →
    s.isQueued n = false → s.sched.queue.length < 4 → (s.header n).priority ≤ x.priority →
    (∀ e ∈ s.sched.queue, e.priority ≤ x.priority) → f = requestFrame 0x25 tag [program] →
    exec (.startProgram tag program) s = .next { s.replied f stOk [] with
      sched := { s.sched with
        arrivals := s.sched.arrivals + 1
        queue := insertEntry { program := n, requester := .main, priority := (s.header n).priority,
                               arrival := s.sched.arrivals } s.sched.queue } }) ∧
  (∀ (s : State) (tag program : Byte) (n : ProgNo) (x : Running) (f : Frame), s.Ready → s.rtu.stage = .lineOk →
    n.val = program.toNat → (s.header n).priority ≤ 1 → s.sched.running = some x → x.program ≠ n →
    s.isQueued n = false → f = requestFrame 0x25 tag [program] →
    (x.guarded = true → s.sched.queue.length < 4 →
      exec (.startProgram tag program) s = .next { s.replied f stOk [] with
        sched := { s.sched with
          arrivals := s.sched.arrivals + 1
          queue := insertEntry { program := n, requester := .main, priority := (s.header n).priority,
                                 arrival := s.sched.arrivals } s.sched.queue } }) ∧
    (∀ c t time, x.guarded = false → x.priority < (s.header n).priority → s.sched.queue = [] →
      s.sched.committed = false → s.seq.ctx = some c → 2 ≤ c.program.val → (s.stepAt c.index).kind = .delay t →
      (s.header n).count ≠ 0 → (s.stepAt (s.header n).first).kind = .delay time →
      exec (.startProgram tag program) s = .next (State.answered { raise .programEnd s.taken with
        sched := { s.sched with
          arrivals := s.sched.arrivals + 1
          last := some (c.result (.abandoned c.index))
          running := some { program := n, requester := .main, priority := (s.header n).priority,
                            guarded := (s.stepAt (s.header n).first).guarded, marked := false } }
        seq := { s.seq with
          ctx := some { program := n, requester := .main, index := (s.header n).first,
                        timer := some (s.now + Config.ms time), frame := none, failed := 0, wait := .none } } } f stOk []))) ∧
  (∀ (s : State) (c : Context) (x : Running) (e : Entry) (rest : List Entry) (due now t time : Nat) (r : ProgramEnd),
    s.Up → s.mode = .active → s.sched.committed = false → s.seq.ctx = some c → 2 ≤ c.program.val →
    s.sched.running = some x → x.guarded = true → x.marked = false → s.sched.queue = e :: rest →
    x.priority < e.priority → (s.stepAt c.index).kind = .delay t → c.timer = some due → now = max s.now due →
    r = (if s.inRange c.program (c.index + 1) = true then .abandoned c.index else .done) →
    (s.header e.program).count ≠ 0 → (s.stepAt (s.header e.program).first).kind = .delay time →
    exec .delayExpiry s = .next { raise .programEnd s with
      now := now
      sched := { s.sched with
        queue := rest
        last := some (c.result r)
        running := some { program := e.program, requester := e.requester, priority := e.priority,
                          guarded := (s.stepAt (s.header e.program).first).guarded, marked := false } }
      seq := { s.seq with
        ctx := some { program := e.program, requester := e.requester, index := (s.header e.program).first,
                      timer := some (now + Config.ms time), frame := none, failed := 0, wait := .none } } })

/-- The queue stands highest priority first, then by arrival: a new entry goes behind every entry of its own
priority or higher and before the others (R77). -/
def Obligations.QueueKeepsPriorityThenArrival : Prop :=
  ∀ (e : Entry) (q : List Entry),
    (insertEntry e q).Perm (e :: q) ∧
    (q.Pairwise (fun a b => b.priority ≤ a.priority) → (insertEntry e q).Pairwise (fun a b => b.priority ≤ a.priority)) ∧
    ((q.Pairwise (fun a b => b.priority ≤ a.priority)) →
      insertEntry e q = q.filter (fun x => e.priority ≤ x.priority) ++ e :: q.filter (fun x => x.priority < e.priority))

/-- ABORT_PROGRAM: its checks in order; a queued entry is removed with result DROPPED, a running program is abandoned
in its current step or, where that step is guarded, marked. That a notice which PROGRAM_END gives rise to stands before the
reply is the model's reading (log 37). -/
def Obligations.AbortProgramRemovesOrAbandons : Prop :=
  ∀ (s : State) (tag program : Byte) (f : Frame), s.Ready → f = requestFrame 0x26 tag [program] →
    (12 ≤ program.toNat → exec (.abortProgram tag program) s = .next (s.replied f stBadIndex [])) ∧
    (∀ n : ProgNo, n.val = program.toNat →
      (s.rtu.stage = .commit → exec (.abortProgram tag program) s = .next (s.replied f stCommitted [])) ∧
      (s.rtu.stage ≠ .commit → 2 ≤ (s.header n).priority →
        exec (.abortProgram tag program) s = .next (s.replied f stRole [])) ∧
      (s.rtu.stage ≠ .commit → (s.header n).priority ≤ 1 →
        (s.isQueued n = false → s.isRunning n = false →
          exec (.abortProgram tag program) s = .next (s.replied f stNothing [])) ∧
        (∀ e, s.sched.queue.find? (fun e => e.program == n) = some e → n ≠ 1 →
          exec (.abortProgram tag program) s = .next ((raise .programEnd { s.taken with sched := { s.sched with
            queue := s.sched.queue.filter (fun x => x.program != n)
            last := some { program := n, requester := e.requester, outcome := .dropped, step := none, reason := none,
                           failedSteps := none } } }).placed (replyEntry (replyFrame f stOk [])))) ∧
        (∀ x, s.isQueued n = false → s.sched.running = some x → x.program = n → x.guarded = true →
          exec (.abortProgram tag program) s = .next ({ s.replied f stOk [] with
            sched := { s.sched with running := some { x with marked := true } } })) ∧
        (∀ x c time, s.sched.queue = [] → s.sched.running = some x → x.program = n → x.guarded = false →
          s.seq.ctx = some c → c.program = n → 2 ≤ n.val → (s.stepAt c.index).kind = .delay time →
          exec (.abortProgram tag program) s = .next ((raise .programEnd { s.taken with
            seq := { s.seq with ctx := none }
            sched := { s.sched with
              running := none
              last := some { program := n, requester := c.requester, outcome := .abandoned, step := some c.index,
                             reason := none, failedSteps := none } } }).placed (replyEntry (replyFrame f stOk []))))))

/-! ### The record, the store, the mode and the reset by request -/

/-- CLEAR_RECORD: refused in COMMIT and while a record write runs; else the copy becomes EMPTY and its write begins. The end
of a record write: the slot holds the copy that was written, and a copy asked for meanwhile is written next; that the
completing command brings the clock to the least time of 2 ms at once is the model's choice (log 23). -/
def Obligations.ClearRecordAndTheEndOfARecordWrite : Prop :=
  (∀ (s : State) (tag : Byte) (f : Frame), s.Ready → f = requestFrame 0x33 tag [] →
    (s.rtu.stage = .commit → exec (.clearRecord tag) s = .next (s.replied f stCommitted [])) ∧
    (s.rtu.stage ≠ .commit → s.rtu.write ≠ .idle → exec (.clearRecord tag) s = .next (s.replied f stBusy [])) ∧
    (s.rtu.stage ≠ .commit → s.rtu.write = .idle → exec (.clearRecord tag) s = .next { s.replied f stOk [] with
      rtu := { s.rtu with record := Record.blank .empty, write := .writing (Record.blank .empty) s.now none } })) ∧
  (∀ (s : State) (r : Record) (begun : Time) (next : Option Record), s.Settled →
    s.rtu.write = .writing r begun next →
    exec .recordWriteComplete s = .next { s with
      now := max s.now (begun + 4000)
      store := { s.store with slot := .holds r }
      rtu := { s.rtu with write :=
        match next with
        | some m => .writing m (max s.now (begun + 4000)) none
        | none => .idle } })

/-- SAVE_SETTINGS: its checks in order, and the start of a save with the write of G1. SAVE_GROUP_WRITE_END: the group's
contents, CRC and accept code 0xA5 are in the store; the next group's write begins in the same event, and the end of G5's
ends the save with SAVE_END. The model's own: the layout of the stored contents, over which the CRC stands (log 22), and how
the clock catches up as the command comes (log 23). -/
def Obligations.SavesBeginAndApplyGroupByGroup : Prop :=
  (∀ (s : State) (tag : Byte) (f : Frame), s.Ready → f = requestFrame 0x40 tag [] →
     (s.store.save = .running → exec (.saveSettings tag) s = .next (s.replied f stBusy [])) ∧
     (s.store.save ≠ .running → s.rtu.stage ≠ .lineOk → exec (.saveSettings tag) s = .next (s.replied f stStage [])) ∧
     (s.store.save ≠ .running → s.rtu.stage = .lineOk → (s.sched.running ≠ none ∨ s.sched.queue ≠ []) →
       exec (.saveSettings tag) s = .next (s.replied f stBusy [])) ∧
     (s.store.save ≠ .running → s.rtu.stage = .lineOk → s.sched.running = none → s.sched.queue = [] →
       ∃ t, exec (.saveSettings tag) s = .next t ∧ t.store.save = .running ∧ t.store.group = some 0 ∧
         t.store.cause = none ∧ t.store.results.get 0 = .voided ∧ (∀ g, g ≠ 0 → t.store.results.get g = .notReached) ∧
         t.store.groups.get 0 = { s.store.groups.get 0 with code := 0x00 } ∧
         (∀ g, g ≠ 0 → t.store.groups.get g = s.store.groups.get g) ∧
         t.store.loads = s.store.loads ∧ t.store.slot = s.store.slot ∧
         { t with store := s.store } = s.replied f stOk [])) ∧
  (∀ (s : State) (g : Fin 5), s.Up → s.store.save = .running → s.store.group = some g →
     ∃ t, exec .saveGroupWriteEnd s = .next t ∧
       t.store.groups.get g = { code := 0xA5, crc := crc16 (s.groupBytes g), contents := s.groupBytes g } ∧
       t.store.results.get g = .applied ∧
       (∀ n : Fin 5, n.val = g.val + 1 → t.store.save = .running ∧ t.store.group = some n ∧
         (t.store.groups.get n).code = 0x00 ∧ t.store.results.get n = .voided ∧ t.ev = s.ev) ∧
       (g = 4 → t.store.save = .finished ∧ t.store.group = none ∧ t.ev.pending = s.ev.pending ||| EventKind.saveEnd.bit) ∧
       (∀ n : Fin 5, n ≠ g → n.val ≠ g.val + 1 → t.store.groups.get n = s.store.groups.get n) ∧
       { t with now := s.now, store := s.store, ev := s.ev, up := s.up } = s)

/-- ENTER_STANDBY: BUSY while its conditions do not hold, else the reply and STANDBY. A WAKE edge raises WAKE and makes the
part ACTIVE; before start-up is over it does nothing. -/
def Obligations.StandbyAndWakeChangeTheMode : Prop :=
  (∀ (s : State) (tag : Byte) (f : Frame), s.Ready → f = requestFrame 0x42 tag [] →
    (s.standbyReady = false → exec (.enterStandby tag) s = .next (s.replied f stBusy [])) ∧
    (s.standbyReady = true → exec (.enterStandby tag) s = .next { s.replied f stOk [] with mode := .standby }) ∧
    (s.standbyReady = true ↔ s.rtu.stage = .lineOk ∧ s.sched.running = none ∧ s.sched.queue = [] ∧ s.fwd.hold = [] ∧
      (∀ p, s.queue p = []) ∧ ∀ r, (s.rail r).static.used = true →
        (s.rail r).dyn.state = .off ∨ ((s.rail r).dyn.state = .on ∧ (s.rail r).static.standbyKeep = true))) ∧
  (∀ s : State, s.Settled →
    (s.phase = .running → (s.mode = .active ∨ ∀ p, (s.port p).canExchange = false) →
      exec .wakeEdge s = .next (raise .wake { s with mode := .active })) ∧
    (s.phase ≠ .running → exec .wakeEdge s = .next s))

/-- RESET_PART: its checks in order, its reply placed with the mark that the reset follows it; and the reset, with
cause REQUESTED, in the event in which that reply's transmission is complete, in which the fall of U_PRESENT cuts it off or
discards it, or in which it is discarded as it is made while U_PRESENT is low. What the reset leaves is the part's own
state at the time of the reply's end, but for the values of logs 3, 4, 26 and 27 and the slot of a write that is cut off with
another pending (log 49), which are the model's. -/
def Obligations.ResetPartFollowsItsReply : Prop :=
  (∀ (s : State) (tag : Byte) (f : Frame), s.Ready → f = requestFrame 0x43 tag [] →
    (s.resetWaiting = true → exec (.resetPart tag) s = .next (s.replied f stBusy [])) ∧
    (s.resetWaiting = false → (∃ r, s.railState r ≠ .off) →
      exec (.resetPart tag) s = .next (s.replied f stNotSafe [])) ∧
    (s.resetWaiting = false → (∀ r, s.railState r = .off) →
      exec (.resetPart tag) s = .next { (s.taken.placed { frame := replyFrame f stOk [], group := .reply, reset := true })
        with resetWaiting := true })) ∧
  (∀ (s : State) (e : UpEntry) (done : Time), s.Settled → e.reset = true → s.up.line = .sending e done →
    ∃ t, exec .upstreamTxComplete s = .next t ∧ State.ResetTo .requested { s with now := max s.now done } t) ∧
  (∀ (s : State) (e : UpEntry), s.Settled → e.reset = true → (e ∈ s.up.tx ∨ ∃ done, s.up.line = .sending e done) →
    ∃ t, exec .uPresentFalls s = .next t ∧
      State.ResetTo .requested { s with up := { s.up with present := false } } t) ∧
  (∀ (s : State) (tag : Byte) (e : UpEntry), s.Up → s.mode = .active → s.resetWaiting = false →
    (∀ r, s.railState r = .off) → s.up.rx = [requestFrame 0x43 tag []] → s.up.replyTaken = 24 → s.up.tx = [e] →
    e.group = .reply → e.reset = false → (∀ x done, s.up.line ≠ .sending x done) →
    ∃ t, exec .uPresentFalls s = .next t ∧
      State.ResetTo .requested { s with up := { s.up with present := false } } t)

/-- RESET_BOARD: its checks in order; a port that is not UP enters DOWN with its probing stopped, BRST asserted and the
pulse's expiry 10 ms ahead. A port in UP leaves it first: the agreed record, its latch, the Sequencer's places and a cancel
record that waits there are cleared, a frame under way is cut off, the queued commands are answered LINK_DOWN, a rail up that
loses its path enters FALLING, and LINK_CHANGE is set, before the reply (stated for a port with no outstanding command, on an
idle part with nothing held). The pulse ends: BRST is released, and the port comes up if PRESENT is high and the part is
ACTIVE. The model's own: the rest after a cut-off (log 30), and LINK_CHANGE's notice before the reply (log 37). -/
def Obligations.ResetBoardPulseStartsAndEnds : Prop :=
  (∀ (s : State) (tag port : Byte) (f : Frame), s.Ready → f = requestFrame 0x39 tag [port] →
    (port.toNat = 0 ∨ 5 < port.toNat → exec (.resetBoard tag port) s = .next (s.replied f stBadIndex [])) ∧
    (∀ p : Port, p.number = port.toNat →
      (s.rtu.stage = .commit → exec (.resetBoard tag port) s = .next (s.replied f stCommitted [])) ∧
      (s.rtu.stage ≠ .commit → (s.port p).pulse ≠ none →
        exec (.resetBoard tag port) s = .next (s.replied f stBusy [])) ∧
      (s.rtu.stage ≠ .commit → (s.port p).pulse = none → (s.port p).link ≠ .up →
        ∃ t, exec (.resetBoard tag port) s = .next t ∧ (t.port p).link = .down ∧ (t.port p).brst = true ∧
          (t.port p).pulse = some (s.now + 20000) ∧
          ((s.port p).link = .exchange → (t.port p).probeTimer = none ∧ (t.port p).probeWaiting = false) ∧
          (∀ q, q ≠ p → t.port q = s.port q) ∧ { t with ports := s.ports } = s.replied f stOk []))) ∧
  (∀ (s u : State) (tag port : Byte) (f : Frame) (p : Port) (k : Option (Port × Byte)), s.Ready → s.Quiet →
    f = requestFrame 0x39 tag [port] → p.number = port.toNat → s.rtu.stage ≠ .commit → (s.port p).pulse = none →
    (s.port p).link = .up → s.outs p = [] →
    k = (match s.seq.cancel with
      | some (q, tag) => if q = p ∧ (s.port p).cancelWaits tag = true then none else some (q, tag)
      | none => none) →
    u = modPort p (fun x => { x with
        link := .down, agreed := none, latch := false, seqOffer := none, seqBehind := [], brst := true,
        pulse := some (s.now + 20000),
        line := match x.line with
          | .sending _ _ _ => .stretch (s.now + 10)
          | l => l })
      (setQueue p [] { s.taken with
        seq := { s.seq with cancel := k }
        up := { s.taken.up with
          tx := s.up.tx ++ (s.queue p).map (fun c => replyEntry (replyFrame c.frame stLinkDown [])) } }) →
    (s.agreedRails p = [] →
      exec (.resetBoard tag port) s = .next ((raise .linkChange u).answered f stOk [])) ∧
    (∀ r, s.agreedRails p = [r] → (s.rail r).static.used = true →
      ((s.rail r).dyn.state = .rising ∨ (s.rail r).dyn.state = .on) → (s.rail r).dyn.frame = none →
      (∀ d, (s.rail d).static.used = true → inSet (s.rail d).static.prereqs r = true →
        (s.rail d).dyn.state ≠ .rising ∧ (s.rail d).dyn.state ≠ .on) →
      ∃ t : State, exec (.resetBoard tag port) s = .next ((raise .linkChange t).answered f stOk []) ∧
        State.MovedTo r .falling (some (s.now + 2000 * (s.rail r).static.fallMs)) none u t ∧
        { t with rails := s.rails, en := s.en, dis := s.dis, chans := s.chans } = u)) ∧
  (∀ (s : State) (p : Port) (due : Time), s.Settled → (s.port p).pulse = some due →
    (s.mode = .standby ∨ (s.port p).present = false ∨ (s.port p).link ≠ .down →
      exec (.resetPulseExpiry p) s =
        .next (modPort p (fun x => { x with brst := false, pulse := none }) { s with now := max s.now due })) ∧
    (s.mode = .active → (s.port p).present = true → (s.port p).link = .down →
      ∃ t, exec (.resetPulseExpiry p) s = .next t ∧ (t.port p).brst = false ∧ (t.port p).pulse = none ∧
        (t.port p).link = .exchange ∧ (t.port p).probeCount = 1 ∧ (∀ q, q ≠ p → t.port q = s.port q) ∧
        { t with ports := s.ports, now := s.now } = s))

/-- CLEAR_FAULT: its checks in order, and a FAULT rail at a safe level enters OFF. -/
def Obligations.ClearFaultReturnsARailToOff : Prop :=
  ∀ (s : State) (tag rail : Byte) (f : Frame), s.Ready → f = requestFrame 0x12 tag [rail] →
    (24 ≤ rail.toNat → exec (.clearFault tag rail) s = .next (s.replied f stBadIndex [])) ∧
    (∀ r : RailId, r.val = rail.toNat →
      (s.railState r ≠ .fault → exec (.clearFault tag rail) s = .next (s.replied f stNothing [])) ∧
      (s.railState r = .fault → s.safeNow r = false →
        exec (.clearFault tag rail) s = .next (s.replied f stNotSafe [])) ∧
      (s.railState r = .fault → s.safeNow r = true → s.Quiet →
        ∃ t, exec (.clearFault tag rail) s = .next t ∧ t.railState r = .off ∧ (t.rail r).dyn.faultCause = none ∧
          (t.rail r).static = (s.rail r).static ∧ (t.rail r).dyn.claim = (s.rail r).dyn.claim ∧
          (t.rail r).dyn.frame = (s.rail r).dyn.frame ∧ (∀ q, q ≠ r → t.rail q = s.rail q) ∧
          t.en = (driveOutputs r .off s).en ∧ t.dis = (driveOutputs r .off s).dis ∧ (∀ c, t.chan c = s.chan c) ∧
          { t with rails := s.rails, en := s.en, dis := s.dis, chans := s.chans } = s.replied f stOk []))

/-! ### Port U -/

/-- A request with an unknown code or a length that is not its layout's is answered BAD_REQUEST, and a command with a source
other than 7 or a destination above 5 is answered BAD_ADDRESS from the address it named; neither does anything else. -/
def Obligations.WrongRequestsAreAnswered : Prop :=
  (∀ (s : State) (cls tag : Byte) (payload : List Byte), s.Ready → payload.length ≤ 60 →
    requestSized cls payload = false →
    exec (.unknownRequestCode cls tag payload) s =
      .next (s.replied (requestFrame cls tag payload) stBadRequest [])) ∧
  (∀ (s : State) (dest src : BitVec 4) (cls tag : Byte) (payload : List Byte), s.Ready → payload.length ≤ 60 →
    (src ≠ 7 ∨ 6 ≤ dest.toNat) →
    exec (.badAddressCommand dest src cls tag payload) s =
      .next (s.replied (mkFrame dest src kindCommand cls tag payload) stBadAddress []))

/-- A frame received on U: ignored before start-up is over, while U_PRESENT is low and where it began before U_PRESENT last
rose, lost with LINK_ERROR where the receive queue holds 4, left waiting where no reply place is free, and discarded with
LINK_ERROR where its kind is not COMMAND. A malformed run of bytes sets LINK_ERROR where a receiver listens, and does
nothing else. That a run began 2.5 microseconds a byte before it ends is the model's reading (log 48). -/
def Obligations.ReceivedFramesAreTakenQueuedOrLost : Prop :=
  (∀ (s : State) (f : Frame) (n : Nat), s.Settled → f.ok = true → n = f.payload.length + 7 →
    (s.phase ≠ .running ∨ s.up.present = false ∨ (∃ r, s.up.rise = some r ∧ s.now < r + 5 * n) →
      exec (.upstreamFrameReceived f.bytes) s = .next s) ∧
    (s.phase = .running → s.up.present = true → (∀ r, s.up.rise = some r → r + 5 * n ≤ s.now) →
      (4 ≤ s.up.rx.length → exec (.upstreamFrameReceived f.bytes) s = .next (raise .linkError s)) ∧
      (∀ g l, s.up.rx = g :: l → s.up.rx.length < 4 → g.kind = kindCommand → 24 ≤ s.up.replyTaken →
        exec (.upstreamFrameReceived f.bytes) s = .next { s with up := { s.up with rx := s.up.rx ++ [f] } }) ∧
      (s.up.rx = [] → f.kind = kindCommand → 24 ≤ s.up.replyTaken →
        exec (.upstreamFrameReceived f.bytes) s = .next { s with up := { s.up with rx := [f] } })) ∧
    (s.Ready → f.kind ≠ kindCommand →
      exec (.upstreamFrameReceived f.bytes) s = .next (raise .linkError { s with mode := .active })) ∧
    (s.Ready → f.kind = kindCommand → f.src = 7 → f.dest = 0 → requestSized f.cls f.payload = false →
      exec (.upstreamFrameReceived f.bytes) s = .next (s.replied f stBadRequest []))) ∧
  (∀ (s : State) (bytes : List Byte), s.Settled → s.phase = .running → frameOfBytes bytes = none →
    (s.up.present = true → (∀ r, s.up.rise = some r → r + 5 * bytes.length ≤ s.now) →
      exec (.malformedFrame .u bytes) s = .next (raise .linkError s)) ∧
    (s.up.present = false ∨ (∃ r, s.up.rise = some r ∧ s.now < r + 5 * bytes.length) →
      exec (.malformedFrame .u bytes) s = .next s) ∧
    (∀ p, (s.port p).link = .exchange ∨ (s.port p).link = .up →
      exec (.malformedFrame (.d p) bytes) s = .next (raise .linkError s)) ∧
    (∀ p, (s.port p).link = .down ∨ (s.port p).link = .failed → exec (.malformedFrame (.d p) bytes) s = .next s))

/-- The upstream transmitter, once free, starts on the oldest frame placed; a completed frame frees its place and the
lane rests 5 microseconds. That an idle transmitter starts at this command and not as the frame is placed is the model's
choice (log 13). -/
def Obligations.UpstreamTransmitterSendsInOrder : Prop :=
  ∀ s : State, s.Settled →
    (∀ e l, s.up.line = .idle → s.up.tx = e :: l → exec .upstreamTransmitterFree s =
      .next { s with up := { s.up with tx := l, line := .sending e (s.now + 5 * (e.frame.payload.length + 7)) } }) ∧
    (∀ e l due, s.up.line = .stretch due → s.up.tx = e :: l → exec .upstreamTransmitterFree s =
      .next { s with now := max s.now due
                     up := { s.up with tx := l,
                                       line := .sending e (max s.now due + 5 * (e.frame.payload.length + 7)) } }) ∧
    (∀ due, s.up.line = .stretch due → s.up.tx = [] → exec .upstreamTransmitterFree s =
      .next { s with now := max s.now due, up := { s.up with line := .idle } }) ∧
    (∀ e done, s.up.line = .sending e done → e.group = .reply → e.reset = false → s.up.rx = [] →
      exec .upstreamTxComplete s = .next { s with
        now := max s.now done
        up := { s.up with replyTaken := s.up.replyTaken - 1, line := .stretch (max s.now done + 10) } }) ∧
    (∀ e done, s.up.line = .sending e done → e.group ≠ .reply → e.reset = false →
      exec .upstreamTxComplete s = .next { s with
        now := max s.now done
        up := { s.up with line := .stretch (max s.now done + 10) } })

/-- U_PRESENT falls: the frame under way is cut off (the lane rests 5 microseconds: log 30), every waiting frame is discarded
and its place freed, and the receive queue is kept as it stands; where reply places came free, its head is taken as after any
freed place, so that commands for no board are taken and their replies discarded. U_PRESENT rises: the receiver listens again
from the frames that begin after this moment, which is kept (log 48); no frame is made, and a U_PRESENT that is high already
changes nothing. -/
def Obligations.UpstreamPresenceEmptiesAndListens : Prop :=
  (∀ (s : State) (l : List UpEntry), s.Settled →
    l = (match s.up.line with
      | .sending e _ => e :: s.up.tx
      | _ => s.up.tx) →
    (∀ e ∈ l, e.reset = false) →
    ∃ t : State, t.up.present = false ∧ t.up.rise = s.up.rise ∧ t.up.tx = [] ∧ t.up.rx = s.up.rx ∧
      t.up.replyTaken = s.up.replyTaken - (l.filter (fun x => x.group == .reply)).length ∧
      (∀ e done, s.up.line = .sending e done → t.up.line = .stretch (s.now + 10)) ∧
      ((∀ e done, s.up.line ≠ .sending e done) → t.up.line = s.up.line) ∧ { t with up := s.up } = s ∧
      exec .uPresentFalls s =
        .next (settle Config.settleFuel { t with takeDue := l.any (fun x => x.group == .reply) }) ∧
      (s.up.rx = [] ∨ (∀ e ∈ l, e.group ≠ .reply) → exec .uPresentFalls s = .next t) ∧
      ((∃ e ∈ l, e.group = .reply) → s.mode = .active → s.up.replyTaken ≤ 24 → s.up.rx.length ≤ 4 →
        (∀ f ∈ s.up.rx, f.kind = kindCommand ∧ (f.src ≠ 7 ∨ 6 ≤ f.dest.toNat)) →
        exec .uPresentFalls s = .next { t with up := { t.up with rx := [] } })) ∧
  (∀ s : State, s.Settled →
    (s.up.present = false → exec .uPresentRises s =
      .next { s with up := { s.up with present := true, rise := some s.now } }) ∧
    (s.up.present = true → exec .uPresentRises s = .next s))

/-! ### Forwarding -/

/-- FORWARD_COMMAND: intake's checks in order with the answer of the first that fails; past intake the command is held,
answered or delivered by the first row of the decision that holds for it. -/
def Obligations.ForwardCommandIntakeAndDecision : Prop :=
  (∀ (s : State) (p : Port) (cls tag : Byte) (payload : List Byte) (f : Frame) (t : State), s.Ready →
    payload.length ≤ 60 → f = mkFrame p.addr 7 kindCommand cls tag payload →
    t = { s with fwd := { s.fwd with accepted := s.fwd.accepted + 1 } } →
    (s.isUp p = false → exec (.forwardCommand p cls tag payload) s = .next (t.replied f stLinkDown [])) ∧
    (s.isUp p = true →
      (s.rtu.stage = .commit ∨ s.rtu.stage = .dark →
        exec (.forwardCommand p cls tag payload) s = .next (t.replied f stRefusedCommit [])) ∧
      (s.rtu.stage ≠ .commit → s.rtu.stage ≠ .dark →
        (s.limit p < payload.length →
          exec (.forwardCommand p cls tag payload) s = .next (t.replied f stTooLong [])) ∧
        (payload.length ≤ s.limit p → s.tagTaken p tag = true →
          exec (.forwardCommand p cls tag payload) s = .next (t.replied f stDupTag []))))) ∧
  (∀ (s : State) (p : Port) (cls tag : Byte) (payload : List Byte) (f : Frame) (c : Cmd) (t : State), s.Ready →
    payload.length ≤ 60 → f = mkFrame p.addr 7 kindCommand cls tag payload → c = s.recordOf p f →
    t = { s with fwd := { s.fwd with accepted := s.fwd.accepted + 1 } } →
    s.isUp p = true → s.rtu.stage ≠ .commit → s.rtu.stage ≠ .dark → payload.length ≤ s.limit p →
    s.tagTaken p tag = false →
    (∀ x, (s.verdict c = .keep x ∨ (s.verdict c = .ready ∧ x = .order ∧
        s.fwd.hold.any (fun e => e.cmd.port == p) = true)) →
      (s.fwd.hold.length < 16 → exec (.forwardCommand p cls tag payload) s =
        .next { t.taken with fwd := { t.fwd with
          hold := s.fwd.hold ++ [{ cmd := c, reason := x, deadline := s.now + Config.ms c.holdMs }] } }) ∧
      (16 ≤ s.fwd.hold.length → exec (.forwardCommand p cls tag payload) s = .next (t.replied f stHoldFull []))) ∧
    (∀ st, s.verdict c = .refuse st → exec (.forwardCommand p cls tag payload) s = .next (t.replied f st [])) ∧
    (s.verdict c = .ready → s.fwd.hold.any (fun e => e.cmd.port == p) = false →
      (8 ≤ (s.queue p).length → exec (.forwardCommand p cls tag payload) s = .next (t.replied f stPortFull [])) ∧
      ((s.queue p).length < 8 → ∃ u, exec (.forwardCommand p cls tag payload) s = .next u ∧
        u.queue p = s.queue p ++ [c] ∧ (∀ q, q ≠ p → u.queue q = s.queue q ∧ u.port q = s.port q) ∧
        (u.port p).link = .up ∧
        { u with ports := s.ports, fwd := { u.fwd with queues := s.fwd.queues } } = t.taken ∧
        (s.queue p = [] → (s.outs p).length < 4 → (s.port p).line = .free → (s.port p).railPlaces = [] →
          (s.port p).probeWaiting = false → (s.port p).seqOffer = none →
          (u.port p).line = .sending (some .forward) f (s.now + 5 * (payload.length + 7))))))

/-- What decides a command before its queue is looked at: shed-blocked first, then its condition, by its action; and a command
with no entry of its own takes the default entry: ACTION PASS, no prerequisite, SHED_CLASS 0, HOLD_MS the order hold limit, no
effect. The entry looked up is the one of the port and the command's class, else the port's entry for ANY, else none, and the
command's record is that entry's. An ON effect's part of the condition needs the rail out of FAULT with its PREREQS ON, an OFF
effect's each dependent OFF; a rail with a claim or a frame holds it. The reason reported is PREREQ where a prerequisite or
the effect's part fails, CLAIMED where the rail is held alone. What an effect on a rail with USED clear waits for is the
model's reading (log 28). -/
def Obligations.VerdictFollowsShedThenCondition : Prop :=
  (∀ (s : State) (c : Cmd),
    (1 ≤ c.shedClass → c.shedClass ≤ s.fwd.shedLevel → s.verdict c =
      if c.action = .hold then .keep .shed else .refuse stRefusedShed) ∧
    (c.shedClass = 0 ∨ s.fwd.shedLevel < c.shedClass →
      (c.action = .pass → s.verdict c = .ready) ∧
      (∀ x, s.unmet c = some x → c.action = .hold → s.verdict c = .keep x) ∧
      (∀ x, s.unmet c = some x → c.action = .refuse → s.verdict c = .refuse stRefusedRail) ∧
      (s.unmet c = none → s.verdict c = .ready) ∧
      (c.action ≠ .pass → (s.unmet c = none ↔ (∀ q, inSet c.prereqs q = true → s.railState q = .on) ∧
        ∀ r on, c.effect = some (r, on) → s.railHeld r = false ∧ s.effectReady (some (r, on)) = true)))) ∧
  (∀ (s : State) (p : Port) (f : Frame), s.lookup p f.cls = none →
    s.recordOf p f = { frame := f, port := p, order := s.fwd.accepted, action := .pass, prereqs := 0, shedClass := 0,
                       holdMs := s.fwd.orderHoldMs, effect := none, entry := none } ∧
    s.verdict (s.recordOf p f) = .ready) ∧
  (∀ (s : State) (p : Port) (f : Frame),
    (∀ i e, s.lookup p f.cls = some i → s.fwd.admission.get i = some e → s.recordOf p f =
      { frame := f, port := p, order := s.fwd.accepted, action := e.action, prereqs := e.prereqs, shedClass := e.shedClass,
        holdMs := e.holdMs, effect := e.effect, entry := some i }) ∧
    (∀ i, s.lookup p f.cls = some i → ∃ e, s.fwd.admission.get i = some e ∧ e.port = p ∧ (e.cls = some f.cls ∨
      (e.cls = none ∧ ∀ j x, s.fwd.admission.get j = some x → x.port = p → x.cls ≠ some f.cls))) ∧
    (s.lookup p f.cls = none ↔
      ∀ j x, s.fwd.admission.get j = some x → x.port = p → x.cls ≠ some f.cls ∧ x.cls ≠ none)) ∧
  (∀ (s : State) (r : RailId) (c : Cmd),
    (s.effectReady (some (r, true)) = true ↔
      s.railState r ≠ .fault ∧ ∀ q, inSet (s.rail r).static.prereqs q = true → s.railState q = .on) ∧
    (s.effectReady (some (r, false)) = true ↔
      ∀ d, (s.rail d).static.used = true → inSet (s.rail d).static.prereqs r = true → (s.rail d).dyn.state = .off) ∧
    (s.railHeld r = true ↔
      (s.rail r).static.used = true ∧ ((s.rail r).dyn.claim ≠ .none ∨ (s.rail r).dyn.frame ≠ none)) ∧
    (c.action ≠ .pass → (∃ q, inSet c.prereqs q = true ∧ s.railState q ≠ .on) ∨ s.effectReady c.effect = false →
      s.unmet c = some .prereq) ∧
    (∀ on, c.action ≠ .pass → (∀ q, inSet c.prereqs q = true → s.railState q = .on) → c.effect = some (r, on) →
      s.effectReady (some (r, on)) = true → s.railHeld r = true → s.unmet c = some .claimed))

/-! ### The ports -/

/-- PRESENT rises on a port in DOWN: in ACTIVE with no reset pulse it enters EXCHANGE and sends its first probe; otherwise
only the level changes. The probe timer sends another probe up to the fourth; after the fourth the port enters FAILED
with LINK_CHANGE. -/
def Obligations.PresentRiseAndProbesExchange : Prop :=
  (∀ (s : State) (p : Port), s.Settled →
    (s.phase = .running → s.mode = .active → (s.port p).link = .down → (s.port p).pulse = none →
      (s.port p).line = .free → s.queue p = [] → (s.port p).railPlaces = [] →
      ∃ t, exec (.presentRises p) s = .next t ∧ (t.port p).present = true ∧ (t.port p).link = .exchange ∧
        (t.port p).probeCount = 1 ∧ (t.port p).probeTimer = none ∧
        (t.port p).line = .sending (some .probe) (mkFrame p.addr 0 kindProbe 0 1 []) (s.now + 35) ∧
        (∀ q, q ≠ p → t.port q = s.port q) ∧ { t with ports := s.ports } = s) ∧
    (s.phase ≠ .running ∨ s.mode = .standby ∨ (s.port p).link ≠ .down ∨ (s.port p).pulse ≠ none →
      exec (.presentRises p) s = .next (modPort p (fun x => { x with present := true }) s))) ∧
  (∀ (s : State) (p : Port) (due : Time), s.Up → (s.port p).link = .exchange → (s.port p).probeTimer = some due →
    ((s.port p).probeCount < 4 → (s.port p).line = .free → s.queue p = [] → (s.port p).railPlaces = [] →
      ∃ t, exec (.probeTimerExpiry p) s = .next t ∧ (t.port p).link = .exchange ∧
        (t.port p).probeCount = (s.port p).probeCount + 1 ∧ (t.port p).probeTimer = none ∧
        (t.port p).line = .sending (some .probe)
          (mkFrame p.addr 0 kindProbe 0 (byteOf ((s.port p).probeCount + 1)) []) (max s.now due + 35) ∧
        (∀ q, q ≠ p → t.port q = s.port q) ∧ { t with ports := s.ports, now := s.now } = s) ∧
    (4 ≤ (s.port p).probeCount → (s.port p).owner ≠ some .probe →
      exec (.probeTimerExpiry p) s = .next (raise .linkChange (modPort p (fun x =>
        { x with link := .failed, probeCount := 0, probeTimer := none, probeWaiting := false })
        { s with now := max s.now due }))))

/-- A valid capability record in EXCHANGE brings the port up: probing stops, a probe under way is cut off, the record is
agreed, CAP_MISMATCH is raised where a rail of the port is not listed, and LINK_CHANGE. In UP one that agrees changes nothing;
one that differs, losing no rail and not NOTICES, replaces the agreed record with LINK_CHANGE, and CAP_MISMATCH where a rail
newly mismatches. One that drops a rail: the rail's path is lost (a rail up enters FALLING, the frame of one that is not up is
cleared and withdrawn), with CAP_MISMATCH and then LINK_CHANGE. One that drops NOTICES: a running AWAIT_NOTICE step of the
port fails NO_PATH (stated for a last step with ON_FAIL ABORT). The model's own: the lane's 5 microseconds of rest after a
probe that is cut off (log 30), LINK_CHANGE set before the step fails (log 53), and the latch set at every entry into UP (log
54). -/
def Obligations.CapabilityRecordsBringUpAndReplace : Prop :=
  (∀ (s u : State) (p : Port) (tag : Byte) (payload : List Byte) (c : Capability), s.Up → payload.length ≤ 60 →
    (s.port p).link = .exchange → decCapability payload = some c →
    u = modPort p (fun x => { x with
      link := .up, probeCount := 0, probeTimer := none, probeWaiting := false, agreed := some (s.agree p c), latch := true,
      line := if x.owner = some .probe then .stretch (s.now + 10) else x.line }) s →
    ((s.agree p c).mismatch = [] →
      exec (.capabilityInExchange p tag payload) s = .next (raise .linkChange u)) ∧
    ((s.agree p c).mismatch ≠ [] →
      exec (.capabilityInExchange p tag payload) s = .next (raise .linkChange (raise .capMismatch u))) ∧
    (s.agree p c).limit = min c.maxPayload 60 ∧ (s.agree p c).notices = c.notices ∧
    (s.agree p c).syncSource = c.syncSource ∧
    (∀ r, r ∈ (s.agree p c).rails ↔ (s.rail r).static.used = true ∧
      ∃ i on off, (s.rail r).static.path = .board p i on off ∧ i ∈ c.ids) ∧
    (∀ r, r ∈ (s.agree p c).mismatch ↔ (s.rail r).static.used = true ∧
      ∃ i on off, (s.rail r).static.path = .board p i on off ∧ i ∉ c.ids)) ∧
  (∀ (s u : State) (p : Port) (tag : Byte) (payload : List Byte) (c : Capability) (old : Agreed), s.Up →
    payload.length ≤ 60 → (s.port p).link = .up → decCapability payload = some c → (s.port p).agreed = some old →
    u = modPort p (fun x => { x with agreed := some (s.agree p c) }) s →
    (s.agree p c = old → exec (.unsolicitedCapability p tag payload) s = .next s) ∧
    (s.agree p c ≠ old → (∀ r ∈ old.rails, r ∈ (s.agree p c).rails) → (old.notices = true → c.notices = true) →
      ((∀ r ∈ (s.agree p c).mismatch, r ∈ old.mismatch) →
        exec (.unsolicitedCapability p tag payload) s = .next (raise .linkChange u)) ∧
      (∀ r, r ∈ (s.agree p c).mismatch → r ∉ old.mismatch →
        exec (.unsolicitedCapability p tag payload) s = .next (raise .linkChange (raise .capMismatch u))))) ∧
  (∀ (s u : State) (p : Port) (tag : Byte) (payload : List Byte) (c : Capability) (old : Agreed) (r : RailId),
    s.Calm → payload.length ≤ 60 → (s.port p).link = .up → decCapability payload = some c →
    (s.port p).agreed = some old →
    u = modPort p (fun x => { x with agreed := some (s.agree p c) }) s →
    old.rails.filter (fun q => q ∉ (s.agree p c).rails) = [r] → r ∉ old.mismatch →
    (old.notices = true → c.notices = true) →
    (s.rail r).static.used = true → (s.rail r).static.port? = some p →
    ((s.rail r).dyn.state = .rising ∨ (s.rail r).dyn.state = .on → (s.rail r).dyn.frame = none →
      (∀ d, (s.rail d).static.used = true → inSet (s.rail d).static.prereqs r = true →
        (s.rail d).dyn.state ≠ .rising ∧ (s.rail d).dyn.state ≠ .on) →
      ∃ t : State, exec (.unsolicitedCapability p tag payload) s = .next (raise .linkChange (raise .capMismatch t)) ∧
        State.MovedTo r .falling (some (s.now + 2000 * (s.rail r).static.fallMs)) none u t ∧
        { t with rails := s.rails, en := s.en, dis := s.dis, chans := s.chans } = u) ∧
    (∀ f, (s.rail r).dyn.state ≠ .rising → (s.rail r).dyn.state ≠ .on → (s.rail r).dyn.frame = some f →
      exec (.unsolicitedCapability p tag payload) s = .next (raise .linkChange (raise .capMismatch
        (withdrawRail r (modDyn r (fun d => { d with frame := none }) u))))) ∧
    ((s.rail r).dyn.state ≠ .rising → (s.rail r).dyn.state ≠ .on → (s.rail r).dyn.frame = none →
      exec (.unsolicitedCapability p tag payload) s = .next (raise .linkChange (raise .capMismatch u)))) ∧
  (∀ (s u : State) (p : Port) (tag : Byte) (payload : List Byte) (c : Capability) (old : Agreed) (x : Context) (y : Running)
    (time : Nat) (cls : Byte) (cancel : Option (Fin 16)),
    s.Up → payload.length ≤ 60 → (s.port p).link = .up → decCapability payload = some c →
    (s.port p).agreed = some old →
    u = modPort p (fun x => { x with agreed := some (s.agree p c) }) s →
    (∀ r ∈ old.rails, r ∈ (s.agree p c).rails) → (∀ r ∈ (s.agree p c).mismatch, r ∈ old.mismatch) →
    old.notices = true → c.notices = false → s.LastStep x y →
    (s.stepAt x.index).kind = .awaitNotice time p cls cancel → x.wait = .notice → (s.stepAt x.index).onFail = .abort →
    exec (.unsolicitedCapability p tag payload) s =
      .next (State.endedWith (raise .linkChange u) x (.failed x.index .noPath)))

/-- A frame that a listening port does not take: LINK_ERROR and nothing else, for an invalid capability record, a source that
is not the port's board, and a kind, destination or tag that no unit takes; a port that does not listen does nothing. A
board's notice that no step waits for: ignored while U_PRESENT is low, placed on the upstream queue as it came where a notice
place is free, else dropped with NOTICE_DROPPED. -/
def Obligations.StrayFramesAreDiscardedAndNoticesForwarded : Prop :=
  (∀ (s : State) (p : Port) (dest src kind : BitVec 4) (cls tag : Byte) (payload : List Byte), s.Up →
     payload.length ≤ 60 → 1 ≤ kind.toNat → kind.toNat ≤ 5 →
     ((s.port p).link = .exchange ∨ (s.port p).link = .up → decCapability payload = none →
       exec (.invalidCapability p tag payload) s = .next (raise .linkError s)) ∧
     ((s.port p).link = .down ∨ (s.port p).link = .failed →
       exec (.downstreamFrameDiscarded p dest src kind cls tag payload) s = .next s) ∧
     ((s.port p).link = .exchange → (src ≠ p.addr ∨ kind ≠ kindCapability ∨ dest ≠ 0) →
       exec (.downstreamFrameDiscarded p dest src kind cls tag payload) s = .next (raise .linkError s)) ∧
     ((s.port p).link = .up →
       (src ≠ p.addr ∨ kind = kindCommand ∨ kind = kindProbe ∨ (kind = kindCapability ∧ dest ≠ 0) ∨
         (kind = kindNotice ∧ dest ≠ 7) ∨ (kind = kindReply ∧ dest ≠ 0 ∧ dest ≠ 7) ∨
         (kind = kindReply ∧ dest = 0 ∧ (tag.toNat < 0xC0 ∨ (0xD8 ≤ tag.toNat ∧ tag.toNat < 0xE0)))) →
       exec (.downstreamFrameDiscarded p dest src kind cls tag payload) s = .next (raise .linkError s))) ∧
  (∀ (s : State) (p : Port) (cls tag : Byte) (payload : List Byte) (f : Frame), s.Up → (s.port p).link = .up →
     payload.length ≤ 60 → f = mkFrame 7 p.addr kindNotice cls tag payload →
     (∀ c time cancel, s.seq.ctx = some c → (s.stepAt c.index).kind ≠ .awaitNotice time p cls cancel) →
     (s.up.present = false → exec (.boardNotice p cls tag payload) s = .next s) ∧
     (s.up.present = true → s.noticesTaken < 7 →
       exec (.boardNotice p cls tag payload) s = .next (s.placed { frame := f, group := .notice, reset := false })) ∧
     (s.up.present = true → 7 ≤ s.noticesTaken →
       exec (.boardNotice p cls tag payload) s = .next (raise .noticeDropped s)))

/-- PRESENT falls: a port that is not UP goes to DOWN with its probing stopped. A port in UP loses its agreed record and its
latch, and its Sequencer frames with a cancel record that waits there; its queued and outstanding commands are answered
LINK_DOWN, the claims of the outstanding ones released, and LINK_CHANGE is raised. A rail that loses its path with it, in
RISING or ON, enters FALLING with no frame; a rail's frame record becomes absent. A running SEND step whose frame is at the
port, or AWAIT_NOTICE step of it, fails NO_PATH (stated for a last step with ON_FAIL ABORT). Its held commands are answered
LINK_DOWN together, with one pass over what stays, and each queued one with a pass after it. The model's own: the lane's 5
microseconds of rest after a frame that is cut off (log 30), and the order of these answers and passes (log 32). -/
def Obligations.PresentFallTakesThePortDown : Prop :=
  (∀ (s : State) (p : Port), s.Up →
    ((s.port p).link = .down ∨ (s.port p).link = .failed →
      exec (.presentFalls p) s = .next (modPort p (fun x => { x with present := false, link := .down }) s)) ∧
    ((s.port p).link = .exchange → exec (.presentFalls p) s = .next (modPort p (fun x => { x with
      present := false, link := .down, probeCount := 0, probeTimer := none, probeWaiting := false,
      line := if x.owner = some .probe then .stretch (s.now + 10) else x.line }) s))) ∧
  (∀ (s u : State) (p : Port) (k : Option (Port × Byte)), s.Up → s.fwd.hold = [] → s.up.present = true →
    (s.port p).link = .up → (s.outs p).length ≤ 4 →
    k = (match s.seq.cancel with
      | some (q, tag) => if q = p ∧ (s.port p).cancelWaits tag = true then none else some (q, tag)
      | none => none) →
    u = modPort p (fun x => { x with
        present := false, link := .down, agreed := none, latch := false, seqOffer := none, seqBehind := [],
        line := match x.line with
          | .sending _ _ _ => .stretch (s.now + 10)
          | l => l })
      (setOuts p [] (setQueue p [] { s with
        seq := { s.seq with cancel := k }
        up := { s.up with
          tx := s.up.tx ++ (s.queue p).map (fun c => replyEntry (replyFrame c.frame stLinkDown [])) ++
            (s.outs p).map (fun e => replyEntry (replyFrame e.cmd.frame stLinkDown [])) } })) →
    (s.seq.ctx = none → s.agreedRails p = [] → ∃ t : State, exec (.presentFalls p) s = .next (raise .linkChange t) ∧
      { t with rails := s.rails } = u ∧
      (∀ r, (∃ e ∈ s.outs p, ∃ on, e.claimMark = true ∧ e.cmd.effect = some (r, on) ∧
          (s.rail r).dyn.claim = .frame p e.cmd.frame.tag) →
        t.rail r = { s.rail r with dyn := { (s.rail r).dyn with claim := .none } }) ∧
      (∀ r, (¬ ∃ e ∈ s.outs p, ∃ on, e.claimMark = true ∧ e.cmd.effect = some (r, on) ∧
          (s.rail r).dyn.claim = .frame p e.cmd.frame.tag) → t.rail r = s.rail r)) ∧
    (∀ r, s.seq.ctx = none → s.outs p = [] → s.agreedRails p = [r] → (s.rail r).static.used = true →
      (s.rail r).static.port? = some p →
      ((s.rail r).dyn.state = .rising ∨ (s.rail r).dyn.state = .on → (s.rail r).dyn.frame = none →
        (∀ d, (s.rail d).static.used = true → inSet (s.rail d).static.prereqs r = true →
          (s.rail d).dyn.state ≠ .rising ∧ (s.rail d).dyn.state ≠ .on) →
        ∃ t : State, exec (.presentFalls p) s = .next (raise .linkChange t) ∧
          State.MovedTo r .falling (some (s.now + 2000 * (s.rail r).static.fallMs)) none u t ∧
          { t with rails := s.rails, en := s.en, dis := s.dis, chans := s.chans } = u) ∧
      (∀ f, (s.rail r).dyn.state ≠ .rising → (s.rail r).dyn.state ≠ .on → (s.rail r).dyn.frame = some f →
        (∀ q, q ≠ r → (s.rail q).dyn.frame = none) →
        exec (.presentFalls p) s = .next (raise .linkChange (modDyn r (fun d => { d with frame := none })
          (modPort p (fun x => { x with railPlaces := x.railPlaces.filter (fun q => q != r) }) u))))) ∧
    (∀ c x, s.LastStep c x → (s.stepAt c.index).onFail = .abort → s.outs p = [] → s.agreedRails p = [] →
      ((∃ n f, (s.stepAt c.index).kind = .send n ∧ c.frame = some f ∧ f.port = p) ∨
        (∃ time cls cancel, (s.stepAt c.index).kind = .awaitNotice time p cls cancel ∧ c.wait = .notice)) →
      exec (.presentFalls p) s = .next (raise .linkChange (State.endedWith u c (.failed c.index .noPath))))) ∧
  (∀ (s v w : State) (p : Port), s.Up → s.up.present = true → (s.port p).link = .up → s.seq.ctx = none →
    s.seq.cancel = none → s.outs p = [] → s.agreedRails p = [] →
    v = modPort p (fun x => { x with
        present := false, link := .down, agreed := none, latch := false,
        line := match x.line with
          | .sending _ _ _ => .stretch (s.now + 10)
          | l => l }) s →
    w = (if ∃ e ∈ s.fwd.hold, e.cmd.port = p then rescan { v with
        fwd := { s.fwd with hold := s.fwd.hold.filter (fun e => e.cmd.port ≠ p) }
        up := { s.up with tx := s.up.tx ++ (s.fwd.hold.filter (fun e => e.cmd.port = p)).map (fun e =>
          replyEntry (replyFrame e.cmd.frame stLinkDown [])) } } else v) →
    exec (.presentFalls p) s = .next (raise .linkChange (modPort p (fun x => { x with seqOffer := none, seqBehind := [] })
      ((s.queue p).foldl (fun y c =>
        rescan (State.answered (setQueue p (y.queue p).tail y) c.frame stLinkDown [])) w))))

/-! ### The downstream transmitters -/

/-- A transmitter that is free after the 5 microseconds, of a port in UP or EXCHANGE, grants the forward head if it is due, else
a rail-control frame, a probe, a Sequencer frame and a forwarded command in that order, with the fairness count that follows;
it stays free where nothing waits. -/
def Obligations.TransmitterGrantsByPriority : Prop :=
  ∀ (s : State) (p : Port) (due : Time) (x : PortRec) (n : Nat), s.Settled → x = s.port p → x.line = .stretch due →
    x.link = .up ∨ x.link = .exchange → n = (if s.queue p ≠ [] ∧ (s.outs p).length < 4 then 1 else 0) →
    ∃ t, exec (.transmitterFree p) s = .next t ∧ (∀ q, q ≠ p → t.port q = s.port q) ∧ t.now = max s.now due ∧
      { t with ports := s.ports, now := s.now } = s ∧
      (∀ c l, s.queue p = c :: l → n = 1 → x.fair ≤ x.fairCount →
        (t.port p).line = .sending (some .forward) c.frame (max s.now due + c.frame.time) ∧
        (t.port p).fairCount = 0) ∧
      (n = 0 ∨ x.fairCount < x.fair →
        (∀ r l, x.railPlaces = r :: l →
          (t.port p).line = .sending (some (.rail r)) (railFrameOf p r (s.rail r))
            (max s.now due + (railFrameOf p r (s.rail r)).time) ∧ (t.port p).fairCount = n * x.fairCount) ∧
        (x.railPlaces = [] → x.probeWaiting = true →
          (t.port p).line = .sending (some .probe) (probeFrame p x.probeCount) (max s.now due + 35)) ∧
        (∀ f, x.railPlaces = [] → x.probeWaiting = false → x.seqOffer = some f →
          (t.port p).line = .sending (some .sequencer) f.frame (max s.now due + f.frame.time) ∧
          (t.port p).fairCount = n * min 15 (x.fairCount + 1)) ∧
        (∀ c l, x.railPlaces = [] → x.probeWaiting = false → x.seqOffer = none → s.queue p = c :: l → n = 1 →
          (t.port p).line = .sending (some .forward) c.frame (max s.now due + c.frame.time) ∧
          (t.port p).fairCount = 0) ∧
        (x.railPlaces = [] → x.probeWaiting = false → x.seqOffer = none → n = 0 → (t.port p).line = .free))

/-- A frame has been transmitted: the lane rests 5 microseconds and the claimant is told: a rail's frame and a SEND step's
wait for their replies, the probe timer starts, a forwarded command moves to the outstanding list with its deadline and,
where its effect rail is free, that rail's claim, and a pass over the hold queue follows, for the freed place (R151, R157); a
withdrawn frame's completion is told to no one. -/
def Obligations.TransmissionEndTellsTheClaimant : Prop :=
  ∀ (s u : State) (p : Port) (owner : Option Claimant) (f : Frame) (done : Time), s.Up →
    (s.port p).line = .sending owner f done →
    u = modPort p (fun x => { x with line := .stretch (max s.now done + 10) }) { s with now := max s.now done } →
    (owner = none → exec (.downstreamTxComplete p) s = .next u) ∧
    (∀ r x, owner = some (.rail r) → (s.rail r).dyn.frame = some x →
      exec (.downstreamTxComplete p) s = .next (modDyn r (fun d => { d with
        frame := some { x with mark := .sent (max s.now done + 2000 * (s.port p).windowMs) } }) u)) ∧
    (owner = some .probe → (s.port p).link = .exchange →
      exec (.downstreamTxComplete p) s =
        .next (modPort p (fun x => { x with probeTimer := some (max s.now done + 40000) }) u)) ∧
    (∀ g c x, owner = some .sequencer → (s.port p).seqOffer = some g → g.isCancel = false → s.seq.ctx = some c →
      c.frame = some x →
      exec (.downstreamTxComplete p) s = .next (modPort p PortRec.nextSeq { u with seq := { s.seq with ctx := some { c with
        frame := some { x with mark := .sent (max s.now done + 2000 * x.windowMs) }
        timer := some (max s.now done + 2000 * x.windowMs) } } })) ∧
    (∀ c l, owner = some .forward → s.queue p = c :: l → s.up.present = true ∨ s.fwd.hold = [] →
      ((c.effect = none ∨ ∃ r on, c.effect = some (r, on) ∧ ((s.rail r).static.used = false ∨ s.railHeld r = true)) →
        exec (.downstreamTxComplete p) s = .next (rescan (setOuts p (s.outs p ++
          [{ cmd := c, deadline := max s.now done + 2000 * (s.port p).windowMs, claimMark := false }])
          (setQueue p l u)))) ∧
      (∀ r on, c.effect = some (r, on) → (s.rail r).static.used = true → s.railHeld r = false →
        exec (.downstreamTxComplete p) s = .next (rescan (setOuts p (s.outs p ++
          [{ cmd := c, deadline := max s.now done + 2000 * (s.port p).windowMs, claimMark := true }])
          (modDyn r (fun d => { d with claim := .frame c.port c.frame.tag }) (setQueue p l u))))))

/-! ### Rail-control frames, rail timers and samples -/

/-- A rail-control reply. With no frame of the rail sent it is a LATE_REPLY and nothing else. A status other than OK ends the
frame and moves nothing; an OK to an ON frame of an OFF rail whose prerequisites are ON brings the rail to RISING; an OK to a
step's OFF frame brings a rail with no dependent up to FALLING. An OK to an ON frame that is marked THEN_OFF, or whose rail
cannot rise now, makes an OFF frame with purpose FOLLOW where the rail's board can be reached and nothing where it cannot; an
OK to an OFF frame of no step, or of a rail that is not up, ends the frame and moves nothing. A frame's deadline: a second
attempt of the same frame, offered at its rail's port again, and no third. That a reply is taken from any port in UP, whatever
the rail's PATH, is the model's reading (log 16). -/
def Obligations.RailFramesEndByReplyOrDeadline : Prop :=
  (∀ (s u : State) (p : Port) (cls : Byte) (r : RailId) (payload : List Byte), s.Up → (s.port p).link = .up →
    payload.length ≤ 60 → u = modDyn r (fun d => { d with frame := none }) s →
    ((s.rail r).dyn.frame = none ∨ (∃ x, (s.rail r).dyn.frame = some x ∧ x.mark = .waiting) →
      exec (.railControlReply p cls r payload) s = .next (raise .lateReply s)) ∧
    (∀ x d, s.Calm → (s.rail r).dyn.frame = some x → x.mark = .sent d →
      (payload.head? ≠ some stOk → exec (.railControlReply p cls r payload) s = .next u) ∧
      (payload.head? = some stOk → x.isOn = true → x.thenOff = false → (s.rail r).dyn.state = .off →
        s.allOn (s.rail r).static.prereqs = true → s.pathAvailable r = true → s.highAlarm r = false →
        ∃ t, exec (.railControlReply p cls r payload) s = .next t ∧
          State.MovedTo r .rising (some (s.now + 2000 * (if (s.rail r).static.sense = none then (s.rail r).static.settleMs
            else (s.rail r).static.riseMs))) none u t ∧
          { t with rails := s.rails, en := s.en, dis := s.dis, chans := s.chans } = s) ∧
      (payload.head? = some stOk → x.isOn = false → x.forStep = true →
        ((s.rail r).dyn.state = .rising ∨ (s.rail r).dyn.state = .on) →
        (∀ d, (s.rail d).static.used = true → inSet (s.rail d).static.prereqs r = true →
          (s.rail d).dyn.state ≠ .rising ∧ (s.rail d).dyn.state ≠ .on) →
        ∃ t, exec (.railControlReply p cls r payload) s = .next t ∧
          State.MovedTo r .falling (some (s.now + 2000 * (s.rail r).static.fallMs)) none u t ∧
          { t with rails := s.rails, en := s.en, dis := s.dis, chans := s.chans } = s) ∧
      (payload.head? = some stOk → x.isOn = true →
        (x.thenOff = true ∨ (s.rail r).dyn.state ≠ .off ∨ s.allOn (s.rail r).static.prereqs = false ∨
          s.pathAvailable r = false) →
        (s.pathAvailable r = false ∨ (s.rail r).static.port? = none →
          exec (.railControlReply p cls r payload) s = .next u) ∧
        (s.pathAvailable r = true → (s.rail r).static.port? ≠ none →
          exec (.railControlReply p cls r payload) s = .next (offerRail r (modDyn r (fun d => { d with
            frame := some { isOn := false, attempt := 1, mark := .waiting, forStep := false, thenOff := false } }) s)))) ∧
      (payload.head? = some stOk → x.isOn = false →
        (x.forStep = false ∨ ((s.rail r).dyn.state ≠ .rising ∧ (s.rail r).dyn.state ≠ .on)) →
        exec (.railControlReply p cls r payload) s = .next u))) ∧
  (∀ (s : State) (r : RailId) (x : RailFrame) (due : Time), s.Calm → (s.rail r).dyn.frame = some x →
    x.mark = .sent due →
    (x.attempt = 1 → exec (.railFrameDeadline r) s = .next (offerRail r (modDyn r (fun d => { d with
      frame := some { x with attempt := 2, mark := .waiting } }) { s with now := max s.now due }))) ∧
    (x.attempt ≠ 1 → exec (.railFrameDeadline r) s =
      .next (modDyn r (fun d => { d with frame := none }) { s with now := max s.now due })))

/-- The rail timers. SETTLE_MS brings an unsensed rail ON; FALL_MS brings a rail with FORCE to DISCHARGING and an unsensed
rail without it to OFF; DISCHARGE_MS brings an unsensed rail to OFF. A sensed rail that fails to rise or to fall enters FAULT
with the cause, its TIMER stopped, and RAIL_FAULT is raised (stated for a rail of the part with no claim, no FAULT_ACTION and
no dependent up). Then what else a rail does that fails to rise: a BOARD rail with its path available makes an OFF frame, or
marks the ON frame in flight; a claim is released, with the failure of the step that holds it or the claim mark of the command
cleared; a dependent that is up enters FALLING; and the FAULT_ACTION's program is requested. That the step's failure comes
before RAIL_FAULT is the model's reading (log 41). -/
def Obligations.RailTimersMoveOrFaultTheRail : Prop :=
  (∀ (s u : State) (r : RailId) (due : Time), s.Calm → (s.rail r).static.used = true → (s.rail r).dyn.timer = some due →
    u = { s with now := max s.now due } →
    ((s.rail r).dyn.state = .rising → (s.rail r).static.sense = none → ∃ t, exec (.settleExpiry r) s = .next t ∧
      State.MovedTo r .on none none u t ∧ { t with rails := s.rails, en := s.en, dis := s.dis, chans := s.chans } = u) ∧
    (∀ o n, (s.rail r).dyn.state = .falling → (s.rail r).static.discharge = .force o n →
      ∃ t, exec (.fallExpiry r) s = .next t ∧ State.MovedTo r .discharging (some (max s.now due + 2000 * n)) none u t ∧
        { t with rails := s.rails, en := s.en, dis := s.dis, chans := s.chans } = u) ∧
    ((s.rail r).dyn.state = .falling → (s.rail r).static.discharge.isForce = false → (s.rail r).static.sense = none →
      ∃ t, exec (.fallExpiry r) s = .next t ∧ State.MovedTo r .off none none u t ∧
        { t with rails := s.rails, en := s.en, dis := s.dis, chans := s.chans } = u) ∧
    ((s.rail r).dyn.state = .discharging → (s.rail r).static.sense = none →
      ∃ t, exec (.dischargeExpiry r) s = .next t ∧ State.MovedTo r .off none none u t ∧
        { t with rails := s.rails, en := s.en, dis := s.dis, chans := s.chans } = u)) ∧
  (∀ (s u : State) (r : RailId) (due : Time) (e : Fin 12) (c : ChannelId), s.Calm → (s.rail r).static.used = true →
    (s.rail r).dyn.timer = some due → (s.rail r).static.path = .onPart e → (s.rail r).static.sense = some c →
    (s.rail r).dyn.claim = .none → (s.rail r).static.faultAction = none →
    (∀ d, (s.rail d).static.used = true → inSet (s.rail d).static.prereqs r = true →
      (s.rail d).dyn.state ≠ .rising ∧ (s.rail d).dyn.state ≠ .on) →
    u = { s with now := max s.now due } →
    ((s.rail r).dyn.state = .rising → ∃ t, exec (.riseTimeout r) s = .next (raise .railFault t) ∧
      State.MovedTo r .fault none (some .riseTimeout) u t ∧
      { t with rails := s.rails, en := s.en, dis := s.dis, chans := s.chans } = u) ∧
    ((s.rail r).dyn.state = .falling → (s.rail r).static.discharge.isForce = false →
      ∃ t, exec (.fallExpiry r) s = .next (raise .railFault t) ∧
        State.MovedTo r .fault none (some .fallTimeout) u t ∧
        { t with rails := s.rails, en := s.en, dis := s.dis, chans := s.chans } = u) ∧
    ((s.rail r).dyn.state = .discharging →
      ∃ t, exec (.dischargeExpiry r) s = .next (raise .railFault t) ∧
        State.MovedTo r .fault none (some .fallTimeout) u t ∧
        { t with rails := s.rails, en := s.en, dis := s.dis, chans := s.chans } = u)) ∧
  (∀ (s u t : State) (r : RailId) (due : Time) (c : ChannelId), s.Calm → (s.rail r).static.used = true →
    (s.rail r).dyn.timer = some due → (s.rail r).static.sense = some c → (s.rail r).dyn.state = .rising →
    u = { s with now := max s.now due } → t = modDyn r (fun d => { d with faultCause := some .riseTimeout })
      (enterState r .fault u) →
    State.MovedTo r .fault none (some .riseTimeout) u t ∧
    (∀ e, (s.rail r).static.path = .onPart e → (s.rail r).static.faultAction = none →
      (∀ p tag, (s.rail r).dyn.claim = .frame p tag →
        (∀ d, (s.rail d).static.used = true → inSet (s.rail d).static.prereqs r = true →
          (s.rail d).dyn.state ≠ .rising ∧ (s.rail d).dyn.state ≠ .on) →
        exec (.riseTimeout r) s = .next (raise .railFault (modDyn r (fun d => { d with claim := .none })
          (setOuts p ((s.outs p).map (fun x => if x.cmd.frame.tag = tag then { x with claimMark := false } else x)) t)))) ∧
      (∀ d i, (s.rail r).dyn.claim = .none → d ≠ r → (s.rail d).static.used = true →
        inSet (s.rail d).static.prereqs r = true → (s.rail d).static.path = .onPart i →
        ((s.rail d).dyn.state = .rising ∨ (s.rail d).dyn.state = .on) →
        (∀ q, q ≠ d → q ≠ r → (s.rail q).static.used = true →
          (inSet (s.rail q).static.prereqs r = true ∨ inSet (s.rail q).static.prereqs d = true) →
          (s.rail q).dyn.state ≠ .rising ∧ (s.rail q).dyn.state ≠ .on) →
        ∃ v : State, exec (.riseTimeout r) s = .next (raise .railFault v) ∧
          State.MovedTo d .falling (some (u.now + 2000 * (s.rail d).static.fallMs)) none t v ∧
          { v with rails := t.rails, en := t.en, dis := t.dis, chans := t.chans } = t)) ∧
    (∀ p i on off, (s.rail r).static.path = .board p i on off → (s.rail r).static.faultAction = none →
      (s.rail r).dyn.claim = .none →
      (∀ d, (s.rail d).static.used = true → inSet (s.rail d).static.prereqs r = true →
        (s.rail d).dyn.state ≠ .rising ∧ (s.rail d).dyn.state ≠ .on) →
      (s.pathAvailable r = false → exec (.riseTimeout r) s = .next (raise .railFault t)) ∧
      (s.pathAvailable r = true → (s.rail r).dyn.frame = none →
        exec (.riseTimeout r) s = .next (raise .railFault (offerRail r (modDyn r (fun d => { d with
          frame := some { isOn := false, attempt := 1, mark := .waiting, forStep := false, thenOff := false } }) t)))) ∧
      (∀ f, s.pathAvailable r = true → (s.rail r).dyn.frame = some f → f.isOn = true →
        exec (.riseTimeout r) s = .next (raise .railFault (modDyn r (fun d => { d with
          frame := some { f with thenOff := true } }) t))))) ∧
  (∀ (s u t : State) (r : RailId) (due : Time) (e : Fin 12) (c : ChannelId), s.Up → s.fwd.hold = [] →
    (s.rail r).static.used = true → (s.rail r).dyn.timer = some due → (s.rail r).static.path = .onPart e →
    (s.rail r).static.sense = some c → (s.rail r).dyn.state = .rising →
    (∀ d, (s.rail d).static.used = true → inSet (s.rail d).static.prereqs r = true →
      (s.rail d).dyn.state ≠ .rising ∧ (s.rail d).dyn.state ≠ .on) →
    u = { s with now := max s.now due } → t = modDyn r (fun d => { d with faultCause := some .riseTimeout })
      (enterState r .fault u) →
    State.MovedTo r .fault none (some .riseTimeout) u t ∧
    (∀ c x noWait, s.LastStep c x → (s.stepAt c.index).kind = .railOn r noWait → (s.stepAt c.index).onFail = .abort →
      c.wait = .order → (s.rail r).dyn.claim = .step → (s.rail r).dyn.frame = none →
      (s.rail r).static.faultAction = none →
      exec (.riseTimeout r) s = .next (raise .railFault (State.endedWith (modDyn r (fun d => { d with claim := .none }) t)
        c (.failed c.index .riseTimeout)))) ∧
    (∀ n time, s.Quiet → s.mode = .active → (s.rail r).dyn.claim = .none → (s.rail r).static.faultAction = some n →
      (s.header n).count ≠ 0 → (s.stepAt (s.header n).first).kind = .delay time →
      exec (.riseTimeout r) s = .next { raise .railFault t with
        sched := { s.sched with
          arrivals := s.sched.arrivals + 1
          running := some { program := n, requester := .fault, priority := (s.header n).priority,
                            guarded := (s.stepAt (s.header n).first).guarded, marked := false } }
        seq := { s.seq with
          ctx := some { program := n, requester := .fault, index := (s.header n).first,
                        timer := some (u.now + 2000 * time), frame := none, failed := 0, wait := .none } } }))

/-- A sample: its code is the voltage in 4 mV steps, at most 1023. On a channel with ROLE free, and on the bulk channel in
LINE_OK while no commit mark trips, the count of its band goes up to DEBOUNCE and the others to zero; the alarm follows when
the count reaches DEBOUNCE, and SENSE_ALARM is raised where it is newly LOW or HIGH; on the bulk channel every mark is judged,
its flag changing with the DEBOUNCE-th reading in a row beyond its threshold. A sample in turn passes the turn on; channel 0's
begins the round, and the next one is due 250 microseconds later in ACTIVE, 8 ms in STANDBY. On a bound channel a reading
below LOW counts only while its rail is ON, and while it is RISING readings at or above GOOD_LEVEL are counted. A bound alarm:
newly HIGH it is SENSE_ALARM for an OFF rail, a new cause HIGH with RAIL_FAULT for a FAULT rail, and the entry into FAULT with
RAIL_FAULT for any other; newly LOW it is that entry for an ON rail (stated for a rail with no claim, no FAULT_ACTION, no
dependent up and no board to tell). With no new alarm: a reading at or below SAFE_LEVEL takes a FALLING or DISCHARGING rail to
OFF, DEBOUNCE readings in a row at or above GOOD_LEVEL take a RISING one to ON, its TIMER stopped, and one below GOOD_LEVEL
clears the held-good latch of an ON one. A rail that leaves ON takes its channel's LOW alarm and LOW_COUNT with it, and one
that enters or leaves RISING its GOOD_COUNT. The model's own: a sample out of turn leaves the round, and a change of mode the
round already set (log 24), the OFF of a FORCE rail by a safe sample at the moment of its FALL_MS expiry (log 43), and
SENSE_ALARM handed before the marks' reports (log 44). -/
def Obligations.SamplesMoveAlarmsAndRails : Prop :=
  (∀ (s : State) (c : ChannelId) (mv code : Nat) (x : Channel), s.Up → s.conv.running = true → x = s.chan c →
    code = min 1023 (mv / 4) →
    (x.role = .free ∨ (x.role = .bulk ∧ s.rtu.stage = .lineOk ∧ s.marks.length ≤ 5 ∧
      ∀ m ∈ s.marks, m.id = .commit → m.below = false → (m.judged x.debounce code).2 = false)) →
    ∃ t u, exec (.senseSample c mv) s = .next t ∧
      (∀ d, d ≠ c → u.chan d = s.chan d) ∧
      u.marks = (if x.role = .bulk then s.marks.map (fun m => (m.judged x.debounce code).1) else s.marks) ∧
      { u with chans := s.chans, marks := s.marks } = convTurn c s ∧
      (code < x.low → u.chan c = { x with
          last := some code, lowCount := min x.debounce (x.lowCount + 1), highCount := 0, insideCount := 0,
          alarm := if x.debounce ≤ min x.debounce (x.lowCount + 1) then .low else x.alarm } ∧
        t = if x.debounce ≤ x.lowCount + 1 ∧ x.alarm ≠ .low then raise .senseAlarm u else u) ∧
      (x.low ≤ code → x.high < code → u.chan c = { x with
          last := some code, lowCount := 0, highCount := min x.debounce (x.highCount + 1), insideCount := 0,
          alarm := if x.debounce ≤ min x.debounce (x.highCount + 1) then .high else x.alarm } ∧
        t = if x.debounce ≤ x.highCount + 1 ∧ x.alarm ≠ .high then raise .senseAlarm u else u) ∧
      (x.low ≤ code → code ≤ x.high → u.chan c = { x with
          last := some code, lowCount := 0, highCount := 0, insideCount := min x.debounce (x.insideCount + 1),
          alarm := if x.debounce ≤ min x.debounce (x.insideCount + 1) then .none else x.alarm } ∧ t = u)) ∧
  (∀ (m : BulkMark) (debounce code : Nat),
    (m.below = false →
      (m.threshold ≤ code → m.judged debounce code = ({ m with count := 0 }, false)) ∧
      (code < m.threshold → m.count + 1 < debounce → m.judged debounce code = ({ m with count := m.count + 1 }, false)) ∧
      (code < m.threshold → debounce ≤ m.count + 1 →
        m.judged debounce code = ({ m with below := true, count := 0 }, true))) ∧
    (m.below = true →
      (code < m.threshold → m.judged debounce code = ({ m with count := 0 }, false)) ∧
      (m.threshold ≤ code → m.count + 1 < debounce → m.judged debounce code = ({ m with count := m.count + 1 }, false)) ∧
      (m.threshold ≤ code → debounce ≤ m.count + 1 →
        m.judged debounce code = ({ m with below := false, count := 0 }, true)))) ∧
  (∀ (s : State) (c : ChannelId),
    (c ≠ s.conv.next → convTurn c s = s) ∧
    (c = s.conv.next → c ≠ 0 → convTurn c s = { s with conv := { s.conv with next := c + 1 } }) ∧
    (c = s.conv.next → c = 0 → convTurn c s = { s with
      now := max s.now s.conv.roundDue
      conv := { s.conv with
        next := c + 1
        roundDue := max s.now s.conv.roundDue + (if s.mode = .active then 500 else 16000) } })) ∧
  (∀ (s : State) (x y : Channel) (r : RailId) (code good : Nat), x.role = .bound r → y = s.sampled x code →
    good = (if s.railState r = .rising then
      (if (s.rail r).static.goodLevel ≤ code then min x.debounce (x.goodCount + 1) else 0) else x.goodCount) →
    (code < x.low → s.railState r = .on → y = { x with
      last := some code, lowCount := min x.debounce (x.lowCount + 1), highCount := 0, insideCount := 0, goodCount := good,
      alarm := if x.debounce ≤ min x.debounce (x.lowCount + 1) then .low else x.alarm }) ∧
    (x.low ≤ code → x.high < code → y = { x with
      last := some code, lowCount := 0, highCount := min x.debounce (x.highCount + 1), insideCount := 0, goodCount := good,
      alarm := if x.debounce ≤ min x.debounce (x.highCount + 1) then .high else x.alarm }) ∧
    ((code < x.low ∧ s.railState r ≠ .on) ∨ (x.low ≤ code ∧ code ≤ x.high) → y = { x with
      last := some code, lowCount := 0, highCount := 0, insideCount := min x.debounce (x.insideCount + 1), goodCount := good,
      alarm := if x.debounce ≤ min x.debounce (x.insideCount + 1) then .none else x.alarm })) ∧
  (∀ (x : Channel) (old new : RailState),
    (old = .on → new ≠ .on → new ≠ .rising →
      (x.alarm = .low → x.followRail old new =
        { x with alarm := .none, lowCount := 0, highCount := 0, insideCount := 0, goodCount := 0 }) ∧
      (x.alarm ≠ .low → x.followRail old new = { x with lowCount := 0 })) ∧
    (old ≠ .on → old = .rising ∨ new = .rising → x.followRail old new = { x with goodCount := 0 }) ∧
    (old ≠ .on → old ≠ .rising → new ≠ .rising → x.followRail old new = x)) ∧
  (∀ (s u : State) (c : ChannelId) (mv code : Nat) (r : RailId) (x y : Channel), s.Calm → s.conv.running = true →
    x = s.chan c → x.role = .bound r → (s.rail r).static.used = true → (s.rail r).static.sense = some c →
    code = min 1023 (mv / 4) → y = s.sampled x code → u = setChan c y (convTurn c s) →
    (y.alarm = .high → x.alarm ≠ .high →
      ((s.rail r).dyn.state = .off → exec (.senseSample c mv) s = .next (raise .senseAlarm u)) ∧
      ((s.rail r).dyn.state = .fault → exec (.senseSample c mv) s =
        .next (raise .railFault (modDyn r (fun d => { d with faultCause := some .high }) u)))) ∧
    (∀ cause, (cause = .high ∧ y.alarm = .high ∧ x.alarm ≠ .high ∧
        (s.rail r).dyn.state ≠ .off ∧ (s.rail r).dyn.state ≠ .fault) ∨
        (cause = .low ∧ y.alarm = .low ∧ x.alarm ≠ .low ∧ (s.rail r).dyn.state = .on) →
      (∀ p i on off, (s.rail r).static.path = .board p i on off → s.pathAvailable r = false) →
      (s.rail r).dyn.claim = .none → (s.rail r).static.faultAction = none →
      (∀ d, (s.rail d).static.used = true → inSet (s.rail d).static.prereqs r = true →
        (s.rail d).dyn.state ≠ .rising ∧ (s.rail d).dyn.state ≠ .on) →
      ∃ t, exec (.senseSample c mv) s = .next (raise .railFault t) ∧ State.MovedTo r .fault none (some cause) u t ∧
        { t with rails := s.rails, en := s.en, dis := s.dis, chans := u.chans } = u) ∧
    (y.alarm = x.alarm ∨ y.alarm = .none →
      ((s.rail r).dyn.state = .off ∨ (s.rail r).dyn.state = .fault → exec (.senseSample c mv) s = .next u) ∧
      ((s.rail r).dyn.state = .on → exec (.senseSample c mv) s = .next
        (if code < (s.rail r).static.goodLevel then modDyn r (fun d => { d with heldGood := false }) u else u)) ∧
      ((s.rail r).dyn.state = .falling ∨ (s.rail r).dyn.state = .discharging →
        ((s.rail r).static.safeLevel < code → exec (.senseSample c mv) s = .next u) ∧
        (code ≤ (s.rail r).static.safeLevel → ∃ t, exec (.senseSample c mv) s = .next t ∧
          State.MovedTo r .off none none u t ∧
          { t with rails := s.rails, en := s.en, dis := s.dis, chans := u.chans } = u)) ∧
      ((s.rail r).dyn.state = .rising →
        (y.goodCount < x.debounce → exec (.senseSample c mv) s = .next u) ∧
        (y.goodCount = x.debounce → ∃ t, exec (.senseSample c mv) s = .next t ∧ State.MovedTo r .on none none u t ∧
          { t with rails := s.rails, en := s.en, dis := s.dis, chans := u.chans } = u))))

/-! ### The steps of a program -/

/-- What completes a step, on the last step of a program's range: the delay's end, the frame-sync pulse that reaches the
step's count, an OK reply to its frame, and the notice it waits for; the program ends DONE. Within the range the end of a
DELAY starts the next step by its kind: a DELAY, AWAIT_SYNC, AWAIT_NOTICE or SEND step waits, a SET_OUTPUT step drives its
output and completes, a RAIL_ON or RAIL_OFF step claims its rail and gives the order (the other starts, the waits and the
ends of such a step: `RailStepsStart`, `RailStepsWaitAndGoOn`, `RailReportsEndTheStep`). A SEND frame with attempts left is sent
again with its tag; a frame-sync pulse before the count is counted, and one that no step waits for does nothing. Last, what
offering and withdrawing a Sequencer frame do at its port, and that the other ports stay. That the notice goes upstream before
the step it completes is told is the model's choice (log 52). -/
def Obligations.StepsCompleteOrGoOn : Prop :=
  (∀ (s : State) (c : Context) (x : Running), s.Up → s.LastStep c x →
    (∀ time due, (s.stepAt c.index).kind = .delay time → c.timer = some due →
      exec .delayExpiry s = .next (State.endedWith { s with now := max s.now due } c .done)) ∧
    (∀ time n, (s.stepAt c.index).kind = .awaitSync time n → c.wait = .sync → s.sync.armed = true →
      s.sync.target = some (s.sync.count + 1) →
      exec .fsyncEdge s = .next (State.endedWith { s with sync := { armed := false, target := none, count := 0 } } c .done)) ∧
    (∀ n f d cls payload, (s.stepAt c.index).kind = .send n → c.frame = some f → f.mark = .sent d →
      0xE0 ≤ f.frame.tag.toNat → (s.port f.port).link = .up → payload.length ≤ 60 → payload.head? = some stOk →
      exec (.sequencerReply f.port cls f.frame.tag payload) s = .next (State.endedWith (withdrawSend f.port s) c .done)) ∧
    (∀ time p cls cancel tag payload, (s.stepAt c.index).kind = .awaitNotice time p cls cancel → c.wait = .notice →
      (s.port p).link = .up → payload.length ≤ 60 →
      exec (.boardNotice p cls tag payload) s =
        .next (State.endedWith (offerNotice (mkFrame 7 p.addr kindNotice cls tag payload) s) c .done))) ∧
  (∀ (s : State) (c : Context) (x : Running) (time due now : Nat) (k : StepKind), s.Up → s.seq.ctx = some c →
    (s.stepAt c.index).kind = .delay time → c.timer = some due → now = max s.now due → s.sched.running = some x →
    x.guarded = false → s.inRange c.program (c.index + 1) = true → k = (s.stepAt (c.index + 1)).kind →
    (∀ next, k = .delay next →
      exec .delayExpiry s = .next (s.startedNext c x now (some (now + 2000 * next)) .none)) ∧
    (∀ limit n, k = .awaitSync limit n → s.syncSource = true → exec .delayExpiry s =
      .next { s.startedNext c x now (some (now + 2000 * limit)) .sync with
        sync := { armed := true, target := some n, count := 0 } }) ∧
    (∀ limit p cls cancel, k = .awaitNotice limit p cls cancel → s.noticesOn p = true →
      exec .delayExpiry s = .next (s.startedNext c x now (some (now + 2000 * limit)) .notice)) ∧
    (∀ n y f, k = .send n → s.template n = some y → (s.port y.port).link = .up →
      f = mkFrame y.port.addr 0 kindCommand y.cls s.seq.tagCounter y.payload →
      exec .delayExpiry s = .next (offerSeq y.port { frame := f, isCancel := false } { s.startedNext c x now none .none with
        seq := { s.seq with
          tagCounter := nextTag s.seq.tagCounter
          ctx := some { c with index := c.index + 1, timer := none, wait := .none, frame := some {
            port := y.port, frame := f, attempt := 1, mark := .waiting, windowMs := y.windowMs, retries := y.retries } } } })) ∧
    (∀ o a, k = .setOutput o a → 2 ≤ c.program.val → s.inRange c.program (c.index + 2) = false → x.marked = false →
      s.sched.queue = [] →
      exec .delayExpiry s = .next (State.endedWith { s with now := now, ctl := s.ctl.set o a } c .done)) ∧
    (∀ why, 2 ≤ c.program.val → (s.stepAt (c.index + 1)).onFail = .abort → x.marked = false → s.sched.queue = [] →
      ((∃ limit n, k = .awaitSync limit n ∧ s.syncSource = false ∧ why = .noSync ∧
          s.sync = { armed := false, target := none, count := 0 }) ∨
        (∃ limit p cls cancel, k = .awaitNotice limit p cls cancel ∧ s.noticesOn p = false ∧ why = .noPath) ∨
        (∃ n, k = .send n ∧ why = .noPath ∧ ∀ y, s.template n = some y → (s.port y.port).link ≠ .up)) →
      exec .delayExpiry s = .next (State.endedWith { s with now := now } c (.failed (c.index + 1) why))) ∧
    (∀ r on p i a b, ((on = true ∧ k = .railOn r false ∧ (s.rail r).dyn.state = .off ∧
        s.allOn (s.rail r).static.prereqs = true) ∨
        (on = false ∧ k = .railOff r false ∧ (s.rail r).dyn.state = .on ∧ ∀ d ∈ s.dependents r, s.railState d = .off)) →
      (s.rail r).static.path = .board p i a b → s.pathAvailable r = true → (s.rail r).dyn.claim = .none →
      (s.rail r).dyn.frame = none →
      exec .delayExpiry s = .next (offerRail r (modDyn r (fun d => { d with
        claim := .step
        frame := some { isOn := on, attempt := 1, mark := .waiting, forStep := true, thenOff := false } })
        (s.startedNext c x now none .order)))) ∧
    (∀ r u e, k = .railOn r false → s.fwd.hold = [] → (s.rail r).static.used = true →
      (s.rail r).static.path = .onPart e → (s.rail r).dyn.claim = .none → (s.rail r).dyn.frame = none →
      (s.rail r).dyn.state = .off → s.allOn (s.rail r).static.prereqs = true → s.highAlarm r = false →
      u = modDyn r (fun d => { d with claim := .step }) (s.startedNext c x now none .order) →
      ∃ t, exec .delayExpiry s = .next t ∧
        State.MovedTo r .rising (some (now + 2000 * (if (s.rail r).static.sense = none then (s.rail r).static.settleMs
          else (s.rail r).static.riseMs))) none u t ∧
        { t with rails := s.rails, en := s.en, dis := s.dis, chans := s.chans } = { u with rails := s.rails }) ∧
    (∀ r u e, k = .railOff r false → s.fwd.hold = [] → (s.rail r).static.used = true →
      (s.rail r).static.path = .onPart e → (s.rail r).dyn.claim = .none → (s.rail r).dyn.frame = none →
      (s.rail r).dyn.state = .on → (∀ d ∈ s.dependents r, s.railState d = .off) →
      u = modDyn r (fun d => { d with claim := .step }) (s.startedNext c x now none .order) →
      ∃ t, exec .delayExpiry s = .next t ∧
        State.MovedTo r .falling (some (now + 2000 * (s.rail r).static.fallMs)) none u t ∧
        { t with rails := s.rails, en := s.en, dis := s.dis, chans := s.chans } = { u with rails := s.rails })) ∧
  (∀ (s : State) (c : Context), s.Up → s.seq.ctx = some c →
    (∀ n f due, (s.stepAt c.index).kind = .send n → c.frame = some f → c.timer = some due → f.attempt ≤ f.retries →
      exec .sendWindowExpiry s = .next (offerSeq f.port { frame := f.frame, isCancel := false } { s with
        now := max s.now due
        seq := { s.seq with ctx := some { c with
          timer := none, frame := some { f with attempt := f.attempt + 1, mark := .waiting } } } })) ∧
    (s.sync.armed = true → s.sync.target ≠ some (s.sync.count + 1) →
      exec .fsyncEdge s = .next { s with sync := { s.sync with count := s.sync.count + 1 } }) ∧
    (s.sync.armed = false → exec .fsyncEdge s = .next s)) ∧
  (∀ (s : State) (p : Port) (f : SeqFrame) (x : PortRec), x = s.port p →
    (∀ q, q ≠ p → (offerSeq p f s).port q = s.port q ∧ (withdrawSend p s).port q = s.port q) ∧
    { offerSeq p f s with ports := s.ports } = s ∧ { withdrawSend p s with ports := s.ports } = s ∧
    (x.line ≠ .free → x.seqOffer = none → (offerSeq p f s).port p = { x with seqOffer := some f }) ∧
    (x.line ≠ .free → x.seqOffer ≠ none → (offerSeq p f s).port p = { x with seqBehind := x.seqBehind ++ [f] }) ∧
    (x.line = .free → x.link = .up → x.seqOffer = none → x.railPlaces = [] → x.probeWaiting = false → s.queue p = [] →
      ((offerSeq p f s).port p).seqOffer = some f ∧
      ((offerSeq p f s).port p).line = .sending (some .sequencer) f.frame (s.now + f.frame.time)) ∧
    (∀ g, x.seqOffer = some g → g.isCancel = false → x.seqBehind = [] → x.line ≠ .free →
      (withdrawSend p s).port p = { x with
        seqOffer := none
        line := match x.line with
          | .sending (some .sequencer) h d => .sending none h d
          | l => l }) ∧
    (x.seqOffer = none → x.line ≠ .free →
      (withdrawSend p s).port p = { x with seqBehind := x.seqBehind.filter SeqFrame.isCancel }))

/-- How a RAIL_ON or RAIL_OFF step starts as the DELAY before it ends. At once complete on a rail already RISING or ON, or OFF,
or failed NO_PATH, PREREQ, ORDER or RAIL_FAULT, and with NO_WAIT complete as a rail of the part enters RISING or FALLING
(stated for the last step of a program with ON_FAIL ABORT); the claim does not outlive the step. On a falling rail the step
claims it and waits. A FRAME claim or a frame record makes the step wait under the window of the port concerned, the claim's
port where both stand (log 38). Program 0 does not wait: it takes a FRAME claim away, its command's claim mark cleared, and
gives its order in the same event: a rail of the part that is up falls, a falling one is waited for, an OFF one completes the
step. An OFF frame in flight then serves the step, with purpose STEP (log 15); an ON frame in flight gains THEN_OFF, and a step
that finds its rail OFF completes beside it. -/
def Obligations.RailStepsStart : Prop :=
  (∀ (s : State) (c : Context) (x : Running) (now : Time) (k : StepKind) (r : RailId), s.NextStepLast c x now k →
    k.rail? = some r →
    (∀ e, s.EndsAtOnce r (c.index + 1) k e →
      exec .delayExpiry s = .next (State.endedWith { s with now := now } c e)) ∧
    (∀ i, (s.rail r).static.used = true → (s.rail r).static.path = .onPart i → (s.rail r).dyn.claim = .none →
      (s.rail r).dyn.frame = none →
      (k = .railOn r true → (s.rail r).dyn.state = .off → s.allOn (s.rail r).static.prereqs = true →
        s.highAlarm r = false → ∃ t : State, exec .delayExpiry s = .next (t.endedWith c .done) ∧
          State.OnlyMovedTo r .rising (some (now + 2000 * s.riseTime r)) none { s with now := now } t) ∧
      (k = .railOff r true → (s.rail r).dyn.state = .rising ∨ (s.rail r).dyn.state = .on →
        (∀ d ∈ s.dependents r, s.railState d = .off) →
        ∃ t : State, exec .delayExpiry s = .next (t.endedWith c .done) ∧
          State.OnlyMovedTo r .falling (some (now + 2000 * (s.rail r).static.fallMs)) none { s with now := now } t))) ∧
  (∀ (s : State) (c : Context) (x : Running) (now : Time) (k : StepKind) (r : RailId), s.NextStep c x now k →
    k.rail? = some r → (s.rail r).static.used = true →
    ((s.rail r).dyn.claim = .none → (s.rail r).dyn.frame = none →
      (s.rail r).dyn.state = .falling ∨ (s.rail r).dyn.state = .discharging →
      exec .delayExpiry s = .next (modDyn r (fun d => { d with claim := .step })
        (s.startedNext c x now none (if k.isRailOn = true then .fall else .order)))) ∧
    (∀ p, c.program ≠ 0 →
      ((∃ tag, (s.rail r).dyn.claim = .frame p tag) ∨
        ((s.rail r).dyn.claim = .none ∧ (s.rail r).dyn.frame ≠ none ∧ (s.rail r).static.port? = some p)) →
      exec .delayExpiry s =
        .next (s.startedNext c x now (some (now + 2000 * (s.port p).windowMs)) .claim))) ∧
  (∀ (s u v : State) (c : Context) (x : Running) (now : Time) (r : RailId) (noWait : Bool) (p : Port) (tag : Byte),
    s.NextStep c x now (.railOff r noWait) → c.program = 0 → s.fwd.hold = [] → (s.rail r).static.used = true →
    (s.rail r).dyn.claim = .frame p tag → (s.rail r).dyn.frame = none →
    u = setOuts p ((s.outs p).map (fun e => if e.cmd.frame.tag = tag then { e with claimMark := false } else e)) s →
    v = modDyn r (fun d => { d with claim := .step }) (u.startedNext c x now none .order) →
    ((s.rail r).dyn.state = .falling ∨ (s.rail r).dyn.state = .discharging → exec .delayExpiry s = .next v) ∧
    (∀ i, noWait = false → (s.rail r).static.path = .onPart i →
      (s.rail r).dyn.state = .rising ∨ (s.rail r).dyn.state = .on → (∀ d ∈ s.dependents r, s.railState d = .off) →
      ∃ t : State, exec .delayExpiry s = .next t ∧
        State.OnlyMovedTo r .falling (some (now + 2000 * (s.rail r).static.fallMs)) none v t) ∧
    (∀ time y z, (s.rail r).dyn.state = .off → x.marked = false → s.sched.queue = [] →
      s.inRange 0 (c.index + 2) = true → (s.stepAt (c.index + 2)).kind = .delay time →
      y = { c with index := c.index + 1 } → z = { x with guarded := (s.stepAt (c.index + 1)).guarded } →
      exec .delayExpiry s = .next (State.startedNext (u.unclaimed r) y z now (some (now + 2000 * time)) .none))) ∧
  (∀ (s : State) (c : Context) (x : Running) (now : Time) (r : RailId) (noWait : Bool) (f : RailFrame),
    s.NextStep c x now (.railOff r noWait) → c.program = 0 → s.fwd.hold = [] → (s.rail r).static.used = true →
    (s.rail r).dyn.claim = .none → (s.rail r).dyn.frame = some f →
    (∀ p i on off, f.isOn = false → (s.rail r).static.path = .board p i on off → s.pathAvailable r = true →
      (s.rail r).dyn.state = .rising ∨ (s.rail r).dyn.state = .on → (∀ d ∈ s.dependents r, s.railState d = .off) →
      exec .delayExpiry s = .next (modDyn r (fun d => { d with claim := .step, frame := some { f with forStep := true } })
        (s.startedNext c x now none .order))) ∧
    (∀ time y z, f.isOn = true → (s.rail r).dyn.state = .off → x.marked = false → s.sched.queue = [] →
      s.inRange 0 (c.index + 2) = true → (s.stepAt (c.index + 2)).kind = .delay time →
      y = { c with index := c.index + 1 } → z = { x with guarded := (s.stepAt (c.index + 1)).guarded } →
      exec .delayExpiry s = .next (State.startedNext (modDyn r (fun d => { d with
        frame := some { f with thenOff := true } }) s) y z now (some (now + 2000 * time)) .none)))

/-- How a RAIL_ON or RAIL_OFF step that waits goes on, or fails before its rail arrives, on the last step of a program with
ON_FAIL ABORT. A claim released or a frame record cleared ends the wait for them: the step claims the rail and gives its order
against the rail as it then stands, ending at once, waiting on a falling rail, or making its ON frame. A RAIL_ON step that waits
on a falling rail gives its order as the rail enters OFF: PREREQ, an ON frame, or RISING. A prerequisite that enters FAULT by an
alarm fails a RAIL_ON step PREREQ_LOST: an ON frame in flight gains THEN_OFF, a rail of the part that rose falls by the cascade,
after RAIL_FAULT (log 41). A rail that loses its path by a capability record fails a RAIL_ON step NO_PATH before the reports of
that loss (log 51), and the rail falls or its frame is withdrawn; a RAIL_OFF step goes on waiting for the falling rail, or with
NO_WAIT completes. -/
def Obligations.RailStepsWaitAndGoOn : Prop :=
  (∀ (s u : State) (c : Context) (x : Running) (r : RailId) (k : StepKind), s.RailStep c x r k → c.wait = .claim →
    (∀ p tag e on, s.up.present = true → s.outOf p tag = some e → e.claimMark = true → e.cmd.effect = some (r, on) →
      (s.rail r).dyn.claim = .frame p tag → (s.rail r).dyn.frame = none →
      u = State.unclaimed (setOuts p ((s.outs p).filter (fun z => z ≠ e))
        (State.answered { s with now := max s.now e.deadline } e.cmd.frame stNoReply [])) r →
      (∀ y, u.EndsAtOnce r c.index k y → ∃ t : State, exec (.outstandingDeadlineExpiry p tag) s = .next (t.endedWith c y) ∧
        (∀ q, q ≠ p → t.port q = s.port q) ∧ { t with ports := s.ports } = u) ∧
      ((s.rail r).dyn.state = .falling ∨ (s.rail r).dyn.state = .discharging →
        ∃ t : State, exec (.outstandingDeadlineExpiry p tag) s = .next (modDyn r (fun d => { d with claim := .step }) { t with
            seq := { s.seq with ctx := some { c with timer := none, wait := if k.isRailOn = true then .fall else .order } } }) ∧
          (∀ q, q ≠ p → t.port q = s.port q) ∧ { t with ports := s.ports } = u)) ∧
    (∀ f due, (s.rail r).dyn.claim = .none → (s.rail r).dyn.frame = some f → f.mark = .sent due → f.attempt ≠ 1 →
      u = State.unframed { s with now := max s.now due } r →
      (∀ y, u.EndsAtOnce r c.index k y → exec (.railFrameDeadline r) s = .next (u.endedWith c y)) ∧
      ((s.rail r).dyn.state = .falling ∨ (s.rail r).dyn.state = .discharging →
        exec (.railFrameDeadline r) s = .next (modDyn r (fun d => { d with claim := .step }) { u with
          seq := { s.seq with ctx := some { c with timer := none, wait := if k.isRailOn = true then .fall else .order } } })) ∧
      (k.isRailOn = true → (s.rail r).dyn.state = .off → s.allOn (s.rail r).static.prereqs = true → s.isBoard r = true →
        s.pathAvailable r = true →
        exec (.railFrameDeadline r) s = .next (offerRail r (modDyn r (fun d => { d with
          claim := .step, frame := some (.made true true) }) { u with
          seq := { s.seq with ctx := some { c with timer := none, wait := .order } } }))))) ∧
  (∀ (s u v : State) (c : Context) (x : Running) (r : RailId) (noWait : Bool) (due : Time),
    s.RailStep c x r (.railOn r noWait) → c.wait = .fall → (s.rail r).dyn.claim = .step → (s.rail r).dyn.frame = none →
    (s.rail r).dyn.state = .falling → (s.rail r).dyn.timer = some due → (s.rail r).static.discharge.isForce = false →
    (s.rail r).static.sense = none → u = { s with now := max s.now due } →
    v = { u with seq := { s.seq with ctx := some { c with timer := none, wait := .order } } } →
    (s.allOn (s.rail r).static.prereqs = false → ∃ t : State, exec (.fallExpiry r) s =
        .next (t.endedWith c (.failed c.index .prereq)) ∧ State.OnlyMovedTo r .off none none (u.unclaimed r) t) ∧
    (s.allOn (s.rail r).static.prereqs = true → s.isBoard r = true → s.pathAvailable r = true →
      ∃ t : State, exec (.fallExpiry r) s =
          .next (offerRail r (modDyn r (fun d => { d with frame := some (.made true true) }) t)) ∧
        State.OnlyMovedTo r .off none none v t) ∧
    (∀ i, s.allOn (s.rail r).static.prereqs = true → (s.rail r).static.path = .onPart i →
      (noWait = false → ∃ t w : State, exec (.fallExpiry r) s = .next w ∧ State.OnlyMovedTo r .off none none v t ∧
        State.OnlyMovedTo r .rising (some (u.now + 2000 * (s.rail r).static.settleMs)) none t w) ∧
      (noWait = true → ∃ t w : State, exec (.fallExpiry r) s = .next (w.endedWith c .done) ∧
        State.OnlyMovedTo r .off none none (u.unclaimed r) t ∧
        State.OnlyMovedTo r .rising (some (u.now + 2000 * (s.rail r).static.settleMs)) none t w))) ∧
  (∀ (s u : State) (c : Context) (x : Running) (r q : RailId) (noWait : Bool) (d : ChannelId) (mv : Nat) (y : Channel)
    (cause : FaultCause), s.RailStep c x r (.railOn r noWait) → c.wait = .order → (s.rail r).dyn.claim = .step → q ≠ r →
    inSet (s.rail r).static.prereqs q = true → (s.rail q).static.used = true → (s.rail q).dyn.claim = .none →
    (s.rail q).dyn.frame = none → (∀ p i on off, (s.rail q).static.path = .board p i on off → s.pathAvailable q = false) →
    (s.rail q).static.faultAction = none →
    (∀ z, z ≠ r → (s.rail z).static.used = true → inSet (s.rail z).static.prereqs q = true →
      (s.rail z).dyn.state ≠ .rising ∧ (s.rail z).dyn.state ≠ .on) →
    s.Samples d mv q y → s.AlarmFaults d q y cause → u = setChan d y (convTurn d s) →
    (∀ f, (s.rail r).dyn.state = .off → (s.rail r).dyn.frame = some f → f.isOn = true →
      ∃ t : State, exec (.senseSample d mv) s =
          .next (raise .railFault (t.endedWith c (.failed c.index .prereqLost))) ∧
        State.OnlyMovedTo q .fault none (some cause)
          (modDyn r (fun z => { z with claim := .none, frame := some { f with thenOff := true } }) u) t) ∧
    (∀ i, (s.rail r).dyn.state = .rising → (s.rail r).static.path = .onPart i → (s.rail r).dyn.frame = none →
      s.NoDependentUp r →
      ∃ t w : State, exec (.senseSample d mv) s = .next w ∧
        State.OnlyMovedTo q .fault none (some cause) (u.unclaimed r) t ∧
        State.OnlyMovedTo r .falling (some (u.now + 2000 * (s.rail r).static.fallMs)) none
          (raise .railFault (t.endedWith c (.failed c.index .prereqLost))) w)) ∧
  (∀ (s u v : State) (c : Context) (x : Running) (r : RailId) (k : StepKind) (p : Port) (tag : Byte) (payload : List Byte)
    (a : Capability) (old : Agreed), s.RailStep c x r k → (s.rail r).dyn.claim = .step → payload.length ≤ 60 →
    (s.port p).link = .up → decCapability payload = some a → (s.port p).agreed = some old →
    old.rails.filter (fun q => q ∉ (s.agree p a).rails) = [r] → r ∉ old.mismatch →
    (old.notices = true → a.notices = true) → (s.rail r).static.port? = some p →
    u = modPort p (fun x => { x with agreed := some (s.agree p a) }) s → v = withdrawRail r (u.unframed r) →
    (∀ noWait, k = .railOn r noWait → c.wait = .order ∨ c.wait = .fall →
      ((s.rail r).dyn.state = .rising → (s.rail r).dyn.frame = none → s.NoDependentUp r →
        ∃ t : State, exec (.unsolicitedCapability p tag payload) s =
            .next (raise .linkChange (raise .capMismatch (t.endedWith c (.failed c.index .noPath)))) ∧
          State.OnlyMovedTo r .falling (some (s.now + 2000 * (s.rail r).static.fallMs)) none (u.unclaimed r) t) ∧
      ((s.rail r).dyn.state = .off → (s.rail r).dyn.frame ≠ none →
        exec (.unsolicitedCapability p tag payload) s =
          .next (raise .linkChange (raise .capMismatch ((v.unclaimed r).endedWith c (.failed c.index .noPath)))))) ∧
    (∀ noWait, k = .railOff r noWait → c.wait = .order → (s.rail r).dyn.state = .rising ∨ (s.rail r).dyn.state = .on →
      (s.rail r).dyn.frame ≠ none → s.NoDependentUp r →
      (noWait = false → ∃ t : State, exec (.unsolicitedCapability p tag payload) s =
          .next (raise .linkChange (raise .capMismatch t)) ∧
        State.OnlyMovedTo r .falling (some (s.now + 2000 * (s.rail r).static.fallMs)) none v t) ∧
      (noWait = true → ∃ t : State, exec (.unsolicitedCapability p tag payload) s =
          .next (raise .linkChange (raise .capMismatch (t.endedWith c .done))) ∧
        State.OnlyMovedTo r .falling (some (s.now + 2000 * (s.rail r).static.fallMs)) none (v.unclaimed r) t)))

/-- How a RAIL_ON or RAIL_OFF step that waits for its order ends by its rail's report, on the last step of a program with
ON_FAIL ABORT: the claim is released and the program ends. A RAIL_ON step completes as its rail enters ON, by SETTLE_MS or by
the sample that reaches DEBOUNCE, with NO_WAIT as it enters RISING; a RAIL_OFF step as its rail enters OFF, by FALL_MS,
DISCHARGE_MS or a safe sample, with NO_WAIT as it enters FALLING, or DISCHARGING where it waited on a falling rail (log 18).
A rail that fails to fall, or an alarm, takes it to FAULT and fails the step RAIL_FAULT, with RAIL_FAULT after it (log 41). An
OK to the step's frame moves the rail and, without NO_WAIT, leaves the step waiting; another status fails the step
ERROR_REPLY, and the second deadline fails it NO_REPLY. -/
def Obligations.RailReportsEndTheStep : Prop :=
  (∀ (s u : State) (c : Context) (x : Running) (r : RailId) (noWait : Bool), s.RailStep c x r (.railOn r noWait) →
    c.wait = .order → (s.rail r).dyn.claim = .step → (s.rail r).dyn.frame = none → (s.rail r).dyn.state = .rising →
    (∀ due, (s.rail r).dyn.timer = some due → (s.rail r).static.sense = none → u = { s with now := max s.now due } →
      ∃ t : State, exec (.settleExpiry r) s = .next (t.endedWith c .done) ∧
        State.OnlyMovedTo r .on none none (u.unclaimed r) t) ∧
    (∀ d mv y, s.Samples d mv r y → s.NoNewAlarm d y → y.goodCount = y.debounce → u = setChan d y (convTurn d s) →
      ∃ t : State, exec (.senseSample d mv) s = .next (t.endedWith c .done) ∧
        State.OnlyMovedTo r .on none none (u.unclaimed r) t)) ∧
  (∀ (s u : State) (c : Context) (x : Running) (r : RailId) (noWait : Bool), s.RailStep c x r (.railOff r noWait) →
    c.wait = .order → (s.rail r).dyn.claim = .step →
    (∀ due, (s.rail r).dyn.timer = some due → u = { s with now := max s.now due } →
      ((s.rail r).dyn.state = .falling → (s.rail r).static.discharge.isForce = false → (s.rail r).static.sense = none →
        ∃ t : State, exec (.fallExpiry r) s = .next (t.endedWith c .done) ∧
          State.OnlyMovedTo r .off none none (u.unclaimed r) t) ∧
      ((s.rail r).dyn.state = .discharging → (s.rail r).static.sense = none →
        ∃ t : State, exec (.dischargeExpiry r) s = .next (t.endedWith c .done) ∧
          State.OnlyMovedTo r .off none none (u.unclaimed r) t) ∧
      (∀ o n, (s.rail r).dyn.state = .falling → (s.rail r).static.discharge = .force o n →
        (noWait = false → ∃ t : State, exec (.fallExpiry r) s = .next t ∧
          State.OnlyMovedTo r .discharging (some (u.now + 2000 * n)) none u t) ∧
        (noWait = true → ∃ t : State, exec (.fallExpiry r) s = .next (t.endedWith c .done) ∧
          State.OnlyMovedTo r .discharging (some (u.now + 2000 * n)) none (u.unclaimed r) t))) ∧
    (∀ d mv y, s.Samples d mv r y → s.NoNewAlarm d y → u = setChan d y (convTurn d s) →
      (s.rail r).dyn.state = .falling ∨ (s.rail r).dyn.state = .discharging →
      min 1023 (mv / 4) ≤ (s.rail r).static.safeLevel →
      ∃ t : State, exec (.senseSample d mv) s = .next (t.endedWith c .done) ∧
        State.OnlyMovedTo r .off none none (u.unclaimed r) t)) ∧
  (∀ (s u : State) (c : Context) (x : Running) (r : RailId) (k : StepKind), s.RailStep c x r k →
    (c.wait = .order ∨ (c.wait = .fall ∧ k.isRailOn = true)) → (s.rail r).dyn.claim = .step → s.FaultsAlone r →
    (∀ due, (s.rail r).dyn.timer = some due → (s.rail r).static.sense ≠ none → u = { s with now := max s.now due } →
      ((s.rail r).dyn.state = .falling → (s.rail r).static.discharge.isForce = false →
        ∃ t : State, exec (.fallExpiry r) s =
            .next (raise .railFault (t.endedWith c (.failed c.index .railFault))) ∧
          State.OnlyMovedTo r .fault none (some .fallTimeout) (u.unclaimed r) t) ∧
      ((s.rail r).dyn.state = .discharging →
        ∃ t : State, exec (.dischargeExpiry r) s =
            .next (raise .railFault (t.endedWith c (.failed c.index .railFault))) ∧
          State.OnlyMovedTo r .fault none (some .fallTimeout) (u.unclaimed r) t)) ∧
    (∀ d mv y cause, s.Samples d mv r y → s.AlarmFaults d r y cause → u = setChan d y (convTurn d s) →
      ∃ t : State, exec (.senseSample d mv) s =
          .next (raise .railFault (t.endedWith c (.failed c.index .railFault))) ∧
        State.OnlyMovedTo r .fault none (some cause) (u.unclaimed r) t)) ∧
  (∀ (s u : State) (c : Context) (x : Running) (r : RailId) (k : StepKind) (f : RailFrame) (due : Time) (failing : Prop),
    s.RailStep c x r k → c.wait = .order → (s.rail r).dyn.claim = .step → (s.rail r).dyn.frame = some f →
    f.mark = .sent due → u = s.unframed r →
    failing = ((k.isRailOn = true ∧ f.isOn = true ∧ f.thenOff = false ∧ (s.rail r).dyn.state = .off) ∨
      (k.isRailOn = false ∧ f.isOn = false ∧ f.forStep = true ∧
        ((s.rail r).dyn.state = .rising ∨ (s.rail r).dyn.state = .on))) →
    (∀ p cls payload, (s.port p).link = .up → payload.length ≤ 60 →
      (payload.head? = some stOk →
        (∀ noWait, k = .railOn r noWait → f.isOn = true → f.thenOff = false → (s.rail r).dyn.state = .off →
          s.allOn (s.rail r).static.prereqs = true → s.pathAvailable r = true → s.highAlarm r = false →
          (noWait = false → ∃ t : State, exec (.railControlReply p cls r payload) s = .next t ∧
            State.OnlyMovedTo r .rising (some (s.now + 2000 * s.riseTime r)) none u t) ∧
          (noWait = true → ∃ t : State, exec (.railControlReply p cls r payload) s = .next (t.endedWith c .done) ∧
            State.OnlyMovedTo r .rising (some (s.now + 2000 * s.riseTime r)) none (u.unclaimed r) t)) ∧
        (∀ noWait, k = .railOff r noWait → f.isOn = false → f.forStep = true →
          ((s.rail r).dyn.state = .rising ∨ (s.rail r).dyn.state = .on) → s.NoDependentUp r →
          (noWait = false → ∃ t : State, exec (.railControlReply p cls r payload) s = .next t ∧
            State.OnlyMovedTo r .falling (some (s.now + 2000 * (s.rail r).static.fallMs)) none u t) ∧
          (noWait = true → ∃ t : State, exec (.railControlReply p cls r payload) s = .next (t.endedWith c .done) ∧
            State.OnlyMovedTo r .falling (some (s.now + 2000 * (s.rail r).static.fallMs)) none (u.unclaimed r) t))) ∧
      (payload.head? ≠ some stOk → failing →
        exec (.railControlReply p cls r payload) s =
          .next ((u.unclaimed r).endedWith c (.failed c.index .errorReply)))) ∧
    (f.attempt ≠ 1 → failing → exec (.railFrameDeadline r) s =
      .next (State.endedWith (State.unclaimed { u with now := max s.now due } r) c (.failed c.index .noReply))))

/-- What fails a step: its time limit, the wait for a claim, the last attempt of its frame, and a reply with another status.
With ON_FAIL ABORT the program ends FAILED with the step and the reason; an AWAIT_NOTICE step with a CANCEL template offers
its cancel frame at the template's port, and a SEND frame is withdrawn from its own. With CONTINUE the program goes on at the
next step, with SKIP that many steps on; in program 0 whatever ON_FAIL says it goes on at the next step, and its failed steps
are counted. Beyond the last step it ends DONE (the last three are stated for an AWAIT_SYNC step). -/
def Obligations.StepTimersFailTheProgram : Prop :=
  (∀ (s u : State) (c : Context) (x : Running) (due : Time), s.Up → s.LastStep c x →
     (s.stepAt c.index).onFail = .abort → c.timer = some due → u = { s with now := max s.now due } →
     (∀ time n, (s.stepAt c.index).kind = .awaitSync time n → exec .syncTimeout s = .next (State.endedWith
       { u with sync := { armed := false, target := none, count := 0 } } c (.failed c.index .syncTimeout))) ∧
     (∀ time p cls, (s.stepAt c.index).kind = .awaitNotice time p cls none →
       exec .noticeTimeout s = .next (u.endedWith c (.failed c.index .noticeTimeout))) ∧
     (∀ time p cls n y f, (s.stepAt c.index).kind = .awaitNotice time p cls (some n) → c.wait = .notice →
       s.template n = some y → (s.port y.port).link = .up →
       f = mkFrame y.port.addr 0 kindCommand y.cls s.seq.tagCounter y.payload →
       exec .noticeTimeout s = .next (State.endedWith (offerSeq y.port { frame := f, isCancel := true } { u with
         seq := { s.seq with cancel := some (y.port, s.seq.tagCounter), tagCounter := nextTag s.seq.tagCounter } }) c
         (.failed c.index .noticeTimeout))) ∧
     (∀ time p cls n y, (s.stepAt c.index).kind = .awaitNotice time p cls (some n) → s.template n = some y →
       (s.port y.port).link ≠ .up →
       exec .noticeTimeout s = .next (u.endedWith c (.failed c.index .noticeTimeout))) ∧
     (∀ r noWait, (s.stepAt c.index).kind = .railOff r noWait → c.wait = .claim → (s.rail r).dyn.claim ≠ .step →
       exec .claimWaitExpiry s = .next (u.endedWith c (.failed c.index .claimed))) ∧
     (∀ r noWait, (s.stepAt c.index).kind = .railOn r noWait → c.wait = .claim → (s.rail r).dyn.claim ≠ .step →
       (s.rail r).dyn.frame = none →
       exec .claimWaitExpiry s = .next (u.endedWith c (.failed c.index .claimed))) ∧
     (∀ n f, (s.stepAt c.index).kind = .send n → c.frame = some f → f.retries < f.attempt →
       exec .sendWindowExpiry s = .next (State.endedWith (withdrawSend f.port u) c (.failed c.index .noReply))) ∧
     (∀ n f d cls payload, (s.stepAt c.index).kind = .send n → c.frame = some f → f.mark = .sent d →
       0xE0 ≤ f.frame.tag.toNat → (s.port f.port).link = .up → payload.length ≤ 60 → payload.head? ≠ some stOk →
       exec (.sequencerReply f.port cls f.frame.tag payload) s =
         .next (State.endedWith (withdrawSend f.port s) c (.failed c.index .errorReply)))) ∧
  (∀ (s u : State) (c : Context) (x : Running) (due time count k n : Nat), s.Up → s.seq.ctx = some c →
    s.sched.running = some x → (x.guarded = false ∨ (x.marked = false ∧ s.sched.queue = [])) →
    (s.stepAt c.index).kind = .awaitSync time count → c.timer = some due →
    ((c.program ≠ 0 ∧ n = c.failed ∧
        (((s.stepAt c.index).onFail = .proceed ∧ k = 1) ∨ (s.stepAt c.index).onFail = .skip k)) ∨
      (c.program = 0 ∧ n = c.failed + 1 ∧ k = 1)) →
    u = { s with now := max s.now due, sync := { armed := false, target := none, count := 0 } } →
    (∀ next, s.inRange c.program (c.index + k) = true → (s.stepAt (c.index + k)).kind = .delay next →
      exec .syncTimeout s = .next { u with
        sched := { s.sched with running := some { x with guarded := (s.stepAt (c.index + k)).guarded } }
        seq := { s.seq with ctx := some { c with
          index := c.index + k, timer := some (u.now + 2000 * next), frame := none, failed := n, wait := .none } } }) ∧
    (2 ≤ c.program.val → s.inRange c.program (c.index + k) = false → s.sched.queue = [] →
      exec .syncTimeout s = .next (u.endedWith c .done)))

/-- A reply with a Sequencer tag that no step waits for ends the cancel frame's wait, or else is a LATE_REPLY. A board's reply
to the main board: with no outstanding command of its tag a LATE_REPLY; else it goes upstream as it came and the entry is
removed; a command that holds its effect rail's claim releases it, its effect applied first where the status is OK. An ON
effect that cannot be applied moves nothing; a BOARD rail with its path there that is not up then makes an OFF frame with
purpose FOLLOW. That the freed place is used before the effect's frame is made and the claim released is the model's reading
(log 40). -/
def Obligations.BoardAndSequencerRepliesFindTheirCommand : Prop :=
  (∀ (s : State) (p : Port) (cls tag : Byte) (payload : List Byte), s.Up → (s.port p).link = .up →
    payload.length ≤ 60 → 0xE0 ≤ tag.toNat → s.awaitsReply p tag = false →
    (s.seq.cancel = some (p, tag) →
      exec (.sequencerReply p cls tag payload) s = .next { s with seq := { s.seq with cancel := none } }) ∧
    (s.seq.cancel ≠ some (p, tag) → exec (.sequencerReply p cls tag payload) s = .next (raise .lateReply s))) ∧
  (∀ (s u : State) (p : Port) (cls tag : Byte) (payload : List Byte) (e : OutEntry) (f : Frame), s.Up →
    (s.port p).link = .up → payload.length ≤ 60 → f = mkFrame 7 p.addr kindReply cls tag payload →
    u = setOuts p ((s.outs p).filter (fun x => x ≠ e)) (s.placed (replyEntry f)) →
    (s.outOf p tag = none → exec (.boardReply p cls tag payload) s = .next (raise .lateReply s)) ∧
    (s.outOf p tag = some e → s.up.present = true →
      (e.claimMark = false → ∃ t, exec (.boardReply p cls tag payload) s = .next t ∧
        (∀ q, q ≠ p → t.port q = s.port q) ∧ { t with ports := s.ports } = u) ∧
      (∀ r on v, e.claimMark = true → s.Calm → e.cmd.effect = some (r, on) → (s.rail r).dyn.claim = .frame p tag →
        v = modDyn r (fun d => { d with claim := .none }) u →
        (payload.head? ≠ some stOk → ∃ t, exec (.boardReply p cls tag payload) s = .next t ∧
          (∀ q, q ≠ p → t.port q = s.port q) ∧ { t with ports := s.ports } = v) ∧
        (payload.head? = some stOk → on = true → s.closed = false → (s.rail r).static.used = true →
          (s.rail r).dyn.state = .off → s.allOn (s.rail r).static.prereqs = true → s.pathAvailable r = true →
          s.highAlarm r = false → ∃ t, exec (.boardReply p cls tag payload) s = .next t ∧
            State.MovedTo r .rising (some (s.now + 2000 * (if (s.rail r).static.sense = none then
              (s.rail r).static.settleMs else (s.rail r).static.riseMs))) none v t ∧
            (∀ q, q ≠ p → t.port q = s.port q) ∧
            { t with ports := s.ports, rails := u.rails, en := s.en, dis := s.dis, chans := s.chans } = u) ∧
        (payload.head? = some stOk → on = false → (s.rail r).static.used = true → (s.rail r).dyn.state = .on →
          (∀ d, (s.rail d).static.used = true → inSet (s.rail d).static.prereqs r = true →
            (s.rail d).dyn.state ≠ .rising ∧ (s.rail d).dyn.state ≠ .on) →
          ∃ t, exec (.boardReply p cls tag payload) s = .next t ∧
            State.MovedTo r .falling (some (s.now + 2000 * (s.rail r).static.fallMs)) none v t ∧
            (∀ q, q ≠ p → t.port q = s.port q) ∧
            { t with ports := s.ports, rails := u.rails, en := s.en, dis := s.dis, chans := s.chans } = u)))) ∧
  (∀ (s u v : State) (p : Port) (cls tag : Byte) (payload : List Byte) (e : OutEntry) (f : Frame) (r : RailId), s.Calm →
    (s.port p).link = .up → payload.length ≤ 60 → f = mkFrame 7 p.addr kindReply cls tag payload →
    u = setOuts p ((s.outs p).filter (fun x => x ≠ e)) (s.placed (replyEntry f)) → s.outOf p tag = some e →
    s.up.present = true → e.claimMark = true → e.cmd.effect = some (r, true) → (s.rail r).dyn.claim = .frame p tag →
    payload.head? = some stOk → (s.rail r).static.used = true → v = arbitrate p u →
    (s.closed = true ∨ (s.rail r).dyn.state ≠ .off ∨ s.allOn (s.rail r).static.prereqs = false ∨
      s.pathAvailable r = false) →
    ((s.rail r).dyn.state = .rising ∨ (s.rail r).dyn.state = .on ∨ (s.rail r).static.port? = none ∨
      s.pathAvailable r = false → exec (.boardReply p cls tag payload) s =
        .next (modDyn r (fun d => { d with claim := .none }) v)) ∧
    ((s.rail r).dyn.state ≠ .rising → (s.rail r).dyn.state ≠ .on → (s.rail r).static.port? ≠ none →
      s.pathAvailable r = true → (s.rail r).dyn.frame = none → exec (.boardReply p cls tag payload) s =
        .next (modDyn r (fun d => { d with claim := .none }) (offerRail r (modDyn r (fun d => { d with
          frame := some { isOn := false, attempt := 1, mark := .waiting, forStep := false, thenOff := false } }) v)))))

/-- A CHECK step completes when the rail is in the named state and fails CHECK_FAILED otherwise; starting it sets the context
to this step, with no timer, no frame and nothing waited for, and reports the step's guarded flag to the Scheduler, and
changes nothing else; what follows the step is taken next. -/
def Obligations.CheckStepComparesTheState : Prop :=
  ∀ (s : State) (i : Nat) (r : RailId) (st : RailState) (c : Context), s.seq.ctx = some c →
    (s.stepAt i).kind = .check r st →
    startStep i s = later (.afterStep (if s.railState r = st then none else some .checkFailed)) { s with
      seq := { s.seq with ctx := some { c with index := i, timer := none, frame := none, wait := .none } }
      sched := { s.sched with
        running := s.sched.running.map (fun x => { x with guarded := (s.stepAt i).guarded }) } }

/-! ### Answers from the boards -/

/-- The deadline of an outstanding command: NO_REPLY upstream, the entry removed, its claim released, no effect. A hold
deadline: HOLD_EXPIRED upstream, the entry removed, the event HOLD_EXPIRED, and a pass over what is still held. A pass keeps
an entry whose condition fails with its new reason, refuses it, or, where it is ready, no entry of its port before it stays
and the forward queue has a place left beside those released before it, releases it to that queue; else it stays with reason
ORDER. An idle transmitter of the port starts on the first one released. The refusals are answered in their order, the entries
that stay and those released keep theirs, a port with none released or a busy lane changes in its queue alone, and nothing
outside the hold queue, the forward queues, the ports and the upstream queue changes. That the freed place is used before the
claim's release has its consequences is the model's reading (log 40). -/
def Obligations.ForwardDeadlinesAnswerTheCommand : Prop :=
  (∀ (s u : State) (p : Port) (tag : Byte) (e : OutEntry), s.Up → s.up.present = true → s.outOf p tag = some e →
    u = setOuts p ((s.outs p).filter (fun x => x ≠ e))
      (State.answered { s with now := max s.now e.deadline } e.cmd.frame stNoReply []) →
    (e.claimMark = false → ∃ t, exec (.outstandingDeadlineExpiry p tag) s = .next t ∧
      (∀ q, q ≠ p → t.port q = s.port q) ∧ { t with ports := s.ports } = u) ∧
    (∀ r on, s.Calm → e.claimMark = true → e.cmd.effect = some (r, on) → (s.rail r).dyn.claim = .frame p tag →
      ∃ t, exec (.outstandingDeadlineExpiry p tag) s = .next t ∧ (∀ q, q ≠ p → t.port q = s.port q) ∧
        { t with ports := s.ports } = modDyn r (fun d => { d with claim := .none }) u)) ∧
  (∀ (s u : State) (e : HoldEntry) (pre post : List HoldEntry), s.Up → s.up.present = true →
    s.fwd.hold = pre ++ e :: post →
    (∀ x ∈ pre ++ post, x.cmd.port = e.cmd.port → x.cmd.frame.tag ≠ e.cmd.frame.tag) →
    u = raise .holdExpired (State.answered { s with
      now := max s.now e.deadline, fwd := { s.fwd with hold := pre ++ post } } e.cmd.frame stHoldExpired []) →
    exec (.holdDeadlineExpiry e.cmd.port e.cmd.frame.tag) s = .next (rescan u) ∧ (pre = [] → post = [] → rescan u = u)) ∧
  (∀ (s t : State) (e : HoldEntry) (pre post : List HoldEntry) (n : Nat), s.up.present = true →
    s.fwd.hold = pre ++ e :: post → t = rescan s →
    n = (s.queue e.cmd.port).length +
      (pre.filter (fun y => y.cmd.port == e.cmd.port && s.verdict y.cmd == .ready)).length →
    (∀ x, s.verdict e.cmd = .keep x → { e with reason := x } ∈ t.fwd.hold) ∧
    (∀ st, s.verdict e.cmd = .refuse st → (∀ y ∈ pre ++ post, y.cmd ≠ e.cmd) →
      ∀ y ∈ t.fwd.hold, y.cmd ≠ e.cmd) ∧
    (s.verdict e.cmd = .ready →
      ((∃ y ∈ pre, y.cmd.port = e.cmd.port ∧ ∃ x, s.verdict y.cmd = .keep x) ∨ 8 ≤ n →
        { e with reason := .order } ∈ t.fwd.hold) ∧
      ((∀ y ∈ pre, y.cmd.port = e.cmd.port → ∀ x, s.verdict y.cmd ≠ .keep x) → n < 8 →
        e.cmd ∈ t.queue e.cmd.port ∧
        ((∀ y ∈ pre ++ post, y.cmd ≠ e.cmd) → ∀ y ∈ t.fwd.hold, y.cmd ≠ e.cmd) ∧
        (n = 0 → (s.outs e.cmd.port).length < 4 → (s.port e.cmd.port).line = .free → (s.port e.cmd.port).link = .up →
          (s.port e.cmd.port).railPlaces = [] → (s.port e.cmd.port).probeWaiting = false →
          (s.port e.cmd.port).seqOffer = none →
          (t.port e.cmd.port).line = .sending (some .forward) e.cmd.frame (s.now + e.cmd.frame.time)))) ∧
    t.up.tx = s.up.tx ++ s.fwd.hold.filterMap (fun y =>
      match s.verdict y.cmd with
      | .refuse st => some (replyEntry (replyFrame y.cmd.frame st []))
      | _ => none) ∧
    (t.fwd.hold.map (fun x => (x.cmd, x.deadline))).Sublist (s.fwd.hold.map (fun x => (x.cmd, x.deadline))) ∧
    (∀ p, ∃ l, t.queue p = s.queue p ++ l ∧
      l.Sublist ((s.fwd.hold.map HoldEntry.cmd).filter (fun c => c.port == p))) ∧
    (∀ p, (s.port p).line ≠ .free ∨ (∀ y ∈ s.fwd.hold, y.cmd.port = p → s.verdict y.cmd ≠ .ready) →
      t.port p = s.port p) ∧
    { t with ports := s.ports, up := { t.up with tx := s.up.tx },
             fwd := { t.fwd with hold := s.fwd.hold, queues := s.fwd.queues } } = s)

/-- A pass over the hold queue (R152, as `rescan` makes it) follows each of R151's other occasions, whatever is held: a rail's
report of its STATE (here SETTLE_MS and FALL_MS of an unsensed rail), a RAIL_FRAME record that becomes absent (by a reply with
another status, or its second deadline), the release of a FRAME claim (by its command's reply or deadline, after the freed place
has been used: log 40), and a change of the shed level, up as a trigger enters SHED of its level, and down to 0 as RESTORE's end
leaves RECOVER, in either case after STAGE_CHANGE (log 46). Where a program runs and commands are held, a report draws one of the
model's free choices (log 6). -/
def Obligations.PassesFollowTheirOccasions : Prop :=
  (∀ (s u : State) (r : RailId), s.Passing → (s.rail r).static.used = true →
    (∀ due, (s.rail r).dyn.timer = some due → (s.rail r).static.sense = none → u = { s with now := max s.now due } →
      ((s.rail r).dyn.state = .rising → ∃ (t : State) (n : Nat), exec (.settleExpiry r) s = .next (rescan t) ∧
        (s.seq.ctx = none ∨ s.fwd.hold = [] → n = s.choices) ∧
        State.OnlyMovedTo r .on none none { u with choices := n } t) ∧
      ((s.rail r).dyn.state = .falling → (s.rail r).static.discharge.isForce = false →
        ∃ (t : State) (n : Nat), exec (.fallExpiry r) s = .next (rescan t) ∧
          (s.seq.ctx = none ∨ s.fwd.hold = [] → n = s.choices) ∧
          State.OnlyMovedTo r .off none none { u with choices := n } t)) ∧
    (∀ x due, (s.rail r).dyn.frame = some x → x.mark = .sent due →
      (∀ p cls payload, (s.port p).link = .up → payload.length ≤ 60 → payload.head? ≠ some stOk →
        ∃ n, exec (.railControlReply p cls r payload) s = .next (rescan { s.unframed r with choices := n }) ∧
          (s.seq.ctx = none ∨ s.fwd.hold = [] → n = s.choices)) ∧
      (x.attempt ≠ 1 → ∃ n, exec (.railFrameDeadline r) s =
          .next (rescan { s.unframed r with now := max s.now due, choices := n }) ∧
        (s.seq.ctx = none ∨ s.fwd.hold = [] → n = s.choices)))) ∧
  (∀ (s : State) (p : Port) (tag : Byte) (e : OutEntry) (r : RailId) (on : Bool), s.Passing → s.outOf p tag = some e →
    e.claimMark = true → e.cmd.effect = some (r, on) → (s.rail r).dyn.claim = .frame p tag →
    (∀ u, u = setOuts p ((s.outs p).filter (fun x => x ≠ e))
        (State.answered { s with now := max s.now e.deadline } e.cmd.frame stNoReply []) →
      ∃ (t : State) (n : Nat), exec (.outstandingDeadlineExpiry p tag) s = .next (rescan t) ∧
        (s.seq.ctx = none ∨ s.fwd.hold = [] → n = s.choices) ∧ (∀ q, q ≠ p → t.port q = s.port q) ∧
        { t with ports := s.ports } = { u.unclaimed r with choices := n }) ∧
    (∀ u cls payload, (s.port p).link = .up → payload.length ≤ 60 → payload.head? ≠ some stOk →
      u = setOuts p ((s.outs p).filter (fun x => x ≠ e))
        (s.placed (replyEntry (mkFrame 7 p.addr kindReply cls tag payload))) →
      ∃ (t : State) (n : Nat), exec (.boardReply p cls tag payload) s = .next (rescan t) ∧
        (s.seq.ctx = none ∨ s.fwd.hold = [] → n = s.choices) ∧ (∀ q, q ≠ p → t.port q = s.port q) ∧
        { t with ports := s.ports } = { u.unclaimed r with choices := n })) ∧
  (∀ (s : State) (i : Fin 4) (due : Time), s.Passing → s.sched.running = none → s.sched.queue = [] →
    s.rtu.levelTimers.get i = some due → s.rtu.stage = .dip → s.rtu.shedLevel = 0 →
    s.rtu.plan.levelProgram i.val = none →
    exec (.triggerTimerExpiry (.level i)) s = .next (rescan (raise .stageChange { s with
      now := max s.now due
      rtu := { s.rtu with stage := .shed (i.val + 1), deepest := i.val + 1, shedLevel := i.val + 1,
                          levelTimers := s.rtu.levelTimers.set i none }
      fwd := { s.fwd with shedLevel := i.val + 1 } }))) ∧
  (∀ (s : State) (c : Context) (x : Running) (due now time : Nat), s.Up → s.up.present = true → s.sched.queue = [] →
    s.seq.ctx = some c → c.program = 1 → s.sched.running = some x → x.marked = false → s.rtu.stage = .recover →
    s.rtu.shedLevel ≠ 0 → c.timer = some due → now = max s.now due → (s.stepAt c.index).kind = .delay time →
    s.inRange 1 (c.index + 1) = false →
    exec .delayExpiry s = .next (rescan (raise .stageChange { State.endedWith { s with now := now } c .done with
      rtu := { s.rtu with stage := .lineOk, shedLevel := 0, lossTime := none, deepest := 0,
                          levelTimers := Vector.replicate 4 none, commitTimer := none }
      fwd := { s.fwd with shedLevel := 0 } })))

/-! ### The line and the ride-through stages -/

/-- A line edge: while PRESENT it restarts the gap timer; otherwise it is counted, from one again after a gap, and the
RETURN_COUNT-th makes the line PRESENT with LINE_BACK, and DIP, DARK or COMMIT takes the report as its stage does. The gap
timer's expiry: the line is LOST with LINE_LOST. In LINE_OK, with no bulk mark below, the stage becomes DIP, LOSS_TIME is now
and the timers of the plan's times start; a running save is abandoned with SAVE_END. In DARK the resume delay stops. The
model's own: the edge count kept as it stood while PRESENT (log 45), and STAGE_CHANGE right after the stage, before the
save's abandonment (log 46). -/
def Obligations.LineEdgesAndGapsMoveTheLine : Prop :=
  (∀ (s : State) (n w : Nat) (l : LineMonitor), s.Up → w = 2000 * s.rtu.plan.lossWindow →
     ((∃ p, s.line.prev = some p ∧ s.now - p ≤ w ∧ n = s.line.count + 1) ∨
       ((∀ p, s.line.prev = some p → w < s.now - p) ∧ n = 1)) →
     l = { state := .present, count := n, prev := some s.now, gap := some (s.now + w) } →
     (s.line.state = .present → exec .lineEdge s =
       .next { s with line := { s.line with prev := some s.now, gap := some (s.now + w) } }) ∧
     (s.line.state ≠ .present → n < s.rtu.plan.returnCount → exec .lineEdge s =
       .next { s with line := { s.line with count := n, prev := some s.now } }) ∧
     (s.line.state ≠ .present → s.rtu.plan.returnCount ≤ n →
       (s.rtu.stage = .dip → s.rtu.shedLevel = 0 → exec .lineEdge s =
         .next (raise .stageChange (raise .lineBack { s with
           line := l
           rtu := { s.rtu with stage := .lineOk, lossTime := none, deepest := 0,
                               levelTimers := Vector.replicate 4 none, commitTimer := none } }))) ∧
       (s.rtu.stage = .dark → s.rtu.shedLevel = 0 → (s.rtu.armed = false ∨ s.rtu.plan.resume = .wait) →
         exec .lineEdge s = .next (raise .stageChange (raise .lineBack { s with
           line := l
           rtu := { s.rtu with stage := .lineOk, armed := false, resumeDelay := none } }))) ∧
       (∀ d m, s.rtu.stage = .dark → s.rtu.armed = true → s.rtu.plan.resume = .auto d m → exec .lineEdge s =
         .next (raise .lineBack { s with line := l, rtu := { s.rtu with resumeDelay := some (s.now + 2000 * d) } })) ∧
       (s.rtu.stage = .commit → exec .lineEdge s = .next (raise .lineBack { s with
         line := l
         rtu := { s.rtu with record := { s.rtu.record with lineReturned := true } } })))) ∧
  (∀ (s u : State) (due : Time), s.Up → s.line.state = .present → s.line.gap = some due →
     u = { s with now := max s.now due, line := { s.line with state := .lost, count := 0, gap := none } } →
     (∀ m ∈ s.marks, m.below = false) → s.rtu.shedLevel = 0 →
     (s.rtu.stage = .lineOk → ∀ v, v = { u with rtu := { s.rtu with
         stage := .dip, deepest := 0, lossTime := some u.now,
         levelTimers := Vector.ofFn (fun i =>
           if s.rtu.plan.afterMs i = 0 then none else some (u.now + 2000 * s.rtu.plan.afterMs i))
         commitTimer :=
           if s.rtu.plan.commitAfterMs = 0 then none else some (u.now + 2000 * s.rtu.plan.commitAfterMs) } } →
       (s.store.save ≠ .running →
         exec .lineGapExpiry s = .next (raise .stageChange (raise .lineLost v))) ∧
       (s.store.save = .running → exec .lineGapExpiry s = .next (raise .saveEnd (raise .stageChange (raise .lineLost
         { v with store := { s.store with save := .abandoned, cause := some .lineLoss } }))))) ∧
     (s.rtu.stage = .dark →
       exec .lineGapExpiry s = .next (raise .lineLost { u with rtu := { s.rtu with resumeDelay := none } })))

/-- A line-back in SHED enters RECOVER: the triggers' timers stop, the shed level stays at the deepest level, and RESTORE is
requested. The end of RESTORE in RECOVER, DONE or FAILED, enters LINE_OK and ends the episode. A line loss in RECOVER enters
SHED of the deepest level again with every trigger timer started anew, abandons RESTORE and requests the level's program
where it has one. The resume delay's expiry leaves DARK for LINE_OK with the latch released, and the plan's program is
requested with the requester RESUME. A requested program starts at once on an idle part. That STAGE_CHANGE is handed right
after the stage is the model's choice (log 46). -/
def Obligations.ReturnAndResumeRequestTheirPrograms : Prop :=
  (∀ (s : State) (k time : Nat) (p : Time), s.Quiet → s.mode = .active → s.rtu.stage = .shed k →
    s.rtu.shedLevel = s.rtu.deepest → s.line.state = .lost → s.line.prev = some p →
    s.now - p ≤ 2000 * s.rtu.plan.lossWindow → s.rtu.plan.returnCount = s.line.count + 1 → (s.header 1).count ≠ 0 →
    (s.stepAt (s.header 1).first).kind = .delay time →
    exec .lineEdge s = .next (raise .stageChange (raise .lineBack { s with
      line := { state := .present, count := s.line.count + 1, prev := some s.now,
                gap := some (s.now + 2000 * s.rtu.plan.lossWindow) }
      rtu := { s.rtu with stage := .recover, levelTimers := Vector.replicate 4 none, commitTimer := none }
      sched := { s.sched with
        arrivals := s.sched.arrivals + 1
        running := some { program := 1, requester := .holdup, priority := (s.header 1).priority,
                          guarded := (s.stepAt (s.header 1).first).guarded, marked := false } }
      seq := { s.seq with
        ctx := some { program := 1, requester := .holdup, index := (s.header 1).first,
                      timer := some (s.now + 2000 * time), frame := none, failed := 0, wait := .none } } }))) ∧
  (∀ (s : State) (c : Context) (x : Running) (due now : Time), s.Up → s.fwd.hold = [] → s.sched.queue = [] →
    s.seq.ctx = some c → c.program = 1 → s.sched.running = some x → x.marked = false → s.rtu.stage = .recover →
    s.rtu.shedLevel ≠ 0 → c.timer = some due → now = max s.now due →
    (∀ time, (s.stepAt c.index).kind = .delay time → s.inRange 1 (c.index + 1) = false →
      exec .delayExpiry s = .next (raise .stageChange { State.endedWith { s with now := now } c .done with
        rtu := { s.rtu with stage := .lineOk, shedLevel := 0, lossTime := none, deepest := 0,
                            levelTimers := Vector.replicate 4 none, commitTimer := none }
        fwd := { s.fwd with shedLevel := 0 } })) ∧
    (∀ time n, (s.stepAt c.index).kind = .awaitSync time n → (s.stepAt c.index).onFail = .abort → x.guarded = false →
      exec .syncTimeout s = .next (raise .stageChange { State.endedWith { s with
          now := now, sync := { armed := false, target := none, count := 0 } } c (.failed c.index .syncTimeout) with
        rtu := { s.rtu with stage := .lineOk, shedLevel := 0, lossTime := none, deepest := 0,
                            levelTimers := Vector.replicate 4 none, commitTimer := none }
        fwd := { s.fwd with shedLevel := 0 } }))) ∧
  (∀ (s u v : State) (c : Context) (x : Running) (gap : Time) (time : Nat), s.Up → s.fwd.hold = [] →
    s.sched.queue = [] → s.sched.committed = false → s.seq.ctx = some c → c.program = 1 → s.sched.running = some x →
    x.program = 1 → x.guarded = false → (s.stepAt c.index).kind = .delay time → s.rtu.stage = .recover →
    s.rtu.shedLevel = s.rtu.deepest → s.line.state = .present → s.line.gap = some gap →
    (∀ m ∈ s.marks, m.below = false) →
    u = { s with
      now := max s.now gap
      line := { s.line with state := .lost, count := 0, gap := none }
      rtu := { s.rtu with
        stage := .shed s.rtu.deepest
        lossTime := some (max s.now gap)
        levelTimers := Vector.ofFn (fun i =>
          if s.rtu.plan.afterMs i = 0 then none else some (max s.now gap + 2000 * s.rtu.plan.afterMs i))
        commitTimer :=
          if s.rtu.plan.commitAfterMs = 0 then none else some (max s.now gap + 2000 * s.rtu.plan.commitAfterMs) } } →
    v = State.endedWith (raise .stageChange (raise .lineLost u)) c (.abandoned c.index) →
    (s.rtu.plan.levelProgram (s.rtu.deepest - 1) = none → exec .lineGapExpiry s = .next v) ∧
    (∀ n next, s.rtu.plan.levelProgram (s.rtu.deepest - 1) = some n → s.mode = .active →
      (s.header n).count ≠ 0 → (s.stepAt (s.header n).first).kind = .delay next →
      exec .lineGapExpiry s = .next { v with
        sched := { v.sched with
          arrivals := s.sched.arrivals + 1
          running := some { program := n, requester := .holdup, priority := (s.header n).priority,
                            guarded := (s.stepAt (s.header n).first).guarded, marked := false } }
        seq := { v.seq with
          ctx := some { program := n, requester := .holdup, index := (s.header n).first,
                        timer := some (u.now + 2000 * next), frame := none, failed := 0, wait := .none } } })) ∧
  (∀ (s : State) (due : Time) (d time : Nat) (n : ProgNo), s.Quiet → s.mode = .active → s.rtu.stage = .dark →
    s.rtu.resumeDelay = some due → s.rtu.shedLevel = 0 → s.rtu.plan.resume = .auto d n → (s.header n).count ≠ 0 →
    (s.stepAt (s.header n).first).kind = .delay time →
    exec .resumeDelayExpiry s = .next (raise .stageChange { s with
      now := max s.now due
      rtu := { s.rtu with stage := .lineOk, armed := false, resumeDelay := none }
      sched := { s.sched with
        arrivals := s.sched.arrivals + 1
        running := some { program := n, requester := .resume, priority := (s.header n).priority,
                          guarded := (s.stepAt (s.header n).first).guarded, marked := false } }
      seq := { s.seq with
        ctx := some { program := n, requester := .resume, index := (s.header n).first,
                      timer := some (max s.now due + 2000 * time), frame := none, failed := 0, wait := .none } } }))

/-- A level's trigger: in DIP its timer, or its bulk mark, enters SHED of that level, with the shed level and STAGE_CHANGE; in
a SHED as deep the timer does nothing more than stop. The first entry from DIP abandons a running program of priority 0 or 1,
or marks it where its step is guarded, lets one of priority 2 run on, and drops the queued requests of priority 0 and 1, each
with PROGRAM_END, the youngest's result standing last. In a shallower SHED the level's program is requested: it joins the
queue; a full queue drops its last entry for it where that entry's priority is lower, and else the request is dropped. That
STAGE_CHANGE is handed right after the stage is the model's choice (log 46). -/
def Obligations.LevelTriggerEntersShed : Prop :=
  (∀ (s u : State) (i : Fin 4) (due : Time), s.Quiet → s.rtu.levelTimers.get i = some due →
    u = { s with
      now := max s.now due
      rtu := { s.rtu with levelTimers := s.rtu.levelTimers.set i none } } →
    (s.rtu.stage = .dip → s.rtu.shedLevel = 0 → s.rtu.plan.levelProgram i.val = none →
      exec (.triggerTimerExpiry (.level i)) s = .next (raise .stageChange { u with
        rtu := { u.rtu with stage := .shed (i.val + 1), deepest := i.val + 1, shedLevel := i.val + 1 }
        fwd := { s.fwd with shedLevel := i.val + 1 } })) ∧
    (∀ k, s.rtu.stage = .shed k → i.val + 1 ≤ k → exec (.triggerTimerExpiry (.level i)) s = .next u) ∧
    (s.rtu.stage = .lineOk ∨ s.rtu.stage = .recover ∨ s.rtu.stage = .commit ∨ s.rtu.stage = .dark →
      exec (.triggerTimerExpiry (.level i)) s = .next u)) ∧
  (∀ (s u v : State) (i : Fin 4) (due : Time) (x : Running), s.Up → s.fwd.hold = [] →
    s.rtu.levelTimers.get i = some due → s.rtu.stage = .dip → s.rtu.shedLevel = 0 →
    s.rtu.plan.levelProgram i.val = none → s.sched.running = some x → s.sched.queue.length ≤ 4 →
    u = raise .stageChange { s with
      now := max s.now due
      rtu := { s.rtu with stage := .shed (i.val + 1), deepest := i.val + 1, shedLevel := i.val + 1,
                          levelTimers := s.rtu.levelTimers.set i none }
      fwd := { s.fwd with shedLevel := i.val + 1 } } →
    ((2 ≤ x.priority ∧ v = u) ∨
      (x.priority ≤ 1 ∧ x.guarded = true ∧
        v = { u with sched := { s.sched with running := some { x with marked := true } } }) ∨
      (∃ c time, x.priority ≤ 1 ∧ x.guarded = false ∧ s.seq.ctx = some c ∧ 2 ≤ c.program.val ∧
        (s.stepAt c.index).kind = .delay time ∧ (∀ y ∈ s.sched.queue, y.priority ≤ 1) ∧
        v = u.endedWith c (.abandoned c.index))) →
    ((∀ y ∈ s.sched.queue, 2 ≤ y.priority) → exec (.triggerTimerExpiry (.level i)) s = .next v) ∧
    (∀ e ∈ s.sched.queue, e.priority ≤ 1 →
      (∀ y ∈ s.sched.queue, y.priority ≤ 1 → y = e ∨ y.arrival < e.arrival) →
      exec (.triggerTimerExpiry (.level i)) s = .next (raise .programEnd { v with sched := { v.sched with
        queue := s.sched.queue.filter (fun y => 2 ≤ y.priority)
        last := some { program := e.program, requester := e.requester, outcome := .dropped, step := none,
                       reason := none, failedSteps := none } } }))) ∧
  (∀ (s : State) (i : Fin 4) (c : ChannelId) (mv code : Nat) (x : Channel) (m : BulkMark), s.Quiet →
    s.conv.running = true → x = s.chan c → x.role = .bulk → code = min 1023 (mv / 4) → x.low ≤ code → code ≤ x.high →
    s.marks = [m] → m.id = .level i → m.below = false → code < m.threshold → x.debounce ≤ m.count + 1 →
    s.rtu.stage = .dip → s.rtu.shedLevel = 0 → s.rtu.plan.levelProgram i.val = none →
    ∃ u : State, exec (.senseSample c mv) s = .next (raise .stageChange { u with
        rtu := { s.rtu with stage := .shed (i.val + 1), deepest := i.val + 1, shedLevel := i.val + 1 }
        fwd := { s.fwd with shedLevel := i.val + 1 } }) ∧
      u.marks = [{ m with below := true, count := 0 }] ∧ (∀ d, d ≠ c → u.chan d = s.chan d) ∧
      { u with conv := s.conv, now := s.now, chans := s.chans, marks := s.marks } = s) ∧
  (∀ (s v : State) (i : Fin 4) (due : Time) (k : Nat) (n : ProgNo) (x : Running) (e : Entry), s.Up → s.fwd.hold = [] →
    s.rtu.levelTimers.get i = some due → s.rtu.stage = .shed k → k < i.val + 1 → s.rtu.shedLevel ≠ i.val + 1 →
    s.rtu.plan.levelProgram i.val = some n → s.sched.committed = false → s.sched.running = some x → x.program ≠ n →
    s.isQueued n = false → (s.header n).priority ≤ x.priority → (∀ y ∈ s.sched.queue, y.priority ≤ x.priority) →
    e = { program := n, requester := .holdup, priority := (s.header n).priority, arrival := s.sched.arrivals } →
    v = raise .stageChange { s with
      now := max s.now due
      rtu := { s.rtu with stage := .shed (i.val + 1), deepest := i.val + 1, shedLevel := i.val + 1,
                          levelTimers := s.rtu.levelTimers.set i none }
      fwd := { s.fwd with shedLevel := i.val + 1 } } →
    (s.sched.queue.length < 4 → exec (.triggerTimerExpiry (.level i)) s = .next { v with
      sched := { s.sched with queue := insertEntry e s.sched.queue, arrivals := s.sched.arrivals + 1 } }) ∧
    (∀ y, s.sched.queue.length = 4 → s.sched.queue.getLast? = some y → y.priority < (s.header n).priority →
      y.program ≠ 1 → exec (.triggerTimerExpiry (.level i)) s = .next (raise .programEnd { v with
        sched := { s.sched with
          queue := insertEntry e s.sched.queue.dropLast
          arrivals := s.sched.arrivals + 1
          last := some { program := y.program, requester := y.requester, outcome := .dropped, step := none, reason := none,
                         failedSteps := none } } })) ∧
    (∀ y, s.sched.queue.length = 4 → s.sched.queue.getLast? = some y → (s.header n).priority ≤ y.priority → n ≠ 1 →
      exec (.triggerTimerExpiry (.level i)) s = .next (raise .programEnd { v with
        sched := { s.sched with
          last := some { program := n, requester := .holdup, outcome := .dropped, step := none, reason := none,
                         failedSteps := none } } })))

/-- The commit timer in DIP, and the commit mark in LINE_OK: COMMIT is entered, the record is filled and its write asked for,
the episode ends, queued commands are answered REFUSED_COMMIT, the commit latch is set and program 0 starts, and COMMIT and
STAGE_CHANGE join the pending set. The end of program 0 with the line away: its result and PROGRAM_END, the final drop (a rail
up begins to fall, an OFF rail's ON frame in flight gains THEN_OFF), then the record COMPLETE with its write, the resume latch
and DARK. How MS_LOSS_TO_COMMIT is rounded is the model's own (log 8). -/
def Obligations.CommitTriggerEntersCommit : Prop :=
  (∀ (s u : State) (due : Time) (time : Nat), s.Quiet → s.AttnInv → s.up.present = true → s.mode = .active →
    s.rtu.stage = .dip → s.rtu.commitTimer = some due → s.store.save ≠ .running → s.rtu.write = .idle →
    s.rtu.shedLevel = 0 → (s.header 0).count ≠ 0 → (s.stepAt (s.header 0).first).kind = .delay time →
    u = { s with now := max s.now due } →
    ∃ t, exec (.triggerTimerExpiry .commit) s = .next t ∧ t.now = u.now ∧ t.rtu.stage = .commit ∧
      t.rtu.record = { integrity := .good, cause := some .lineLoss, stageAt := some .dip, deepest := some s.rtu.deepest,
                       msLoss := u.sinceLoss, bulkAt := s.bulkLast, lineReturned := false, outcome := some .inProgress,
                       failedSteps := none } ∧
      t.rtu.write = .writing t.rtu.record u.now none ∧ t.rtu.lossTime = none ∧ t.rtu.deepest = 0 ∧
      t.rtu.commitTimer = none ∧ (∀ i, t.rtu.levelTimers.get i = none) ∧ t.rtu.plan = s.rtu.plan ∧
      (∀ p, t.queue p = [] ∧ t.outs p = s.outs p) ∧ t.fwd.hold = [] ∧
      (∀ p c, c ∈ s.queue p → replyEntry (replyFrame c.frame stRefusedCommit []) ∈ t.up.tx) ∧
      t.sched = { s.sched with
        committed := true
        running := some { program := 0, requester := .holdup, priority := 3,
                          guarded := (s.stepAt (s.header 0).first).guarded, marked := false } } ∧
      t.seq = { s.seq with
        ctx := some { program := 0, requester := .holdup, index := (s.header 0).first,
                      timer := some (u.now + 2000 * time), frame := none, failed := 0, wait := .none } } ∧
      t.ev.pending = s.ev.pending ||| EventKind.commit.bit ||| EventKind.stageChange.bit ∧
      { t with now := s.now, choices := s.choices, rtu := s.rtu, sched := s.sched, seq := s.seq, ports := s.ports,
               up := s.up, fwd := s.fwd, ev := s.ev } = s) ∧
  (∀ (s : State) (c : ChannelId) (mv code time : Nat) (x : Channel) (m : BulkMark), s.Quiet → s.AttnInv →
    s.up.present = true → s.mode = .active → s.rtu.stage = .lineOk → s.rtu.lossTime = none → s.rtu.shedLevel = 0 →
    s.conv.running = true → s.rtu.plan.bulk = some c → x = s.chan c → x.role = .bulk → code = min 1023 (mv / 4) →
    x.low ≤ code → code ≤ x.high → s.marks = [m] → m.id = .commit → m.below = false → code < m.threshold →
    x.debounce ≤ m.count + 1 → s.store.save ≠ .running → s.rtu.write = .idle → (s.header 0).count ≠ 0 →
    (s.stepAt (s.header 0).first).kind = .delay time →
    ∃ t, exec (.senseSample c mv) s = .next t ∧ t.rtu.stage = .commit ∧
      t.marks = [{ m with below := true, count := 0 }] ∧ (t.chan c).last = some code ∧
      t.rtu.record = { integrity := .good, cause := some .bulkLow, stageAt := some .lineOk, deepest := some s.rtu.deepest,
                       msLoss := none, bulkAt := some code, lineReturned := false, outcome := some .inProgress,
                       failedSteps := none } ∧
      t.rtu.write = .writing t.rtu.record t.now none ∧ (∀ p, t.queue p = [] ∧ t.outs p = s.outs p) ∧
      (∀ p q, q ∈ s.queue p → replyEntry (replyFrame q.frame stRefusedCommit []) ∈ t.up.tx) ∧
      t.sched = { s.sched with
        committed := true
        running := some { program := 0, requester := .holdup, priority := 3,
                          guarded := (s.stepAt (s.header 0).first).guarded, marked := false } } ∧
      t.seq = { s.seq with
        ctx := some { program := 0, requester := .holdup, index := (s.header 0).first,
                      timer := some (t.now + 2000 * time), frame := none, failed := 0, wait := .none } } ∧
      t.ev.pending = s.ev.pending ||| EventKind.commit.bit ||| EventKind.stageChange.bit ∧
      { t with now := s.now, choices := s.choices, rtu := s.rtu, sched := s.sched, seq := s.seq, ports := s.ports,
               up := s.up, fwd := s.fwd, ev := s.ev, conv := s.conv, chans := s.chans, marks := s.marks } = s) ∧
  (∀ (s u : State) (c : Context) (x : Running) (due time : Nat) (done : Record) (r : RideThrough), s.Up →
    s.fwd.hold = [] → s.sched.queue = [] → s.seq.ctx = some c → c.program = 0 → s.sched.running = some x →
    s.rtu.stage = .commit → s.rtu.shedLevel = 0 → s.line.state ≠ .present → (s.stepAt c.index).kind = .delay time →
    c.timer = some due → s.inRange 0 (c.index + 1) = false →
    u = State.endedWith { s with now := max s.now due, sched := { s.sched with committed := false } } c .done →
    done = { s.rtu.record with outcome := some .complete, failedSteps := some c.failed } →
    r = { s.rtu with stage := .dark, armed := true, record := done, write :=
      match s.rtu.write with
      | .idle => .writing done (max s.now due) none
      | .writing old begun _ => .writing old begun (some done) } →
    ((∀ q, s.dropNeeded q = false) →
      exec .delayExpiry s = .next (raise .stageChange { u with rtu := r })) ∧
    (∀ q e, s.dropNeeded q = true → (∀ d, d ≠ q → s.dropNeeded d = false) →
      ((s.rail q).static.path = .onPart e → (s.rail q).dyn.state = .rising ∨ (s.rail q).dyn.state = .on →
        ∃ t, State.MovedTo q .falling (some (u.now + 2000 * (s.rail q).static.fallMs)) none u t ∧
          { t with rails := s.rails, en := s.en, dis := s.dis, chans := s.chans } = u ∧
          exec .delayExpiry s = .next (raise .stageChange { t with rtu := r })) ∧
      (∀ f, (s.rail q).dyn.state = .off → (s.rail q).dyn.frame = some f →
        exec .delayExpiry s = .next (raise .stageChange
          { modDyn q (fun d => { d with frame := some { f with thenOff := true } }) u with rtu := r }))))

/-! ### Headlines -/

/-- Every frame that a lane can carry is read back from its own bytes with every field as it was. -/
def Obligations.FramesAreReadBack : Prop :=
  ∀ f : Frame, f.ok = true → frameOfBytes f.bytes = some f

/-- ATTN follows the requesting set after every step. -/
def Obligations.EveryStepKeepsAttn : Prop :=
  ∀ s t : State, s.AttnInv → step s = .next t → t.AttnInv

/-- After every step the queues, lists and transmit places stay within their sizes: the receive queue 4, the request queue 4,
the hold queue 16, each forward queue 8, each outstanding list 4, and the upstream queue's reply, notice and attention places
24, 7 and 1; a forwarded command under transmission has its place in the outstanding list; and the Sequencer's tag stays
from 0xE0 up. -/
def Obligations.EveryStepKeepsTheBounds : Prop :=
  ∀ s t : State, s.BoundsInv → step s = .next t → t.BoundsInv

/-- Right after power-on ATTN follows the requesting set and every queue, list and place is within its size. -/
def Obligations.ResetMeetsTheInvariants : Prop :=
  State.reset.AttnInv ∧ State.reset.BoundsInv
end

