-- ==== Sys2Proof/Laws/State.lean ====
section
/-! SUPPORT. What each update of State leaves and changes, field by field, so that no proof unfolds an update. -/

namespace Sys2Proof.Machine

/-! ### later -/

@[simp] theorem later_pending (w : Work) (s : State) : (later w s).pending = s.pending := rfl
@[simp] theorem later_agenda (w : Work) (s : State) : (later w s).agenda = s.agenda ++ [w] := rfl
@[simp] theorem later_takeDue (w : Work) (s : State) : (later w s).takeDue = s.takeDue := rfl
@[simp] theorem later_now (w : Work) (s : State) : (later w s).now = s.now := rfl
@[simp] theorem later_choices (w : Work) (s : State) : (later w s).choices = s.choices := rfl
@[simp] theorem later_phase (w : Work) (s : State) : (later w s).phase = s.phase := rfl
@[simp] theorem later_cause (w : Work) (s : State) : (later w s).cause = s.cause := rfl
@[simp] theorem later_mode (w : Work) (s : State) : (later w s).mode = s.mode := rfl
@[simp] theorem later_resetWaiting (w : Work) (s : State) : (later w s).resetWaiting = s.resetWaiting := rfl
@[simp] theorem later_rails (w : Work) (s : State) : (later w s).rails = s.rails := rfl
@[simp] theorem later_en (w : Work) (s : State) : (later w s).en = s.en := rfl
@[simp] theorem later_dis (w : Work) (s : State) : (later w s).dis = s.dis := rfl
@[simp] theorem later_ctl (w : Work) (s : State) : (later w s).ctl = s.ctl := rfl
@[simp] theorem later_chans (w : Work) (s : State) : (later w s).chans = s.chans := rfl
@[simp] theorem later_marks (w : Work) (s : State) : (later w s).marks = s.marks := rfl
@[simp] theorem later_conv (w : Work) (s : State) : (later w s).conv = s.conv := rfl
@[simp] theorem later_line (w : Work) (s : State) : (later w s).line = s.line := rfl
@[simp] theorem later_sync (w : Work) (s : State) : (later w s).sync = s.sync := rfl
@[simp] theorem later_seq (w : Work) (s : State) : (later w s).seq = s.seq := rfl
@[simp] theorem later_sched (w : Work) (s : State) : (later w s).sched = s.sched := rfl
@[simp] theorem later_rtu (w : Work) (s : State) : (later w s).rtu = s.rtu := rfl
@[simp] theorem later_ports (w : Work) (s : State) : (later w s).ports = s.ports := rfl
@[simp] theorem later_up (w : Work) (s : State) : (later w s).up = s.up := rfl
@[simp] theorem later_fwd (w : Work) (s : State) : (later w s).fwd = s.fwd := rfl
@[simp] theorem later_ev (w : Work) (s : State) : (later w s).ev = s.ev := rfl
@[simp] theorem later_store (w : Work) (s : State) : (later w s).store = s.store := rfl

/-! ### advance -/

@[simp] theorem advance_pending (t : Time) (s : State) : (advance t s).pending = s.pending := rfl
@[simp] theorem advance_agenda (t : Time) (s : State) : (advance t s).agenda = s.agenda := rfl
@[simp] theorem advance_takeDue (t : Time) (s : State) : (advance t s).takeDue = s.takeDue := rfl
@[simp] theorem advance_now (t : Time) (s : State) : (advance t s).now = max s.now t := rfl
@[simp] theorem advance_choices (t : Time) (s : State) : (advance t s).choices = s.choices := rfl
@[simp] theorem advance_phase (t : Time) (s : State) : (advance t s).phase = s.phase := rfl
@[simp] theorem advance_cause (t : Time) (s : State) : (advance t s).cause = s.cause := rfl
@[simp] theorem advance_mode (t : Time) (s : State) : (advance t s).mode = s.mode := rfl
@[simp] theorem advance_resetWaiting (t : Time) (s : State) : (advance t s).resetWaiting = s.resetWaiting := rfl
@[simp] theorem advance_rails (t : Time) (s : State) : (advance t s).rails = s.rails := rfl
@[simp] theorem advance_en (t : Time) (s : State) : (advance t s).en = s.en := rfl
@[simp] theorem advance_dis (t : Time) (s : State) : (advance t s).dis = s.dis := rfl
@[simp] theorem advance_ctl (t : Time) (s : State) : (advance t s).ctl = s.ctl := rfl
@[simp] theorem advance_chans (t : Time) (s : State) : (advance t s).chans = s.chans := rfl
@[simp] theorem advance_marks (t : Time) (s : State) : (advance t s).marks = s.marks := rfl
@[simp] theorem advance_conv (t : Time) (s : State) : (advance t s).conv = s.conv := rfl
@[simp] theorem advance_line (t : Time) (s : State) : (advance t s).line = s.line := rfl
@[simp] theorem advance_sync (t : Time) (s : State) : (advance t s).sync = s.sync := rfl
@[simp] theorem advance_seq (t : Time) (s : State) : (advance t s).seq = s.seq := rfl
@[simp] theorem advance_sched (t : Time) (s : State) : (advance t s).sched = s.sched := rfl
@[simp] theorem advance_rtu (t : Time) (s : State) : (advance t s).rtu = s.rtu := rfl
@[simp] theorem advance_ports (t : Time) (s : State) : (advance t s).ports = s.ports := rfl
@[simp] theorem advance_up (t : Time) (s : State) : (advance t s).up = s.up := rfl
@[simp] theorem advance_fwd (t : Time) (s : State) : (advance t s).fwd = s.fwd := rfl
@[simp] theorem advance_ev (t : Time) (s : State) : (advance t s).ev = s.ev := rfl
@[simp] theorem advance_store (t : Time) (s : State) : (advance t s).store = s.store := rfl

/-! ### draw -/

@[simp] theorem draw_pending (s : State) : (draw s).pending = s.pending := rfl
@[simp] theorem draw_agenda (s : State) : (draw s).agenda = s.agenda := rfl
@[simp] theorem draw_takeDue (s : State) : (draw s).takeDue = s.takeDue := rfl
@[simp] theorem draw_now (s : State) : (draw s).now = s.now := rfl
@[simp] theorem draw_choices (s : State) : (draw s).choices = s.choices + 1 := rfl
@[simp] theorem draw_phase (s : State) : (draw s).phase = s.phase := rfl
@[simp] theorem draw_cause (s : State) : (draw s).cause = s.cause := rfl
@[simp] theorem draw_mode (s : State) : (draw s).mode = s.mode := rfl
@[simp] theorem draw_resetWaiting (s : State) : (draw s).resetWaiting = s.resetWaiting := rfl
@[simp] theorem draw_rails (s : State) : (draw s).rails = s.rails := rfl
@[simp] theorem draw_en (s : State) : (draw s).en = s.en := rfl
@[simp] theorem draw_dis (s : State) : (draw s).dis = s.dis := rfl
@[simp] theorem draw_ctl (s : State) : (draw s).ctl = s.ctl := rfl
@[simp] theorem draw_chans (s : State) : (draw s).chans = s.chans := rfl
@[simp] theorem draw_marks (s : State) : (draw s).marks = s.marks := rfl
@[simp] theorem draw_conv (s : State) : (draw s).conv = s.conv := rfl
@[simp] theorem draw_line (s : State) : (draw s).line = s.line := rfl
@[simp] theorem draw_sync (s : State) : (draw s).sync = s.sync := rfl
@[simp] theorem draw_seq (s : State) : (draw s).seq = s.seq := rfl
@[simp] theorem draw_sched (s : State) : (draw s).sched = s.sched := rfl
@[simp] theorem draw_rtu (s : State) : (draw s).rtu = s.rtu := rfl
@[simp] theorem draw_ports (s : State) : (draw s).ports = s.ports := rfl
@[simp] theorem draw_up (s : State) : (draw s).up = s.up := rfl
@[simp] theorem draw_fwd (s : State) : (draw s).fwd = s.fwd := rfl
@[simp] theorem draw_ev (s : State) : (draw s).ev = s.ev := rfl
@[simp] theorem draw_store (s : State) : (draw s).store = s.store := rfl

/-! ### setRail -/

@[simp] theorem setRail_pending (r : RailId) (x : Rail) (s : State) : (setRail r x s).pending = s.pending := rfl
@[simp] theorem setRail_agenda (r : RailId) (x : Rail) (s : State) : (setRail r x s).agenda = s.agenda := rfl
@[simp] theorem setRail_takeDue (r : RailId) (x : Rail) (s : State) : (setRail r x s).takeDue = s.takeDue := rfl
@[simp] theorem setRail_now (r : RailId) (x : Rail) (s : State) : (setRail r x s).now = s.now := rfl
@[simp] theorem setRail_choices (r : RailId) (x : Rail) (s : State) : (setRail r x s).choices = s.choices := rfl
@[simp] theorem setRail_phase (r : RailId) (x : Rail) (s : State) : (setRail r x s).phase = s.phase := rfl
@[simp] theorem setRail_cause (r : RailId) (x : Rail) (s : State) : (setRail r x s).cause = s.cause := rfl
@[simp] theorem setRail_mode (r : RailId) (x : Rail) (s : State) : (setRail r x s).mode = s.mode := rfl
@[simp] theorem setRail_resetWaiting (r : RailId) (x : Rail) (s : State) : (setRail r x s).resetWaiting = s.resetWaiting := rfl
@[simp] theorem setRail_rails (r : RailId) (x : Rail) (s : State) : (setRail r x s).rails = s.rails.set r x := rfl
@[simp] theorem setRail_en (r : RailId) (x : Rail) (s : State) : (setRail r x s).en = s.en := rfl
@[simp] theorem setRail_dis (r : RailId) (x : Rail) (s : State) : (setRail r x s).dis = s.dis := rfl
@[simp] theorem setRail_ctl (r : RailId) (x : Rail) (s : State) : (setRail r x s).ctl = s.ctl := rfl
@[simp] theorem setRail_chans (r : RailId) (x : Rail) (s : State) : (setRail r x s).chans = s.chans := rfl
@[simp] theorem setRail_marks (r : RailId) (x : Rail) (s : State) : (setRail r x s).marks = s.marks := rfl
@[simp] theorem setRail_conv (r : RailId) (x : Rail) (s : State) : (setRail r x s).conv = s.conv := rfl
@[simp] theorem setRail_line (r : RailId) (x : Rail) (s : State) : (setRail r x s).line = s.line := rfl
@[simp] theorem setRail_sync (r : RailId) (x : Rail) (s : State) : (setRail r x s).sync = s.sync := rfl
@[simp] theorem setRail_seq (r : RailId) (x : Rail) (s : State) : (setRail r x s).seq = s.seq := rfl
@[simp] theorem setRail_sched (r : RailId) (x : Rail) (s : State) : (setRail r x s).sched = s.sched := rfl
@[simp] theorem setRail_rtu (r : RailId) (x : Rail) (s : State) : (setRail r x s).rtu = s.rtu := rfl
@[simp] theorem setRail_ports (r : RailId) (x : Rail) (s : State) : (setRail r x s).ports = s.ports := rfl
@[simp] theorem setRail_up (r : RailId) (x : Rail) (s : State) : (setRail r x s).up = s.up := rfl
@[simp] theorem setRail_fwd (r : RailId) (x : Rail) (s : State) : (setRail r x s).fwd = s.fwd := rfl
@[simp] theorem setRail_ev (r : RailId) (x : Rail) (s : State) : (setRail r x s).ev = s.ev := rfl
@[simp] theorem setRail_store (r : RailId) (x : Rail) (s : State) : (setRail r x s).store = s.store := rfl

/-! ### modDyn -/

@[simp] theorem modDyn_pending (r : RailId) (f : RailDynamic → RailDynamic) (s : State) : (modDyn r f s).pending = s.pending := rfl
@[simp] theorem modDyn_agenda (r : RailId) (f : RailDynamic → RailDynamic) (s : State) : (modDyn r f s).agenda = s.agenda := rfl
@[simp] theorem modDyn_takeDue (r : RailId) (f : RailDynamic → RailDynamic) (s : State) : (modDyn r f s).takeDue = s.takeDue := rfl
@[simp] theorem modDyn_now (r : RailId) (f : RailDynamic → RailDynamic) (s : State) : (modDyn r f s).now = s.now := rfl
@[simp] theorem modDyn_choices (r : RailId) (f : RailDynamic → RailDynamic) (s : State) : (modDyn r f s).choices = s.choices := rfl
@[simp] theorem modDyn_phase (r : RailId) (f : RailDynamic → RailDynamic) (s : State) : (modDyn r f s).phase = s.phase := rfl
@[simp] theorem modDyn_cause (r : RailId) (f : RailDynamic → RailDynamic) (s : State) : (modDyn r f s).cause = s.cause := rfl
@[simp] theorem modDyn_mode (r : RailId) (f : RailDynamic → RailDynamic) (s : State) : (modDyn r f s).mode = s.mode := rfl
@[simp] theorem modDyn_resetWaiting (r : RailId) (f : RailDynamic → RailDynamic) (s : State) : (modDyn r f s).resetWaiting = s.resetWaiting := rfl
@[simp] theorem modDyn_rails (r : RailId) (f : RailDynamic → RailDynamic) (s : State) : (modDyn r f s).rails = s.rails.set r { s.rail r with dyn := f (s.rail r).dyn } := rfl
@[simp] theorem modDyn_en (r : RailId) (f : RailDynamic → RailDynamic) (s : State) : (modDyn r f s).en = s.en := rfl
@[simp] theorem modDyn_dis (r : RailId) (f : RailDynamic → RailDynamic) (s : State) : (modDyn r f s).dis = s.dis := rfl
@[simp] theorem modDyn_ctl (r : RailId) (f : RailDynamic → RailDynamic) (s : State) : (modDyn r f s).ctl = s.ctl := rfl
@[simp] theorem modDyn_chans (r : RailId) (f : RailDynamic → RailDynamic) (s : State) : (modDyn r f s).chans = s.chans := rfl
@[simp] theorem modDyn_marks (r : RailId) (f : RailDynamic → RailDynamic) (s : State) : (modDyn r f s).marks = s.marks := rfl
@[simp] theorem modDyn_conv (r : RailId) (f : RailDynamic → RailDynamic) (s : State) : (modDyn r f s).conv = s.conv := rfl
@[simp] theorem modDyn_line (r : RailId) (f : RailDynamic → RailDynamic) (s : State) : (modDyn r f s).line = s.line := rfl
@[simp] theorem modDyn_sync (r : RailId) (f : RailDynamic → RailDynamic) (s : State) : (modDyn r f s).sync = s.sync := rfl
@[simp] theorem modDyn_seq (r : RailId) (f : RailDynamic → RailDynamic) (s : State) : (modDyn r f s).seq = s.seq := rfl
@[simp] theorem modDyn_sched (r : RailId) (f : RailDynamic → RailDynamic) (s : State) : (modDyn r f s).sched = s.sched := rfl
@[simp] theorem modDyn_rtu (r : RailId) (f : RailDynamic → RailDynamic) (s : State) : (modDyn r f s).rtu = s.rtu := rfl
@[simp] theorem modDyn_ports (r : RailId) (f : RailDynamic → RailDynamic) (s : State) : (modDyn r f s).ports = s.ports := rfl
@[simp] theorem modDyn_up (r : RailId) (f : RailDynamic → RailDynamic) (s : State) : (modDyn r f s).up = s.up := rfl
@[simp] theorem modDyn_fwd (r : RailId) (f : RailDynamic → RailDynamic) (s : State) : (modDyn r f s).fwd = s.fwd := rfl
@[simp] theorem modDyn_ev (r : RailId) (f : RailDynamic → RailDynamic) (s : State) : (modDyn r f s).ev = s.ev := rfl
@[simp] theorem modDyn_store (r : RailId) (f : RailDynamic → RailDynamic) (s : State) : (modDyn r f s).store = s.store := rfl

/-! ### setPort -/

@[simp] theorem setPort_pending (p : Port) (x : PortRec) (s : State) : (setPort p x s).pending = s.pending := rfl
@[simp] theorem setPort_agenda (p : Port) (x : PortRec) (s : State) : (setPort p x s).agenda = s.agenda := rfl
@[simp] theorem setPort_takeDue (p : Port) (x : PortRec) (s : State) : (setPort p x s).takeDue = s.takeDue := rfl
@[simp] theorem setPort_now (p : Port) (x : PortRec) (s : State) : (setPort p x s).now = s.now := rfl
@[simp] theorem setPort_choices (p : Port) (x : PortRec) (s : State) : (setPort p x s).choices = s.choices := rfl
@[simp] theorem setPort_phase (p : Port) (x : PortRec) (s : State) : (setPort p x s).phase = s.phase := rfl
@[simp] theorem setPort_cause (p : Port) (x : PortRec) (s : State) : (setPort p x s).cause = s.cause := rfl
@[simp] theorem setPort_mode (p : Port) (x : PortRec) (s : State) : (setPort p x s).mode = s.mode := rfl
@[simp] theorem setPort_resetWaiting (p : Port) (x : PortRec) (s : State) : (setPort p x s).resetWaiting = s.resetWaiting := rfl
@[simp] theorem setPort_rails (p : Port) (x : PortRec) (s : State) : (setPort p x s).rails = s.rails := rfl
@[simp] theorem setPort_en (p : Port) (x : PortRec) (s : State) : (setPort p x s).en = s.en := rfl
@[simp] theorem setPort_dis (p : Port) (x : PortRec) (s : State) : (setPort p x s).dis = s.dis := rfl
@[simp] theorem setPort_ctl (p : Port) (x : PortRec) (s : State) : (setPort p x s).ctl = s.ctl := rfl
@[simp] theorem setPort_chans (p : Port) (x : PortRec) (s : State) : (setPort p x s).chans = s.chans := rfl
@[simp] theorem setPort_marks (p : Port) (x : PortRec) (s : State) : (setPort p x s).marks = s.marks := rfl
@[simp] theorem setPort_conv (p : Port) (x : PortRec) (s : State) : (setPort p x s).conv = s.conv := rfl
@[simp] theorem setPort_line (p : Port) (x : PortRec) (s : State) : (setPort p x s).line = s.line := rfl
@[simp] theorem setPort_sync (p : Port) (x : PortRec) (s : State) : (setPort p x s).sync = s.sync := rfl
@[simp] theorem setPort_seq (p : Port) (x : PortRec) (s : State) : (setPort p x s).seq = s.seq := rfl
@[simp] theorem setPort_sched (p : Port) (x : PortRec) (s : State) : (setPort p x s).sched = s.sched := rfl
@[simp] theorem setPort_rtu (p : Port) (x : PortRec) (s : State) : (setPort p x s).rtu = s.rtu := rfl
@[simp] theorem setPort_ports (p : Port) (x : PortRec) (s : State) : (setPort p x s).ports = s.ports.set p.idx x := rfl
@[simp] theorem setPort_up (p : Port) (x : PortRec) (s : State) : (setPort p x s).up = s.up := rfl
@[simp] theorem setPort_fwd (p : Port) (x : PortRec) (s : State) : (setPort p x s).fwd = s.fwd := rfl
@[simp] theorem setPort_ev (p : Port) (x : PortRec) (s : State) : (setPort p x s).ev = s.ev := rfl
@[simp] theorem setPort_store (p : Port) (x : PortRec) (s : State) : (setPort p x s).store = s.store := rfl

/-! ### modPort -/

@[simp] theorem modPort_pending (p : Port) (f : PortRec → PortRec) (s : State) : (modPort p f s).pending = s.pending := rfl
@[simp] theorem modPort_agenda (p : Port) (f : PortRec → PortRec) (s : State) : (modPort p f s).agenda = s.agenda := rfl
@[simp] theorem modPort_takeDue (p : Port) (f : PortRec → PortRec) (s : State) : (modPort p f s).takeDue = s.takeDue := rfl
@[simp] theorem modPort_now (p : Port) (f : PortRec → PortRec) (s : State) : (modPort p f s).now = s.now := rfl
@[simp] theorem modPort_choices (p : Port) (f : PortRec → PortRec) (s : State) : (modPort p f s).choices = s.choices := rfl
@[simp] theorem modPort_phase (p : Port) (f : PortRec → PortRec) (s : State) : (modPort p f s).phase = s.phase := rfl
@[simp] theorem modPort_cause (p : Port) (f : PortRec → PortRec) (s : State) : (modPort p f s).cause = s.cause := rfl
@[simp] theorem modPort_mode (p : Port) (f : PortRec → PortRec) (s : State) : (modPort p f s).mode = s.mode := rfl
@[simp] theorem modPort_resetWaiting (p : Port) (f : PortRec → PortRec) (s : State) : (modPort p f s).resetWaiting = s.resetWaiting := rfl
@[simp] theorem modPort_rails (p : Port) (f : PortRec → PortRec) (s : State) : (modPort p f s).rails = s.rails := rfl
@[simp] theorem modPort_en (p : Port) (f : PortRec → PortRec) (s : State) : (modPort p f s).en = s.en := rfl
@[simp] theorem modPort_dis (p : Port) (f : PortRec → PortRec) (s : State) : (modPort p f s).dis = s.dis := rfl
@[simp] theorem modPort_ctl (p : Port) (f : PortRec → PortRec) (s : State) : (modPort p f s).ctl = s.ctl := rfl
@[simp] theorem modPort_chans (p : Port) (f : PortRec → PortRec) (s : State) : (modPort p f s).chans = s.chans := rfl
@[simp] theorem modPort_marks (p : Port) (f : PortRec → PortRec) (s : State) : (modPort p f s).marks = s.marks := rfl
@[simp] theorem modPort_conv (p : Port) (f : PortRec → PortRec) (s : State) : (modPort p f s).conv = s.conv := rfl
@[simp] theorem modPort_line (p : Port) (f : PortRec → PortRec) (s : State) : (modPort p f s).line = s.line := rfl
@[simp] theorem modPort_sync (p : Port) (f : PortRec → PortRec) (s : State) : (modPort p f s).sync = s.sync := rfl
@[simp] theorem modPort_seq (p : Port) (f : PortRec → PortRec) (s : State) : (modPort p f s).seq = s.seq := rfl
@[simp] theorem modPort_sched (p : Port) (f : PortRec → PortRec) (s : State) : (modPort p f s).sched = s.sched := rfl
@[simp] theorem modPort_rtu (p : Port) (f : PortRec → PortRec) (s : State) : (modPort p f s).rtu = s.rtu := rfl
@[simp] theorem modPort_ports (p : Port) (f : PortRec → PortRec) (s : State) : (modPort p f s).ports = s.ports.set p.idx (f (s.port p)) := rfl
@[simp] theorem modPort_up (p : Port) (f : PortRec → PortRec) (s : State) : (modPort p f s).up = s.up := rfl
@[simp] theorem modPort_fwd (p : Port) (f : PortRec → PortRec) (s : State) : (modPort p f s).fwd = s.fwd := rfl
@[simp] theorem modPort_ev (p : Port) (f : PortRec → PortRec) (s : State) : (modPort p f s).ev = s.ev := rfl
@[simp] theorem modPort_store (p : Port) (f : PortRec → PortRec) (s : State) : (modPort p f s).store = s.store := rfl

/-! ### setChan -/

@[simp] theorem setChan_pending (c : ChannelId) (x : Channel) (s : State) : (setChan c x s).pending = s.pending := rfl
@[simp] theorem setChan_agenda (c : ChannelId) (x : Channel) (s : State) : (setChan c x s).agenda = s.agenda := rfl
@[simp] theorem setChan_takeDue (c : ChannelId) (x : Channel) (s : State) : (setChan c x s).takeDue = s.takeDue := rfl
@[simp] theorem setChan_now (c : ChannelId) (x : Channel) (s : State) : (setChan c x s).now = s.now := rfl
@[simp] theorem setChan_choices (c : ChannelId) (x : Channel) (s : State) : (setChan c x s).choices = s.choices := rfl
@[simp] theorem setChan_phase (c : ChannelId) (x : Channel) (s : State) : (setChan c x s).phase = s.phase := rfl
@[simp] theorem setChan_cause (c : ChannelId) (x : Channel) (s : State) : (setChan c x s).cause = s.cause := rfl
@[simp] theorem setChan_mode (c : ChannelId) (x : Channel) (s : State) : (setChan c x s).mode = s.mode := rfl
@[simp] theorem setChan_resetWaiting (c : ChannelId) (x : Channel) (s : State) : (setChan c x s).resetWaiting = s.resetWaiting := rfl
@[simp] theorem setChan_rails (c : ChannelId) (x : Channel) (s : State) : (setChan c x s).rails = s.rails := rfl
@[simp] theorem setChan_en (c : ChannelId) (x : Channel) (s : State) : (setChan c x s).en = s.en := rfl
@[simp] theorem setChan_dis (c : ChannelId) (x : Channel) (s : State) : (setChan c x s).dis = s.dis := rfl
@[simp] theorem setChan_ctl (c : ChannelId) (x : Channel) (s : State) : (setChan c x s).ctl = s.ctl := rfl
@[simp] theorem setChan_chans (c : ChannelId) (x : Channel) (s : State) : (setChan c x s).chans = s.chans.set c x := rfl
@[simp] theorem setChan_marks (c : ChannelId) (x : Channel) (s : State) : (setChan c x s).marks = s.marks := rfl
@[simp] theorem setChan_conv (c : ChannelId) (x : Channel) (s : State) : (setChan c x s).conv = s.conv := rfl
@[simp] theorem setChan_line (c : ChannelId) (x : Channel) (s : State) : (setChan c x s).line = s.line := rfl
@[simp] theorem setChan_sync (c : ChannelId) (x : Channel) (s : State) : (setChan c x s).sync = s.sync := rfl
@[simp] theorem setChan_seq (c : ChannelId) (x : Channel) (s : State) : (setChan c x s).seq = s.seq := rfl
@[simp] theorem setChan_sched (c : ChannelId) (x : Channel) (s : State) : (setChan c x s).sched = s.sched := rfl
@[simp] theorem setChan_rtu (c : ChannelId) (x : Channel) (s : State) : (setChan c x s).rtu = s.rtu := rfl
@[simp] theorem setChan_ports (c : ChannelId) (x : Channel) (s : State) : (setChan c x s).ports = s.ports := rfl
@[simp] theorem setChan_up (c : ChannelId) (x : Channel) (s : State) : (setChan c x s).up = s.up := rfl
@[simp] theorem setChan_fwd (c : ChannelId) (x : Channel) (s : State) : (setChan c x s).fwd = s.fwd := rfl
@[simp] theorem setChan_ev (c : ChannelId) (x : Channel) (s : State) : (setChan c x s).ev = s.ev := rfl
@[simp] theorem setChan_store (c : ChannelId) (x : Channel) (s : State) : (setChan c x s).store = s.store := rfl

/-! ### setQueue -/

@[simp] theorem setQueue_pending (p : Port) (q : List Cmd) (s : State) : (setQueue p q s).pending = s.pending := rfl
@[simp] theorem setQueue_agenda (p : Port) (q : List Cmd) (s : State) : (setQueue p q s).agenda = s.agenda := rfl
@[simp] theorem setQueue_takeDue (p : Port) (q : List Cmd) (s : State) : (setQueue p q s).takeDue = s.takeDue := rfl
@[simp] theorem setQueue_now (p : Port) (q : List Cmd) (s : State) : (setQueue p q s).now = s.now := rfl
@[simp] theorem setQueue_choices (p : Port) (q : List Cmd) (s : State) : (setQueue p q s).choices = s.choices := rfl
@[simp] theorem setQueue_phase (p : Port) (q : List Cmd) (s : State) : (setQueue p q s).phase = s.phase := rfl
@[simp] theorem setQueue_cause (p : Port) (q : List Cmd) (s : State) : (setQueue p q s).cause = s.cause := rfl
@[simp] theorem setQueue_mode (p : Port) (q : List Cmd) (s : State) : (setQueue p q s).mode = s.mode := rfl
@[simp] theorem setQueue_resetWaiting (p : Port) (q : List Cmd) (s : State) : (setQueue p q s).resetWaiting = s.resetWaiting := rfl
@[simp] theorem setQueue_rails (p : Port) (q : List Cmd) (s : State) : (setQueue p q s).rails = s.rails := rfl
@[simp] theorem setQueue_en (p : Port) (q : List Cmd) (s : State) : (setQueue p q s).en = s.en := rfl
@[simp] theorem setQueue_dis (p : Port) (q : List Cmd) (s : State) : (setQueue p q s).dis = s.dis := rfl
@[simp] theorem setQueue_ctl (p : Port) (q : List Cmd) (s : State) : (setQueue p q s).ctl = s.ctl := rfl
@[simp] theorem setQueue_chans (p : Port) (q : List Cmd) (s : State) : (setQueue p q s).chans = s.chans := rfl
@[simp] theorem setQueue_marks (p : Port) (q : List Cmd) (s : State) : (setQueue p q s).marks = s.marks := rfl
@[simp] theorem setQueue_conv (p : Port) (q : List Cmd) (s : State) : (setQueue p q s).conv = s.conv := rfl
@[simp] theorem setQueue_line (p : Port) (q : List Cmd) (s : State) : (setQueue p q s).line = s.line := rfl
@[simp] theorem setQueue_sync (p : Port) (q : List Cmd) (s : State) : (setQueue p q s).sync = s.sync := rfl
@[simp] theorem setQueue_seq (p : Port) (q : List Cmd) (s : State) : (setQueue p q s).seq = s.seq := rfl
@[simp] theorem setQueue_sched (p : Port) (q : List Cmd) (s : State) : (setQueue p q s).sched = s.sched := rfl
@[simp] theorem setQueue_rtu (p : Port) (q : List Cmd) (s : State) : (setQueue p q s).rtu = s.rtu := rfl
@[simp] theorem setQueue_ports (p : Port) (q : List Cmd) (s : State) : (setQueue p q s).ports = s.ports := rfl
@[simp] theorem setQueue_up (p : Port) (q : List Cmd) (s : State) : (setQueue p q s).up = s.up := rfl
@[simp] theorem setQueue_fwd (p : Port) (q : List Cmd) (s : State) : (setQueue p q s).fwd = { s.fwd with queues := s.fwd.queues.set p.idx q } := rfl
@[simp] theorem setQueue_ev (p : Port) (q : List Cmd) (s : State) : (setQueue p q s).ev = s.ev := rfl
@[simp] theorem setQueue_store (p : Port) (q : List Cmd) (s : State) : (setQueue p q s).store = s.store := rfl

/-! ### setOuts -/

@[simp] theorem setOuts_pending (p : Port) (q : List OutEntry) (s : State) : (setOuts p q s).pending = s.pending := rfl
@[simp] theorem setOuts_agenda (p : Port) (q : List OutEntry) (s : State) : (setOuts p q s).agenda = s.agenda := rfl
@[simp] theorem setOuts_takeDue (p : Port) (q : List OutEntry) (s : State) : (setOuts p q s).takeDue = s.takeDue := rfl
@[simp] theorem setOuts_now (p : Port) (q : List OutEntry) (s : State) : (setOuts p q s).now = s.now := rfl
@[simp] theorem setOuts_choices (p : Port) (q : List OutEntry) (s : State) : (setOuts p q s).choices = s.choices := rfl
@[simp] theorem setOuts_phase (p : Port) (q : List OutEntry) (s : State) : (setOuts p q s).phase = s.phase := rfl
@[simp] theorem setOuts_cause (p : Port) (q : List OutEntry) (s : State) : (setOuts p q s).cause = s.cause := rfl
@[simp] theorem setOuts_mode (p : Port) (q : List OutEntry) (s : State) : (setOuts p q s).mode = s.mode := rfl
@[simp] theorem setOuts_resetWaiting (p : Port) (q : List OutEntry) (s : State) : (setOuts p q s).resetWaiting = s.resetWaiting := rfl
@[simp] theorem setOuts_rails (p : Port) (q : List OutEntry) (s : State) : (setOuts p q s).rails = s.rails := rfl
@[simp] theorem setOuts_en (p : Port) (q : List OutEntry) (s : State) : (setOuts p q s).en = s.en := rfl
@[simp] theorem setOuts_dis (p : Port) (q : List OutEntry) (s : State) : (setOuts p q s).dis = s.dis := rfl
@[simp] theorem setOuts_ctl (p : Port) (q : List OutEntry) (s : State) : (setOuts p q s).ctl = s.ctl := rfl
@[simp] theorem setOuts_chans (p : Port) (q : List OutEntry) (s : State) : (setOuts p q s).chans = s.chans := rfl
@[simp] theorem setOuts_marks (p : Port) (q : List OutEntry) (s : State) : (setOuts p q s).marks = s.marks := rfl
@[simp] theorem setOuts_conv (p : Port) (q : List OutEntry) (s : State) : (setOuts p q s).conv = s.conv := rfl
@[simp] theorem setOuts_line (p : Port) (q : List OutEntry) (s : State) : (setOuts p q s).line = s.line := rfl
@[simp] theorem setOuts_sync (p : Port) (q : List OutEntry) (s : State) : (setOuts p q s).sync = s.sync := rfl
@[simp] theorem setOuts_seq (p : Port) (q : List OutEntry) (s : State) : (setOuts p q s).seq = s.seq := rfl
@[simp] theorem setOuts_sched (p : Port) (q : List OutEntry) (s : State) : (setOuts p q s).sched = s.sched := rfl
@[simp] theorem setOuts_rtu (p : Port) (q : List OutEntry) (s : State) : (setOuts p q s).rtu = s.rtu := rfl
@[simp] theorem setOuts_ports (p : Port) (q : List OutEntry) (s : State) : (setOuts p q s).ports = s.ports := rfl
@[simp] theorem setOuts_up (p : Port) (q : List OutEntry) (s : State) : (setOuts p q s).up = s.up := rfl
@[simp] theorem setOuts_fwd (p : Port) (q : List OutEntry) (s : State) : (setOuts p q s).fwd = { s.fwd with outs := s.fwd.outs.set p.idx q } := rfl
@[simp] theorem setOuts_ev (p : Port) (q : List OutEntry) (s : State) : (setOuts p q s).ev = s.ev := rfl
@[simp] theorem setOuts_store (p : Port) (q : List OutEntry) (s : State) : (setOuts p q s).store = s.store := rfl

/-! ### setHold -/

@[simp] theorem setHold_pending (q : List HoldEntry) (s : State) : (setHold q s).pending = s.pending := rfl
@[simp] theorem setHold_agenda (q : List HoldEntry) (s : State) : (setHold q s).agenda = s.agenda := rfl
@[simp] theorem setHold_takeDue (q : List HoldEntry) (s : State) : (setHold q s).takeDue = s.takeDue := rfl
@[simp] theorem setHold_now (q : List HoldEntry) (s : State) : (setHold q s).now = s.now := rfl
@[simp] theorem setHold_choices (q : List HoldEntry) (s : State) : (setHold q s).choices = s.choices := rfl
@[simp] theorem setHold_phase (q : List HoldEntry) (s : State) : (setHold q s).phase = s.phase := rfl
@[simp] theorem setHold_cause (q : List HoldEntry) (s : State) : (setHold q s).cause = s.cause := rfl
@[simp] theorem setHold_mode (q : List HoldEntry) (s : State) : (setHold q s).mode = s.mode := rfl
@[simp] theorem setHold_resetWaiting (q : List HoldEntry) (s : State) : (setHold q s).resetWaiting = s.resetWaiting := rfl
@[simp] theorem setHold_rails (q : List HoldEntry) (s : State) : (setHold q s).rails = s.rails := rfl
@[simp] theorem setHold_en (q : List HoldEntry) (s : State) : (setHold q s).en = s.en := rfl
@[simp] theorem setHold_dis (q : List HoldEntry) (s : State) : (setHold q s).dis = s.dis := rfl
@[simp] theorem setHold_ctl (q : List HoldEntry) (s : State) : (setHold q s).ctl = s.ctl := rfl
@[simp] theorem setHold_chans (q : List HoldEntry) (s : State) : (setHold q s).chans = s.chans := rfl
@[simp] theorem setHold_marks (q : List HoldEntry) (s : State) : (setHold q s).marks = s.marks := rfl
@[simp] theorem setHold_conv (q : List HoldEntry) (s : State) : (setHold q s).conv = s.conv := rfl
@[simp] theorem setHold_line (q : List HoldEntry) (s : State) : (setHold q s).line = s.line := rfl
@[simp] theorem setHold_sync (q : List HoldEntry) (s : State) : (setHold q s).sync = s.sync := rfl
@[simp] theorem setHold_seq (q : List HoldEntry) (s : State) : (setHold q s).seq = s.seq := rfl
@[simp] theorem setHold_sched (q : List HoldEntry) (s : State) : (setHold q s).sched = s.sched := rfl
@[simp] theorem setHold_rtu (q : List HoldEntry) (s : State) : (setHold q s).rtu = s.rtu := rfl
@[simp] theorem setHold_ports (q : List HoldEntry) (s : State) : (setHold q s).ports = s.ports := rfl
@[simp] theorem setHold_up (q : List HoldEntry) (s : State) : (setHold q s).up = s.up := rfl
@[simp] theorem setHold_fwd (q : List HoldEntry) (s : State) : (setHold q s).fwd = { s.fwd with hold := q } := rfl
@[simp] theorem setHold_ev (q : List HoldEntry) (s : State) : (setHold q s).ev = s.ev := rfl
@[simp] theorem setHold_store (q : List HoldEntry) (s : State) : (setHold q s).store = s.store := rfl

/-! ### setCtx -/

@[simp] theorem setCtx_pending (c : Option Context) (s : State) : (setCtx c s).pending = s.pending := rfl
@[simp] theorem setCtx_agenda (c : Option Context) (s : State) : (setCtx c s).agenda = s.agenda := rfl
@[simp] theorem setCtx_takeDue (c : Option Context) (s : State) : (setCtx c s).takeDue = s.takeDue := rfl
@[simp] theorem setCtx_now (c : Option Context) (s : State) : (setCtx c s).now = s.now := rfl
@[simp] theorem setCtx_choices (c : Option Context) (s : State) : (setCtx c s).choices = s.choices := rfl
@[simp] theorem setCtx_phase (c : Option Context) (s : State) : (setCtx c s).phase = s.phase := rfl
@[simp] theorem setCtx_cause (c : Option Context) (s : State) : (setCtx c s).cause = s.cause := rfl
@[simp] theorem setCtx_mode (c : Option Context) (s : State) : (setCtx c s).mode = s.mode := rfl
@[simp] theorem setCtx_resetWaiting (c : Option Context) (s : State) : (setCtx c s).resetWaiting = s.resetWaiting := rfl
@[simp] theorem setCtx_rails (c : Option Context) (s : State) : (setCtx c s).rails = s.rails := rfl
@[simp] theorem setCtx_en (c : Option Context) (s : State) : (setCtx c s).en = s.en := rfl
@[simp] theorem setCtx_dis (c : Option Context) (s : State) : (setCtx c s).dis = s.dis := rfl
@[simp] theorem setCtx_ctl (c : Option Context) (s : State) : (setCtx c s).ctl = s.ctl := rfl
@[simp] theorem setCtx_chans (c : Option Context) (s : State) : (setCtx c s).chans = s.chans := rfl
@[simp] theorem setCtx_marks (c : Option Context) (s : State) : (setCtx c s).marks = s.marks := rfl
@[simp] theorem setCtx_conv (c : Option Context) (s : State) : (setCtx c s).conv = s.conv := rfl
@[simp] theorem setCtx_line (c : Option Context) (s : State) : (setCtx c s).line = s.line := rfl
@[simp] theorem setCtx_sync (c : Option Context) (s : State) : (setCtx c s).sync = s.sync := rfl
@[simp] theorem setCtx_seq (c : Option Context) (s : State) : (setCtx c s).seq = { s.seq with ctx := c } := rfl
@[simp] theorem setCtx_sched (c : Option Context) (s : State) : (setCtx c s).sched = s.sched := rfl
@[simp] theorem setCtx_rtu (c : Option Context) (s : State) : (setCtx c s).rtu = s.rtu := rfl
@[simp] theorem setCtx_ports (c : Option Context) (s : State) : (setCtx c s).ports = s.ports := rfl
@[simp] theorem setCtx_up (c : Option Context) (s : State) : (setCtx c s).up = s.up := rfl
@[simp] theorem setCtx_fwd (c : Option Context) (s : State) : (setCtx c s).fwd = s.fwd := rfl
@[simp] theorem setCtx_ev (c : Option Context) (s : State) : (setCtx c s).ev = s.ev := rfl
@[simp] theorem setCtx_store (c : Option Context) (s : State) : (setCtx c s).store = s.store := rfl

/-! ### setStore -/

@[simp] theorem setStore_pending (x : Store) (s : State) : (setStore x s).pending = s.pending := rfl
@[simp] theorem setStore_agenda (x : Store) (s : State) : (setStore x s).agenda = s.agenda := rfl
@[simp] theorem setStore_takeDue (x : Store) (s : State) : (setStore x s).takeDue = s.takeDue := rfl
@[simp] theorem setStore_now (x : Store) (s : State) : (setStore x s).now = s.now := rfl
@[simp] theorem setStore_choices (x : Store) (s : State) : (setStore x s).choices = s.choices := rfl
@[simp] theorem setStore_phase (x : Store) (s : State) : (setStore x s).phase = s.phase := rfl
@[simp] theorem setStore_cause (x : Store) (s : State) : (setStore x s).cause = s.cause := rfl
@[simp] theorem setStore_mode (x : Store) (s : State) : (setStore x s).mode = s.mode := rfl
@[simp] theorem setStore_resetWaiting (x : Store) (s : State) : (setStore x s).resetWaiting = s.resetWaiting := rfl
@[simp] theorem setStore_rails (x : Store) (s : State) : (setStore x s).rails = s.rails := rfl
@[simp] theorem setStore_en (x : Store) (s : State) : (setStore x s).en = s.en := rfl
@[simp] theorem setStore_dis (x : Store) (s : State) : (setStore x s).dis = s.dis := rfl
@[simp] theorem setStore_ctl (x : Store) (s : State) : (setStore x s).ctl = s.ctl := rfl
@[simp] theorem setStore_chans (x : Store) (s : State) : (setStore x s).chans = s.chans := rfl
@[simp] theorem setStore_marks (x : Store) (s : State) : (setStore x s).marks = s.marks := rfl
@[simp] theorem setStore_conv (x : Store) (s : State) : (setStore x s).conv = s.conv := rfl
@[simp] theorem setStore_line (x : Store) (s : State) : (setStore x s).line = s.line := rfl
@[simp] theorem setStore_sync (x : Store) (s : State) : (setStore x s).sync = s.sync := rfl
@[simp] theorem setStore_seq (x : Store) (s : State) : (setStore x s).seq = s.seq := rfl
@[simp] theorem setStore_sched (x : Store) (s : State) : (setStore x s).sched = s.sched := rfl
@[simp] theorem setStore_rtu (x : Store) (s : State) : (setStore x s).rtu = s.rtu := rfl
@[simp] theorem setStore_ports (x : Store) (s : State) : (setStore x s).ports = s.ports := rfl
@[simp] theorem setStore_up (x : Store) (s : State) : (setStore x s).up = s.up := rfl
@[simp] theorem setStore_fwd (x : Store) (s : State) : (setStore x s).fwd = s.fwd := rfl
@[simp] theorem setStore_ev (x : Store) (s : State) : (setStore x s).ev = s.ev := rfl
@[simp] theorem setStore_store (x : Store) (s : State) : (setStore x s).store = x := rfl

/-! ### setRtu -/

@[simp] theorem setRtu_pending (x : RideThrough) (s : State) : (setRtu x s).pending = s.pending := rfl
@[simp] theorem setRtu_agenda (x : RideThrough) (s : State) : (setRtu x s).agenda = s.agenda := rfl
@[simp] theorem setRtu_takeDue (x : RideThrough) (s : State) : (setRtu x s).takeDue = s.takeDue := rfl
@[simp] theorem setRtu_now (x : RideThrough) (s : State) : (setRtu x s).now = s.now := rfl
@[simp] theorem setRtu_choices (x : RideThrough) (s : State) : (setRtu x s).choices = s.choices := rfl
@[simp] theorem setRtu_phase (x : RideThrough) (s : State) : (setRtu x s).phase = s.phase := rfl
@[simp] theorem setRtu_cause (x : RideThrough) (s : State) : (setRtu x s).cause = s.cause := rfl
@[simp] theorem setRtu_mode (x : RideThrough) (s : State) : (setRtu x s).mode = s.mode := rfl
@[simp] theorem setRtu_resetWaiting (x : RideThrough) (s : State) : (setRtu x s).resetWaiting = s.resetWaiting := rfl
@[simp] theorem setRtu_rails (x : RideThrough) (s : State) : (setRtu x s).rails = s.rails := rfl
@[simp] theorem setRtu_en (x : RideThrough) (s : State) : (setRtu x s).en = s.en := rfl
@[simp] theorem setRtu_dis (x : RideThrough) (s : State) : (setRtu x s).dis = s.dis := rfl
@[simp] theorem setRtu_ctl (x : RideThrough) (s : State) : (setRtu x s).ctl = s.ctl := rfl
@[simp] theorem setRtu_chans (x : RideThrough) (s : State) : (setRtu x s).chans = s.chans := rfl
@[simp] theorem setRtu_marks (x : RideThrough) (s : State) : (setRtu x s).marks = s.marks := rfl
@[simp] theorem setRtu_conv (x : RideThrough) (s : State) : (setRtu x s).conv = s.conv := rfl
@[simp] theorem setRtu_line (x : RideThrough) (s : State) : (setRtu x s).line = s.line := rfl
@[simp] theorem setRtu_sync (x : RideThrough) (s : State) : (setRtu x s).sync = s.sync := rfl
@[simp] theorem setRtu_seq (x : RideThrough) (s : State) : (setRtu x s).seq = s.seq := rfl
@[simp] theorem setRtu_sched (x : RideThrough) (s : State) : (setRtu x s).sched = s.sched := rfl
@[simp] theorem setRtu_rtu (x : RideThrough) (s : State) : (setRtu x s).rtu = x := rfl
@[simp] theorem setRtu_ports (x : RideThrough) (s : State) : (setRtu x s).ports = s.ports := rfl
@[simp] theorem setRtu_up (x : RideThrough) (s : State) : (setRtu x s).up = s.up := rfl
@[simp] theorem setRtu_fwd (x : RideThrough) (s : State) : (setRtu x s).fwd = s.fwd := rfl
@[simp] theorem setRtu_ev (x : RideThrough) (s : State) : (setRtu x s).ev = s.ev := rfl
@[simp] theorem setRtu_store (x : RideThrough) (s : State) : (setRtu x s).store = s.store := rfl

/-! ### setLine -/

@[simp] theorem setLine_pending (x : LineMonitor) (s : State) : (setLine x s).pending = s.pending := rfl
@[simp] theorem setLine_agenda (x : LineMonitor) (s : State) : (setLine x s).agenda = s.agenda := rfl
@[simp] theorem setLine_takeDue (x : LineMonitor) (s : State) : (setLine x s).takeDue = s.takeDue := rfl
@[simp] theorem setLine_now (x : LineMonitor) (s : State) : (setLine x s).now = s.now := rfl
@[simp] theorem setLine_choices (x : LineMonitor) (s : State) : (setLine x s).choices = s.choices := rfl
@[simp] theorem setLine_phase (x : LineMonitor) (s : State) : (setLine x s).phase = s.phase := rfl
@[simp] theorem setLine_cause (x : LineMonitor) (s : State) : (setLine x s).cause = s.cause := rfl
@[simp] theorem setLine_mode (x : LineMonitor) (s : State) : (setLine x s).mode = s.mode := rfl
@[simp] theorem setLine_resetWaiting (x : LineMonitor) (s : State) : (setLine x s).resetWaiting = s.resetWaiting := rfl
@[simp] theorem setLine_rails (x : LineMonitor) (s : State) : (setLine x s).rails = s.rails := rfl
@[simp] theorem setLine_en (x : LineMonitor) (s : State) : (setLine x s).en = s.en := rfl
@[simp] theorem setLine_dis (x : LineMonitor) (s : State) : (setLine x s).dis = s.dis := rfl
@[simp] theorem setLine_ctl (x : LineMonitor) (s : State) : (setLine x s).ctl = s.ctl := rfl
@[simp] theorem setLine_chans (x : LineMonitor) (s : State) : (setLine x s).chans = s.chans := rfl
@[simp] theorem setLine_marks (x : LineMonitor) (s : State) : (setLine x s).marks = s.marks := rfl
@[simp] theorem setLine_conv (x : LineMonitor) (s : State) : (setLine x s).conv = s.conv := rfl
@[simp] theorem setLine_line (x : LineMonitor) (s : State) : (setLine x s).line = x := rfl
@[simp] theorem setLine_sync (x : LineMonitor) (s : State) : (setLine x s).sync = s.sync := rfl
@[simp] theorem setLine_seq (x : LineMonitor) (s : State) : (setLine x s).seq = s.seq := rfl
@[simp] theorem setLine_sched (x : LineMonitor) (s : State) : (setLine x s).sched = s.sched := rfl
@[simp] theorem setLine_rtu (x : LineMonitor) (s : State) : (setLine x s).rtu = s.rtu := rfl
@[simp] theorem setLine_ports (x : LineMonitor) (s : State) : (setLine x s).ports = s.ports := rfl
@[simp] theorem setLine_up (x : LineMonitor) (s : State) : (setLine x s).up = s.up := rfl
@[simp] theorem setLine_fwd (x : LineMonitor) (s : State) : (setLine x s).fwd = s.fwd := rfl
@[simp] theorem setLine_ev (x : LineMonitor) (s : State) : (setLine x s).ev = s.ev := rfl
@[simp] theorem setLine_store (x : LineMonitor) (s : State) : (setLine x s).store = s.store := rfl

/-! ### setRunning -/

@[simp] theorem setRunning_pending (x : Option Running) (s : State) : (setRunning x s).pending = s.pending := rfl
@[simp] theorem setRunning_agenda (x : Option Running) (s : State) : (setRunning x s).agenda = s.agenda := rfl
@[simp] theorem setRunning_takeDue (x : Option Running) (s : State) : (setRunning x s).takeDue = s.takeDue := rfl
@[simp] theorem setRunning_now (x : Option Running) (s : State) : (setRunning x s).now = s.now := rfl
@[simp] theorem setRunning_choices (x : Option Running) (s : State) : (setRunning x s).choices = s.choices := rfl
@[simp] theorem setRunning_phase (x : Option Running) (s : State) : (setRunning x s).phase = s.phase := rfl
@[simp] theorem setRunning_cause (x : Option Running) (s : State) : (setRunning x s).cause = s.cause := rfl
@[simp] theorem setRunning_mode (x : Option Running) (s : State) : (setRunning x s).mode = s.mode := rfl
@[simp] theorem setRunning_resetWaiting (x : Option Running) (s : State) : (setRunning x s).resetWaiting = s.resetWaiting := rfl
@[simp] theorem setRunning_rails (x : Option Running) (s : State) : (setRunning x s).rails = s.rails := rfl
@[simp] theorem setRunning_en (x : Option Running) (s : State) : (setRunning x s).en = s.en := rfl
@[simp] theorem setRunning_dis (x : Option Running) (s : State) : (setRunning x s).dis = s.dis := rfl
@[simp] theorem setRunning_ctl (x : Option Running) (s : State) : (setRunning x s).ctl = s.ctl := rfl
@[simp] theorem setRunning_chans (x : Option Running) (s : State) : (setRunning x s).chans = s.chans := rfl
@[simp] theorem setRunning_marks (x : Option Running) (s : State) : (setRunning x s).marks = s.marks := rfl
@[simp] theorem setRunning_conv (x : Option Running) (s : State) : (setRunning x s).conv = s.conv := rfl
@[simp] theorem setRunning_line (x : Option Running) (s : State) : (setRunning x s).line = s.line := rfl
@[simp] theorem setRunning_sync (x : Option Running) (s : State) : (setRunning x s).sync = s.sync := rfl
@[simp] theorem setRunning_seq (x : Option Running) (s : State) : (setRunning x s).seq = s.seq := rfl
@[simp] theorem setRunning_sched (x : Option Running) (s : State) : (setRunning x s).sched = { s.sched with running := x } := rfl
@[simp] theorem setRunning_rtu (x : Option Running) (s : State) : (setRunning x s).rtu = s.rtu := rfl
@[simp] theorem setRunning_ports (x : Option Running) (s : State) : (setRunning x s).ports = s.ports := rfl
@[simp] theorem setRunning_up (x : Option Running) (s : State) : (setRunning x s).up = s.up := rfl
@[simp] theorem setRunning_fwd (x : Option Running) (s : State) : (setRunning x s).fwd = s.fwd := rfl
@[simp] theorem setRunning_ev (x : Option Running) (s : State) : (setRunning x s).ev = s.ev := rfl
@[simp] theorem setRunning_store (x : Option Running) (s : State) : (setRunning x s).store = s.store := rfl

/-! ### setRequests -/

@[simp] theorem setRequests_pending (q : List Entry) (s : State) : (setRequests q s).pending = s.pending := rfl
@[simp] theorem setRequests_agenda (q : List Entry) (s : State) : (setRequests q s).agenda = s.agenda := rfl
@[simp] theorem setRequests_takeDue (q : List Entry) (s : State) : (setRequests q s).takeDue = s.takeDue := rfl
@[simp] theorem setRequests_now (q : List Entry) (s : State) : (setRequests q s).now = s.now := rfl
@[simp] theorem setRequests_choices (q : List Entry) (s : State) : (setRequests q s).choices = s.choices := rfl
@[simp] theorem setRequests_phase (q : List Entry) (s : State) : (setRequests q s).phase = s.phase := rfl
@[simp] theorem setRequests_cause (q : List Entry) (s : State) : (setRequests q s).cause = s.cause := rfl
@[simp] theorem setRequests_mode (q : List Entry) (s : State) : (setRequests q s).mode = s.mode := rfl
@[simp] theorem setRequests_resetWaiting (q : List Entry) (s : State) : (setRequests q s).resetWaiting = s.resetWaiting := rfl
@[simp] theorem setRequests_rails (q : List Entry) (s : State) : (setRequests q s).rails = s.rails := rfl
@[simp] theorem setRequests_en (q : List Entry) (s : State) : (setRequests q s).en = s.en := rfl
@[simp] theorem setRequests_dis (q : List Entry) (s : State) : (setRequests q s).dis = s.dis := rfl
@[simp] theorem setRequests_ctl (q : List Entry) (s : State) : (setRequests q s).ctl = s.ctl := rfl
@[simp] theorem setRequests_chans (q : List Entry) (s : State) : (setRequests q s).chans = s.chans := rfl
@[simp] theorem setRequests_marks (q : List Entry) (s : State) : (setRequests q s).marks = s.marks := rfl
@[simp] theorem setRequests_conv (q : List Entry) (s : State) : (setRequests q s).conv = s.conv := rfl
@[simp] theorem setRequests_line (q : List Entry) (s : State) : (setRequests q s).line = s.line := rfl
@[simp] theorem setRequests_sync (q : List Entry) (s : State) : (setRequests q s).sync = s.sync := rfl
@[simp] theorem setRequests_seq (q : List Entry) (s : State) : (setRequests q s).seq = s.seq := rfl
@[simp] theorem setRequests_sched (q : List Entry) (s : State) : (setRequests q s).sched = { s.sched with queue := q } := rfl
@[simp] theorem setRequests_rtu (q : List Entry) (s : State) : (setRequests q s).rtu = s.rtu := rfl
@[simp] theorem setRequests_ports (q : List Entry) (s : State) : (setRequests q s).ports = s.ports := rfl
@[simp] theorem setRequests_up (q : List Entry) (s : State) : (setRequests q s).up = s.up := rfl
@[simp] theorem setRequests_fwd (q : List Entry) (s : State) : (setRequests q s).fwd = s.fwd := rfl
@[simp] theorem setRequests_ev (q : List Entry) (s : State) : (setRequests q s).ev = s.ev := rfl
@[simp] theorem setRequests_store (q : List Entry) (s : State) : (setRequests q s).store = s.store := rfl

/-! ### setResult -/

@[simp] theorem setResult_pending (x : Result) (s : State) : (setResult x s).pending = s.pending := rfl
@[simp] theorem setResult_agenda (x : Result) (s : State) : (setResult x s).agenda = s.agenda := rfl
@[simp] theorem setResult_takeDue (x : Result) (s : State) : (setResult x s).takeDue = s.takeDue := rfl
@[simp] theorem setResult_now (x : Result) (s : State) : (setResult x s).now = s.now := rfl
@[simp] theorem setResult_choices (x : Result) (s : State) : (setResult x s).choices = s.choices := rfl
@[simp] theorem setResult_phase (x : Result) (s : State) : (setResult x s).phase = s.phase := rfl
@[simp] theorem setResult_cause (x : Result) (s : State) : (setResult x s).cause = s.cause := rfl
@[simp] theorem setResult_mode (x : Result) (s : State) : (setResult x s).mode = s.mode := rfl
@[simp] theorem setResult_resetWaiting (x : Result) (s : State) : (setResult x s).resetWaiting = s.resetWaiting := rfl
@[simp] theorem setResult_rails (x : Result) (s : State) : (setResult x s).rails = s.rails := rfl
@[simp] theorem setResult_en (x : Result) (s : State) : (setResult x s).en = s.en := rfl
@[simp] theorem setResult_dis (x : Result) (s : State) : (setResult x s).dis = s.dis := rfl
@[simp] theorem setResult_ctl (x : Result) (s : State) : (setResult x s).ctl = s.ctl := rfl
@[simp] theorem setResult_chans (x : Result) (s : State) : (setResult x s).chans = s.chans := rfl
@[simp] theorem setResult_marks (x : Result) (s : State) : (setResult x s).marks = s.marks := rfl
@[simp] theorem setResult_conv (x : Result) (s : State) : (setResult x s).conv = s.conv := rfl
@[simp] theorem setResult_line (x : Result) (s : State) : (setResult x s).line = s.line := rfl
@[simp] theorem setResult_sync (x : Result) (s : State) : (setResult x s).sync = s.sync := rfl
@[simp] theorem setResult_seq (x : Result) (s : State) : (setResult x s).seq = s.seq := rfl
@[simp] theorem setResult_sched (x : Result) (s : State) : (setResult x s).sched = { s.sched with last := some x } := rfl
@[simp] theorem setResult_rtu (x : Result) (s : State) : (setResult x s).rtu = s.rtu := rfl
@[simp] theorem setResult_ports (x : Result) (s : State) : (setResult x s).ports = s.ports := rfl
@[simp] theorem setResult_up (x : Result) (s : State) : (setResult x s).up = s.up := rfl
@[simp] theorem setResult_fwd (x : Result) (s : State) : (setResult x s).fwd = s.fwd := rfl
@[simp] theorem setResult_ev (x : Result) (s : State) : (setResult x s).ev = s.ev := rfl
@[simp] theorem setResult_store (x : Result) (s : State) : (setResult x s).store = s.store := rfl

/-! ### Reading back what was written -/

theorem get_set {α : Type} {n : Nat} (v : Vector α n) (i j : Fin n) (x : α) :
    (v.set i x).get j = if j = i then x else v.get j := by
  show (v.set i.val x)[j.val] = _
  rw [Vector.getElem_set]
  by_cases h : i.val = j.val
  · rw [if_pos h, if_pos (Fin.ext h.symm)]
  · rw [if_neg h, if_neg (fun e => h (by rw [e]))]; rfl

@[simp] theorem get_ofFn {α : Type} {n : Nat} (f : Fin n → α) (i : Fin n) : (Vector.ofFn f).get i = f i := by
  show (Vector.ofFn f)[i.val] = _
  simp

theorem rail_setRail (r q : RailId) (x : Rail) (s : State) :
    (setRail r x s).rail q = if q = r then x else s.rail q := by
  exact get_set s.rails r q x

@[simp] theorem rail_setRail_self (r : RailId) (x : Rail) (s : State) : (setRail r x s).rail r = x := by
  simp [rail_setRail]

@[simp] theorem rail_modDyn_self (r : RailId) (f : RailDynamic → RailDynamic) (s : State) :
    (modDyn r f s).rail r = { s.rail r with dyn := f (s.rail r).dyn } := by
  simp [modDyn]

theorem rail_modDyn (r q : RailId) (f : RailDynamic → RailDynamic) (s : State) :
    (modDyn r f s).rail q = if q = r then { s.rail r with dyn := f (s.rail r).dyn } else s.rail q := by
  simp [modDyn, rail_setRail]

/-- No update of a rail's dynamic half changes any static half (R1). -/
@[simp] theorem static_modDyn (r q : RailId) (f : RailDynamic → RailDynamic) (s : State) :
    ((modDyn r f s).rail q).static = (s.rail q).static := by
  rw [rail_modDyn]; split
  · next h => subst h; rfl
  · rfl

theorem idx_inj {p q : Port} (h : p.idx = q.idx) : p = q := by
  cases p <;> cases q <;> first | rfl | exact absurd h (by decide)

theorem get_set_idx {α : Type} (v : Vector α 5) (p q : Port) (x : α) :
    (v.set p.idx x).get q.idx = if q = p then x else v.get q.idx := by
  by_cases h : q = p
  · subst h; rw [get_set, if_pos rfl, if_pos rfl]
  · rw [get_set, if_neg (fun e => h (idx_inj e)), if_neg h]

theorem port_setPort (p q : Port) (x : PortRec) (s : State) :
    (setPort p x s).port q = if q = p then x else s.port q := by
  exact get_set_idx s.ports p q x

@[simp] theorem port_setPort_self (p : Port) (x : PortRec) (s : State) : (setPort p x s).port p = x := by
  simp [port_setPort]

@[simp] theorem port_modPort_self (p : Port) (f : PortRec → PortRec) (s : State) :
    (modPort p f s).port p = f (s.port p) := by simp [modPort]

theorem port_modPort (p q : Port) (f : PortRec → PortRec) (s : State) :
    (modPort p f s).port q = if q = p then f (s.port p) else s.port q := by simp [modPort, port_setPort]

theorem chan_setChan (c d : ChannelId) (x : Channel) (s : State) :
    (setChan c x s).chan d = if d = c then x else s.chan d := by
  exact get_set s.chans c d x

@[simp] theorem chan_setChan_self (c : ChannelId) (x : Channel) (s : State) : (setChan c x s).chan c = x := by
  simp [chan_setChan]

theorem queue_setQueue (p q : Port) (x : List Cmd) (s : State) :
    (setQueue p x s).queue q = if q = p then x else s.queue q := by
  exact get_set_idx s.fwd.queues p q x

@[simp] theorem queue_setQueue_self (p : Port) (x : List Cmd) (s : State) : (setQueue p x s).queue p = x := by
  simp [queue_setQueue]

theorem outs_setOuts (p q : Port) (x : List OutEntry) (s : State) :
    (setOuts p x s).outs q = if q = p then x else s.outs q := by
  exact get_set_idx s.fwd.outs p q x

@[simp] theorem outs_setOuts_self (p : Port) (x : List OutEntry) (s : State) : (setOuts p x s).outs p = x := by
  simp [outs_setOuts]

end Sys2Proof.Machine
end

