-- ==== Sys2Proof/Laws/Replies.lean ====
section
/-! SUPPORT. What the taking of a frame and the placing of a reply leave, field by field. -/

namespace Sys2Proof.Machine

/-! ### taken -/

@[simp] theorem taken_pending (s : State) : s.taken.pending = s.pending := rfl
@[simp] theorem taken_agenda (s : State) : s.taken.agenda = s.agenda := rfl
@[simp] theorem taken_takeDue (s : State) : s.taken.takeDue = s.takeDue := rfl
@[simp] theorem taken_now (s : State) : s.taken.now = s.now := rfl
@[simp] theorem taken_choices (s : State) : s.taken.choices = s.choices := rfl
@[simp] theorem taken_phase (s : State) : s.taken.phase = s.phase := rfl
@[simp] theorem taken_cause (s : State) : s.taken.cause = s.cause := rfl
@[simp] theorem taken_mode (s : State) : s.taken.mode = .active := rfl
@[simp] theorem taken_resetWaiting (s : State) : s.taken.resetWaiting = s.resetWaiting := rfl
@[simp] theorem taken_rails (s : State) : s.taken.rails = s.rails := rfl
@[simp] theorem taken_en (s : State) : s.taken.en = s.en := rfl
@[simp] theorem taken_dis (s : State) : s.taken.dis = s.dis := rfl
@[simp] theorem taken_ctl (s : State) : s.taken.ctl = s.ctl := rfl
@[simp] theorem taken_chans (s : State) : s.taken.chans = s.chans := rfl
@[simp] theorem taken_marks (s : State) : s.taken.marks = s.marks := rfl
@[simp] theorem taken_conv (s : State) : s.taken.conv = s.conv := rfl
@[simp] theorem taken_line (s : State) : s.taken.line = s.line := rfl
@[simp] theorem taken_sync (s : State) : s.taken.sync = s.sync := rfl
@[simp] theorem taken_seq (s : State) : s.taken.seq = s.seq := rfl
@[simp] theorem taken_sched (s : State) : s.taken.sched = s.sched := rfl
@[simp] theorem taken_rtu (s : State) : s.taken.rtu = s.rtu := rfl
@[simp] theorem taken_ports (s : State) : s.taken.ports = s.ports := rfl
@[simp] theorem taken_up (s : State) : s.taken.up = { s.up with replyTaken := s.up.replyTaken + 1 } := rfl
@[simp] theorem taken_fwd (s : State) : s.taken.fwd = s.fwd := rfl
@[simp] theorem taken_ev (s : State) : s.taken.ev = s.ev := rfl
@[simp] theorem taken_store (s : State) : s.taken.store = s.store := rfl
@[simp] theorem rail_taken (s : State) (r : RailId) : s.taken.rail r = s.rail r := rfl
@[simp] theorem port_taken (s : State) (q : Port) : s.taken.port q = s.port q := rfl
@[simp] theorem chan_taken (s : State) (k : ChannelId) : s.taken.chan k = s.chan k := rfl
@[simp] theorem queue_taken (s : State) (q : Port) : s.taken.queue q = s.queue q := rfl
@[simp] theorem outs_taken (s : State) (q : Port) : s.taken.outs q = s.outs q := rfl
@[simp] theorem stepAt_taken (s : State) (i : Nat) : s.taken.stepAt i = s.stepAt i := rfl
@[simp] theorem header_taken (s : State) (m : ProgNo) : s.taken.header m = s.header m := rfl
@[simp] theorem template_taken (s : State) (m : Fin 16) : s.taken.template m = s.template m := rfl
@[simp] theorem railState_taken (s : State) (r : RailId) : s.taken.railState r = s.railState r := rfl
@[simp] theorem isUp_taken (s : State) (q : Port) : s.taken.isUp q = s.isUp q := rfl
@[simp] theorem isRunning_taken (s : State) (m : ProgNo) : s.taken.isRunning m = s.isRunning m := rfl
@[simp] theorem isQueued_taken (s : State) (m : ProgNo) : s.taken.isQueued m = s.isQueued m := rfl
@[simp] theorem allOn_taken (s : State) (b : BitVec 24) : s.taken.allOn b = s.allOn b := rfl
@[simp] theorem pathAvailable_taken (s : State) (r : RailId) : s.taken.pathAvailable r = s.pathAvailable r := rfl
@[simp] theorem rangeOf_taken (s : State) (m : ProgNo) : s.taken.rangeOf m = s.rangeOf m := rfl

/-! ### placed -/

@[simp] theorem placed_pending (s : State) (e : UpEntry) : (s.placed e).pending = s.pending := rfl
@[simp] theorem placed_agenda (s : State) (e : UpEntry) : (s.placed e).agenda = s.agenda := rfl
@[simp] theorem placed_takeDue (s : State) (e : UpEntry) : (s.placed e).takeDue = s.takeDue := rfl
@[simp] theorem placed_now (s : State) (e : UpEntry) : (s.placed e).now = s.now := rfl
@[simp] theorem placed_choices (s : State) (e : UpEntry) : (s.placed e).choices = s.choices := rfl
@[simp] theorem placed_phase (s : State) (e : UpEntry) : (s.placed e).phase = s.phase := rfl
@[simp] theorem placed_cause (s : State) (e : UpEntry) : (s.placed e).cause = s.cause := rfl
@[simp] theorem placed_mode (s : State) (e : UpEntry) : (s.placed e).mode = s.mode := rfl
@[simp] theorem placed_resetWaiting (s : State) (e : UpEntry) : (s.placed e).resetWaiting = s.resetWaiting := rfl
@[simp] theorem placed_rails (s : State) (e : UpEntry) : (s.placed e).rails = s.rails := rfl
@[simp] theorem placed_en (s : State) (e : UpEntry) : (s.placed e).en = s.en := rfl
@[simp] theorem placed_dis (s : State) (e : UpEntry) : (s.placed e).dis = s.dis := rfl
@[simp] theorem placed_ctl (s : State) (e : UpEntry) : (s.placed e).ctl = s.ctl := rfl
@[simp] theorem placed_chans (s : State) (e : UpEntry) : (s.placed e).chans = s.chans := rfl
@[simp] theorem placed_marks (s : State) (e : UpEntry) : (s.placed e).marks = s.marks := rfl
@[simp] theorem placed_conv (s : State) (e : UpEntry) : (s.placed e).conv = s.conv := rfl
@[simp] theorem placed_line (s : State) (e : UpEntry) : (s.placed e).line = s.line := rfl
@[simp] theorem placed_sync (s : State) (e : UpEntry) : (s.placed e).sync = s.sync := rfl
@[simp] theorem placed_seq (s : State) (e : UpEntry) : (s.placed e).seq = s.seq := rfl
@[simp] theorem placed_sched (s : State) (e : UpEntry) : (s.placed e).sched = s.sched := rfl
@[simp] theorem placed_rtu (s : State) (e : UpEntry) : (s.placed e).rtu = s.rtu := rfl
@[simp] theorem placed_ports (s : State) (e : UpEntry) : (s.placed e).ports = s.ports := rfl
@[simp] theorem placed_up (s : State) (e : UpEntry) : (s.placed e).up = { s.up with tx := s.up.tx ++ [e] } := rfl
@[simp] theorem placed_fwd (s : State) (e : UpEntry) : (s.placed e).fwd = s.fwd := rfl
@[simp] theorem placed_ev (s : State) (e : UpEntry) : (s.placed e).ev = s.ev := rfl
@[simp] theorem placed_store (s : State) (e : UpEntry) : (s.placed e).store = s.store := rfl
@[simp] theorem rail_placed (s : State) (e : UpEntry) (r : RailId) : (s.placed e).rail r = s.rail r := rfl
@[simp] theorem port_placed (s : State) (e : UpEntry) (q : Port) : (s.placed e).port q = s.port q := rfl
@[simp] theorem chan_placed (s : State) (e : UpEntry) (k : ChannelId) : (s.placed e).chan k = s.chan k := rfl
@[simp] theorem queue_placed (s : State) (e : UpEntry) (q : Port) : (s.placed e).queue q = s.queue q := rfl
@[simp] theorem outs_placed (s : State) (e : UpEntry) (q : Port) : (s.placed e).outs q = s.outs q := rfl
@[simp] theorem stepAt_placed (s : State) (e : UpEntry) (i : Nat) : (s.placed e).stepAt i = s.stepAt i := rfl
@[simp] theorem header_placed (s : State) (e : UpEntry) (m : ProgNo) : (s.placed e).header m = s.header m := rfl
@[simp] theorem template_placed (s : State) (e : UpEntry) (m : Fin 16) : (s.placed e).template m = s.template m := rfl
@[simp] theorem railState_placed (s : State) (e : UpEntry) (r : RailId) : (s.placed e).railState r = s.railState r := rfl
@[simp] theorem isUp_placed (s : State) (e : UpEntry) (q : Port) : (s.placed e).isUp q = s.isUp q := rfl
@[simp] theorem isRunning_placed (s : State) (e : UpEntry) (m : ProgNo) : (s.placed e).isRunning m = s.isRunning m := rfl
@[simp] theorem isQueued_placed (s : State) (e : UpEntry) (m : ProgNo) : (s.placed e).isQueued m = s.isQueued m := rfl
@[simp] theorem allOn_placed (s : State) (e : UpEntry) (b : BitVec 24) : (s.placed e).allOn b = s.allOn b := rfl
@[simp] theorem pathAvailable_placed (s : State) (e : UpEntry) (r : RailId) : (s.placed e).pathAvailable r = s.pathAvailable r := rfl
@[simp] theorem rangeOf_placed (s : State) (e : UpEntry) (m : ProgNo) : (s.placed e).rangeOf m = s.rangeOf m := rfl

/-! ### answered -/

@[simp] theorem answered_pending (s : State) (f : Frame) (st : Byte) (d : List Byte) : (s.answered f st d).pending = s.pending := rfl
@[simp] theorem answered_agenda (s : State) (f : Frame) (st : Byte) (d : List Byte) : (s.answered f st d).agenda = s.agenda := rfl
@[simp] theorem answered_takeDue (s : State) (f : Frame) (st : Byte) (d : List Byte) : (s.answered f st d).takeDue = s.takeDue := rfl
@[simp] theorem answered_now (s : State) (f : Frame) (st : Byte) (d : List Byte) : (s.answered f st d).now = s.now := rfl
@[simp] theorem answered_choices (s : State) (f : Frame) (st : Byte) (d : List Byte) : (s.answered f st d).choices = s.choices := rfl
@[simp] theorem answered_phase (s : State) (f : Frame) (st : Byte) (d : List Byte) : (s.answered f st d).phase = s.phase := rfl
@[simp] theorem answered_cause (s : State) (f : Frame) (st : Byte) (d : List Byte) : (s.answered f st d).cause = s.cause := rfl
@[simp] theorem answered_mode (s : State) (f : Frame) (st : Byte) (d : List Byte) : (s.answered f st d).mode = s.mode := rfl
@[simp] theorem answered_resetWaiting (s : State) (f : Frame) (st : Byte) (d : List Byte) : (s.answered f st d).resetWaiting = s.resetWaiting := rfl
@[simp] theorem answered_rails (s : State) (f : Frame) (st : Byte) (d : List Byte) : (s.answered f st d).rails = s.rails := rfl
@[simp] theorem answered_en (s : State) (f : Frame) (st : Byte) (d : List Byte) : (s.answered f st d).en = s.en := rfl
@[simp] theorem answered_dis (s : State) (f : Frame) (st : Byte) (d : List Byte) : (s.answered f st d).dis = s.dis := rfl
@[simp] theorem answered_ctl (s : State) (f : Frame) (st : Byte) (d : List Byte) : (s.answered f st d).ctl = s.ctl := rfl
@[simp] theorem answered_chans (s : State) (f : Frame) (st : Byte) (d : List Byte) : (s.answered f st d).chans = s.chans := rfl
@[simp] theorem answered_marks (s : State) (f : Frame) (st : Byte) (d : List Byte) : (s.answered f st d).marks = s.marks := rfl
@[simp] theorem answered_conv (s : State) (f : Frame) (st : Byte) (d : List Byte) : (s.answered f st d).conv = s.conv := rfl
@[simp] theorem answered_line (s : State) (f : Frame) (st : Byte) (d : List Byte) : (s.answered f st d).line = s.line := rfl
@[simp] theorem answered_sync (s : State) (f : Frame) (st : Byte) (d : List Byte) : (s.answered f st d).sync = s.sync := rfl
@[simp] theorem answered_seq (s : State) (f : Frame) (st : Byte) (d : List Byte) : (s.answered f st d).seq = s.seq := rfl
@[simp] theorem answered_sched (s : State) (f : Frame) (st : Byte) (d : List Byte) : (s.answered f st d).sched = s.sched := rfl
@[simp] theorem answered_rtu (s : State) (f : Frame) (st : Byte) (d : List Byte) : (s.answered f st d).rtu = s.rtu := rfl
@[simp] theorem answered_ports (s : State) (f : Frame) (st : Byte) (d : List Byte) : (s.answered f st d).ports = s.ports := rfl
@[simp] theorem answered_up (s : State) (f : Frame) (st : Byte) (d : List Byte) : (s.answered f st d).up = { s.up with tx := s.up.tx ++ [replyEntry (replyFrame f st d)] } := rfl
@[simp] theorem answered_fwd (s : State) (f : Frame) (st : Byte) (d : List Byte) : (s.answered f st d).fwd = s.fwd := rfl
@[simp] theorem answered_ev (s : State) (f : Frame) (st : Byte) (d : List Byte) : (s.answered f st d).ev = s.ev := rfl
@[simp] theorem answered_store (s : State) (f : Frame) (st : Byte) (d : List Byte) : (s.answered f st d).store = s.store := rfl
@[simp] theorem rail_answered (s : State) (f : Frame) (st : Byte) (d : List Byte) (r : RailId) : (s.answered f st d).rail r = s.rail r := rfl
@[simp] theorem port_answered (s : State) (f : Frame) (st : Byte) (d : List Byte) (q : Port) : (s.answered f st d).port q = s.port q := rfl
@[simp] theorem chan_answered (s : State) (f : Frame) (st : Byte) (d : List Byte) (k : ChannelId) : (s.answered f st d).chan k = s.chan k := rfl
@[simp] theorem queue_answered (s : State) (f : Frame) (st : Byte) (d : List Byte) (q : Port) : (s.answered f st d).queue q = s.queue q := rfl
@[simp] theorem outs_answered (s : State) (f : Frame) (st : Byte) (d : List Byte) (q : Port) : (s.answered f st d).outs q = s.outs q := rfl
@[simp] theorem stepAt_answered (s : State) (f : Frame) (st : Byte) (d : List Byte) (i : Nat) : (s.answered f st d).stepAt i = s.stepAt i := rfl
@[simp] theorem header_answered (s : State) (f : Frame) (st : Byte) (d : List Byte) (m : ProgNo) : (s.answered f st d).header m = s.header m := rfl
@[simp] theorem template_answered (s : State) (f : Frame) (st : Byte) (d : List Byte) (m : Fin 16) : (s.answered f st d).template m = s.template m := rfl
@[simp] theorem railState_answered (s : State) (f : Frame) (st : Byte) (d : List Byte) (r : RailId) : (s.answered f st d).railState r = s.railState r := rfl
@[simp] theorem isUp_answered (s : State) (f : Frame) (st : Byte) (d : List Byte) (q : Port) : (s.answered f st d).isUp q = s.isUp q := rfl
@[simp] theorem isRunning_answered (s : State) (f : Frame) (st : Byte) (d : List Byte) (m : ProgNo) : (s.answered f st d).isRunning m = s.isRunning m := rfl
@[simp] theorem isQueued_answered (s : State) (f : Frame) (st : Byte) (d : List Byte) (m : ProgNo) : (s.answered f st d).isQueued m = s.isQueued m := rfl
@[simp] theorem allOn_answered (s : State) (f : Frame) (st : Byte) (d : List Byte) (b : BitVec 24) : (s.answered f st d).allOn b = s.allOn b := rfl
@[simp] theorem pathAvailable_answered (s : State) (f : Frame) (st : Byte) (d : List Byte) (r : RailId) : (s.answered f st d).pathAvailable r = s.pathAvailable r := rfl
@[simp] theorem rangeOf_answered (s : State) (f : Frame) (st : Byte) (d : List Byte) (m : ProgNo) : (s.answered f st d).rangeOf m = s.rangeOf m := rfl

/-! ### replied -/

@[simp] theorem replied_pending (s : State) (f : Frame) (st : Byte) (d : List Byte) : (s.replied f st d).pending = s.pending := rfl
@[simp] theorem replied_agenda (s : State) (f : Frame) (st : Byte) (d : List Byte) : (s.replied f st d).agenda = s.agenda := rfl
@[simp] theorem replied_takeDue (s : State) (f : Frame) (st : Byte) (d : List Byte) : (s.replied f st d).takeDue = s.takeDue := rfl
@[simp] theorem replied_now (s : State) (f : Frame) (st : Byte) (d : List Byte) : (s.replied f st d).now = s.now := rfl
@[simp] theorem replied_choices (s : State) (f : Frame) (st : Byte) (d : List Byte) : (s.replied f st d).choices = s.choices := rfl
@[simp] theorem replied_phase (s : State) (f : Frame) (st : Byte) (d : List Byte) : (s.replied f st d).phase = s.phase := rfl
@[simp] theorem replied_cause (s : State) (f : Frame) (st : Byte) (d : List Byte) : (s.replied f st d).cause = s.cause := rfl
@[simp] theorem replied_mode (s : State) (f : Frame) (st : Byte) (d : List Byte) : (s.replied f st d).mode = .active := rfl
@[simp] theorem replied_resetWaiting (s : State) (f : Frame) (st : Byte) (d : List Byte) : (s.replied f st d).resetWaiting = s.resetWaiting := rfl
@[simp] theorem replied_rails (s : State) (f : Frame) (st : Byte) (d : List Byte) : (s.replied f st d).rails = s.rails := rfl
@[simp] theorem replied_en (s : State) (f : Frame) (st : Byte) (d : List Byte) : (s.replied f st d).en = s.en := rfl
@[simp] theorem replied_dis (s : State) (f : Frame) (st : Byte) (d : List Byte) : (s.replied f st d).dis = s.dis := rfl
@[simp] theorem replied_ctl (s : State) (f : Frame) (st : Byte) (d : List Byte) : (s.replied f st d).ctl = s.ctl := rfl
@[simp] theorem replied_chans (s : State) (f : Frame) (st : Byte) (d : List Byte) : (s.replied f st d).chans = s.chans := rfl
@[simp] theorem replied_marks (s : State) (f : Frame) (st : Byte) (d : List Byte) : (s.replied f st d).marks = s.marks := rfl
@[simp] theorem replied_conv (s : State) (f : Frame) (st : Byte) (d : List Byte) : (s.replied f st d).conv = s.conv := rfl
@[simp] theorem replied_line (s : State) (f : Frame) (st : Byte) (d : List Byte) : (s.replied f st d).line = s.line := rfl
@[simp] theorem replied_sync (s : State) (f : Frame) (st : Byte) (d : List Byte) : (s.replied f st d).sync = s.sync := rfl
@[simp] theorem replied_seq (s : State) (f : Frame) (st : Byte) (d : List Byte) : (s.replied f st d).seq = s.seq := rfl
@[simp] theorem replied_sched (s : State) (f : Frame) (st : Byte) (d : List Byte) : (s.replied f st d).sched = s.sched := rfl
@[simp] theorem replied_rtu (s : State) (f : Frame) (st : Byte) (d : List Byte) : (s.replied f st d).rtu = s.rtu := rfl
@[simp] theorem replied_ports (s : State) (f : Frame) (st : Byte) (d : List Byte) : (s.replied f st d).ports = s.ports := rfl
@[simp] theorem replied_up (s : State) (f : Frame) (st : Byte) (d : List Byte) : (s.replied f st d).up = { s.up with tx := s.up.tx ++ [replyEntry (replyFrame f st d)], replyTaken := s.up.replyTaken + 1 } := rfl
@[simp] theorem replied_fwd (s : State) (f : Frame) (st : Byte) (d : List Byte) : (s.replied f st d).fwd = s.fwd := rfl
@[simp] theorem replied_ev (s : State) (f : Frame) (st : Byte) (d : List Byte) : (s.replied f st d).ev = s.ev := rfl
@[simp] theorem replied_store (s : State) (f : Frame) (st : Byte) (d : List Byte) : (s.replied f st d).store = s.store := rfl
@[simp] theorem rail_replied (s : State) (f : Frame) (st : Byte) (d : List Byte) (r : RailId) : (s.replied f st d).rail r = s.rail r := rfl
@[simp] theorem port_replied (s : State) (f : Frame) (st : Byte) (d : List Byte) (q : Port) : (s.replied f st d).port q = s.port q := rfl
@[simp] theorem chan_replied (s : State) (f : Frame) (st : Byte) (d : List Byte) (k : ChannelId) : (s.replied f st d).chan k = s.chan k := rfl
@[simp] theorem queue_replied (s : State) (f : Frame) (st : Byte) (d : List Byte) (q : Port) : (s.replied f st d).queue q = s.queue q := rfl
@[simp] theorem outs_replied (s : State) (f : Frame) (st : Byte) (d : List Byte) (q : Port) : (s.replied f st d).outs q = s.outs q := rfl
@[simp] theorem stepAt_replied (s : State) (f : Frame) (st : Byte) (d : List Byte) (i : Nat) : (s.replied f st d).stepAt i = s.stepAt i := rfl
@[simp] theorem header_replied (s : State) (f : Frame) (st : Byte) (d : List Byte) (m : ProgNo) : (s.replied f st d).header m = s.header m := rfl
@[simp] theorem template_replied (s : State) (f : Frame) (st : Byte) (d : List Byte) (m : Fin 16) : (s.replied f st d).template m = s.template m := rfl
@[simp] theorem railState_replied (s : State) (f : Frame) (st : Byte) (d : List Byte) (r : RailId) : (s.replied f st d).railState r = s.railState r := rfl
@[simp] theorem isUp_replied (s : State) (f : Frame) (st : Byte) (d : List Byte) (q : Port) : (s.replied f st d).isUp q = s.isUp q := rfl
@[simp] theorem isRunning_replied (s : State) (f : Frame) (st : Byte) (d : List Byte) (m : ProgNo) : (s.replied f st d).isRunning m = s.isRunning m := rfl
@[simp] theorem isQueued_replied (s : State) (f : Frame) (st : Byte) (d : List Byte) (m : ProgNo) : (s.replied f st d).isQueued m = s.isQueued m := rfl
@[simp] theorem allOn_replied (s : State) (f : Frame) (st : Byte) (d : List Byte) (b : BitVec 24) : (s.replied f st d).allOn b = s.allOn b := rfl
@[simp] theorem pathAvailable_replied (s : State) (f : Frame) (st : Byte) (d : List Byte) (r : RailId) : (s.replied f st d).pathAvailable r = s.pathAvailable r := rfl
@[simp] theorem rangeOf_replied (s : State) (f : Frame) (st : Byte) (d : List Byte) (m : ProgNo) : (s.replied f st d).rangeOf m = s.rangeOf m := rfl

end Sys2Proof.Machine
end

