-- ==== Sys2Proof/Laws/Settle.lean ====
section
/-! SUPPORT. How an event runs: what is over stays over, one piece of work, and a request from the main board. -/

namespace Sys2Proof.Machine

theorem settle_settled (n : Nat) {s : State} (h : s.Settled) : settle n s = s := by
  cases n with
  | zero => rfl
  | succ n => unfold settle; rw [h.1, h.2]; rfl

theorem settle_work (n : Nat) {s : State} {w : Work} {ws : List Work} (h : s.agenda = w :: ws) :
    settle (n + 1) s = settle n (runWork w ws s) := by
  conv => lhs; unfold settle
  rw [h]

theorem settle_take (n : Nat) {s : State} (h : s.agenda = []) (d : s.takeDue = true) :
    settle (n + 1) s = settle n (takeHead { s with takeDue := false }) := by
  conv => lhs; unfold settle
  rw [h, d]; rfl

/-- On a settled state a command's own effect comes first. -/
theorem event_settled {f : State → State} {s : State} (h : s.Settled) :
    event f s = .next (settle Config.settleFuel (f s)) := by
  unfold event; rw [settle_settled _ h]

/-- A command whose effect hands nothing on. -/
theorem event_plain {f : State → State} {s : State} (h : s.Settled) (k : (f s).Settled) :
    event f s = .next (f s) := by
  rw [event_settled h, settle_settled _ k]

/-- One piece of work that hands nothing on. -/
theorem settle_one (n : Nat) (w : Work) {s : State} (h : s.Settled) (r : w.isReset = false)
    (k : (handle w s).Settled) : settle (n + 1) (later w s) = handle w s := by
  have e : ({ later w s with agenda := [] } : State) = s := by
    cases s; simp only [State.Settled] at h; simp [later, h.1]
  rw [settle_work n (w := w) (ws := []) (by simp [h.1])]
  unfold runWork
  rw [e, r]
  simp only [Bool.false_eq_true, if_false, List.append_nil]
  exact settle_settled n k

theorem settled_later_nil {s : State} (h : s.agenda = []) (w : Work) : (later w s).agenda = [w] := by simp [h]

/-- One piece of work taken, with what waits behind it (log 9). -/
theorem settle_step (n : Nat) (w : Work) (ws : List Work) {s t : State} (h : s.agenda = w :: ws)
    (r : w.isReset = false) (e : handle w { s with agenda := [] } = t) :
    settle (n + 1) s = settle n { t with agenda := t.agenda ++ ws } := by
  rw [settle_work n h]; unfold runWork; rw [e, r]; rfl

/-- A command that ends by handing one event kind to the Event Unit. -/
theorem event_raise {f : State → State} {s t : State} {k : EventKind} (h : s.Settled)
    (e : f s = later (.raise k) t) (ht : t.Settled) (k' : (raise k t).Settled) :
    event f s = .next (raise k t) := by
  rw [event_settled h, e]
  exact congrArg _ (settle_one _ (.raise k) ht rfl k')

/-! ### Frames -/

/-- The check of a frame does not depend on the check field. -/
theorem body_check (f : Frame) (c : Word16) : ({ f with check := c } : Frame).body = f.body := rfl

/-- A frame that the part or a board makes is well-formed (R118 to R120). -/
theorem mkFrame_ok (d src k : BitVec 4) (c t : Byte) (p : List Byte) (h : p.length ≤ 60)
    (hk : 1 ≤ k.toNat ∧ k.toNat ≤ 5) : (mkFrame d src k c t p).ok = true := by
  simp only [Frame.ok, mkFrame, Config.payloadMost, Bool.and_eq_true, beq_iff_eq]
  exact ⟨⟨decide_eq_true h, decide_eq_true hk.1, decide_eq_true hk.2⟩, rfl⟩

/-! ### A frame from the main board -/

theorem wake_active {s : State} (h : s.mode = .active) : wake s = s := by unfold wake; rw [h]; rfl

/-- A port that cannot come up is left as it is (R127). -/
theorem lookAtPort_stay {s : State} {p : Port} (h : (s.port p).canExchange = false) : lookAtPort p s = s := by
  unfold lookAtPort; simp [h]

theorem lookAtPorts_stay {s : State} (h : ∀ p, (s.port p).canExchange = false) : lookAtPorts s = s := by
  unfold lookAtPorts Port.all
  simp [List.foldl, lookAtPort_stay (h _)]

/-- Waking a part in which no port can come up sets the mode and nothing else (R195). -/
theorem wake_quiet {s : State} (h : s.mode = .active ∨ ∀ p, (s.port p).canExchange = false) :
    wake s = { s with mode := .active } := by
  unfold wake
  by_cases m : s.mode = .standby
  · rw [if_pos m]
    rcases h with h | h
    · rw [h] at m; cases m
    · exact lookAtPorts_stay h
  · rw [if_neg m]
    have : s.mode = .active := by
      cases e : s.mode with
      | active => rfl
      | standby => exact absurd e m
    rw [← this]

/-- A ready part hears every frame (R121, R125). -/
theorem hears_ready {s : State} (h : s.Ready) (n : Nat) (l : n ≤ 67) : s.hears n = true := by
  unfold State.hears
  rw [h.running, h.present]
  cases e : s.up.rise with
  | none => rfl
  | some t =>
    have k : 5 * n ≤ 335 := by omega
    exact decide_eq_true (Nat.le_trans (Nat.add_le_add_left k t) (h.listens t e))

theorem ok_length {f : Frame} (h : f.ok = true) : f.payload.length ≤ 60 := by
  simp only [Frame.ok, Bool.and_eq_true, decide_eq_true_eq] at h
  exact h.1.1

/-- A command of the main board is taken at once (R121, R122). -/
theorem event_receive {f : Frame} {s : State} (h : s.Ready) (ok : f.ok = true) (k : f.kind = kindCommand) :
    event (receiveUp f) s = .next (settle 65535 (routeUp s.mode f s.taken)) := by
  rw [event_settled h.settled]
  have e : receiveUp f s = { s with up := { s.up with rx := [f] }, takeDue := true } := by
    have l := ok_length ok
    unfold receiveUp; simp [hears_ready h (f.payload.length + 7) (by omega), ok, h.emptyRx, Config.receivePlaces]
  rw [e]
  show Host.Outcome.next (settle (65535 + 1) _) = _
  rw [settle_take 65535 (s := { s with up := { s.up with rx := [f] }, takeDue := true }) h.settled.1 rfl]
  have p := h.place
  have w : wake { s with up := { s.up with rx := [], replyTaken := s.up.replyTaken + 1 }, takeDue := false }
      = { s with up := { s.up with rx := [], replyTaken := s.up.replyTaken + 1 }, takeDue := false, mode := .active } :=
    wake_quiet (h.noWake)
  have q : ({ s with up := { s.up with rx := [], replyTaken := s.up.replyTaken + 1 }, takeDue := false, mode := .active } : State)
      = s.taken := by
    unfold State.taken
    have := h.emptyRx
    have t := h.settled.2
    cases s with
    | mk pending agenda takeDue now choices phase cause mode resetWaiting rails en dis ctl chans marks conv line sync seq sched rtu ports up fwd ev store =>
      cases up
      simp only at this t
      subst this t; rfl
  unfold takeHead
  simp only [k, Config.replyPlaces, true_and, if_true, Nat.not_le.mpr p, if_false, List.isEmpty_nil, Bool.not_true]
  rw [w, q]

/-- A request of the main board goes to the Management Unit (R122, R172). -/
theorem event_request (cls tag : Byte) (payload : List Byte) {s : State} (h : s.Ready) (l : payload.length ≤ 60) :
    event (receiveUp (requestFrame cls tag payload)) s =
      .next (settle 65535 (request s.mode (requestFrame cls tag payload) s.taken)) := by
  rw [event_receive h (f := requestFrame cls tag payload) (mkFrame_ok _ _ _ _ _ _ l (by decide)) rfl]; rfl

theorem settled_taken {s : State} (h : s.Settled) : s.taken.Settled := h

theorem present_taken {s : State} (h : s.Ready) : s.taken.up.present = true := h.present

/-- A reply is placed while U_PRESENT is high (R123). -/
theorem placeUp_present {s : State} (e : UpEntry) (h : s.up.present = true) : placeUp e s = s.placed e := by
  unfold placeUp State.placed; rw [h]; rfl

theorem answer_taken {s : State} (h : s.Ready) (f : Frame) (st : Byte) :
    answer f st s.taken = s.replied f st [] := placeUp_present _ h.present

theorem accept_taken {s : State} (h : s.Ready) (f : Frame) (data : List Byte) :
    accept f data s.taken = s.replied f stOk data := placeUp_present _ h.present

theorem settled_replied {s : State} (h : s.Settled) (f : Frame) (st : Byte) (data : List Byte) :
    (s.replied f st data).Settled := h

/-- A request that is accepted with its data and hands nothing on. -/
theorem settle_accept (n : Nat) {s : State} (h : s.Ready) (f : Frame) (data : List Byte) :
    settle n (accept f data s.taken) = s.replied f stOk data := by
  rw [accept_taken h]; exact settle_settled n (settled_replied h.settled f stOk data)

/-- A command that is answered with a status and hands nothing on. -/
theorem settle_answer (n : Nat) {s : State} (h : s.Ready) (f : Frame) (st : Byte) :
    settle n (answer f st s.taken) = s.replied f st [] := by
  rw [answer_taken h]; exact settle_settled n (settled_replied h.settled f st [])

/-- The reply of a request whose acts hand nothing on. -/
theorem settle_accept_of (n : Nat) {u : State} (f : Frame) (data : List Byte) (h : u.up.present = true)
    (k : u.Settled) : settle n (accept f data u) = u.placed (replyEntry (replyFrame f stOk data)) := by
  unfold accept; rw [placeUp_present _ h]; exact settle_settled n k

theorem byteOf_toNat (b : Byte) : byteOf b.toNat = b := by simp [byteOf]

/-! ### Checks in order (R172) -/

@[simp] theorem checked_nil (f : Frame) (act : State → State) (s : State) : checked [] f act s = act s := rfl

/-- A check that fails gives the reply, whatever stands behind it. -/
theorem checked_fails (b : Bool) (st : Byte) (l : List (Bool × Byte)) (f : Frame) (act : State → State) (s : State)
    (h : b = true) : checked ((b, st) :: l) f act s = answer f st s := by subst h; rfl

/-- A check that passes leaves the reply to those behind it. -/
theorem checked_passes (b : Bool) (st : Byte) (l : List (Bool × Byte)) (f : Frame) (act : State → State) (s : State)
    (h : b = false) : checked ((b, st) :: l) f act s = checked l f act s := by subst h; rfl

end Sys2Proof.Machine
end

