-- ==== Sys2Proof/Laws/Work.lean ====
section
/-! SUPPORT. The work handed on within one event: how it is taken, and what each piece does where nothing runs and
nothing is held. -/

namespace Sys2Proof.Machine

/-- The state with this work still to be taken. -/
def State.todo (s : State) (ws : List Work) : State := { s with agenda := ws }

@[simp] theorem todo_pending (s : State) (ws : List Work) : (s.todo ws).pending = s.pending := rfl
@[simp] theorem todo_agenda (s : State) (ws : List Work) : (s.todo ws).agenda = ws := rfl
@[simp] theorem todo_takeDue (s : State) (ws : List Work) : (s.todo ws).takeDue = s.takeDue := rfl
@[simp] theorem todo_now (s : State) (ws : List Work) : (s.todo ws).now = s.now := rfl
@[simp] theorem todo_choices (s : State) (ws : List Work) : (s.todo ws).choices = s.choices := rfl
@[simp] theorem todo_phase (s : State) (ws : List Work) : (s.todo ws).phase = s.phase := rfl
@[simp] theorem todo_cause (s : State) (ws : List Work) : (s.todo ws).cause = s.cause := rfl
@[simp] theorem todo_mode (s : State) (ws : List Work) : (s.todo ws).mode = s.mode := rfl
@[simp] theorem todo_resetWaiting (s : State) (ws : List Work) : (s.todo ws).resetWaiting = s.resetWaiting := rfl
@[simp] theorem todo_rails (s : State) (ws : List Work) : (s.todo ws).rails = s.rails := rfl
@[simp] theorem todo_en (s : State) (ws : List Work) : (s.todo ws).en = s.en := rfl
@[simp] theorem todo_dis (s : State) (ws : List Work) : (s.todo ws).dis = s.dis := rfl
@[simp] theorem todo_ctl (s : State) (ws : List Work) : (s.todo ws).ctl = s.ctl := rfl
@[simp] theorem todo_chans (s : State) (ws : List Work) : (s.todo ws).chans = s.chans := rfl
@[simp] theorem todo_marks (s : State) (ws : List Work) : (s.todo ws).marks = s.marks := rfl
@[simp] theorem todo_conv (s : State) (ws : List Work) : (s.todo ws).conv = s.conv := rfl
@[simp] theorem todo_line (s : State) (ws : List Work) : (s.todo ws).line = s.line := rfl
@[simp] theorem todo_sync (s : State) (ws : List Work) : (s.todo ws).sync = s.sync := rfl
@[simp] theorem todo_seq (s : State) (ws : List Work) : (s.todo ws).seq = s.seq := rfl
@[simp] theorem todo_sched (s : State) (ws : List Work) : (s.todo ws).sched = s.sched := rfl
@[simp] theorem todo_rtu (s : State) (ws : List Work) : (s.todo ws).rtu = s.rtu := rfl
@[simp] theorem todo_ports (s : State) (ws : List Work) : (s.todo ws).ports = s.ports := rfl
@[simp] theorem todo_up (s : State) (ws : List Work) : (s.todo ws).up = s.up := rfl
@[simp] theorem todo_fwd (s : State) (ws : List Work) : (s.todo ws).fwd = s.fwd := rfl
@[simp] theorem todo_ev (s : State) (ws : List Work) : (s.todo ws).ev = s.ev := rfl
@[simp] theorem todo_store (s : State) (ws : List Work) : (s.todo ws).store = s.store := rfl

@[simp] theorem todo_todo (s : State) (v w : List Work) : (s.todo v).todo w = s.todo w := rfl

theorem todo_self {s : State} (h : s.agenda = []) : s.todo [] = s := by
  cases s; simp only at h; subst h; rfl

theorem later_todo (w : Work) (s : State) (ws : List Work) : later w (s.todo ws) = s.todo (ws ++ [w]) := rfl

theorem later_eq_todo {s : State} (h : s.agenda = []) (w : Work) : later w s = s.todo [w] := by
  simp [later, State.todo, h]

/-- One piece of work taken, with what waits behind it. -/
theorem settle_todo (n : Nat) (w : Work) (ws : List Work) {s : State} (h : s.agenda = []) (r : w.isReset = false) :
    settle (n + 1) (s.todo (w :: ws)) = settle n ((handle w s).todo ((handle w s).agenda ++ ws)) := by
  rw [settle_work n (w := w) (ws := ws) rfl]
  unfold runWork
  have e : ({ s.todo (w :: ws) with agenda := [] } : State) = s := todo_self h
  rw [e, r]; rfl

/-- One piece of work that hands nothing on. -/
theorem settle_plain (n : Nat) (w : Work) (ws : List Work) {s t : State} (h : s.agenda = []) (r : w.isReset = false)
    (e : handle w s = t) (k : t.agenda = []) : settle (n + 1) (s.todo (w :: ws)) = settle n (t.todo ws) := by
  rw [settle_todo n w ws h r, e, k]; rfl

theorem settle_done (n : Nat) {s : State} (h : s.Settled) : settle n (s.todo []) = s := by
  rw [todo_self h.1]; exact settle_settled n h

/-! ### The event kinds -/

@[simp] theorem followRequesting_pending (was : Word16) (s : State) : (followRequesting was s).pending = s.pending := by
  unfold followRequesting; simp only []; split <;> (try split) <;> (try split) <;> rfl
@[simp] theorem followRequesting_agenda (was : Word16) (s : State) : (followRequesting was s).agenda = s.agenda := by
  unfold followRequesting; simp only []; split <;> (try split) <;> (try split) <;> rfl
@[simp] theorem followRequesting_takeDue (was : Word16) (s : State) : (followRequesting was s).takeDue = s.takeDue := by
  unfold followRequesting; simp only []; split <;> (try split) <;> (try split) <;> rfl
@[simp] theorem followRequesting_now (was : Word16) (s : State) : (followRequesting was s).now = s.now := by
  unfold followRequesting; simp only []; split <;> (try split) <;> (try split) <;> rfl
@[simp] theorem followRequesting_choices (was : Word16) (s : State) : (followRequesting was s).choices = s.choices := by
  unfold followRequesting; simp only []; split <;> (try split) <;> (try split) <;> rfl
@[simp] theorem followRequesting_phase (was : Word16) (s : State) : (followRequesting was s).phase = s.phase := by
  unfold followRequesting; simp only []; split <;> (try split) <;> (try split) <;> rfl
@[simp] theorem followRequesting_cause (was : Word16) (s : State) : (followRequesting was s).cause = s.cause := by
  unfold followRequesting; simp only []; split <;> (try split) <;> (try split) <;> rfl
@[simp] theorem followRequesting_mode (was : Word16) (s : State) : (followRequesting was s).mode = s.mode := by
  unfold followRequesting; simp only []; split <;> (try split) <;> (try split) <;> rfl
@[simp] theorem followRequesting_resetWaiting (was : Word16) (s : State) : (followRequesting was s).resetWaiting = s.resetWaiting := by
  unfold followRequesting; simp only []; split <;> (try split) <;> (try split) <;> rfl
@[simp] theorem followRequesting_rails (was : Word16) (s : State) : (followRequesting was s).rails = s.rails := by
  unfold followRequesting; simp only []; split <;> (try split) <;> (try split) <;> rfl
@[simp] theorem followRequesting_en (was : Word16) (s : State) : (followRequesting was s).en = s.en := by
  unfold followRequesting; simp only []; split <;> (try split) <;> (try split) <;> rfl
@[simp] theorem followRequesting_dis (was : Word16) (s : State) : (followRequesting was s).dis = s.dis := by
  unfold followRequesting; simp only []; split <;> (try split) <;> (try split) <;> rfl
@[simp] theorem followRequesting_ctl (was : Word16) (s : State) : (followRequesting was s).ctl = s.ctl := by
  unfold followRequesting; simp only []; split <;> (try split) <;> (try split) <;> rfl
@[simp] theorem followRequesting_chans (was : Word16) (s : State) : (followRequesting was s).chans = s.chans := by
  unfold followRequesting; simp only []; split <;> (try split) <;> (try split) <;> rfl
@[simp] theorem followRequesting_marks (was : Word16) (s : State) : (followRequesting was s).marks = s.marks := by
  unfold followRequesting; simp only []; split <;> (try split) <;> (try split) <;> rfl
@[simp] theorem followRequesting_conv (was : Word16) (s : State) : (followRequesting was s).conv = s.conv := by
  unfold followRequesting; simp only []; split <;> (try split) <;> (try split) <;> rfl
@[simp] theorem followRequesting_line (was : Word16) (s : State) : (followRequesting was s).line = s.line := by
  unfold followRequesting; simp only []; split <;> (try split) <;> (try split) <;> rfl
@[simp] theorem followRequesting_sync (was : Word16) (s : State) : (followRequesting was s).sync = s.sync := by
  unfold followRequesting; simp only []; split <;> (try split) <;> (try split) <;> rfl
@[simp] theorem followRequesting_seq (was : Word16) (s : State) : (followRequesting was s).seq = s.seq := by
  unfold followRequesting; simp only []; split <;> (try split) <;> (try split) <;> rfl
@[simp] theorem followRequesting_sched (was : Word16) (s : State) : (followRequesting was s).sched = s.sched := by
  unfold followRequesting; simp only []; split <;> (try split) <;> (try split) <;> rfl
@[simp] theorem followRequesting_rtu (was : Word16) (s : State) : (followRequesting was s).rtu = s.rtu := by
  unfold followRequesting; simp only []; split <;> (try split) <;> (try split) <;> rfl
@[simp] theorem followRequesting_ports (was : Word16) (s : State) : (followRequesting was s).ports = s.ports := by
  unfold followRequesting; simp only []; split <;> (try split) <;> (try split) <;> rfl
@[simp] theorem followRequesting_fwd (was : Word16) (s : State) : (followRequesting was s).fwd = s.fwd := by
  unfold followRequesting; simp only []; split <;> (try split) <;> (try split) <;> rfl
@[simp] theorem followRequesting_store (was : Word16) (s : State) : (followRequesting was s).store = s.store := by
  unfold followRequesting; simp only []; split <;> (try split) <;> (try split) <;> rfl

@[simp] theorem changeEvents_pending (f : EventUnit → EventUnit) (s : State) : (changeEvents f s).pending = s.pending := by
  unfold changeEvents; simp only []; split <;> simp
@[simp] theorem changeEvents_agenda (f : EventUnit → EventUnit) (s : State) : (changeEvents f s).agenda = s.agenda := by
  unfold changeEvents; simp only []; split <;> simp
@[simp] theorem changeEvents_takeDue (f : EventUnit → EventUnit) (s : State) : (changeEvents f s).takeDue = s.takeDue := by
  unfold changeEvents; simp only []; split <;> simp
@[simp] theorem changeEvents_now (f : EventUnit → EventUnit) (s : State) : (changeEvents f s).now = s.now := by
  unfold changeEvents; simp only []; split <;> simp
@[simp] theorem changeEvents_choices (f : EventUnit → EventUnit) (s : State) : (changeEvents f s).choices = s.choices := by
  unfold changeEvents; simp only []; split <;> simp
@[simp] theorem changeEvents_phase (f : EventUnit → EventUnit) (s : State) : (changeEvents f s).phase = s.phase := by
  unfold changeEvents; simp only []; split <;> simp
@[simp] theorem changeEvents_cause (f : EventUnit → EventUnit) (s : State) : (changeEvents f s).cause = s.cause := by
  unfold changeEvents; simp only []; split <;> simp
@[simp] theorem changeEvents_mode (f : EventUnit → EventUnit) (s : State) : (changeEvents f s).mode = s.mode := by
  unfold changeEvents; simp only []; split <;> simp
@[simp] theorem changeEvents_resetWaiting (f : EventUnit → EventUnit) (s : State) : (changeEvents f s).resetWaiting = s.resetWaiting := by
  unfold changeEvents; simp only []; split <;> simp
@[simp] theorem changeEvents_rails (f : EventUnit → EventUnit) (s : State) : (changeEvents f s).rails = s.rails := by
  unfold changeEvents; simp only []; split <;> simp
@[simp] theorem changeEvents_en (f : EventUnit → EventUnit) (s : State) : (changeEvents f s).en = s.en := by
  unfold changeEvents; simp only []; split <;> simp
@[simp] theorem changeEvents_dis (f : EventUnit → EventUnit) (s : State) : (changeEvents f s).dis = s.dis := by
  unfold changeEvents; simp only []; split <;> simp
@[simp] theorem changeEvents_ctl (f : EventUnit → EventUnit) (s : State) : (changeEvents f s).ctl = s.ctl := by
  unfold changeEvents; simp only []; split <;> simp
@[simp] theorem changeEvents_chans (f : EventUnit → EventUnit) (s : State) : (changeEvents f s).chans = s.chans := by
  unfold changeEvents; simp only []; split <;> simp
@[simp] theorem changeEvents_marks (f : EventUnit → EventUnit) (s : State) : (changeEvents f s).marks = s.marks := by
  unfold changeEvents; simp only []; split <;> simp
@[simp] theorem changeEvents_conv (f : EventUnit → EventUnit) (s : State) : (changeEvents f s).conv = s.conv := by
  unfold changeEvents; simp only []; split <;> simp
@[simp] theorem changeEvents_line (f : EventUnit → EventUnit) (s : State) : (changeEvents f s).line = s.line := by
  unfold changeEvents; simp only []; split <;> simp
@[simp] theorem changeEvents_sync (f : EventUnit → EventUnit) (s : State) : (changeEvents f s).sync = s.sync := by
  unfold changeEvents; simp only []; split <;> simp
@[simp] theorem changeEvents_seq (f : EventUnit → EventUnit) (s : State) : (changeEvents f s).seq = s.seq := by
  unfold changeEvents; simp only []; split <;> simp
@[simp] theorem changeEvents_sched (f : EventUnit → EventUnit) (s : State) : (changeEvents f s).sched = s.sched := by
  unfold changeEvents; simp only []; split <;> simp
@[simp] theorem changeEvents_rtu (f : EventUnit → EventUnit) (s : State) : (changeEvents f s).rtu = s.rtu := by
  unfold changeEvents; simp only []; split <;> simp
@[simp] theorem changeEvents_ports (f : EventUnit → EventUnit) (s : State) : (changeEvents f s).ports = s.ports := by
  unfold changeEvents; simp only []; split <;> simp
@[simp] theorem changeEvents_fwd (f : EventUnit → EventUnit) (s : State) : (changeEvents f s).fwd = s.fwd := by
  unfold changeEvents; simp only []; split <;> simp
@[simp] theorem changeEvents_store (f : EventUnit → EventUnit) (s : State) : (changeEvents f s).store = s.store := by
  unfold changeEvents; simp only []; split <;> simp

@[simp] theorem raise_pending (k : EventKind) (s : State) : (raise k s).pending = s.pending := by unfold raise; simp
@[simp] theorem raise_agenda (k : EventKind) (s : State) : (raise k s).agenda = s.agenda := by unfold raise; simp
@[simp] theorem raise_takeDue (k : EventKind) (s : State) : (raise k s).takeDue = s.takeDue := by unfold raise; simp
@[simp] theorem raise_now (k : EventKind) (s : State) : (raise k s).now = s.now := by unfold raise; simp
@[simp] theorem raise_choices (k : EventKind) (s : State) : (raise k s).choices = s.choices := by unfold raise; simp
@[simp] theorem raise_phase (k : EventKind) (s : State) : (raise k s).phase = s.phase := by unfold raise; simp
@[simp] theorem raise_cause (k : EventKind) (s : State) : (raise k s).cause = s.cause := by unfold raise; simp
@[simp] theorem raise_mode (k : EventKind) (s : State) : (raise k s).mode = s.mode := by unfold raise; simp
@[simp] theorem raise_resetWaiting (k : EventKind) (s : State) : (raise k s).resetWaiting = s.resetWaiting := by unfold raise; simp
@[simp] theorem raise_rails (k : EventKind) (s : State) : (raise k s).rails = s.rails := by unfold raise; simp
@[simp] theorem raise_en (k : EventKind) (s : State) : (raise k s).en = s.en := by unfold raise; simp
@[simp] theorem raise_dis (k : EventKind) (s : State) : (raise k s).dis = s.dis := by unfold raise; simp
@[simp] theorem raise_ctl (k : EventKind) (s : State) : (raise k s).ctl = s.ctl := by unfold raise; simp
@[simp] theorem raise_chans (k : EventKind) (s : State) : (raise k s).chans = s.chans := by unfold raise; simp
@[simp] theorem raise_marks (k : EventKind) (s : State) : (raise k s).marks = s.marks := by unfold raise; simp
@[simp] theorem raise_conv (k : EventKind) (s : State) : (raise k s).conv = s.conv := by unfold raise; simp
@[simp] theorem raise_line (k : EventKind) (s : State) : (raise k s).line = s.line := by unfold raise; simp
@[simp] theorem raise_sync (k : EventKind) (s : State) : (raise k s).sync = s.sync := by unfold raise; simp
@[simp] theorem raise_seq (k : EventKind) (s : State) : (raise k s).seq = s.seq := by unfold raise; simp
@[simp] theorem raise_sched (k : EventKind) (s : State) : (raise k s).sched = s.sched := by unfold raise; simp
@[simp] theorem raise_rtu (k : EventKind) (s : State) : (raise k s).rtu = s.rtu := by unfold raise; simp
@[simp] theorem raise_ports (k : EventKind) (s : State) : (raise k s).ports = s.ports := by unfold raise; simp
@[simp] theorem raise_fwd (k : EventKind) (s : State) : (raise k s).fwd = s.fwd := by unfold raise; simp
@[simp] theorem raise_store (k : EventKind) (s : State) : (raise k s).store = s.store := by unfold raise; simp

@[simp] theorem followRequesting_up_present (was : Word16) (s : State) : (followRequesting was s).up.present = s.up.present := by
  unfold followRequesting; simp only []; split <;> (try split) <;> (try split) <;> rfl
@[simp] theorem changeEvents_up_present (f : EventUnit → EventUnit) (s : State) : (changeEvents f s).up.present = s.up.present := by
  unfold changeEvents; simp only []; split <;> simp
@[simp] theorem raise_up_present (k : EventKind) (s : State) : (raise k s).up.present = s.up.present := by unfold raise; simp
@[simp] theorem followRequesting_up_rx (was : Word16) (s : State) : (followRequesting was s).up.rx = s.up.rx := by
  unfold followRequesting; simp only []; split <;> (try split) <;> (try split) <;> rfl
@[simp] theorem changeEvents_up_rx (f : EventUnit → EventUnit) (s : State) : (changeEvents f s).up.rx = s.up.rx := by
  unfold changeEvents; simp only []; split <;> simp
@[simp] theorem raise_up_rx (k : EventKind) (s : State) : (raise k s).up.rx = s.up.rx := by unfold raise; simp
@[simp] theorem followRequesting_up_replyTaken (was : Word16) (s : State) : (followRequesting was s).up.replyTaken = s.up.replyTaken := by
  unfold followRequesting; simp only []; split <;> (try split) <;> (try split) <;> rfl
@[simp] theorem changeEvents_up_replyTaken (f : EventUnit → EventUnit) (s : State) : (changeEvents f s).up.replyTaken = s.up.replyTaken := by
  unfold changeEvents; simp only []; split <;> simp
@[simp] theorem raise_up_replyTaken (k : EventKind) (s : State) : (raise k s).up.replyTaken = s.up.replyTaken := by unfold raise; simp
@[simp] theorem followRequesting_up_line (was : Word16) (s : State) : (followRequesting was s).up.line = s.up.line := by
  unfold followRequesting; simp only []; split <;> (try split) <;> (try split) <;> rfl
@[simp] theorem changeEvents_up_line (f : EventUnit → EventUnit) (s : State) : (changeEvents f s).up.line = s.up.line := by
  unfold changeEvents; simp only []; split <;> simp
@[simp] theorem raise_up_line (k : EventKind) (s : State) : (raise k s).up.line = s.up.line := by unfold raise; simp

theorem settled_raise {s : State} (k : EventKind) (h : s.Settled) : (raise k s).Settled := ⟨by simp [h.1], by simp [h.2]⟩

/-- An event kind handed on is taken by the Event Unit and hands nothing on. -/
theorem settle_raise (n : Nat) (k : EventKind) (ws : List Work) {s : State} (h : s.agenda = []) :
    settle (n + 1) (s.todo (.raise k :: ws)) = settle n ((raise k s).todo ws) :=
  settle_plain n _ ws h rfl rfl (by simp [h])

/-! ### Where no command is held and no program runs -/

/-- A pass over an empty hold queue leaves everything (R152). -/
theorem rescan_none {s : State} (h : s.fwd.hold = []) : rescan s = s := by
  cases s with
  | mk pending agenda takeDue now choices phase cause mode resetWaiting rails en dis ctl chans marks conv line sync seq sched rtu ports up fwd ev store =>
    cases fwd; simp only at h; subst h; rfl

theorem current_none {s : State} (h : s.seq.ctx = none) : s.current = none := by simp [State.current, h]

theorem seqRail_none {s : State} (h : s.seq.ctx = none) (r : RailId) (k : ReportKind) : seqRail r k s = s := by
  unfold seqRail; rw [current_none h]

theorem seqPathLost_none {s : State} (h : s.seq.ctx = none) (r : RailId) : seqPathLost r s = s := by
  unfold seqPathLost; rw [current_none h]

theorem seqFrameEnd_none {s : State} (h : s.seq.ctx = none) (r : RailId) (x : FailReason) : seqFrameEnd r x s = s := by
  unfold seqFrameEnd; rw [current_none h]

theorem seqNoticesLost_none {s : State} (h : s.seq.ctx = none) (p : Port) : seqNoticesLost p s = s := by
  unfold seqNoticesLost; rw [current_none h]

theorem matchNotice_none {s : State} (h : s.seq.ctx = none) (p : Port) (c : Byte) : matchNotice p c s = s := by
  unfold matchNotice; rw [current_none h]

/-- A report of a rail where no command is held (R7): the Sequencer alone looks at it. -/
theorem settle_report_noHold (n : Nat) (r : RailId) (k : ReportKind) (ws : List Work) {s : State} (h : s.agenda = [])
    (f : s.fwd.hold = []) :
    settle (n + 2) (s.todo (.report r k :: ws)) = settle n (s.todo (.seqRail r k :: ws)) := by
  rw [settle_todo _ _ _ h rfl]
  have e : handle (.report r k) s = s.todo [.pass, .seqRail r k] := by
    show report r k s = _
    unfold report; rw [f]; simp [later, State.todo, h]
  rw [e]
  show settle (n + 1) (s.todo (.pass :: .seqRail r k :: ws)) = _
  exact settle_plain _ _ _ h rfl (rescan_none f) h

/-- A report of a rail where no command is held and no program runs changes nothing (R7). -/
theorem settle_report (n : Nat) (r : RailId) (k : ReportKind) (ws : List Work) {s : State} (h : s.agenda = [])
    (c : s.seq.ctx = none) (f : s.fwd.hold = []) :
    settle (n + 3) (s.todo (.report r k :: ws)) = settle n (s.todo ws) := by
  rw [settle_report_noHold (n + 1) r k ws h f]
  exact settle_plain _ _ _ h rfl (seqRail_none c r k) h

theorem settle_pass (n : Nat) (ws : List Work) {s : State} (h : s.agenda = []) (f : s.fwd.hold = []) :
    settle (n + 1) (s.todo (.pass :: ws)) = settle n (s.todo ws) :=
  settle_plain n _ ws h rfl (rescan_none f) h

/-- A reply that waits for its request's acts is placed (R172). -/
theorem settle_reply (n : Nat) (f : Frame) (ws : List Work) {s : State} (h : s.agenda = []) (u : s.up.present = true) :
    settle (n + 1) (s.todo (.reply f :: ws)) = settle n ((s.placed (replyEntry f)).todo ws) :=
  settle_plain n _ ws h rfl (placeUp_present (replyEntry f) u) h

/-- The head of an empty queue (R77). -/
theorem startHead_none {s : State} (h : s.sched.queue = []) : startHead s = s := by
  unfold startHead; rw [h]; split <;> rfl

theorem settle_startHead (n : Nat) (ws : List Work) {s : State} (h : s.agenda = []) (q : s.sched.queue = []) :
    settle (n + 1) (s.todo (.startHead :: ws)) = settle n (s.todo ws) :=
  settle_plain n _ ws h rfl (startHead_none q) h

end Sys2Proof.Machine
end

