-- ==== Sys2Proof/Laws/Frame.lean ====
section
/-! SUPPORT. What the shared operations leave as it was, field by field. -/

namespace Sys2Proof.Machine

/-! ### refillPlaces -/

@[simp] theorem refillPlaces_pending (p : Port) (s : State) : (refillPlaces p s).pending = s.pending := rfl
@[simp] theorem refillPlaces_agenda (p : Port) (s : State) : (refillPlaces p s).agenda = s.agenda := rfl
@[simp] theorem refillPlaces_takeDue (p : Port) (s : State) : (refillPlaces p s).takeDue = s.takeDue := rfl
@[simp] theorem refillPlaces_now (p : Port) (s : State) : (refillPlaces p s).now = s.now := rfl
@[simp] theorem refillPlaces_choices (p : Port) (s : State) : (refillPlaces p s).choices = s.choices := rfl
@[simp] theorem refillPlaces_phase (p : Port) (s : State) : (refillPlaces p s).phase = s.phase := rfl
@[simp] theorem refillPlaces_cause (p : Port) (s : State) : (refillPlaces p s).cause = s.cause := rfl
@[simp] theorem refillPlaces_mode (p : Port) (s : State) : (refillPlaces p s).mode = s.mode := rfl
@[simp] theorem refillPlaces_resetWaiting (p : Port) (s : State) : (refillPlaces p s).resetWaiting = s.resetWaiting := rfl
@[simp] theorem refillPlaces_rails (p : Port) (s : State) : (refillPlaces p s).rails = s.rails := rfl
@[simp] theorem refillPlaces_en (p : Port) (s : State) : (refillPlaces p s).en = s.en := rfl
@[simp] theorem refillPlaces_dis (p : Port) (s : State) : (refillPlaces p s).dis = s.dis := rfl
@[simp] theorem refillPlaces_ctl (p : Port) (s : State) : (refillPlaces p s).ctl = s.ctl := rfl
@[simp] theorem refillPlaces_chans (p : Port) (s : State) : (refillPlaces p s).chans = s.chans := rfl
@[simp] theorem refillPlaces_marks (p : Port) (s : State) : (refillPlaces p s).marks = s.marks := rfl
@[simp] theorem refillPlaces_conv (p : Port) (s : State) : (refillPlaces p s).conv = s.conv := rfl
@[simp] theorem refillPlaces_line (p : Port) (s : State) : (refillPlaces p s).line = s.line := rfl
@[simp] theorem refillPlaces_sync (p : Port) (s : State) : (refillPlaces p s).sync = s.sync := rfl
@[simp] theorem refillPlaces_seq (p : Port) (s : State) : (refillPlaces p s).seq = s.seq := rfl
@[simp] theorem refillPlaces_sched (p : Port) (s : State) : (refillPlaces p s).sched = s.sched := rfl
@[simp] theorem refillPlaces_rtu (p : Port) (s : State) : (refillPlaces p s).rtu = s.rtu := rfl
@[simp] theorem refillPlaces_up (p : Port) (s : State) : (refillPlaces p s).up = s.up := rfl
@[simp] theorem refillPlaces_fwd (p : Port) (s : State) : (refillPlaces p s).fwd = s.fwd := rfl
@[simp] theorem refillPlaces_ev (p : Port) (s : State) : (refillPlaces p s).ev = s.ev := rfl
@[simp] theorem refillPlaces_store (p : Port) (s : State) : (refillPlaces p s).store = s.store := rfl

/-! ### grant -/

@[simp] theorem grant_pending (p : Port) (c : Claimant) (s : State) : (grant p c s).pending = s.pending := by unfold grant; split <;> simp
@[simp] theorem grant_agenda (p : Port) (c : Claimant) (s : State) : (grant p c s).agenda = s.agenda := by unfold grant; split <;> simp
@[simp] theorem grant_takeDue (p : Port) (c : Claimant) (s : State) : (grant p c s).takeDue = s.takeDue := by unfold grant; split <;> simp
@[simp] theorem grant_now (p : Port) (c : Claimant) (s : State) : (grant p c s).now = s.now := by unfold grant; split <;> simp
@[simp] theorem grant_choices (p : Port) (c : Claimant) (s : State) : (grant p c s).choices = s.choices := by unfold grant; split <;> simp
@[simp] theorem grant_phase (p : Port) (c : Claimant) (s : State) : (grant p c s).phase = s.phase := by unfold grant; split <;> simp
@[simp] theorem grant_cause (p : Port) (c : Claimant) (s : State) : (grant p c s).cause = s.cause := by unfold grant; split <;> simp
@[simp] theorem grant_mode (p : Port) (c : Claimant) (s : State) : (grant p c s).mode = s.mode := by unfold grant; split <;> simp
@[simp] theorem grant_resetWaiting (p : Port) (c : Claimant) (s : State) : (grant p c s).resetWaiting = s.resetWaiting := by unfold grant; split <;> simp
@[simp] theorem grant_rails (p : Port) (c : Claimant) (s : State) : (grant p c s).rails = s.rails := by unfold grant; split <;> simp
@[simp] theorem grant_en (p : Port) (c : Claimant) (s : State) : (grant p c s).en = s.en := by unfold grant; split <;> simp
@[simp] theorem grant_dis (p : Port) (c : Claimant) (s : State) : (grant p c s).dis = s.dis := by unfold grant; split <;> simp
@[simp] theorem grant_ctl (p : Port) (c : Claimant) (s : State) : (grant p c s).ctl = s.ctl := by unfold grant; split <;> simp
@[simp] theorem grant_chans (p : Port) (c : Claimant) (s : State) : (grant p c s).chans = s.chans := by unfold grant; split <;> simp
@[simp] theorem grant_marks (p : Port) (c : Claimant) (s : State) : (grant p c s).marks = s.marks := by unfold grant; split <;> simp
@[simp] theorem grant_conv (p : Port) (c : Claimant) (s : State) : (grant p c s).conv = s.conv := by unfold grant; split <;> simp
@[simp] theorem grant_line (p : Port) (c : Claimant) (s : State) : (grant p c s).line = s.line := by unfold grant; split <;> simp
@[simp] theorem grant_sync (p : Port) (c : Claimant) (s : State) : (grant p c s).sync = s.sync := by unfold grant; split <;> simp
@[simp] theorem grant_seq (p : Port) (c : Claimant) (s : State) : (grant p c s).seq = s.seq := by unfold grant; split <;> simp
@[simp] theorem grant_sched (p : Port) (c : Claimant) (s : State) : (grant p c s).sched = s.sched := by unfold grant; split <;> simp
@[simp] theorem grant_rtu (p : Port) (c : Claimant) (s : State) : (grant p c s).rtu = s.rtu := by unfold grant; split <;> simp
@[simp] theorem grant_up (p : Port) (c : Claimant) (s : State) : (grant p c s).up = s.up := by unfold grant; split <;> simp
@[simp] theorem grant_fwd (p : Port) (c : Claimant) (s : State) : (grant p c s).fwd = s.fwd := by unfold grant; split <;> simp
@[simp] theorem grant_ev (p : Port) (c : Claimant) (s : State) : (grant p c s).ev = s.ev := by unfold grant; split <;> simp
@[simp] theorem grant_store (p : Port) (c : Claimant) (s : State) : (grant p c s).store = s.store := by unfold grant; split <;> simp

/-! ### arbitrate -/

@[simp] theorem arbitrate_pending (p : Port) (s : State) : (arbitrate p s).pending = s.pending := by unfold arbitrate; simp only []; split <;> (try split) <;> simp
@[simp] theorem arbitrate_agenda (p : Port) (s : State) : (arbitrate p s).agenda = s.agenda := by unfold arbitrate; simp only []; split <;> (try split) <;> simp
@[simp] theorem arbitrate_takeDue (p : Port) (s : State) : (arbitrate p s).takeDue = s.takeDue := by unfold arbitrate; simp only []; split <;> (try split) <;> simp
@[simp] theorem arbitrate_now (p : Port) (s : State) : (arbitrate p s).now = s.now := by unfold arbitrate; simp only []; split <;> (try split) <;> simp
@[simp] theorem arbitrate_choices (p : Port) (s : State) : (arbitrate p s).choices = s.choices := by unfold arbitrate; simp only []; split <;> (try split) <;> simp
@[simp] theorem arbitrate_phase (p : Port) (s : State) : (arbitrate p s).phase = s.phase := by unfold arbitrate; simp only []; split <;> (try split) <;> simp
@[simp] theorem arbitrate_cause (p : Port) (s : State) : (arbitrate p s).cause = s.cause := by unfold arbitrate; simp only []; split <;> (try split) <;> simp
@[simp] theorem arbitrate_mode (p : Port) (s : State) : (arbitrate p s).mode = s.mode := by unfold arbitrate; simp only []; split <;> (try split) <;> simp
@[simp] theorem arbitrate_resetWaiting (p : Port) (s : State) : (arbitrate p s).resetWaiting = s.resetWaiting := by unfold arbitrate; simp only []; split <;> (try split) <;> simp
@[simp] theorem arbitrate_rails (p : Port) (s : State) : (arbitrate p s).rails = s.rails := by unfold arbitrate; simp only []; split <;> (try split) <;> simp
@[simp] theorem arbitrate_en (p : Port) (s : State) : (arbitrate p s).en = s.en := by unfold arbitrate; simp only []; split <;> (try split) <;> simp
@[simp] theorem arbitrate_dis (p : Port) (s : State) : (arbitrate p s).dis = s.dis := by unfold arbitrate; simp only []; split <;> (try split) <;> simp
@[simp] theorem arbitrate_ctl (p : Port) (s : State) : (arbitrate p s).ctl = s.ctl := by unfold arbitrate; simp only []; split <;> (try split) <;> simp
@[simp] theorem arbitrate_chans (p : Port) (s : State) : (arbitrate p s).chans = s.chans := by unfold arbitrate; simp only []; split <;> (try split) <;> simp
@[simp] theorem arbitrate_marks (p : Port) (s : State) : (arbitrate p s).marks = s.marks := by unfold arbitrate; simp only []; split <;> (try split) <;> simp
@[simp] theorem arbitrate_conv (p : Port) (s : State) : (arbitrate p s).conv = s.conv := by unfold arbitrate; simp only []; split <;> (try split) <;> simp
@[simp] theorem arbitrate_line (p : Port) (s : State) : (arbitrate p s).line = s.line := by unfold arbitrate; simp only []; split <;> (try split) <;> simp
@[simp] theorem arbitrate_sync (p : Port) (s : State) : (arbitrate p s).sync = s.sync := by unfold arbitrate; simp only []; split <;> (try split) <;> simp
@[simp] theorem arbitrate_seq (p : Port) (s : State) : (arbitrate p s).seq = s.seq := by unfold arbitrate; simp only []; split <;> (try split) <;> simp
@[simp] theorem arbitrate_sched (p : Port) (s : State) : (arbitrate p s).sched = s.sched := by unfold arbitrate; simp only []; split <;> (try split) <;> simp
@[simp] theorem arbitrate_rtu (p : Port) (s : State) : (arbitrate p s).rtu = s.rtu := by unfold arbitrate; simp only []; split <;> (try split) <;> simp
@[simp] theorem arbitrate_up (p : Port) (s : State) : (arbitrate p s).up = s.up := by unfold arbitrate; simp only []; split <;> (try split) <;> simp
@[simp] theorem arbitrate_fwd (p : Port) (s : State) : (arbitrate p s).fwd = s.fwd := by unfold arbitrate; simp only []; split <;> (try split) <;> simp
@[simp] theorem arbitrate_ev (p : Port) (s : State) : (arbitrate p s).ev = s.ev := by unfold arbitrate; simp only []; split <;> (try split) <;> simp
@[simp] theorem arbitrate_store (p : Port) (s : State) : (arbitrate p s).store = s.store := by unfold arbitrate; simp only []; split <;> (try split) <;> simp

/-! ### offerRail -/

@[simp] theorem offerRail_pending (r : RailId) (s : State) : (offerRail r s).pending = s.pending := by unfold offerRail; split <;> simp
@[simp] theorem offerRail_agenda (r : RailId) (s : State) : (offerRail r s).agenda = s.agenda := by unfold offerRail; split <;> simp
@[simp] theorem offerRail_takeDue (r : RailId) (s : State) : (offerRail r s).takeDue = s.takeDue := by unfold offerRail; split <;> simp
@[simp] theorem offerRail_now (r : RailId) (s : State) : (offerRail r s).now = s.now := by unfold offerRail; split <;> simp
@[simp] theorem offerRail_choices (r : RailId) (s : State) : (offerRail r s).choices = s.choices := by unfold offerRail; split <;> simp
@[simp] theorem offerRail_phase (r : RailId) (s : State) : (offerRail r s).phase = s.phase := by unfold offerRail; split <;> simp
@[simp] theorem offerRail_cause (r : RailId) (s : State) : (offerRail r s).cause = s.cause := by unfold offerRail; split <;> simp
@[simp] theorem offerRail_mode (r : RailId) (s : State) : (offerRail r s).mode = s.mode := by unfold offerRail; split <;> simp
@[simp] theorem offerRail_resetWaiting (r : RailId) (s : State) : (offerRail r s).resetWaiting = s.resetWaiting := by unfold offerRail; split <;> simp
@[simp] theorem offerRail_rails (r : RailId) (s : State) : (offerRail r s).rails = s.rails := by unfold offerRail; split <;> simp
@[simp] theorem offerRail_en (r : RailId) (s : State) : (offerRail r s).en = s.en := by unfold offerRail; split <;> simp
@[simp] theorem offerRail_dis (r : RailId) (s : State) : (offerRail r s).dis = s.dis := by unfold offerRail; split <;> simp
@[simp] theorem offerRail_ctl (r : RailId) (s : State) : (offerRail r s).ctl = s.ctl := by unfold offerRail; split <;> simp
@[simp] theorem offerRail_chans (r : RailId) (s : State) : (offerRail r s).chans = s.chans := by unfold offerRail; split <;> simp
@[simp] theorem offerRail_marks (r : RailId) (s : State) : (offerRail r s).marks = s.marks := by unfold offerRail; split <;> simp
@[simp] theorem offerRail_conv (r : RailId) (s : State) : (offerRail r s).conv = s.conv := by unfold offerRail; split <;> simp
@[simp] theorem offerRail_line (r : RailId) (s : State) : (offerRail r s).line = s.line := by unfold offerRail; split <;> simp
@[simp] theorem offerRail_sync (r : RailId) (s : State) : (offerRail r s).sync = s.sync := by unfold offerRail; split <;> simp
@[simp] theorem offerRail_seq (r : RailId) (s : State) : (offerRail r s).seq = s.seq := by unfold offerRail; split <;> simp
@[simp] theorem offerRail_sched (r : RailId) (s : State) : (offerRail r s).sched = s.sched := by unfold offerRail; split <;> simp
@[simp] theorem offerRail_rtu (r : RailId) (s : State) : (offerRail r s).rtu = s.rtu := by unfold offerRail; split <;> simp
@[simp] theorem offerRail_up (r : RailId) (s : State) : (offerRail r s).up = s.up := by unfold offerRail; split <;> simp
@[simp] theorem offerRail_fwd (r : RailId) (s : State) : (offerRail r s).fwd = s.fwd := by unfold offerRail; split <;> simp
@[simp] theorem offerRail_ev (r : RailId) (s : State) : (offerRail r s).ev = s.ev := by unfold offerRail; split <;> simp
@[simp] theorem offerRail_store (r : RailId) (s : State) : (offerRail r s).store = s.store := by unfold offerRail; split <;> simp

/-! ### withdrawRail -/

@[simp] theorem withdrawRail_pending (r : RailId) (s : State) : (withdrawRail r s).pending = s.pending := by unfold withdrawRail; split <;> simp
@[simp] theorem withdrawRail_agenda (r : RailId) (s : State) : (withdrawRail r s).agenda = s.agenda := by unfold withdrawRail; split <;> simp
@[simp] theorem withdrawRail_takeDue (r : RailId) (s : State) : (withdrawRail r s).takeDue = s.takeDue := by unfold withdrawRail; split <;> simp
@[simp] theorem withdrawRail_now (r : RailId) (s : State) : (withdrawRail r s).now = s.now := by unfold withdrawRail; split <;> simp
@[simp] theorem withdrawRail_choices (r : RailId) (s : State) : (withdrawRail r s).choices = s.choices := by unfold withdrawRail; split <;> simp
@[simp] theorem withdrawRail_phase (r : RailId) (s : State) : (withdrawRail r s).phase = s.phase := by unfold withdrawRail; split <;> simp
@[simp] theorem withdrawRail_cause (r : RailId) (s : State) : (withdrawRail r s).cause = s.cause := by unfold withdrawRail; split <;> simp
@[simp] theorem withdrawRail_mode (r : RailId) (s : State) : (withdrawRail r s).mode = s.mode := by unfold withdrawRail; split <;> simp
@[simp] theorem withdrawRail_resetWaiting (r : RailId) (s : State) : (withdrawRail r s).resetWaiting = s.resetWaiting := by unfold withdrawRail; split <;> simp
@[simp] theorem withdrawRail_rails (r : RailId) (s : State) : (withdrawRail r s).rails = s.rails := by unfold withdrawRail; split <;> simp
@[simp] theorem withdrawRail_en (r : RailId) (s : State) : (withdrawRail r s).en = s.en := by unfold withdrawRail; split <;> simp
@[simp] theorem withdrawRail_dis (r : RailId) (s : State) : (withdrawRail r s).dis = s.dis := by unfold withdrawRail; split <;> simp
@[simp] theorem withdrawRail_ctl (r : RailId) (s : State) : (withdrawRail r s).ctl = s.ctl := by unfold withdrawRail; split <;> simp
@[simp] theorem withdrawRail_chans (r : RailId) (s : State) : (withdrawRail r s).chans = s.chans := by unfold withdrawRail; split <;> simp
@[simp] theorem withdrawRail_marks (r : RailId) (s : State) : (withdrawRail r s).marks = s.marks := by unfold withdrawRail; split <;> simp
@[simp] theorem withdrawRail_conv (r : RailId) (s : State) : (withdrawRail r s).conv = s.conv := by unfold withdrawRail; split <;> simp
@[simp] theorem withdrawRail_line (r : RailId) (s : State) : (withdrawRail r s).line = s.line := by unfold withdrawRail; split <;> simp
@[simp] theorem withdrawRail_sync (r : RailId) (s : State) : (withdrawRail r s).sync = s.sync := by unfold withdrawRail; split <;> simp
@[simp] theorem withdrawRail_seq (r : RailId) (s : State) : (withdrawRail r s).seq = s.seq := by unfold withdrawRail; split <;> simp
@[simp] theorem withdrawRail_sched (r : RailId) (s : State) : (withdrawRail r s).sched = s.sched := by unfold withdrawRail; split <;> simp
@[simp] theorem withdrawRail_rtu (r : RailId) (s : State) : (withdrawRail r s).rtu = s.rtu := by unfold withdrawRail; split <;> simp
@[simp] theorem withdrawRail_up (r : RailId) (s : State) : (withdrawRail r s).up = s.up := by unfold withdrawRail; split <;> simp
@[simp] theorem withdrawRail_fwd (r : RailId) (s : State) : (withdrawRail r s).fwd = s.fwd := by unfold withdrawRail; split <;> simp
@[simp] theorem withdrawRail_ev (r : RailId) (s : State) : (withdrawRail r s).ev = s.ev := by unfold withdrawRail; split <;> simp
@[simp] theorem withdrawRail_store (r : RailId) (s : State) : (withdrawRail r s).store = s.store := by unfold withdrawRail; split <;> simp

/-! ### offerSeq -/

@[simp] theorem offerSeq_pending (p : Port) (f : SeqFrame) (s : State) : (offerSeq p f s).pending = s.pending := by unfold offerSeq; simp
@[simp] theorem offerSeq_agenda (p : Port) (f : SeqFrame) (s : State) : (offerSeq p f s).agenda = s.agenda := by unfold offerSeq; simp
@[simp] theorem offerSeq_takeDue (p : Port) (f : SeqFrame) (s : State) : (offerSeq p f s).takeDue = s.takeDue := by unfold offerSeq; simp
@[simp] theorem offerSeq_now (p : Port) (f : SeqFrame) (s : State) : (offerSeq p f s).now = s.now := by unfold offerSeq; simp
@[simp] theorem offerSeq_choices (p : Port) (f : SeqFrame) (s : State) : (offerSeq p f s).choices = s.choices := by unfold offerSeq; simp
@[simp] theorem offerSeq_phase (p : Port) (f : SeqFrame) (s : State) : (offerSeq p f s).phase = s.phase := by unfold offerSeq; simp
@[simp] theorem offerSeq_cause (p : Port) (f : SeqFrame) (s : State) : (offerSeq p f s).cause = s.cause := by unfold offerSeq; simp
@[simp] theorem offerSeq_mode (p : Port) (f : SeqFrame) (s : State) : (offerSeq p f s).mode = s.mode := by unfold offerSeq; simp
@[simp] theorem offerSeq_resetWaiting (p : Port) (f : SeqFrame) (s : State) : (offerSeq p f s).resetWaiting = s.resetWaiting := by unfold offerSeq; simp
@[simp] theorem offerSeq_rails (p : Port) (f : SeqFrame) (s : State) : (offerSeq p f s).rails = s.rails := by unfold offerSeq; simp
@[simp] theorem offerSeq_en (p : Port) (f : SeqFrame) (s : State) : (offerSeq p f s).en = s.en := by unfold offerSeq; simp
@[simp] theorem offerSeq_dis (p : Port) (f : SeqFrame) (s : State) : (offerSeq p f s).dis = s.dis := by unfold offerSeq; simp
@[simp] theorem offerSeq_ctl (p : Port) (f : SeqFrame) (s : State) : (offerSeq p f s).ctl = s.ctl := by unfold offerSeq; simp
@[simp] theorem offerSeq_chans (p : Port) (f : SeqFrame) (s : State) : (offerSeq p f s).chans = s.chans := by unfold offerSeq; simp
@[simp] theorem offerSeq_marks (p : Port) (f : SeqFrame) (s : State) : (offerSeq p f s).marks = s.marks := by unfold offerSeq; simp
@[simp] theorem offerSeq_conv (p : Port) (f : SeqFrame) (s : State) : (offerSeq p f s).conv = s.conv := by unfold offerSeq; simp
@[simp] theorem offerSeq_line (p : Port) (f : SeqFrame) (s : State) : (offerSeq p f s).line = s.line := by unfold offerSeq; simp
@[simp] theorem offerSeq_sync (p : Port) (f : SeqFrame) (s : State) : (offerSeq p f s).sync = s.sync := by unfold offerSeq; simp
@[simp] theorem offerSeq_seq (p : Port) (f : SeqFrame) (s : State) : (offerSeq p f s).seq = s.seq := by unfold offerSeq; simp
@[simp] theorem offerSeq_sched (p : Port) (f : SeqFrame) (s : State) : (offerSeq p f s).sched = s.sched := by unfold offerSeq; simp
@[simp] theorem offerSeq_rtu (p : Port) (f : SeqFrame) (s : State) : (offerSeq p f s).rtu = s.rtu := by unfold offerSeq; simp
@[simp] theorem offerSeq_up (p : Port) (f : SeqFrame) (s : State) : (offerSeq p f s).up = s.up := by unfold offerSeq; simp
@[simp] theorem offerSeq_fwd (p : Port) (f : SeqFrame) (s : State) : (offerSeq p f s).fwd = s.fwd := by unfold offerSeq; simp
@[simp] theorem offerSeq_ev (p : Port) (f : SeqFrame) (s : State) : (offerSeq p f s).ev = s.ev := by unfold offerSeq; simp
@[simp] theorem offerSeq_store (p : Port) (f : SeqFrame) (s : State) : (offerSeq p f s).store = s.store := by unfold offerSeq; simp

/-! ### withdrawSend -/

@[simp] theorem withdrawSend_pending (p : Port) (s : State) : (withdrawSend p s).pending = s.pending := by unfold withdrawSend; simp
@[simp] theorem withdrawSend_agenda (p : Port) (s : State) : (withdrawSend p s).agenda = s.agenda := by unfold withdrawSend; simp
@[simp] theorem withdrawSend_takeDue (p : Port) (s : State) : (withdrawSend p s).takeDue = s.takeDue := by unfold withdrawSend; simp
@[simp] theorem withdrawSend_now (p : Port) (s : State) : (withdrawSend p s).now = s.now := by unfold withdrawSend; simp
@[simp] theorem withdrawSend_choices (p : Port) (s : State) : (withdrawSend p s).choices = s.choices := by unfold withdrawSend; simp
@[simp] theorem withdrawSend_phase (p : Port) (s : State) : (withdrawSend p s).phase = s.phase := by unfold withdrawSend; simp
@[simp] theorem withdrawSend_cause (p : Port) (s : State) : (withdrawSend p s).cause = s.cause := by unfold withdrawSend; simp
@[simp] theorem withdrawSend_mode (p : Port) (s : State) : (withdrawSend p s).mode = s.mode := by unfold withdrawSend; simp
@[simp] theorem withdrawSend_resetWaiting (p : Port) (s : State) : (withdrawSend p s).resetWaiting = s.resetWaiting := by unfold withdrawSend; simp
@[simp] theorem withdrawSend_rails (p : Port) (s : State) : (withdrawSend p s).rails = s.rails := by unfold withdrawSend; simp
@[simp] theorem withdrawSend_en (p : Port) (s : State) : (withdrawSend p s).en = s.en := by unfold withdrawSend; simp
@[simp] theorem withdrawSend_dis (p : Port) (s : State) : (withdrawSend p s).dis = s.dis := by unfold withdrawSend; simp
@[simp] theorem withdrawSend_ctl (p : Port) (s : State) : (withdrawSend p s).ctl = s.ctl := by unfold withdrawSend; simp
@[simp] theorem withdrawSend_chans (p : Port) (s : State) : (withdrawSend p s).chans = s.chans := by unfold withdrawSend; simp
@[simp] theorem withdrawSend_marks (p : Port) (s : State) : (withdrawSend p s).marks = s.marks := by unfold withdrawSend; simp
@[simp] theorem withdrawSend_conv (p : Port) (s : State) : (withdrawSend p s).conv = s.conv := by unfold withdrawSend; simp
@[simp] theorem withdrawSend_line (p : Port) (s : State) : (withdrawSend p s).line = s.line := by unfold withdrawSend; simp
@[simp] theorem withdrawSend_sync (p : Port) (s : State) : (withdrawSend p s).sync = s.sync := by unfold withdrawSend; simp
@[simp] theorem withdrawSend_seq (p : Port) (s : State) : (withdrawSend p s).seq = s.seq := by unfold withdrawSend; simp
@[simp] theorem withdrawSend_sched (p : Port) (s : State) : (withdrawSend p s).sched = s.sched := by unfold withdrawSend; simp
@[simp] theorem withdrawSend_rtu (p : Port) (s : State) : (withdrawSend p s).rtu = s.rtu := by unfold withdrawSend; simp
@[simp] theorem withdrawSend_up (p : Port) (s : State) : (withdrawSend p s).up = s.up := by unfold withdrawSend; simp
@[simp] theorem withdrawSend_fwd (p : Port) (s : State) : (withdrawSend p s).fwd = s.fwd := by unfold withdrawSend; simp
@[simp] theorem withdrawSend_ev (p : Port) (s : State) : (withdrawSend p s).ev = s.ev := by unfold withdrawSend; simp
@[simp] theorem withdrawSend_store (p : Port) (s : State) : (withdrawSend p s).store = s.store := by unfold withdrawSend; simp

/-! ### withdrawSeqAll -/

@[simp] theorem withdrawSeqAll_pending (p : Port) (s : State) : (withdrawSeqAll p s).pending = s.pending := rfl
@[simp] theorem withdrawSeqAll_agenda (p : Port) (s : State) : (withdrawSeqAll p s).agenda = s.agenda := rfl
@[simp] theorem withdrawSeqAll_takeDue (p : Port) (s : State) : (withdrawSeqAll p s).takeDue = s.takeDue := rfl
@[simp] theorem withdrawSeqAll_now (p : Port) (s : State) : (withdrawSeqAll p s).now = s.now := rfl
@[simp] theorem withdrawSeqAll_choices (p : Port) (s : State) : (withdrawSeqAll p s).choices = s.choices := rfl
@[simp] theorem withdrawSeqAll_phase (p : Port) (s : State) : (withdrawSeqAll p s).phase = s.phase := rfl
@[simp] theorem withdrawSeqAll_cause (p : Port) (s : State) : (withdrawSeqAll p s).cause = s.cause := rfl
@[simp] theorem withdrawSeqAll_mode (p : Port) (s : State) : (withdrawSeqAll p s).mode = s.mode := rfl
@[simp] theorem withdrawSeqAll_resetWaiting (p : Port) (s : State) : (withdrawSeqAll p s).resetWaiting = s.resetWaiting := rfl
@[simp] theorem withdrawSeqAll_rails (p : Port) (s : State) : (withdrawSeqAll p s).rails = s.rails := rfl
@[simp] theorem withdrawSeqAll_en (p : Port) (s : State) : (withdrawSeqAll p s).en = s.en := rfl
@[simp] theorem withdrawSeqAll_dis (p : Port) (s : State) : (withdrawSeqAll p s).dis = s.dis := rfl
@[simp] theorem withdrawSeqAll_ctl (p : Port) (s : State) : (withdrawSeqAll p s).ctl = s.ctl := rfl
@[simp] theorem withdrawSeqAll_chans (p : Port) (s : State) : (withdrawSeqAll p s).chans = s.chans := rfl
@[simp] theorem withdrawSeqAll_marks (p : Port) (s : State) : (withdrawSeqAll p s).marks = s.marks := rfl
@[simp] theorem withdrawSeqAll_conv (p : Port) (s : State) : (withdrawSeqAll p s).conv = s.conv := rfl
@[simp] theorem withdrawSeqAll_line (p : Port) (s : State) : (withdrawSeqAll p s).line = s.line := rfl
@[simp] theorem withdrawSeqAll_sync (p : Port) (s : State) : (withdrawSeqAll p s).sync = s.sync := rfl
@[simp] theorem withdrawSeqAll_seq (p : Port) (s : State) : (withdrawSeqAll p s).seq = s.seq := rfl
@[simp] theorem withdrawSeqAll_sched (p : Port) (s : State) : (withdrawSeqAll p s).sched = s.sched := rfl
@[simp] theorem withdrawSeqAll_rtu (p : Port) (s : State) : (withdrawSeqAll p s).rtu = s.rtu := rfl
@[simp] theorem withdrawSeqAll_up (p : Port) (s : State) : (withdrawSeqAll p s).up = s.up := rfl
@[simp] theorem withdrawSeqAll_fwd (p : Port) (s : State) : (withdrawSeqAll p s).fwd = s.fwd := rfl
@[simp] theorem withdrawSeqAll_ev (p : Port) (s : State) : (withdrawSeqAll p s).ev = s.ev := rfl
@[simp] theorem withdrawSeqAll_store (p : Port) (s : State) : (withdrawSeqAll p s).store = s.store := rfl

/-! ### withdrawForward -/

@[simp] theorem withdrawForward_pending (p : Port) (s : State) : (withdrawForward p s).pending = s.pending := rfl
@[simp] theorem withdrawForward_agenda (p : Port) (s : State) : (withdrawForward p s).agenda = s.agenda := rfl
@[simp] theorem withdrawForward_takeDue (p : Port) (s : State) : (withdrawForward p s).takeDue = s.takeDue := rfl
@[simp] theorem withdrawForward_now (p : Port) (s : State) : (withdrawForward p s).now = s.now := rfl
@[simp] theorem withdrawForward_choices (p : Port) (s : State) : (withdrawForward p s).choices = s.choices := rfl
@[simp] theorem withdrawForward_phase (p : Port) (s : State) : (withdrawForward p s).phase = s.phase := rfl
@[simp] theorem withdrawForward_cause (p : Port) (s : State) : (withdrawForward p s).cause = s.cause := rfl
@[simp] theorem withdrawForward_mode (p : Port) (s : State) : (withdrawForward p s).mode = s.mode := rfl
@[simp] theorem withdrawForward_resetWaiting (p : Port) (s : State) : (withdrawForward p s).resetWaiting = s.resetWaiting := rfl
@[simp] theorem withdrawForward_rails (p : Port) (s : State) : (withdrawForward p s).rails = s.rails := rfl
@[simp] theorem withdrawForward_en (p : Port) (s : State) : (withdrawForward p s).en = s.en := rfl
@[simp] theorem withdrawForward_dis (p : Port) (s : State) : (withdrawForward p s).dis = s.dis := rfl
@[simp] theorem withdrawForward_ctl (p : Port) (s : State) : (withdrawForward p s).ctl = s.ctl := rfl
@[simp] theorem withdrawForward_chans (p : Port) (s : State) : (withdrawForward p s).chans = s.chans := rfl
@[simp] theorem withdrawForward_marks (p : Port) (s : State) : (withdrawForward p s).marks = s.marks := rfl
@[simp] theorem withdrawForward_conv (p : Port) (s : State) : (withdrawForward p s).conv = s.conv := rfl
@[simp] theorem withdrawForward_line (p : Port) (s : State) : (withdrawForward p s).line = s.line := rfl
@[simp] theorem withdrawForward_sync (p : Port) (s : State) : (withdrawForward p s).sync = s.sync := rfl
@[simp] theorem withdrawForward_seq (p : Port) (s : State) : (withdrawForward p s).seq = s.seq := rfl
@[simp] theorem withdrawForward_sched (p : Port) (s : State) : (withdrawForward p s).sched = s.sched := rfl
@[simp] theorem withdrawForward_rtu (p : Port) (s : State) : (withdrawForward p s).rtu = s.rtu := rfl
@[simp] theorem withdrawForward_up (p : Port) (s : State) : (withdrawForward p s).up = s.up := rfl
@[simp] theorem withdrawForward_fwd (p : Port) (s : State) : (withdrawForward p s).fwd = s.fwd := rfl
@[simp] theorem withdrawForward_ev (p : Port) (s : State) : (withdrawForward p s).ev = s.ev := rfl
@[simp] theorem withdrawForward_store (p : Port) (s : State) : (withdrawForward p s).store = s.store := rfl

/-! ### cutOff -/

@[simp] theorem cutOff_pending (p : Port) (s : State) : (cutOff p s).pending = s.pending := rfl
@[simp] theorem cutOff_agenda (p : Port) (s : State) : (cutOff p s).agenda = s.agenda := rfl
@[simp] theorem cutOff_takeDue (p : Port) (s : State) : (cutOff p s).takeDue = s.takeDue := rfl
@[simp] theorem cutOff_now (p : Port) (s : State) : (cutOff p s).now = s.now := rfl
@[simp] theorem cutOff_choices (p : Port) (s : State) : (cutOff p s).choices = s.choices := rfl
@[simp] theorem cutOff_phase (p : Port) (s : State) : (cutOff p s).phase = s.phase := rfl
@[simp] theorem cutOff_cause (p : Port) (s : State) : (cutOff p s).cause = s.cause := rfl
@[simp] theorem cutOff_mode (p : Port) (s : State) : (cutOff p s).mode = s.mode := rfl
@[simp] theorem cutOff_resetWaiting (p : Port) (s : State) : (cutOff p s).resetWaiting = s.resetWaiting := rfl
@[simp] theorem cutOff_rails (p : Port) (s : State) : (cutOff p s).rails = s.rails := rfl
@[simp] theorem cutOff_en (p : Port) (s : State) : (cutOff p s).en = s.en := rfl
@[simp] theorem cutOff_dis (p : Port) (s : State) : (cutOff p s).dis = s.dis := rfl
@[simp] theorem cutOff_ctl (p : Port) (s : State) : (cutOff p s).ctl = s.ctl := rfl
@[simp] theorem cutOff_chans (p : Port) (s : State) : (cutOff p s).chans = s.chans := rfl
@[simp] theorem cutOff_marks (p : Port) (s : State) : (cutOff p s).marks = s.marks := rfl
@[simp] theorem cutOff_conv (p : Port) (s : State) : (cutOff p s).conv = s.conv := rfl
@[simp] theorem cutOff_line (p : Port) (s : State) : (cutOff p s).line = s.line := rfl
@[simp] theorem cutOff_sync (p : Port) (s : State) : (cutOff p s).sync = s.sync := rfl
@[simp] theorem cutOff_seq (p : Port) (s : State) : (cutOff p s).seq = s.seq := rfl
@[simp] theorem cutOff_sched (p : Port) (s : State) : (cutOff p s).sched = s.sched := rfl
@[simp] theorem cutOff_rtu (p : Port) (s : State) : (cutOff p s).rtu = s.rtu := rfl
@[simp] theorem cutOff_up (p : Port) (s : State) : (cutOff p s).up = s.up := rfl
@[simp] theorem cutOff_fwd (p : Port) (s : State) : (cutOff p s).fwd = s.fwd := rfl
@[simp] theorem cutOff_ev (p : Port) (s : State) : (cutOff p s).ev = s.ev := rfl
@[simp] theorem cutOff_store (p : Port) (s : State) : (cutOff p s).store = s.store := rfl

/-! ### sendProbe -/

@[simp] theorem sendProbe_pending (p : Port) (s : State) : (sendProbe p s).pending = s.pending := by unfold sendProbe; simp
@[simp] theorem sendProbe_agenda (p : Port) (s : State) : (sendProbe p s).agenda = s.agenda := by unfold sendProbe; simp
@[simp] theorem sendProbe_takeDue (p : Port) (s : State) : (sendProbe p s).takeDue = s.takeDue := by unfold sendProbe; simp
@[simp] theorem sendProbe_now (p : Port) (s : State) : (sendProbe p s).now = s.now := by unfold sendProbe; simp
@[simp] theorem sendProbe_choices (p : Port) (s : State) : (sendProbe p s).choices = s.choices := by unfold sendProbe; simp
@[simp] theorem sendProbe_phase (p : Port) (s : State) : (sendProbe p s).phase = s.phase := by unfold sendProbe; simp
@[simp] theorem sendProbe_cause (p : Port) (s : State) : (sendProbe p s).cause = s.cause := by unfold sendProbe; simp
@[simp] theorem sendProbe_mode (p : Port) (s : State) : (sendProbe p s).mode = s.mode := by unfold sendProbe; simp
@[simp] theorem sendProbe_resetWaiting (p : Port) (s : State) : (sendProbe p s).resetWaiting = s.resetWaiting := by unfold sendProbe; simp
@[simp] theorem sendProbe_rails (p : Port) (s : State) : (sendProbe p s).rails = s.rails := by unfold sendProbe; simp
@[simp] theorem sendProbe_en (p : Port) (s : State) : (sendProbe p s).en = s.en := by unfold sendProbe; simp
@[simp] theorem sendProbe_dis (p : Port) (s : State) : (sendProbe p s).dis = s.dis := by unfold sendProbe; simp
@[simp] theorem sendProbe_ctl (p : Port) (s : State) : (sendProbe p s).ctl = s.ctl := by unfold sendProbe; simp
@[simp] theorem sendProbe_chans (p : Port) (s : State) : (sendProbe p s).chans = s.chans := by unfold sendProbe; simp
@[simp] theorem sendProbe_marks (p : Port) (s : State) : (sendProbe p s).marks = s.marks := by unfold sendProbe; simp
@[simp] theorem sendProbe_conv (p : Port) (s : State) : (sendProbe p s).conv = s.conv := by unfold sendProbe; simp
@[simp] theorem sendProbe_line (p : Port) (s : State) : (sendProbe p s).line = s.line := by unfold sendProbe; simp
@[simp] theorem sendProbe_sync (p : Port) (s : State) : (sendProbe p s).sync = s.sync := by unfold sendProbe; simp
@[simp] theorem sendProbe_seq (p : Port) (s : State) : (sendProbe p s).seq = s.seq := by unfold sendProbe; simp
@[simp] theorem sendProbe_sched (p : Port) (s : State) : (sendProbe p s).sched = s.sched := by unfold sendProbe; simp
@[simp] theorem sendProbe_rtu (p : Port) (s : State) : (sendProbe p s).rtu = s.rtu := by unfold sendProbe; simp
@[simp] theorem sendProbe_up (p : Port) (s : State) : (sendProbe p s).up = s.up := by unfold sendProbe; simp
@[simp] theorem sendProbe_fwd (p : Port) (s : State) : (sendProbe p s).fwd = s.fwd := by unfold sendProbe; simp
@[simp] theorem sendProbe_ev (p : Port) (s : State) : (sendProbe p s).ev = s.ev := by unfold sendProbe; simp
@[simp] theorem sendProbe_store (p : Port) (s : State) : (sendProbe p s).store = s.store := by unfold sendProbe; simp

/-! ### enterExchange -/

@[simp] theorem enterExchange_pending (p : Port) (s : State) : (enterExchange p s).pending = s.pending := by unfold enterExchange; simp
@[simp] theorem enterExchange_agenda (p : Port) (s : State) : (enterExchange p s).agenda = s.agenda := by unfold enterExchange; simp
@[simp] theorem enterExchange_takeDue (p : Port) (s : State) : (enterExchange p s).takeDue = s.takeDue := by unfold enterExchange; simp
@[simp] theorem enterExchange_now (p : Port) (s : State) : (enterExchange p s).now = s.now := by unfold enterExchange; simp
@[simp] theorem enterExchange_choices (p : Port) (s : State) : (enterExchange p s).choices = s.choices := by unfold enterExchange; simp
@[simp] theorem enterExchange_phase (p : Port) (s : State) : (enterExchange p s).phase = s.phase := by unfold enterExchange; simp
@[simp] theorem enterExchange_cause (p : Port) (s : State) : (enterExchange p s).cause = s.cause := by unfold enterExchange; simp
@[simp] theorem enterExchange_mode (p : Port) (s : State) : (enterExchange p s).mode = s.mode := by unfold enterExchange; simp
@[simp] theorem enterExchange_resetWaiting (p : Port) (s : State) : (enterExchange p s).resetWaiting = s.resetWaiting := by unfold enterExchange; simp
@[simp] theorem enterExchange_rails (p : Port) (s : State) : (enterExchange p s).rails = s.rails := by unfold enterExchange; simp
@[simp] theorem enterExchange_en (p : Port) (s : State) : (enterExchange p s).en = s.en := by unfold enterExchange; simp
@[simp] theorem enterExchange_dis (p : Port) (s : State) : (enterExchange p s).dis = s.dis := by unfold enterExchange; simp
@[simp] theorem enterExchange_ctl (p : Port) (s : State) : (enterExchange p s).ctl = s.ctl := by unfold enterExchange; simp
@[simp] theorem enterExchange_chans (p : Port) (s : State) : (enterExchange p s).chans = s.chans := by unfold enterExchange; simp
@[simp] theorem enterExchange_marks (p : Port) (s : State) : (enterExchange p s).marks = s.marks := by unfold enterExchange; simp
@[simp] theorem enterExchange_conv (p : Port) (s : State) : (enterExchange p s).conv = s.conv := by unfold enterExchange; simp
@[simp] theorem enterExchange_line (p : Port) (s : State) : (enterExchange p s).line = s.line := by unfold enterExchange; simp
@[simp] theorem enterExchange_sync (p : Port) (s : State) : (enterExchange p s).sync = s.sync := by unfold enterExchange; simp
@[simp] theorem enterExchange_seq (p : Port) (s : State) : (enterExchange p s).seq = s.seq := by unfold enterExchange; simp
@[simp] theorem enterExchange_sched (p : Port) (s : State) : (enterExchange p s).sched = s.sched := by unfold enterExchange; simp
@[simp] theorem enterExchange_rtu (p : Port) (s : State) : (enterExchange p s).rtu = s.rtu := by unfold enterExchange; simp
@[simp] theorem enterExchange_up (p : Port) (s : State) : (enterExchange p s).up = s.up := by unfold enterExchange; simp
@[simp] theorem enterExchange_fwd (p : Port) (s : State) : (enterExchange p s).fwd = s.fwd := by unfold enterExchange; simp
@[simp] theorem enterExchange_ev (p : Port) (s : State) : (enterExchange p s).ev = s.ev := by unfold enterExchange; simp
@[simp] theorem enterExchange_store (p : Port) (s : State) : (enterExchange p s).store = s.store := by unfold enterExchange; simp

/-! ### lookAtPort -/

@[simp] theorem lookAtPort_pending (p : Port) (s : State) : (lookAtPort p s).pending = s.pending := by unfold lookAtPort; split <;> simp
@[simp] theorem lookAtPort_agenda (p : Port) (s : State) : (lookAtPort p s).agenda = s.agenda := by unfold lookAtPort; split <;> simp
@[simp] theorem lookAtPort_takeDue (p : Port) (s : State) : (lookAtPort p s).takeDue = s.takeDue := by unfold lookAtPort; split <;> simp
@[simp] theorem lookAtPort_now (p : Port) (s : State) : (lookAtPort p s).now = s.now := by unfold lookAtPort; split <;> simp
@[simp] theorem lookAtPort_choices (p : Port) (s : State) : (lookAtPort p s).choices = s.choices := by unfold lookAtPort; split <;> simp
@[simp] theorem lookAtPort_phase (p : Port) (s : State) : (lookAtPort p s).phase = s.phase := by unfold lookAtPort; split <;> simp
@[simp] theorem lookAtPort_cause (p : Port) (s : State) : (lookAtPort p s).cause = s.cause := by unfold lookAtPort; split <;> simp
@[simp] theorem lookAtPort_mode (p : Port) (s : State) : (lookAtPort p s).mode = s.mode := by unfold lookAtPort; split <;> simp
@[simp] theorem lookAtPort_resetWaiting (p : Port) (s : State) : (lookAtPort p s).resetWaiting = s.resetWaiting := by unfold lookAtPort; split <;> simp
@[simp] theorem lookAtPort_rails (p : Port) (s : State) : (lookAtPort p s).rails = s.rails := by unfold lookAtPort; split <;> simp
@[simp] theorem lookAtPort_en (p : Port) (s : State) : (lookAtPort p s).en = s.en := by unfold lookAtPort; split <;> simp
@[simp] theorem lookAtPort_dis (p : Port) (s : State) : (lookAtPort p s).dis = s.dis := by unfold lookAtPort; split <;> simp
@[simp] theorem lookAtPort_ctl (p : Port) (s : State) : (lookAtPort p s).ctl = s.ctl := by unfold lookAtPort; split <;> simp
@[simp] theorem lookAtPort_chans (p : Port) (s : State) : (lookAtPort p s).chans = s.chans := by unfold lookAtPort; split <;> simp
@[simp] theorem lookAtPort_marks (p : Port) (s : State) : (lookAtPort p s).marks = s.marks := by unfold lookAtPort; split <;> simp
@[simp] theorem lookAtPort_conv (p : Port) (s : State) : (lookAtPort p s).conv = s.conv := by unfold lookAtPort; split <;> simp
@[simp] theorem lookAtPort_line (p : Port) (s : State) : (lookAtPort p s).line = s.line := by unfold lookAtPort; split <;> simp
@[simp] theorem lookAtPort_sync (p : Port) (s : State) : (lookAtPort p s).sync = s.sync := by unfold lookAtPort; split <;> simp
@[simp] theorem lookAtPort_seq (p : Port) (s : State) : (lookAtPort p s).seq = s.seq := by unfold lookAtPort; split <;> simp
@[simp] theorem lookAtPort_sched (p : Port) (s : State) : (lookAtPort p s).sched = s.sched := by unfold lookAtPort; split <;> simp
@[simp] theorem lookAtPort_rtu (p : Port) (s : State) : (lookAtPort p s).rtu = s.rtu := by unfold lookAtPort; split <;> simp
@[simp] theorem lookAtPort_up (p : Port) (s : State) : (lookAtPort p s).up = s.up := by unfold lookAtPort; split <;> simp
@[simp] theorem lookAtPort_fwd (p : Port) (s : State) : (lookAtPort p s).fwd = s.fwd := by unfold lookAtPort; split <;> simp
@[simp] theorem lookAtPort_ev (p : Port) (s : State) : (lookAtPort p s).ev = s.ev := by unfold lookAtPort; split <;> simp
@[simp] theorem lookAtPort_store (p : Port) (s : State) : (lookAtPort p s).store = s.store := by unfold lookAtPort; split <;> simp

/-! ### lookAtPorts -/

@[simp] theorem lookAtPorts_pending  (s : State) : (lookAtPorts  s).pending = s.pending := by simp [lookAtPorts, Port.all]
@[simp] theorem lookAtPorts_agenda  (s : State) : (lookAtPorts  s).agenda = s.agenda := by simp [lookAtPorts, Port.all]
@[simp] theorem lookAtPorts_takeDue  (s : State) : (lookAtPorts  s).takeDue = s.takeDue := by simp [lookAtPorts, Port.all]
@[simp] theorem lookAtPorts_now  (s : State) : (lookAtPorts  s).now = s.now := by simp [lookAtPorts, Port.all]
@[simp] theorem lookAtPorts_choices  (s : State) : (lookAtPorts  s).choices = s.choices := by simp [lookAtPorts, Port.all]
@[simp] theorem lookAtPorts_phase  (s : State) : (lookAtPorts  s).phase = s.phase := by simp [lookAtPorts, Port.all]
@[simp] theorem lookAtPorts_cause  (s : State) : (lookAtPorts  s).cause = s.cause := by simp [lookAtPorts, Port.all]
@[simp] theorem lookAtPorts_mode  (s : State) : (lookAtPorts  s).mode = s.mode := by simp [lookAtPorts, Port.all]
@[simp] theorem lookAtPorts_resetWaiting  (s : State) : (lookAtPorts  s).resetWaiting = s.resetWaiting := by simp [lookAtPorts, Port.all]
@[simp] theorem lookAtPorts_rails  (s : State) : (lookAtPorts  s).rails = s.rails := by simp [lookAtPorts, Port.all]
@[simp] theorem lookAtPorts_en  (s : State) : (lookAtPorts  s).en = s.en := by simp [lookAtPorts, Port.all]
@[simp] theorem lookAtPorts_dis  (s : State) : (lookAtPorts  s).dis = s.dis := by simp [lookAtPorts, Port.all]
@[simp] theorem lookAtPorts_ctl  (s : State) : (lookAtPorts  s).ctl = s.ctl := by simp [lookAtPorts, Port.all]
@[simp] theorem lookAtPorts_chans  (s : State) : (lookAtPorts  s).chans = s.chans := by simp [lookAtPorts, Port.all]
@[simp] theorem lookAtPorts_marks  (s : State) : (lookAtPorts  s).marks = s.marks := by simp [lookAtPorts, Port.all]
@[simp] theorem lookAtPorts_conv  (s : State) : (lookAtPorts  s).conv = s.conv := by simp [lookAtPorts, Port.all]
@[simp] theorem lookAtPorts_line  (s : State) : (lookAtPorts  s).line = s.line := by simp [lookAtPorts, Port.all]
@[simp] theorem lookAtPorts_sync  (s : State) : (lookAtPorts  s).sync = s.sync := by simp [lookAtPorts, Port.all]
@[simp] theorem lookAtPorts_seq  (s : State) : (lookAtPorts  s).seq = s.seq := by simp [lookAtPorts, Port.all]
@[simp] theorem lookAtPorts_sched  (s : State) : (lookAtPorts  s).sched = s.sched := by simp [lookAtPorts, Port.all]
@[simp] theorem lookAtPorts_rtu  (s : State) : (lookAtPorts  s).rtu = s.rtu := by simp [lookAtPorts, Port.all]
@[simp] theorem lookAtPorts_up  (s : State) : (lookAtPorts  s).up = s.up := by simp [lookAtPorts, Port.all]
@[simp] theorem lookAtPorts_fwd  (s : State) : (lookAtPorts  s).fwd = s.fwd := by simp [lookAtPorts, Port.all]
@[simp] theorem lookAtPorts_ev  (s : State) : (lookAtPorts  s).ev = s.ev := by simp [lookAtPorts, Port.all]
@[simp] theorem lookAtPorts_store  (s : State) : (lookAtPorts  s).store = s.store := by simp [lookAtPorts, Port.all]

/-! ### wake -/

@[simp] theorem wake_pending  (s : State) : (wake  s).pending = s.pending := by unfold wake; split <;> simp
@[simp] theorem wake_agenda  (s : State) : (wake  s).agenda = s.agenda := by unfold wake; split <;> simp
@[simp] theorem wake_takeDue  (s : State) : (wake  s).takeDue = s.takeDue := by unfold wake; split <;> simp
@[simp] theorem wake_now  (s : State) : (wake  s).now = s.now := by unfold wake; split <;> simp
@[simp] theorem wake_choices  (s : State) : (wake  s).choices = s.choices := by unfold wake; split <;> simp
@[simp] theorem wake_phase  (s : State) : (wake  s).phase = s.phase := by unfold wake; split <;> simp
@[simp] theorem wake_cause  (s : State) : (wake  s).cause = s.cause := by unfold wake; split <;> simp
@[simp] theorem wake_resetWaiting  (s : State) : (wake  s).resetWaiting = s.resetWaiting := by unfold wake; split <;> simp
@[simp] theorem wake_rails  (s : State) : (wake  s).rails = s.rails := by unfold wake; split <;> simp
@[simp] theorem wake_en  (s : State) : (wake  s).en = s.en := by unfold wake; split <;> simp
@[simp] theorem wake_dis  (s : State) : (wake  s).dis = s.dis := by unfold wake; split <;> simp
@[simp] theorem wake_ctl  (s : State) : (wake  s).ctl = s.ctl := by unfold wake; split <;> simp
@[simp] theorem wake_chans  (s : State) : (wake  s).chans = s.chans := by unfold wake; split <;> simp
@[simp] theorem wake_marks  (s : State) : (wake  s).marks = s.marks := by unfold wake; split <;> simp
@[simp] theorem wake_conv  (s : State) : (wake  s).conv = s.conv := by unfold wake; split <;> simp
@[simp] theorem wake_line  (s : State) : (wake  s).line = s.line := by unfold wake; split <;> simp
@[simp] theorem wake_sync  (s : State) : (wake  s).sync = s.sync := by unfold wake; split <;> simp
@[simp] theorem wake_seq  (s : State) : (wake  s).seq = s.seq := by unfold wake; split <;> simp
@[simp] theorem wake_sched  (s : State) : (wake  s).sched = s.sched := by unfold wake; split <;> simp
@[simp] theorem wake_rtu  (s : State) : (wake  s).rtu = s.rtu := by unfold wake; split <;> simp
@[simp] theorem wake_up  (s : State) : (wake  s).up = s.up := by unfold wake; split <;> simp
@[simp] theorem wake_fwd  (s : State) : (wake  s).fwd = s.fwd := by unfold wake; split <;> simp
@[simp] theorem wake_ev  (s : State) : (wake  s).ev = s.ev := by unfold wake; split <;> simp
@[simp] theorem wake_store  (s : State) : (wake  s).store = s.store := by unfold wake; split <;> simp

/-! ### makeFrame -/

@[simp] theorem makeFrame_pending (r : RailId) (a b : Bool) (s : State) : (makeFrame r a b s).pending = s.pending := by unfold makeFrame; simp
@[simp] theorem makeFrame_agenda (r : RailId) (a b : Bool) (s : State) : (makeFrame r a b s).agenda = s.agenda := by unfold makeFrame; simp
@[simp] theorem makeFrame_takeDue (r : RailId) (a b : Bool) (s : State) : (makeFrame r a b s).takeDue = s.takeDue := by unfold makeFrame; simp
@[simp] theorem makeFrame_now (r : RailId) (a b : Bool) (s : State) : (makeFrame r a b s).now = s.now := by unfold makeFrame; simp
@[simp] theorem makeFrame_choices (r : RailId) (a b : Bool) (s : State) : (makeFrame r a b s).choices = s.choices := by unfold makeFrame; simp
@[simp] theorem makeFrame_phase (r : RailId) (a b : Bool) (s : State) : (makeFrame r a b s).phase = s.phase := by unfold makeFrame; simp
@[simp] theorem makeFrame_cause (r : RailId) (a b : Bool) (s : State) : (makeFrame r a b s).cause = s.cause := by unfold makeFrame; simp
@[simp] theorem makeFrame_mode (r : RailId) (a b : Bool) (s : State) : (makeFrame r a b s).mode = s.mode := by unfold makeFrame; simp
@[simp] theorem makeFrame_resetWaiting (r : RailId) (a b : Bool) (s : State) : (makeFrame r a b s).resetWaiting = s.resetWaiting := by unfold makeFrame; simp
@[simp] theorem makeFrame_en (r : RailId) (a b : Bool) (s : State) : (makeFrame r a b s).en = s.en := by unfold makeFrame; simp
@[simp] theorem makeFrame_dis (r : RailId) (a b : Bool) (s : State) : (makeFrame r a b s).dis = s.dis := by unfold makeFrame; simp
@[simp] theorem makeFrame_ctl (r : RailId) (a b : Bool) (s : State) : (makeFrame r a b s).ctl = s.ctl := by unfold makeFrame; simp
@[simp] theorem makeFrame_chans (r : RailId) (a b : Bool) (s : State) : (makeFrame r a b s).chans = s.chans := by unfold makeFrame; simp
@[simp] theorem makeFrame_marks (r : RailId) (a b : Bool) (s : State) : (makeFrame r a b s).marks = s.marks := by unfold makeFrame; simp
@[simp] theorem makeFrame_conv (r : RailId) (a b : Bool) (s : State) : (makeFrame r a b s).conv = s.conv := by unfold makeFrame; simp
@[simp] theorem makeFrame_line (r : RailId) (a b : Bool) (s : State) : (makeFrame r a b s).line = s.line := by unfold makeFrame; simp
@[simp] theorem makeFrame_sync (r : RailId) (a b : Bool) (s : State) : (makeFrame r a b s).sync = s.sync := by unfold makeFrame; simp
@[simp] theorem makeFrame_seq (r : RailId) (a b : Bool) (s : State) : (makeFrame r a b s).seq = s.seq := by unfold makeFrame; simp
@[simp] theorem makeFrame_sched (r : RailId) (a b : Bool) (s : State) : (makeFrame r a b s).sched = s.sched := by unfold makeFrame; simp
@[simp] theorem makeFrame_rtu (r : RailId) (a b : Bool) (s : State) : (makeFrame r a b s).rtu = s.rtu := by unfold makeFrame; simp
@[simp] theorem makeFrame_up (r : RailId) (a b : Bool) (s : State) : (makeFrame r a b s).up = s.up := by unfold makeFrame; simp
@[simp] theorem makeFrame_fwd (r : RailId) (a b : Bool) (s : State) : (makeFrame r a b s).fwd = s.fwd := by unfold makeFrame; simp
@[simp] theorem makeFrame_ev (r : RailId) (a b : Bool) (s : State) : (makeFrame r a b s).ev = s.ev := by unfold makeFrame; simp
@[simp] theorem makeFrame_store (r : RailId) (a b : Bool) (s : State) : (makeFrame r a b s).store = s.store := by unfold makeFrame; simp

/-! ### markThenOff -/

@[simp] theorem markThenOff_pending (r : RailId) (s : State) : (markThenOff r s).pending = s.pending := rfl
@[simp] theorem markThenOff_agenda (r : RailId) (s : State) : (markThenOff r s).agenda = s.agenda := rfl
@[simp] theorem markThenOff_takeDue (r : RailId) (s : State) : (markThenOff r s).takeDue = s.takeDue := rfl
@[simp] theorem markThenOff_now (r : RailId) (s : State) : (markThenOff r s).now = s.now := rfl
@[simp] theorem markThenOff_choices (r : RailId) (s : State) : (markThenOff r s).choices = s.choices := rfl
@[simp] theorem markThenOff_phase (r : RailId) (s : State) : (markThenOff r s).phase = s.phase := rfl
@[simp] theorem markThenOff_cause (r : RailId) (s : State) : (markThenOff r s).cause = s.cause := rfl
@[simp] theorem markThenOff_mode (r : RailId) (s : State) : (markThenOff r s).mode = s.mode := rfl
@[simp] theorem markThenOff_resetWaiting (r : RailId) (s : State) : (markThenOff r s).resetWaiting = s.resetWaiting := rfl
@[simp] theorem markThenOff_en (r : RailId) (s : State) : (markThenOff r s).en = s.en := rfl
@[simp] theorem markThenOff_dis (r : RailId) (s : State) : (markThenOff r s).dis = s.dis := rfl
@[simp] theorem markThenOff_ctl (r : RailId) (s : State) : (markThenOff r s).ctl = s.ctl := rfl
@[simp] theorem markThenOff_chans (r : RailId) (s : State) : (markThenOff r s).chans = s.chans := rfl
@[simp] theorem markThenOff_marks (r : RailId) (s : State) : (markThenOff r s).marks = s.marks := rfl
@[simp] theorem markThenOff_conv (r : RailId) (s : State) : (markThenOff r s).conv = s.conv := rfl
@[simp] theorem markThenOff_line (r : RailId) (s : State) : (markThenOff r s).line = s.line := rfl
@[simp] theorem markThenOff_sync (r : RailId) (s : State) : (markThenOff r s).sync = s.sync := rfl
@[simp] theorem markThenOff_seq (r : RailId) (s : State) : (markThenOff r s).seq = s.seq := rfl
@[simp] theorem markThenOff_sched (r : RailId) (s : State) : (markThenOff r s).sched = s.sched := rfl
@[simp] theorem markThenOff_rtu (r : RailId) (s : State) : (markThenOff r s).rtu = s.rtu := rfl
@[simp] theorem markThenOff_ports (r : RailId) (s : State) : (markThenOff r s).ports = s.ports := rfl
@[simp] theorem markThenOff_up (r : RailId) (s : State) : (markThenOff r s).up = s.up := rfl
@[simp] theorem markThenOff_fwd (r : RailId) (s : State) : (markThenOff r s).fwd = s.fwd := rfl
@[simp] theorem markThenOff_ev (r : RailId) (s : State) : (markThenOff r s).ev = s.ev := rfl
@[simp] theorem markThenOff_store (r : RailId) (s : State) : (markThenOff r s).store = s.store := rfl

/-! ### needOff -/

@[simp] theorem needOff_pending (r : RailId) (a : Bool) (s : State) : (needOff r a s).pending = s.pending := by unfold needOff; split <;> (try split) <;> (try split) <;> simp
@[simp] theorem needOff_agenda (r : RailId) (a : Bool) (s : State) : (needOff r a s).agenda = s.agenda := by unfold needOff; split <;> (try split) <;> (try split) <;> simp
@[simp] theorem needOff_takeDue (r : RailId) (a : Bool) (s : State) : (needOff r a s).takeDue = s.takeDue := by unfold needOff; split <;> (try split) <;> (try split) <;> simp
@[simp] theorem needOff_now (r : RailId) (a : Bool) (s : State) : (needOff r a s).now = s.now := by unfold needOff; split <;> (try split) <;> (try split) <;> simp
@[simp] theorem needOff_choices (r : RailId) (a : Bool) (s : State) : (needOff r a s).choices = s.choices := by unfold needOff; split <;> (try split) <;> (try split) <;> simp
@[simp] theorem needOff_phase (r : RailId) (a : Bool) (s : State) : (needOff r a s).phase = s.phase := by unfold needOff; split <;> (try split) <;> (try split) <;> simp
@[simp] theorem needOff_cause (r : RailId) (a : Bool) (s : State) : (needOff r a s).cause = s.cause := by unfold needOff; split <;> (try split) <;> (try split) <;> simp
@[simp] theorem needOff_mode (r : RailId) (a : Bool) (s : State) : (needOff r a s).mode = s.mode := by unfold needOff; split <;> (try split) <;> (try split) <;> simp
@[simp] theorem needOff_resetWaiting (r : RailId) (a : Bool) (s : State) : (needOff r a s).resetWaiting = s.resetWaiting := by unfold needOff; split <;> (try split) <;> (try split) <;> simp
@[simp] theorem needOff_en (r : RailId) (a : Bool) (s : State) : (needOff r a s).en = s.en := by unfold needOff; split <;> (try split) <;> (try split) <;> simp
@[simp] theorem needOff_dis (r : RailId) (a : Bool) (s : State) : (needOff r a s).dis = s.dis := by unfold needOff; split <;> (try split) <;> (try split) <;> simp
@[simp] theorem needOff_ctl (r : RailId) (a : Bool) (s : State) : (needOff r a s).ctl = s.ctl := by unfold needOff; split <;> (try split) <;> (try split) <;> simp
@[simp] theorem needOff_chans (r : RailId) (a : Bool) (s : State) : (needOff r a s).chans = s.chans := by unfold needOff; split <;> (try split) <;> (try split) <;> simp
@[simp] theorem needOff_marks (r : RailId) (a : Bool) (s : State) : (needOff r a s).marks = s.marks := by unfold needOff; split <;> (try split) <;> (try split) <;> simp
@[simp] theorem needOff_conv (r : RailId) (a : Bool) (s : State) : (needOff r a s).conv = s.conv := by unfold needOff; split <;> (try split) <;> (try split) <;> simp
@[simp] theorem needOff_line (r : RailId) (a : Bool) (s : State) : (needOff r a s).line = s.line := by unfold needOff; split <;> (try split) <;> (try split) <;> simp
@[simp] theorem needOff_sync (r : RailId) (a : Bool) (s : State) : (needOff r a s).sync = s.sync := by unfold needOff; split <;> (try split) <;> (try split) <;> simp
@[simp] theorem needOff_seq (r : RailId) (a : Bool) (s : State) : (needOff r a s).seq = s.seq := by unfold needOff; split <;> (try split) <;> (try split) <;> simp
@[simp] theorem needOff_sched (r : RailId) (a : Bool) (s : State) : (needOff r a s).sched = s.sched := by unfold needOff; split <;> (try split) <;> (try split) <;> simp
@[simp] theorem needOff_rtu (r : RailId) (a : Bool) (s : State) : (needOff r a s).rtu = s.rtu := by unfold needOff; split <;> (try split) <;> (try split) <;> simp
@[simp] theorem needOff_up (r : RailId) (a : Bool) (s : State) : (needOff r a s).up = s.up := by unfold needOff; split <;> (try split) <;> (try split) <;> simp
@[simp] theorem needOff_fwd (r : RailId) (a : Bool) (s : State) : (needOff r a s).fwd = s.fwd := by unfold needOff; split <;> (try split) <;> (try split) <;> simp
@[simp] theorem needOff_ev (r : RailId) (a : Bool) (s : State) : (needOff r a s).ev = s.ev := by unfold needOff; split <;> (try split) <;> (try split) <;> simp
@[simp] theorem needOff_store (r : RailId) (a : Bool) (s : State) : (needOff r a s).store = s.store := by unfold needOff; split <;> (try split) <;> (try split) <;> simp

/-! ### followOff -/

@[simp] theorem followOff_pending (r : RailId) (s : State) : (followOff r s).pending = s.pending := by unfold followOff; split <;> simp
@[simp] theorem followOff_agenda (r : RailId) (s : State) : (followOff r s).agenda = s.agenda := by unfold followOff; split <;> simp
@[simp] theorem followOff_takeDue (r : RailId) (s : State) : (followOff r s).takeDue = s.takeDue := by unfold followOff; split <;> simp
@[simp] theorem followOff_now (r : RailId) (s : State) : (followOff r s).now = s.now := by unfold followOff; split <;> simp
@[simp] theorem followOff_choices (r : RailId) (s : State) : (followOff r s).choices = s.choices := by unfold followOff; split <;> simp
@[simp] theorem followOff_phase (r : RailId) (s : State) : (followOff r s).phase = s.phase := by unfold followOff; split <;> simp
@[simp] theorem followOff_cause (r : RailId) (s : State) : (followOff r s).cause = s.cause := by unfold followOff; split <;> simp
@[simp] theorem followOff_mode (r : RailId) (s : State) : (followOff r s).mode = s.mode := by unfold followOff; split <;> simp
@[simp] theorem followOff_resetWaiting (r : RailId) (s : State) : (followOff r s).resetWaiting = s.resetWaiting := by unfold followOff; split <;> simp
@[simp] theorem followOff_en (r : RailId) (s : State) : (followOff r s).en = s.en := by unfold followOff; split <;> simp
@[simp] theorem followOff_dis (r : RailId) (s : State) : (followOff r s).dis = s.dis := by unfold followOff; split <;> simp
@[simp] theorem followOff_ctl (r : RailId) (s : State) : (followOff r s).ctl = s.ctl := by unfold followOff; split <;> simp
@[simp] theorem followOff_chans (r : RailId) (s : State) : (followOff r s).chans = s.chans := by unfold followOff; split <;> simp
@[simp] theorem followOff_marks (r : RailId) (s : State) : (followOff r s).marks = s.marks := by unfold followOff; split <;> simp
@[simp] theorem followOff_conv (r : RailId) (s : State) : (followOff r s).conv = s.conv := by unfold followOff; split <;> simp
@[simp] theorem followOff_line (r : RailId) (s : State) : (followOff r s).line = s.line := by unfold followOff; split <;> simp
@[simp] theorem followOff_sync (r : RailId) (s : State) : (followOff r s).sync = s.sync := by unfold followOff; split <;> simp
@[simp] theorem followOff_seq (r : RailId) (s : State) : (followOff r s).seq = s.seq := by unfold followOff; split <;> simp
@[simp] theorem followOff_sched (r : RailId) (s : State) : (followOff r s).sched = s.sched := by unfold followOff; split <;> simp
@[simp] theorem followOff_rtu (r : RailId) (s : State) : (followOff r s).rtu = s.rtu := by unfold followOff; split <;> simp
@[simp] theorem followOff_up (r : RailId) (s : State) : (followOff r s).up = s.up := by unfold followOff; split <;> simp
@[simp] theorem followOff_fwd (r : RailId) (s : State) : (followOff r s).fwd = s.fwd := by unfold followOff; split <;> simp
@[simp] theorem followOff_ev (r : RailId) (s : State) : (followOff r s).ev = s.ev := by unfold followOff; split <;> simp
@[simp] theorem followOff_store (r : RailId) (s : State) : (followOff r s).store = s.store := by unfold followOff; split <;> simp

/-! ### clearFrame -/

@[simp] theorem clearFrame_pending (r : RailId) (s : State) : (clearFrame r s).pending = s.pending := rfl
@[simp] theorem clearFrame_takeDue (r : RailId) (s : State) : (clearFrame r s).takeDue = s.takeDue := rfl
@[simp] theorem clearFrame_now (r : RailId) (s : State) : (clearFrame r s).now = s.now := rfl
@[simp] theorem clearFrame_choices (r : RailId) (s : State) : (clearFrame r s).choices = s.choices := rfl
@[simp] theorem clearFrame_phase (r : RailId) (s : State) : (clearFrame r s).phase = s.phase := rfl
@[simp] theorem clearFrame_cause (r : RailId) (s : State) : (clearFrame r s).cause = s.cause := rfl
@[simp] theorem clearFrame_mode (r : RailId) (s : State) : (clearFrame r s).mode = s.mode := rfl
@[simp] theorem clearFrame_resetWaiting (r : RailId) (s : State) : (clearFrame r s).resetWaiting = s.resetWaiting := rfl
@[simp] theorem clearFrame_en (r : RailId) (s : State) : (clearFrame r s).en = s.en := rfl
@[simp] theorem clearFrame_dis (r : RailId) (s : State) : (clearFrame r s).dis = s.dis := rfl
@[simp] theorem clearFrame_ctl (r : RailId) (s : State) : (clearFrame r s).ctl = s.ctl := rfl
@[simp] theorem clearFrame_chans (r : RailId) (s : State) : (clearFrame r s).chans = s.chans := rfl
@[simp] theorem clearFrame_marks (r : RailId) (s : State) : (clearFrame r s).marks = s.marks := rfl
@[simp] theorem clearFrame_conv (r : RailId) (s : State) : (clearFrame r s).conv = s.conv := rfl
@[simp] theorem clearFrame_line (r : RailId) (s : State) : (clearFrame r s).line = s.line := rfl
@[simp] theorem clearFrame_sync (r : RailId) (s : State) : (clearFrame r s).sync = s.sync := rfl
@[simp] theorem clearFrame_seq (r : RailId) (s : State) : (clearFrame r s).seq = s.seq := rfl
@[simp] theorem clearFrame_sched (r : RailId) (s : State) : (clearFrame r s).sched = s.sched := rfl
@[simp] theorem clearFrame_rtu (r : RailId) (s : State) : (clearFrame r s).rtu = s.rtu := rfl
@[simp] theorem clearFrame_ports (r : RailId) (s : State) : (clearFrame r s).ports = s.ports := rfl
@[simp] theorem clearFrame_up (r : RailId) (s : State) : (clearFrame r s).up = s.up := rfl
@[simp] theorem clearFrame_fwd (r : RailId) (s : State) : (clearFrame r s).fwd = s.fwd := rfl
@[simp] theorem clearFrame_ev (r : RailId) (s : State) : (clearFrame r s).ev = s.ev := rfl
@[simp] theorem clearFrame_store (r : RailId) (s : State) : (clearFrame r s).store = s.store := rfl

/-! ### driveOutputs -/

@[simp] theorem driveOutputs_pending (r : RailId) (st : RailState) (s : State) : (driveOutputs r st s).pending = s.pending := by unfold driveOutputs; simp only []; split <;> split <;> rfl
@[simp] theorem driveOutputs_agenda (r : RailId) (st : RailState) (s : State) : (driveOutputs r st s).agenda = s.agenda := by unfold driveOutputs; simp only []; split <;> split <;> rfl
@[simp] theorem driveOutputs_takeDue (r : RailId) (st : RailState) (s : State) : (driveOutputs r st s).takeDue = s.takeDue := by unfold driveOutputs; simp only []; split <;> split <;> rfl
@[simp] theorem driveOutputs_now (r : RailId) (st : RailState) (s : State) : (driveOutputs r st s).now = s.now := by unfold driveOutputs; simp only []; split <;> split <;> rfl
@[simp] theorem driveOutputs_choices (r : RailId) (st : RailState) (s : State) : (driveOutputs r st s).choices = s.choices := by unfold driveOutputs; simp only []; split <;> split <;> rfl
@[simp] theorem driveOutputs_phase (r : RailId) (st : RailState) (s : State) : (driveOutputs r st s).phase = s.phase := by unfold driveOutputs; simp only []; split <;> split <;> rfl
@[simp] theorem driveOutputs_cause (r : RailId) (st : RailState) (s : State) : (driveOutputs r st s).cause = s.cause := by unfold driveOutputs; simp only []; split <;> split <;> rfl
@[simp] theorem driveOutputs_mode (r : RailId) (st : RailState) (s : State) : (driveOutputs r st s).mode = s.mode := by unfold driveOutputs; simp only []; split <;> split <;> rfl
@[simp] theorem driveOutputs_resetWaiting (r : RailId) (st : RailState) (s : State) : (driveOutputs r st s).resetWaiting = s.resetWaiting := by unfold driveOutputs; simp only []; split <;> split <;> rfl
@[simp] theorem driveOutputs_rails (r : RailId) (st : RailState) (s : State) : (driveOutputs r st s).rails = s.rails := by unfold driveOutputs; simp only []; split <;> split <;> rfl
@[simp] theorem driveOutputs_ctl (r : RailId) (st : RailState) (s : State) : (driveOutputs r st s).ctl = s.ctl := by unfold driveOutputs; simp only []; split <;> split <;> rfl
@[simp] theorem driveOutputs_chans (r : RailId) (st : RailState) (s : State) : (driveOutputs r st s).chans = s.chans := by unfold driveOutputs; simp only []; split <;> split <;> rfl
@[simp] theorem driveOutputs_marks (r : RailId) (st : RailState) (s : State) : (driveOutputs r st s).marks = s.marks := by unfold driveOutputs; simp only []; split <;> split <;> rfl
@[simp] theorem driveOutputs_conv (r : RailId) (st : RailState) (s : State) : (driveOutputs r st s).conv = s.conv := by unfold driveOutputs; simp only []; split <;> split <;> rfl
@[simp] theorem driveOutputs_line (r : RailId) (st : RailState) (s : State) : (driveOutputs r st s).line = s.line := by unfold driveOutputs; simp only []; split <;> split <;> rfl
@[simp] theorem driveOutputs_sync (r : RailId) (st : RailState) (s : State) : (driveOutputs r st s).sync = s.sync := by unfold driveOutputs; simp only []; split <;> split <;> rfl
@[simp] theorem driveOutputs_seq (r : RailId) (st : RailState) (s : State) : (driveOutputs r st s).seq = s.seq := by unfold driveOutputs; simp only []; split <;> split <;> rfl
@[simp] theorem driveOutputs_sched (r : RailId) (st : RailState) (s : State) : (driveOutputs r st s).sched = s.sched := by unfold driveOutputs; simp only []; split <;> split <;> rfl
@[simp] theorem driveOutputs_rtu (r : RailId) (st : RailState) (s : State) : (driveOutputs r st s).rtu = s.rtu := by unfold driveOutputs; simp only []; split <;> split <;> rfl
@[simp] theorem driveOutputs_ports (r : RailId) (st : RailState) (s : State) : (driveOutputs r st s).ports = s.ports := by unfold driveOutputs; simp only []; split <;> split <;> rfl
@[simp] theorem driveOutputs_up (r : RailId) (st : RailState) (s : State) : (driveOutputs r st s).up = s.up := by unfold driveOutputs; simp only []; split <;> split <;> rfl
@[simp] theorem driveOutputs_fwd (r : RailId) (st : RailState) (s : State) : (driveOutputs r st s).fwd = s.fwd := by unfold driveOutputs; simp only []; split <;> split <;> rfl
@[simp] theorem driveOutputs_ev (r : RailId) (st : RailState) (s : State) : (driveOutputs r st s).ev = s.ev := by unfold driveOutputs; simp only []; split <;> split <;> rfl
@[simp] theorem driveOutputs_store (r : RailId) (st : RailState) (s : State) : (driveOutputs r st s).store = s.store := by unfold driveOutputs; simp only []; split <;> split <;> rfl

/-! ### followRail -/

@[simp] theorem followRail_pending (r : RailId) (a b : RailState) (s : State) : (followRail r a b s).pending = s.pending := by unfold followRail; split <;> rfl
@[simp] theorem followRail_agenda (r : RailId) (a b : RailState) (s : State) : (followRail r a b s).agenda = s.agenda := by unfold followRail; split <;> rfl
@[simp] theorem followRail_takeDue (r : RailId) (a b : RailState) (s : State) : (followRail r a b s).takeDue = s.takeDue := by unfold followRail; split <;> rfl
@[simp] theorem followRail_now (r : RailId) (a b : RailState) (s : State) : (followRail r a b s).now = s.now := by unfold followRail; split <;> rfl
@[simp] theorem followRail_choices (r : RailId) (a b : RailState) (s : State) : (followRail r a b s).choices = s.choices := by unfold followRail; split <;> rfl
@[simp] theorem followRail_phase (r : RailId) (a b : RailState) (s : State) : (followRail r a b s).phase = s.phase := by unfold followRail; split <;> rfl
@[simp] theorem followRail_cause (r : RailId) (a b : RailState) (s : State) : (followRail r a b s).cause = s.cause := by unfold followRail; split <;> rfl
@[simp] theorem followRail_mode (r : RailId) (a b : RailState) (s : State) : (followRail r a b s).mode = s.mode := by unfold followRail; split <;> rfl
@[simp] theorem followRail_resetWaiting (r : RailId) (a b : RailState) (s : State) : (followRail r a b s).resetWaiting = s.resetWaiting := by unfold followRail; split <;> rfl
@[simp] theorem followRail_rails (r : RailId) (a b : RailState) (s : State) : (followRail r a b s).rails = s.rails := by unfold followRail; split <;> rfl
@[simp] theorem followRail_en (r : RailId) (a b : RailState) (s : State) : (followRail r a b s).en = s.en := by unfold followRail; split <;> rfl
@[simp] theorem followRail_dis (r : RailId) (a b : RailState) (s : State) : (followRail r a b s).dis = s.dis := by unfold followRail; split <;> rfl
@[simp] theorem followRail_ctl (r : RailId) (a b : RailState) (s : State) : (followRail r a b s).ctl = s.ctl := by unfold followRail; split <;> rfl
@[simp] theorem followRail_marks (r : RailId) (a b : RailState) (s : State) : (followRail r a b s).marks = s.marks := by unfold followRail; split <;> rfl
@[simp] theorem followRail_conv (r : RailId) (a b : RailState) (s : State) : (followRail r a b s).conv = s.conv := by unfold followRail; split <;> rfl
@[simp] theorem followRail_line (r : RailId) (a b : RailState) (s : State) : (followRail r a b s).line = s.line := by unfold followRail; split <;> rfl
@[simp] theorem followRail_sync (r : RailId) (a b : RailState) (s : State) : (followRail r a b s).sync = s.sync := by unfold followRail; split <;> rfl
@[simp] theorem followRail_seq (r : RailId) (a b : RailState) (s : State) : (followRail r a b s).seq = s.seq := by unfold followRail; split <;> rfl
@[simp] theorem followRail_sched (r : RailId) (a b : RailState) (s : State) : (followRail r a b s).sched = s.sched := by unfold followRail; split <;> rfl
@[simp] theorem followRail_rtu (r : RailId) (a b : RailState) (s : State) : (followRail r a b s).rtu = s.rtu := by unfold followRail; split <;> rfl
@[simp] theorem followRail_ports (r : RailId) (a b : RailState) (s : State) : (followRail r a b s).ports = s.ports := by unfold followRail; split <;> rfl
@[simp] theorem followRail_up (r : RailId) (a b : RailState) (s : State) : (followRail r a b s).up = s.up := by unfold followRail; split <;> rfl
@[simp] theorem followRail_fwd (r : RailId) (a b : RailState) (s : State) : (followRail r a b s).fwd = s.fwd := by unfold followRail; split <;> rfl
@[simp] theorem followRail_ev (r : RailId) (a b : RailState) (s : State) : (followRail r a b s).ev = s.ev := by unfold followRail; split <;> rfl
@[simp] theorem followRail_store (r : RailId) (a b : RailState) (s : State) : (followRail r a b s).store = s.store := by unfold followRail; split <;> rfl

/-! ### enterState -/

@[simp] theorem enterState_pending (r : RailId) (st : RailState) (s : State) : (enterState r st s).pending = s.pending := by unfold enterState; simp
@[simp] theorem enterState_agenda (r : RailId) (st : RailState) (s : State) : (enterState r st s).agenda = s.agenda := by unfold enterState; simp
@[simp] theorem enterState_takeDue (r : RailId) (st : RailState) (s : State) : (enterState r st s).takeDue = s.takeDue := by unfold enterState; simp
@[simp] theorem enterState_now (r : RailId) (st : RailState) (s : State) : (enterState r st s).now = s.now := by unfold enterState; simp
@[simp] theorem enterState_choices (r : RailId) (st : RailState) (s : State) : (enterState r st s).choices = s.choices := by unfold enterState; simp
@[simp] theorem enterState_phase (r : RailId) (st : RailState) (s : State) : (enterState r st s).phase = s.phase := by unfold enterState; simp
@[simp] theorem enterState_cause (r : RailId) (st : RailState) (s : State) : (enterState r st s).cause = s.cause := by unfold enterState; simp
@[simp] theorem enterState_mode (r : RailId) (st : RailState) (s : State) : (enterState r st s).mode = s.mode := by unfold enterState; simp
@[simp] theorem enterState_resetWaiting (r : RailId) (st : RailState) (s : State) : (enterState r st s).resetWaiting = s.resetWaiting := by unfold enterState; simp
@[simp] theorem enterState_ctl (r : RailId) (st : RailState) (s : State) : (enterState r st s).ctl = s.ctl := by unfold enterState; simp
@[simp] theorem enterState_marks (r : RailId) (st : RailState) (s : State) : (enterState r st s).marks = s.marks := by unfold enterState; simp
@[simp] theorem enterState_conv (r : RailId) (st : RailState) (s : State) : (enterState r st s).conv = s.conv := by unfold enterState; simp
@[simp] theorem enterState_line (r : RailId) (st : RailState) (s : State) : (enterState r st s).line = s.line := by unfold enterState; simp
@[simp] theorem enterState_sync (r : RailId) (st : RailState) (s : State) : (enterState r st s).sync = s.sync := by unfold enterState; simp
@[simp] theorem enterState_seq (r : RailId) (st : RailState) (s : State) : (enterState r st s).seq = s.seq := by unfold enterState; simp
@[simp] theorem enterState_sched (r : RailId) (st : RailState) (s : State) : (enterState r st s).sched = s.sched := by unfold enterState; simp
@[simp] theorem enterState_rtu (r : RailId) (st : RailState) (s : State) : (enterState r st s).rtu = s.rtu := by unfold enterState; simp
@[simp] theorem enterState_ports (r : RailId) (st : RailState) (s : State) : (enterState r st s).ports = s.ports := by unfold enterState; simp
@[simp] theorem enterState_up (r : RailId) (st : RailState) (s : State) : (enterState r st s).up = s.up := by unfold enterState; simp
@[simp] theorem enterState_fwd (r : RailId) (st : RailState) (s : State) : (enterState r st s).fwd = s.fwd := by unfold enterState; simp
@[simp] theorem enterState_ev (r : RailId) (st : RailState) (s : State) : (enterState r st s).ev = s.ev := by unfold enterState; simp
@[simp] theorem enterState_store (r : RailId) (st : RailState) (s : State) : (enterState r st s).store = s.store := by unfold enterState; simp

/-! ### moveRail -/

@[simp] theorem moveRail_pending (r : RailId) (st : RailState) (s : State) : (moveRail r st s).pending = s.pending := by
  unfold moveRail; simp only []; split <;> split <;> simp
@[simp] theorem moveRail_takeDue (r : RailId) (st : RailState) (s : State) : (moveRail r st s).takeDue = s.takeDue := by
  unfold moveRail; simp only []; split <;> split <;> simp
@[simp] theorem moveRail_now (r : RailId) (st : RailState) (s : State) : (moveRail r st s).now = s.now := by
  unfold moveRail; simp only []; split <;> split <;> simp
@[simp] theorem moveRail_choices (r : RailId) (st : RailState) (s : State) : (moveRail r st s).choices = s.choices := by
  unfold moveRail; simp only []; split <;> split <;> simp
@[simp] theorem moveRail_phase (r : RailId) (st : RailState) (s : State) : (moveRail r st s).phase = s.phase := by
  unfold moveRail; simp only []; split <;> split <;> simp
@[simp] theorem moveRail_cause (r : RailId) (st : RailState) (s : State) : (moveRail r st s).cause = s.cause := by
  unfold moveRail; simp only []; split <;> split <;> simp
@[simp] theorem moveRail_mode (r : RailId) (st : RailState) (s : State) : (moveRail r st s).mode = s.mode := by
  unfold moveRail; simp only []; split <;> split <;> simp
@[simp] theorem moveRail_resetWaiting (r : RailId) (st : RailState) (s : State) : (moveRail r st s).resetWaiting = s.resetWaiting := by
  unfold moveRail; simp only []; split <;> split <;> simp
@[simp] theorem moveRail_ctl (r : RailId) (st : RailState) (s : State) : (moveRail r st s).ctl = s.ctl := by
  unfold moveRail; simp only []; split <;> split <;> simp
@[simp] theorem moveRail_marks (r : RailId) (st : RailState) (s : State) : (moveRail r st s).marks = s.marks := by
  unfold moveRail; simp only []; split <;> split <;> simp
@[simp] theorem moveRail_conv (r : RailId) (st : RailState) (s : State) : (moveRail r st s).conv = s.conv := by
  unfold moveRail; simp only []; split <;> split <;> simp
@[simp] theorem moveRail_line (r : RailId) (st : RailState) (s : State) : (moveRail r st s).line = s.line := by
  unfold moveRail; simp only []; split <;> split <;> simp
@[simp] theorem moveRail_sync (r : RailId) (st : RailState) (s : State) : (moveRail r st s).sync = s.sync := by
  unfold moveRail; simp only []; split <;> split <;> simp
@[simp] theorem moveRail_seq (r : RailId) (st : RailState) (s : State) : (moveRail r st s).seq = s.seq := by
  unfold moveRail; simp only []; split <;> split <;> simp
@[simp] theorem moveRail_sched (r : RailId) (st : RailState) (s : State) : (moveRail r st s).sched = s.sched := by
  unfold moveRail; simp only []; split <;> split <;> simp
@[simp] theorem moveRail_rtu (r : RailId) (st : RailState) (s : State) : (moveRail r st s).rtu = s.rtu := by
  unfold moveRail; simp only []; split <;> split <;> simp
@[simp] theorem moveRail_ports (r : RailId) (st : RailState) (s : State) : (moveRail r st s).ports = s.ports := by
  unfold moveRail; simp only []; split <;> split <;> simp
@[simp] theorem moveRail_up (r : RailId) (st : RailState) (s : State) : (moveRail r st s).up = s.up := by
  unfold moveRail; simp only []; split <;> split <;> simp
@[simp] theorem moveRail_fwd (r : RailId) (st : RailState) (s : State) : (moveRail r st s).fwd = s.fwd := by
  unfold moveRail; simp only []; split <;> split <;> simp
@[simp] theorem moveRail_ev (r : RailId) (st : RailState) (s : State) : (moveRail r st s).ev = s.ev := by
  unfold moveRail; simp only []; split <;> split <;> simp
@[simp] theorem moveRail_store (r : RailId) (st : RailState) (s : State) : (moveRail r st s).store = s.store := by
  unfold moveRail; simp only []; split <;> split <;> simp

/-! ### dropClaim -/

@[simp] theorem dropClaim_pending (r : RailId) (s : State) : (dropClaim r s).pending = s.pending := rfl
@[simp] theorem dropClaim_takeDue (r : RailId) (s : State) : (dropClaim r s).takeDue = s.takeDue := rfl
@[simp] theorem dropClaim_now (r : RailId) (s : State) : (dropClaim r s).now = s.now := rfl
@[simp] theorem dropClaim_choices (r : RailId) (s : State) : (dropClaim r s).choices = s.choices := rfl
@[simp] theorem dropClaim_phase (r : RailId) (s : State) : (dropClaim r s).phase = s.phase := rfl
@[simp] theorem dropClaim_cause (r : RailId) (s : State) : (dropClaim r s).cause = s.cause := rfl
@[simp] theorem dropClaim_mode (r : RailId) (s : State) : (dropClaim r s).mode = s.mode := rfl
@[simp] theorem dropClaim_resetWaiting (r : RailId) (s : State) : (dropClaim r s).resetWaiting = s.resetWaiting := rfl
@[simp] theorem dropClaim_en (r : RailId) (s : State) : (dropClaim r s).en = s.en := rfl
@[simp] theorem dropClaim_dis (r : RailId) (s : State) : (dropClaim r s).dis = s.dis := rfl
@[simp] theorem dropClaim_ctl (r : RailId) (s : State) : (dropClaim r s).ctl = s.ctl := rfl
@[simp] theorem dropClaim_chans (r : RailId) (s : State) : (dropClaim r s).chans = s.chans := rfl
@[simp] theorem dropClaim_marks (r : RailId) (s : State) : (dropClaim r s).marks = s.marks := rfl
@[simp] theorem dropClaim_conv (r : RailId) (s : State) : (dropClaim r s).conv = s.conv := rfl
@[simp] theorem dropClaim_line (r : RailId) (s : State) : (dropClaim r s).line = s.line := rfl
@[simp] theorem dropClaim_sync (r : RailId) (s : State) : (dropClaim r s).sync = s.sync := rfl
@[simp] theorem dropClaim_seq (r : RailId) (s : State) : (dropClaim r s).seq = s.seq := rfl
@[simp] theorem dropClaim_sched (r : RailId) (s : State) : (dropClaim r s).sched = s.sched := rfl
@[simp] theorem dropClaim_rtu (r : RailId) (s : State) : (dropClaim r s).rtu = s.rtu := rfl
@[simp] theorem dropClaim_ports (r : RailId) (s : State) : (dropClaim r s).ports = s.ports := rfl
@[simp] theorem dropClaim_up (r : RailId) (s : State) : (dropClaim r s).up = s.up := rfl
@[simp] theorem dropClaim_fwd (r : RailId) (s : State) : (dropClaim r s).fwd = s.fwd := rfl
@[simp] theorem dropClaim_ev (r : RailId) (s : State) : (dropClaim r s).ev = s.ev := rfl
@[simp] theorem dropClaim_store (r : RailId) (s : State) : (dropClaim r s).store = s.store := rfl

/-! ### clearClaimMark -/

@[simp] theorem clearClaimMark_pending (p : Port) (t : Byte) (s : State) : (clearClaimMark p t s).pending = s.pending := rfl
@[simp] theorem clearClaimMark_agenda (p : Port) (t : Byte) (s : State) : (clearClaimMark p t s).agenda = s.agenda := rfl
@[simp] theorem clearClaimMark_takeDue (p : Port) (t : Byte) (s : State) : (clearClaimMark p t s).takeDue = s.takeDue := rfl
@[simp] theorem clearClaimMark_now (p : Port) (t : Byte) (s : State) : (clearClaimMark p t s).now = s.now := rfl
@[simp] theorem clearClaimMark_choices (p : Port) (t : Byte) (s : State) : (clearClaimMark p t s).choices = s.choices := rfl
@[simp] theorem clearClaimMark_phase (p : Port) (t : Byte) (s : State) : (clearClaimMark p t s).phase = s.phase := rfl
@[simp] theorem clearClaimMark_cause (p : Port) (t : Byte) (s : State) : (clearClaimMark p t s).cause = s.cause := rfl
@[simp] theorem clearClaimMark_mode (p : Port) (t : Byte) (s : State) : (clearClaimMark p t s).mode = s.mode := rfl
@[simp] theorem clearClaimMark_resetWaiting (p : Port) (t : Byte) (s : State) : (clearClaimMark p t s).resetWaiting = s.resetWaiting := rfl
@[simp] theorem clearClaimMark_rails (p : Port) (t : Byte) (s : State) : (clearClaimMark p t s).rails = s.rails := rfl
@[simp] theorem clearClaimMark_en (p : Port) (t : Byte) (s : State) : (clearClaimMark p t s).en = s.en := rfl
@[simp] theorem clearClaimMark_dis (p : Port) (t : Byte) (s : State) : (clearClaimMark p t s).dis = s.dis := rfl
@[simp] theorem clearClaimMark_ctl (p : Port) (t : Byte) (s : State) : (clearClaimMark p t s).ctl = s.ctl := rfl
@[simp] theorem clearClaimMark_chans (p : Port) (t : Byte) (s : State) : (clearClaimMark p t s).chans = s.chans := rfl
@[simp] theorem clearClaimMark_marks (p : Port) (t : Byte) (s : State) : (clearClaimMark p t s).marks = s.marks := rfl
@[simp] theorem clearClaimMark_conv (p : Port) (t : Byte) (s : State) : (clearClaimMark p t s).conv = s.conv := rfl
@[simp] theorem clearClaimMark_line (p : Port) (t : Byte) (s : State) : (clearClaimMark p t s).line = s.line := rfl
@[simp] theorem clearClaimMark_sync (p : Port) (t : Byte) (s : State) : (clearClaimMark p t s).sync = s.sync := rfl
@[simp] theorem clearClaimMark_seq (p : Port) (t : Byte) (s : State) : (clearClaimMark p t s).seq = s.seq := rfl
@[simp] theorem clearClaimMark_sched (p : Port) (t : Byte) (s : State) : (clearClaimMark p t s).sched = s.sched := rfl
@[simp] theorem clearClaimMark_rtu (p : Port) (t : Byte) (s : State) : (clearClaimMark p t s).rtu = s.rtu := rfl
@[simp] theorem clearClaimMark_ports (p : Port) (t : Byte) (s : State) : (clearClaimMark p t s).ports = s.ports := rfl
@[simp] theorem clearClaimMark_up (p : Port) (t : Byte) (s : State) : (clearClaimMark p t s).up = s.up := rfl
@[simp] theorem clearClaimMark_ev (p : Port) (t : Byte) (s : State) : (clearClaimMark p t s).ev = s.ev := rfl
@[simp] theorem clearClaimMark_store (p : Port) (t : Byte) (s : State) : (clearClaimMark p t s).store = s.store := rfl

/-! ### zeroMarks -/

@[simp] theorem zeroMarks_pending (c : ChannelId) (s : State) : (zeroMarks c s).pending = s.pending := by unfold zeroMarks; split <;> rfl
@[simp] theorem zeroMarks_agenda (c : ChannelId) (s : State) : (zeroMarks c s).agenda = s.agenda := by unfold zeroMarks; split <;> rfl
@[simp] theorem zeroMarks_takeDue (c : ChannelId) (s : State) : (zeroMarks c s).takeDue = s.takeDue := by unfold zeroMarks; split <;> rfl
@[simp] theorem zeroMarks_now (c : ChannelId) (s : State) : (zeroMarks c s).now = s.now := by unfold zeroMarks; split <;> rfl
@[simp] theorem zeroMarks_choices (c : ChannelId) (s : State) : (zeroMarks c s).choices = s.choices := by unfold zeroMarks; split <;> rfl
@[simp] theorem zeroMarks_phase (c : ChannelId) (s : State) : (zeroMarks c s).phase = s.phase := by unfold zeroMarks; split <;> rfl
@[simp] theorem zeroMarks_cause (c : ChannelId) (s : State) : (zeroMarks c s).cause = s.cause := by unfold zeroMarks; split <;> rfl
@[simp] theorem zeroMarks_mode (c : ChannelId) (s : State) : (zeroMarks c s).mode = s.mode := by unfold zeroMarks; split <;> rfl
@[simp] theorem zeroMarks_resetWaiting (c : ChannelId) (s : State) : (zeroMarks c s).resetWaiting = s.resetWaiting := by unfold zeroMarks; split <;> rfl
@[simp] theorem zeroMarks_rails (c : ChannelId) (s : State) : (zeroMarks c s).rails = s.rails := by unfold zeroMarks; split <;> rfl
@[simp] theorem zeroMarks_en (c : ChannelId) (s : State) : (zeroMarks c s).en = s.en := by unfold zeroMarks; split <;> rfl
@[simp] theorem zeroMarks_dis (c : ChannelId) (s : State) : (zeroMarks c s).dis = s.dis := by unfold zeroMarks; split <;> rfl
@[simp] theorem zeroMarks_ctl (c : ChannelId) (s : State) : (zeroMarks c s).ctl = s.ctl := by unfold zeroMarks; split <;> rfl
@[simp] theorem zeroMarks_chans (c : ChannelId) (s : State) : (zeroMarks c s).chans = s.chans := by unfold zeroMarks; split <;> rfl
@[simp] theorem zeroMarks_conv (c : ChannelId) (s : State) : (zeroMarks c s).conv = s.conv := by unfold zeroMarks; split <;> rfl
@[simp] theorem zeroMarks_line (c : ChannelId) (s : State) : (zeroMarks c s).line = s.line := by unfold zeroMarks; split <;> rfl
@[simp] theorem zeroMarks_sync (c : ChannelId) (s : State) : (zeroMarks c s).sync = s.sync := by unfold zeroMarks; split <;> rfl
@[simp] theorem zeroMarks_seq (c : ChannelId) (s : State) : (zeroMarks c s).seq = s.seq := by unfold zeroMarks; split <;> rfl
@[simp] theorem zeroMarks_sched (c : ChannelId) (s : State) : (zeroMarks c s).sched = s.sched := by unfold zeroMarks; split <;> rfl
@[simp] theorem zeroMarks_rtu (c : ChannelId) (s : State) : (zeroMarks c s).rtu = s.rtu := by unfold zeroMarks; split <;> rfl
@[simp] theorem zeroMarks_ports (c : ChannelId) (s : State) : (zeroMarks c s).ports = s.ports := by unfold zeroMarks; split <;> rfl
@[simp] theorem zeroMarks_up (c : ChannelId) (s : State) : (zeroMarks c s).up = s.up := by unfold zeroMarks; split <;> rfl
@[simp] theorem zeroMarks_fwd (c : ChannelId) (s : State) : (zeroMarks c s).fwd = s.fwd := by unfold zeroMarks; split <;> rfl
@[simp] theorem zeroMarks_ev (c : ChannelId) (s : State) : (zeroMarks c s).ev = s.ev := by unfold zeroMarks; split <;> rfl
@[simp] theorem zeroMarks_store (c : ChannelId) (s : State) : (zeroMarks c s).store = s.store := by unfold zeroMarks; split <;> rfl

/-! ### rebuildMarks -/

@[simp] theorem rebuildMarks_pending  (s : State) : (rebuildMarks  s).pending = s.pending := rfl
@[simp] theorem rebuildMarks_agenda  (s : State) : (rebuildMarks  s).agenda = s.agenda := rfl
@[simp] theorem rebuildMarks_takeDue  (s : State) : (rebuildMarks  s).takeDue = s.takeDue := rfl
@[simp] theorem rebuildMarks_now  (s : State) : (rebuildMarks  s).now = s.now := rfl
@[simp] theorem rebuildMarks_choices  (s : State) : (rebuildMarks  s).choices = s.choices := rfl
@[simp] theorem rebuildMarks_phase  (s : State) : (rebuildMarks  s).phase = s.phase := rfl
@[simp] theorem rebuildMarks_cause  (s : State) : (rebuildMarks  s).cause = s.cause := rfl
@[simp] theorem rebuildMarks_mode  (s : State) : (rebuildMarks  s).mode = s.mode := rfl
@[simp] theorem rebuildMarks_resetWaiting  (s : State) : (rebuildMarks  s).resetWaiting = s.resetWaiting := rfl
@[simp] theorem rebuildMarks_rails  (s : State) : (rebuildMarks  s).rails = s.rails := rfl
@[simp] theorem rebuildMarks_en  (s : State) : (rebuildMarks  s).en = s.en := rfl
@[simp] theorem rebuildMarks_dis  (s : State) : (rebuildMarks  s).dis = s.dis := rfl
@[simp] theorem rebuildMarks_ctl  (s : State) : (rebuildMarks  s).ctl = s.ctl := rfl
@[simp] theorem rebuildMarks_chans  (s : State) : (rebuildMarks  s).chans = s.chans := rfl
@[simp] theorem rebuildMarks_conv  (s : State) : (rebuildMarks  s).conv = s.conv := rfl
@[simp] theorem rebuildMarks_line  (s : State) : (rebuildMarks  s).line = s.line := rfl
@[simp] theorem rebuildMarks_sync  (s : State) : (rebuildMarks  s).sync = s.sync := rfl
@[simp] theorem rebuildMarks_seq  (s : State) : (rebuildMarks  s).seq = s.seq := rfl
@[simp] theorem rebuildMarks_sched  (s : State) : (rebuildMarks  s).sched = s.sched := rfl
@[simp] theorem rebuildMarks_rtu  (s : State) : (rebuildMarks  s).rtu = s.rtu := rfl
@[simp] theorem rebuildMarks_ports  (s : State) : (rebuildMarks  s).ports = s.ports := rfl
@[simp] theorem rebuildMarks_up  (s : State) : (rebuildMarks  s).up = s.up := rfl
@[simp] theorem rebuildMarks_fwd  (s : State) : (rebuildMarks  s).fwd = s.fwd := rfl
@[simp] theorem rebuildMarks_ev  (s : State) : (rebuildMarks  s).ev = s.ev := rfl
@[simp] theorem rebuildMarks_store  (s : State) : (rebuildMarks  s).store = s.store := rfl

/-! ### refreshRoles -/

@[simp] theorem refreshRoles_pending  (s : State) : (refreshRoles  s).pending = s.pending := by unfold refreshRoles; simp only []; split <;> rfl
@[simp] theorem refreshRoles_agenda  (s : State) : (refreshRoles  s).agenda = s.agenda := by unfold refreshRoles; simp only []; split <;> rfl
@[simp] theorem refreshRoles_takeDue  (s : State) : (refreshRoles  s).takeDue = s.takeDue := by unfold refreshRoles; simp only []; split <;> rfl
@[simp] theorem refreshRoles_now  (s : State) : (refreshRoles  s).now = s.now := by unfold refreshRoles; simp only []; split <;> rfl
@[simp] theorem refreshRoles_choices  (s : State) : (refreshRoles  s).choices = s.choices := by unfold refreshRoles; simp only []; split <;> rfl
@[simp] theorem refreshRoles_phase  (s : State) : (refreshRoles  s).phase = s.phase := by unfold refreshRoles; simp only []; split <;> rfl
@[simp] theorem refreshRoles_cause  (s : State) : (refreshRoles  s).cause = s.cause := by unfold refreshRoles; simp only []; split <;> rfl
@[simp] theorem refreshRoles_mode  (s : State) : (refreshRoles  s).mode = s.mode := by unfold refreshRoles; simp only []; split <;> rfl
@[simp] theorem refreshRoles_resetWaiting  (s : State) : (refreshRoles  s).resetWaiting = s.resetWaiting := by unfold refreshRoles; simp only []; split <;> rfl
@[simp] theorem refreshRoles_rails  (s : State) : (refreshRoles  s).rails = s.rails := by unfold refreshRoles; simp only []; split <;> rfl
@[simp] theorem refreshRoles_en  (s : State) : (refreshRoles  s).en = s.en := by unfold refreshRoles; simp only []; split <;> rfl
@[simp] theorem refreshRoles_dis  (s : State) : (refreshRoles  s).dis = s.dis := by unfold refreshRoles; simp only []; split <;> rfl
@[simp] theorem refreshRoles_ctl  (s : State) : (refreshRoles  s).ctl = s.ctl := by unfold refreshRoles; simp only []; split <;> rfl
@[simp] theorem refreshRoles_conv  (s : State) : (refreshRoles  s).conv = s.conv := by unfold refreshRoles; simp only []; split <;> rfl
@[simp] theorem refreshRoles_line  (s : State) : (refreshRoles  s).line = s.line := by unfold refreshRoles; simp only []; split <;> rfl
@[simp] theorem refreshRoles_sync  (s : State) : (refreshRoles  s).sync = s.sync := by unfold refreshRoles; simp only []; split <;> rfl
@[simp] theorem refreshRoles_seq  (s : State) : (refreshRoles  s).seq = s.seq := by unfold refreshRoles; simp only []; split <;> rfl
@[simp] theorem refreshRoles_sched  (s : State) : (refreshRoles  s).sched = s.sched := by unfold refreshRoles; simp only []; split <;> rfl
@[simp] theorem refreshRoles_rtu  (s : State) : (refreshRoles  s).rtu = s.rtu := by unfold refreshRoles; simp only []; split <;> rfl
@[simp] theorem refreshRoles_ports  (s : State) : (refreshRoles  s).ports = s.ports := by unfold refreshRoles; simp only []; split <;> rfl
@[simp] theorem refreshRoles_up  (s : State) : (refreshRoles  s).up = s.up := by unfold refreshRoles; simp only []; split <;> rfl
@[simp] theorem refreshRoles_fwd  (s : State) : (refreshRoles  s).fwd = s.fwd := by unfold refreshRoles; simp only []; split <;> rfl
@[simp] theorem refreshRoles_ev  (s : State) : (refreshRoles  s).ev = s.ev := by unfold refreshRoles; simp only []; split <;> rfl
@[simp] theorem refreshRoles_store  (s : State) : (refreshRoles  s).store = s.store := by unfold refreshRoles; simp only []; split <;> rfl

/-! ### convTurn -/

@[simp] theorem convTurn_pending (c : ChannelId) (s : State) : (convTurn c s).pending = s.pending := by unfold convTurn; split <;> (try simp only []) <;> (try split) <;> rfl
@[simp] theorem convTurn_agenda (c : ChannelId) (s : State) : (convTurn c s).agenda = s.agenda := by unfold convTurn; split <;> (try simp only []) <;> (try split) <;> rfl
@[simp] theorem convTurn_takeDue (c : ChannelId) (s : State) : (convTurn c s).takeDue = s.takeDue := by unfold convTurn; split <;> (try simp only []) <;> (try split) <;> rfl
@[simp] theorem convTurn_choices (c : ChannelId) (s : State) : (convTurn c s).choices = s.choices := by unfold convTurn; split <;> (try simp only []) <;> (try split) <;> rfl
@[simp] theorem convTurn_phase (c : ChannelId) (s : State) : (convTurn c s).phase = s.phase := by unfold convTurn; split <;> (try simp only []) <;> (try split) <;> rfl
@[simp] theorem convTurn_cause (c : ChannelId) (s : State) : (convTurn c s).cause = s.cause := by unfold convTurn; split <;> (try simp only []) <;> (try split) <;> rfl
@[simp] theorem convTurn_mode (c : ChannelId) (s : State) : (convTurn c s).mode = s.mode := by unfold convTurn; split <;> (try simp only []) <;> (try split) <;> rfl
@[simp] theorem convTurn_resetWaiting (c : ChannelId) (s : State) : (convTurn c s).resetWaiting = s.resetWaiting := by unfold convTurn; split <;> (try simp only []) <;> (try split) <;> rfl
@[simp] theorem convTurn_rails (c : ChannelId) (s : State) : (convTurn c s).rails = s.rails := by unfold convTurn; split <;> (try simp only []) <;> (try split) <;> rfl
@[simp] theorem convTurn_en (c : ChannelId) (s : State) : (convTurn c s).en = s.en := by unfold convTurn; split <;> (try simp only []) <;> (try split) <;> rfl
@[simp] theorem convTurn_dis (c : ChannelId) (s : State) : (convTurn c s).dis = s.dis := by unfold convTurn; split <;> (try simp only []) <;> (try split) <;> rfl
@[simp] theorem convTurn_ctl (c : ChannelId) (s : State) : (convTurn c s).ctl = s.ctl := by unfold convTurn; split <;> (try simp only []) <;> (try split) <;> rfl
@[simp] theorem convTurn_chans (c : ChannelId) (s : State) : (convTurn c s).chans = s.chans := by unfold convTurn; split <;> (try simp only []) <;> (try split) <;> rfl
@[simp] theorem convTurn_marks (c : ChannelId) (s : State) : (convTurn c s).marks = s.marks := by unfold convTurn; split <;> (try simp only []) <;> (try split) <;> rfl
@[simp] theorem convTurn_line (c : ChannelId) (s : State) : (convTurn c s).line = s.line := by unfold convTurn; split <;> (try simp only []) <;> (try split) <;> rfl
@[simp] theorem convTurn_sync (c : ChannelId) (s : State) : (convTurn c s).sync = s.sync := by unfold convTurn; split <;> (try simp only []) <;> (try split) <;> rfl
@[simp] theorem convTurn_seq (c : ChannelId) (s : State) : (convTurn c s).seq = s.seq := by unfold convTurn; split <;> (try simp only []) <;> (try split) <;> rfl
@[simp] theorem convTurn_sched (c : ChannelId) (s : State) : (convTurn c s).sched = s.sched := by unfold convTurn; split <;> (try simp only []) <;> (try split) <;> rfl
@[simp] theorem convTurn_rtu (c : ChannelId) (s : State) : (convTurn c s).rtu = s.rtu := by unfold convTurn; split <;> (try simp only []) <;> (try split) <;> rfl
@[simp] theorem convTurn_ports (c : ChannelId) (s : State) : (convTurn c s).ports = s.ports := by unfold convTurn; split <;> (try simp only []) <;> (try split) <;> rfl
@[simp] theorem convTurn_up (c : ChannelId) (s : State) : (convTurn c s).up = s.up := by unfold convTurn; split <;> (try simp only []) <;> (try split) <;> rfl
@[simp] theorem convTurn_fwd (c : ChannelId) (s : State) : (convTurn c s).fwd = s.fwd := by unfold convTurn; split <;> (try simp only []) <;> (try split) <;> rfl
@[simp] theorem convTurn_ev (c : ChannelId) (s : State) : (convTurn c s).ev = s.ev := by unfold convTurn; split <;> (try simp only []) <;> (try split) <;> rfl
@[simp] theorem convTurn_store (c : ChannelId) (s : State) : (convTurn c s).store = s.store := by unfold convTurn; split <;> (try simp only []) <;> (try split) <;> rfl

/-! ### modCtx -/

@[simp] theorem modCtx_pending (f : Context → Context) (s : State) : (modCtx f s).pending = s.pending := rfl
@[simp] theorem modCtx_agenda (f : Context → Context) (s : State) : (modCtx f s).agenda = s.agenda := rfl
@[simp] theorem modCtx_takeDue (f : Context → Context) (s : State) : (modCtx f s).takeDue = s.takeDue := rfl
@[simp] theorem modCtx_now (f : Context → Context) (s : State) : (modCtx f s).now = s.now := rfl
@[simp] theorem modCtx_choices (f : Context → Context) (s : State) : (modCtx f s).choices = s.choices := rfl
@[simp] theorem modCtx_phase (f : Context → Context) (s : State) : (modCtx f s).phase = s.phase := rfl
@[simp] theorem modCtx_cause (f : Context → Context) (s : State) : (modCtx f s).cause = s.cause := rfl
@[simp] theorem modCtx_mode (f : Context → Context) (s : State) : (modCtx f s).mode = s.mode := rfl
@[simp] theorem modCtx_resetWaiting (f : Context → Context) (s : State) : (modCtx f s).resetWaiting = s.resetWaiting := rfl
@[simp] theorem modCtx_rails (f : Context → Context) (s : State) : (modCtx f s).rails = s.rails := rfl
@[simp] theorem modCtx_en (f : Context → Context) (s : State) : (modCtx f s).en = s.en := rfl
@[simp] theorem modCtx_dis (f : Context → Context) (s : State) : (modCtx f s).dis = s.dis := rfl
@[simp] theorem modCtx_ctl (f : Context → Context) (s : State) : (modCtx f s).ctl = s.ctl := rfl
@[simp] theorem modCtx_chans (f : Context → Context) (s : State) : (modCtx f s).chans = s.chans := rfl
@[simp] theorem modCtx_marks (f : Context → Context) (s : State) : (modCtx f s).marks = s.marks := rfl
@[simp] theorem modCtx_conv (f : Context → Context) (s : State) : (modCtx f s).conv = s.conv := rfl
@[simp] theorem modCtx_line (f : Context → Context) (s : State) : (modCtx f s).line = s.line := rfl
@[simp] theorem modCtx_sync (f : Context → Context) (s : State) : (modCtx f s).sync = s.sync := rfl
@[simp] theorem modCtx_sched (f : Context → Context) (s : State) : (modCtx f s).sched = s.sched := rfl
@[simp] theorem modCtx_rtu (f : Context → Context) (s : State) : (modCtx f s).rtu = s.rtu := rfl
@[simp] theorem modCtx_ports (f : Context → Context) (s : State) : (modCtx f s).ports = s.ports := rfl
@[simp] theorem modCtx_up (f : Context → Context) (s : State) : (modCtx f s).up = s.up := rfl
@[simp] theorem modCtx_fwd (f : Context → Context) (s : State) : (modCtx f s).fwd = s.fwd := rfl
@[simp] theorem modCtx_ev (f : Context → Context) (s : State) : (modCtx f s).ev = s.ev := rfl
@[simp] theorem modCtx_store (f : Context → Context) (s : State) : (modCtx f s).store = s.store := rfl

/-! ### stepWait -/

@[simp] theorem stepWait_pending (w : Wait) (t : Option Nat) (s : State) : (stepWait w t s).pending = s.pending := rfl
@[simp] theorem stepWait_agenda (w : Wait) (t : Option Nat) (s : State) : (stepWait w t s).agenda = s.agenda := rfl
@[simp] theorem stepWait_takeDue (w : Wait) (t : Option Nat) (s : State) : (stepWait w t s).takeDue = s.takeDue := rfl
@[simp] theorem stepWait_now (w : Wait) (t : Option Nat) (s : State) : (stepWait w t s).now = s.now := rfl
@[simp] theorem stepWait_choices (w : Wait) (t : Option Nat) (s : State) : (stepWait w t s).choices = s.choices := rfl
@[simp] theorem stepWait_phase (w : Wait) (t : Option Nat) (s : State) : (stepWait w t s).phase = s.phase := rfl
@[simp] theorem stepWait_cause (w : Wait) (t : Option Nat) (s : State) : (stepWait w t s).cause = s.cause := rfl
@[simp] theorem stepWait_mode (w : Wait) (t : Option Nat) (s : State) : (stepWait w t s).mode = s.mode := rfl
@[simp] theorem stepWait_resetWaiting (w : Wait) (t : Option Nat) (s : State) : (stepWait w t s).resetWaiting = s.resetWaiting := rfl
@[simp] theorem stepWait_rails (w : Wait) (t : Option Nat) (s : State) : (stepWait w t s).rails = s.rails := rfl
@[simp] theorem stepWait_en (w : Wait) (t : Option Nat) (s : State) : (stepWait w t s).en = s.en := rfl
@[simp] theorem stepWait_dis (w : Wait) (t : Option Nat) (s : State) : (stepWait w t s).dis = s.dis := rfl
@[simp] theorem stepWait_ctl (w : Wait) (t : Option Nat) (s : State) : (stepWait w t s).ctl = s.ctl := rfl
@[simp] theorem stepWait_chans (w : Wait) (t : Option Nat) (s : State) : (stepWait w t s).chans = s.chans := rfl
@[simp] theorem stepWait_marks (w : Wait) (t : Option Nat) (s : State) : (stepWait w t s).marks = s.marks := rfl
@[simp] theorem stepWait_conv (w : Wait) (t : Option Nat) (s : State) : (stepWait w t s).conv = s.conv := rfl
@[simp] theorem stepWait_line (w : Wait) (t : Option Nat) (s : State) : (stepWait w t s).line = s.line := rfl
@[simp] theorem stepWait_sync (w : Wait) (t : Option Nat) (s : State) : (stepWait w t s).sync = s.sync := rfl
@[simp] theorem stepWait_sched (w : Wait) (t : Option Nat) (s : State) : (stepWait w t s).sched = s.sched := rfl
@[simp] theorem stepWait_rtu (w : Wait) (t : Option Nat) (s : State) : (stepWait w t s).rtu = s.rtu := rfl
@[simp] theorem stepWait_ports (w : Wait) (t : Option Nat) (s : State) : (stepWait w t s).ports = s.ports := rfl
@[simp] theorem stepWait_up (w : Wait) (t : Option Nat) (s : State) : (stepWait w t s).up = s.up := rfl
@[simp] theorem stepWait_fwd (w : Wait) (t : Option Nat) (s : State) : (stepWait w t s).fwd = s.fwd := rfl
@[simp] theorem stepWait_ev (w : Wait) (t : Option Nat) (s : State) : (stepWait w t s).ev = s.ev := rfl
@[simp] theorem stepWait_store (w : Wait) (t : Option Nat) (s : State) : (stepWait w t s).store = s.store := rfl

/-! ### setGuarded -/

@[simp] theorem setGuarded_pending (g : Bool) (s : State) : (setGuarded g s).pending = s.pending := rfl
@[simp] theorem setGuarded_agenda (g : Bool) (s : State) : (setGuarded g s).agenda = s.agenda := rfl
@[simp] theorem setGuarded_takeDue (g : Bool) (s : State) : (setGuarded g s).takeDue = s.takeDue := rfl
@[simp] theorem setGuarded_now (g : Bool) (s : State) : (setGuarded g s).now = s.now := rfl
@[simp] theorem setGuarded_choices (g : Bool) (s : State) : (setGuarded g s).choices = s.choices := rfl
@[simp] theorem setGuarded_phase (g : Bool) (s : State) : (setGuarded g s).phase = s.phase := rfl
@[simp] theorem setGuarded_cause (g : Bool) (s : State) : (setGuarded g s).cause = s.cause := rfl
@[simp] theorem setGuarded_mode (g : Bool) (s : State) : (setGuarded g s).mode = s.mode := rfl
@[simp] theorem setGuarded_resetWaiting (g : Bool) (s : State) : (setGuarded g s).resetWaiting = s.resetWaiting := rfl
@[simp] theorem setGuarded_rails (g : Bool) (s : State) : (setGuarded g s).rails = s.rails := rfl
@[simp] theorem setGuarded_en (g : Bool) (s : State) : (setGuarded g s).en = s.en := rfl
@[simp] theorem setGuarded_dis (g : Bool) (s : State) : (setGuarded g s).dis = s.dis := rfl
@[simp] theorem setGuarded_ctl (g : Bool) (s : State) : (setGuarded g s).ctl = s.ctl := rfl
@[simp] theorem setGuarded_chans (g : Bool) (s : State) : (setGuarded g s).chans = s.chans := rfl
@[simp] theorem setGuarded_marks (g : Bool) (s : State) : (setGuarded g s).marks = s.marks := rfl
@[simp] theorem setGuarded_conv (g : Bool) (s : State) : (setGuarded g s).conv = s.conv := rfl
@[simp] theorem setGuarded_line (g : Bool) (s : State) : (setGuarded g s).line = s.line := rfl
@[simp] theorem setGuarded_sync (g : Bool) (s : State) : (setGuarded g s).sync = s.sync := rfl
@[simp] theorem setGuarded_seq (g : Bool) (s : State) : (setGuarded g s).seq = s.seq := rfl
@[simp] theorem setGuarded_rtu (g : Bool) (s : State) : (setGuarded g s).rtu = s.rtu := rfl
@[simp] theorem setGuarded_ports (g : Bool) (s : State) : (setGuarded g s).ports = s.ports := rfl
@[simp] theorem setGuarded_up (g : Bool) (s : State) : (setGuarded g s).up = s.up := rfl
@[simp] theorem setGuarded_fwd (g : Bool) (s : State) : (setGuarded g s).fwd = s.fwd := rfl
@[simp] theorem setGuarded_ev (g : Bool) (s : State) : (setGuarded g s).ev = s.ev := rfl
@[simp] theorem setGuarded_store (g : Bool) (s : State) : (setGuarded g s).store = s.store := rfl

/-! ### markRunning -/

@[simp] theorem markRunning_pending (g : Bool) (s : State) : (markRunning g s).pending = s.pending := rfl
@[simp] theorem markRunning_agenda (g : Bool) (s : State) : (markRunning g s).agenda = s.agenda := rfl
@[simp] theorem markRunning_takeDue (g : Bool) (s : State) : (markRunning g s).takeDue = s.takeDue := rfl
@[simp] theorem markRunning_now (g : Bool) (s : State) : (markRunning g s).now = s.now := rfl
@[simp] theorem markRunning_choices (g : Bool) (s : State) : (markRunning g s).choices = s.choices := rfl
@[simp] theorem markRunning_phase (g : Bool) (s : State) : (markRunning g s).phase = s.phase := rfl
@[simp] theorem markRunning_cause (g : Bool) (s : State) : (markRunning g s).cause = s.cause := rfl
@[simp] theorem markRunning_mode (g : Bool) (s : State) : (markRunning g s).mode = s.mode := rfl
@[simp] theorem markRunning_resetWaiting (g : Bool) (s : State) : (markRunning g s).resetWaiting = s.resetWaiting := rfl
@[simp] theorem markRunning_rails (g : Bool) (s : State) : (markRunning g s).rails = s.rails := rfl
@[simp] theorem markRunning_en (g : Bool) (s : State) : (markRunning g s).en = s.en := rfl
@[simp] theorem markRunning_dis (g : Bool) (s : State) : (markRunning g s).dis = s.dis := rfl
@[simp] theorem markRunning_ctl (g : Bool) (s : State) : (markRunning g s).ctl = s.ctl := rfl
@[simp] theorem markRunning_chans (g : Bool) (s : State) : (markRunning g s).chans = s.chans := rfl
@[simp] theorem markRunning_marks (g : Bool) (s : State) : (markRunning g s).marks = s.marks := rfl
@[simp] theorem markRunning_conv (g : Bool) (s : State) : (markRunning g s).conv = s.conv := rfl
@[simp] theorem markRunning_line (g : Bool) (s : State) : (markRunning g s).line = s.line := rfl
@[simp] theorem markRunning_sync (g : Bool) (s : State) : (markRunning g s).sync = s.sync := rfl
@[simp] theorem markRunning_seq (g : Bool) (s : State) : (markRunning g s).seq = s.seq := rfl
@[simp] theorem markRunning_rtu (g : Bool) (s : State) : (markRunning g s).rtu = s.rtu := rfl
@[simp] theorem markRunning_ports (g : Bool) (s : State) : (markRunning g s).ports = s.ports := rfl
@[simp] theorem markRunning_up (g : Bool) (s : State) : (markRunning g s).up = s.up := rfl
@[simp] theorem markRunning_fwd (g : Bool) (s : State) : (markRunning g s).fwd = s.fwd := rfl
@[simp] theorem markRunning_ev (g : Bool) (s : State) : (markRunning g s).ev = s.ev := rfl
@[simp] theorem markRunning_store (g : Bool) (s : State) : (markRunning g s).store = s.store := rfl

/-! ### dropped -/

@[simp] theorem dropped_pending (n : ProgNo) (q : Requester) (s : State) : (dropped n q s).pending = s.pending := by unfold dropped; simp only []; split <;> rfl
@[simp] theorem dropped_takeDue (n : ProgNo) (q : Requester) (s : State) : (dropped n q s).takeDue = s.takeDue := by unfold dropped; simp only []; split <;> rfl
@[simp] theorem dropped_now (n : ProgNo) (q : Requester) (s : State) : (dropped n q s).now = s.now := by unfold dropped; simp only []; split <;> rfl
@[simp] theorem dropped_choices (n : ProgNo) (q : Requester) (s : State) : (dropped n q s).choices = s.choices := by unfold dropped; simp only []; split <;> rfl
@[simp] theorem dropped_phase (n : ProgNo) (q : Requester) (s : State) : (dropped n q s).phase = s.phase := by unfold dropped; simp only []; split <;> rfl
@[simp] theorem dropped_cause (n : ProgNo) (q : Requester) (s : State) : (dropped n q s).cause = s.cause := by unfold dropped; simp only []; split <;> rfl
@[simp] theorem dropped_mode (n : ProgNo) (q : Requester) (s : State) : (dropped n q s).mode = s.mode := by unfold dropped; simp only []; split <;> rfl
@[simp] theorem dropped_resetWaiting (n : ProgNo) (q : Requester) (s : State) : (dropped n q s).resetWaiting = s.resetWaiting := by unfold dropped; simp only []; split <;> rfl
@[simp] theorem dropped_rails (n : ProgNo) (q : Requester) (s : State) : (dropped n q s).rails = s.rails := by unfold dropped; simp only []; split <;> rfl
@[simp] theorem dropped_en (n : ProgNo) (q : Requester) (s : State) : (dropped n q s).en = s.en := by unfold dropped; simp only []; split <;> rfl
@[simp] theorem dropped_dis (n : ProgNo) (q : Requester) (s : State) : (dropped n q s).dis = s.dis := by unfold dropped; simp only []; split <;> rfl
@[simp] theorem dropped_ctl (n : ProgNo) (q : Requester) (s : State) : (dropped n q s).ctl = s.ctl := by unfold dropped; simp only []; split <;> rfl
@[simp] theorem dropped_chans (n : ProgNo) (q : Requester) (s : State) : (dropped n q s).chans = s.chans := by unfold dropped; simp only []; split <;> rfl
@[simp] theorem dropped_marks (n : ProgNo) (q : Requester) (s : State) : (dropped n q s).marks = s.marks := by unfold dropped; simp only []; split <;> rfl
@[simp] theorem dropped_conv (n : ProgNo) (q : Requester) (s : State) : (dropped n q s).conv = s.conv := by unfold dropped; simp only []; split <;> rfl
@[simp] theorem dropped_line (n : ProgNo) (q : Requester) (s : State) : (dropped n q s).line = s.line := by unfold dropped; simp only []; split <;> rfl
@[simp] theorem dropped_sync (n : ProgNo) (q : Requester) (s : State) : (dropped n q s).sync = s.sync := by unfold dropped; simp only []; split <;> rfl
@[simp] theorem dropped_seq (n : ProgNo) (q : Requester) (s : State) : (dropped n q s).seq = s.seq := by unfold dropped; simp only []; split <;> rfl
@[simp] theorem dropped_rtu (n : ProgNo) (q : Requester) (s : State) : (dropped n q s).rtu = s.rtu := by unfold dropped; simp only []; split <;> rfl
@[simp] theorem dropped_ports (n : ProgNo) (q : Requester) (s : State) : (dropped n q s).ports = s.ports := by unfold dropped; simp only []; split <;> rfl
@[simp] theorem dropped_up (n : ProgNo) (q : Requester) (s : State) : (dropped n q s).up = s.up := by unfold dropped; simp only []; split <;> rfl
@[simp] theorem dropped_fwd (n : ProgNo) (q : Requester) (s : State) : (dropped n q s).fwd = s.fwd := by unfold dropped; simp only []; split <;> rfl
@[simp] theorem dropped_ev (n : ProgNo) (q : Requester) (s : State) : (dropped n q s).ev = s.ev := by unfold dropped; simp only []; split <;> rfl
@[simp] theorem dropped_store (n : ProgNo) (q : Requester) (s : State) : (dropped n q s).store = s.store := by unfold dropped; simp only []; split <;> rfl

/-! ### stopTriggers -/

@[simp] theorem stopTriggers_pending  (s : State) : (stopTriggers  s).pending = s.pending := rfl
@[simp] theorem stopTriggers_agenda  (s : State) : (stopTriggers  s).agenda = s.agenda := rfl
@[simp] theorem stopTriggers_takeDue  (s : State) : (stopTriggers  s).takeDue = s.takeDue := rfl
@[simp] theorem stopTriggers_now  (s : State) : (stopTriggers  s).now = s.now := rfl
@[simp] theorem stopTriggers_choices  (s : State) : (stopTriggers  s).choices = s.choices := rfl
@[simp] theorem stopTriggers_phase  (s : State) : (stopTriggers  s).phase = s.phase := rfl
@[simp] theorem stopTriggers_cause  (s : State) : (stopTriggers  s).cause = s.cause := rfl
@[simp] theorem stopTriggers_mode  (s : State) : (stopTriggers  s).mode = s.mode := rfl
@[simp] theorem stopTriggers_resetWaiting  (s : State) : (stopTriggers  s).resetWaiting = s.resetWaiting := rfl
@[simp] theorem stopTriggers_rails  (s : State) : (stopTriggers  s).rails = s.rails := rfl
@[simp] theorem stopTriggers_en  (s : State) : (stopTriggers  s).en = s.en := rfl
@[simp] theorem stopTriggers_dis  (s : State) : (stopTriggers  s).dis = s.dis := rfl
@[simp] theorem stopTriggers_ctl  (s : State) : (stopTriggers  s).ctl = s.ctl := rfl
@[simp] theorem stopTriggers_chans  (s : State) : (stopTriggers  s).chans = s.chans := rfl
@[simp] theorem stopTriggers_marks  (s : State) : (stopTriggers  s).marks = s.marks := rfl
@[simp] theorem stopTriggers_conv  (s : State) : (stopTriggers  s).conv = s.conv := rfl
@[simp] theorem stopTriggers_line  (s : State) : (stopTriggers  s).line = s.line := rfl
@[simp] theorem stopTriggers_sync  (s : State) : (stopTriggers  s).sync = s.sync := rfl
@[simp] theorem stopTriggers_seq  (s : State) : (stopTriggers  s).seq = s.seq := rfl
@[simp] theorem stopTriggers_sched  (s : State) : (stopTriggers  s).sched = s.sched := rfl
@[simp] theorem stopTriggers_ports  (s : State) : (stopTriggers  s).ports = s.ports := rfl
@[simp] theorem stopTriggers_up  (s : State) : (stopTriggers  s).up = s.up := rfl
@[simp] theorem stopTriggers_fwd  (s : State) : (stopTriggers  s).fwd = s.fwd := rfl
@[simp] theorem stopTriggers_ev  (s : State) : (stopTriggers  s).ev = s.ev := rfl
@[simp] theorem stopTriggers_store  (s : State) : (stopTriggers  s).store = s.store := rfl

/-! ### startTriggers -/

@[simp] theorem startTriggers_pending  (s : State) : (startTriggers  s).pending = s.pending := rfl
@[simp] theorem startTriggers_agenda  (s : State) : (startTriggers  s).agenda = s.agenda := rfl
@[simp] theorem startTriggers_takeDue  (s : State) : (startTriggers  s).takeDue = s.takeDue := rfl
@[simp] theorem startTriggers_now  (s : State) : (startTriggers  s).now = s.now := rfl
@[simp] theorem startTriggers_choices  (s : State) : (startTriggers  s).choices = s.choices := rfl
@[simp] theorem startTriggers_phase  (s : State) : (startTriggers  s).phase = s.phase := rfl
@[simp] theorem startTriggers_cause  (s : State) : (startTriggers  s).cause = s.cause := rfl
@[simp] theorem startTriggers_mode  (s : State) : (startTriggers  s).mode = s.mode := rfl
@[simp] theorem startTriggers_resetWaiting  (s : State) : (startTriggers  s).resetWaiting = s.resetWaiting := rfl
@[simp] theorem startTriggers_rails  (s : State) : (startTriggers  s).rails = s.rails := rfl
@[simp] theorem startTriggers_en  (s : State) : (startTriggers  s).en = s.en := rfl
@[simp] theorem startTriggers_dis  (s : State) : (startTriggers  s).dis = s.dis := rfl
@[simp] theorem startTriggers_ctl  (s : State) : (startTriggers  s).ctl = s.ctl := rfl
@[simp] theorem startTriggers_chans  (s : State) : (startTriggers  s).chans = s.chans := rfl
@[simp] theorem startTriggers_marks  (s : State) : (startTriggers  s).marks = s.marks := rfl
@[simp] theorem startTriggers_conv  (s : State) : (startTriggers  s).conv = s.conv := rfl
@[simp] theorem startTriggers_line  (s : State) : (startTriggers  s).line = s.line := rfl
@[simp] theorem startTriggers_sync  (s : State) : (startTriggers  s).sync = s.sync := rfl
@[simp] theorem startTriggers_seq  (s : State) : (startTriggers  s).seq = s.seq := rfl
@[simp] theorem startTriggers_sched  (s : State) : (startTriggers  s).sched = s.sched := rfl
@[simp] theorem startTriggers_ports  (s : State) : (startTriggers  s).ports = s.ports := rfl
@[simp] theorem startTriggers_up  (s : State) : (startTriggers  s).up = s.up := rfl
@[simp] theorem startTriggers_fwd  (s : State) : (startTriggers  s).fwd = s.fwd := rfl
@[simp] theorem startTriggers_ev  (s : State) : (startTriggers  s).ev = s.ev := rfl
@[simp] theorem startTriggers_store  (s : State) : (startTriggers  s).store = s.store := rfl

/-! ### endEpisode -/

@[simp] theorem endEpisode_pending  (s : State) : (endEpisode  s).pending = s.pending := rfl
@[simp] theorem endEpisode_agenda  (s : State) : (endEpisode  s).agenda = s.agenda := rfl
@[simp] theorem endEpisode_takeDue  (s : State) : (endEpisode  s).takeDue = s.takeDue := rfl
@[simp] theorem endEpisode_now  (s : State) : (endEpisode  s).now = s.now := rfl
@[simp] theorem endEpisode_choices  (s : State) : (endEpisode  s).choices = s.choices := rfl
@[simp] theorem endEpisode_phase  (s : State) : (endEpisode  s).phase = s.phase := rfl
@[simp] theorem endEpisode_cause  (s : State) : (endEpisode  s).cause = s.cause := rfl
@[simp] theorem endEpisode_mode  (s : State) : (endEpisode  s).mode = s.mode := rfl
@[simp] theorem endEpisode_resetWaiting  (s : State) : (endEpisode  s).resetWaiting = s.resetWaiting := rfl
@[simp] theorem endEpisode_rails  (s : State) : (endEpisode  s).rails = s.rails := rfl
@[simp] theorem endEpisode_en  (s : State) : (endEpisode  s).en = s.en := rfl
@[simp] theorem endEpisode_dis  (s : State) : (endEpisode  s).dis = s.dis := rfl
@[simp] theorem endEpisode_ctl  (s : State) : (endEpisode  s).ctl = s.ctl := rfl
@[simp] theorem endEpisode_chans  (s : State) : (endEpisode  s).chans = s.chans := rfl
@[simp] theorem endEpisode_marks  (s : State) : (endEpisode  s).marks = s.marks := rfl
@[simp] theorem endEpisode_conv  (s : State) : (endEpisode  s).conv = s.conv := rfl
@[simp] theorem endEpisode_line  (s : State) : (endEpisode  s).line = s.line := rfl
@[simp] theorem endEpisode_sync  (s : State) : (endEpisode  s).sync = s.sync := rfl
@[simp] theorem endEpisode_seq  (s : State) : (endEpisode  s).seq = s.seq := rfl
@[simp] theorem endEpisode_sched  (s : State) : (endEpisode  s).sched = s.sched := rfl
@[simp] theorem endEpisode_ports  (s : State) : (endEpisode  s).ports = s.ports := rfl
@[simp] theorem endEpisode_up  (s : State) : (endEpisode  s).up = s.up := rfl
@[simp] theorem endEpisode_fwd  (s : State) : (endEpisode  s).fwd = s.fwd := rfl
@[simp] theorem endEpisode_ev  (s : State) : (endEpisode  s).ev = s.ev := rfl
@[simp] theorem endEpisode_store  (s : State) : (endEpisode  s).store = s.store := rfl

/-! ### askWrite -/

@[simp] theorem askWrite_pending  (s : State) : (askWrite  s).pending = s.pending := rfl
@[simp] theorem askWrite_agenda  (s : State) : (askWrite  s).agenda = s.agenda := rfl
@[simp] theorem askWrite_takeDue  (s : State) : (askWrite  s).takeDue = s.takeDue := rfl
@[simp] theorem askWrite_now  (s : State) : (askWrite  s).now = s.now := rfl
@[simp] theorem askWrite_choices  (s : State) : (askWrite  s).choices = s.choices := rfl
@[simp] theorem askWrite_phase  (s : State) : (askWrite  s).phase = s.phase := rfl
@[simp] theorem askWrite_cause  (s : State) : (askWrite  s).cause = s.cause := rfl
@[simp] theorem askWrite_mode  (s : State) : (askWrite  s).mode = s.mode := rfl
@[simp] theorem askWrite_resetWaiting  (s : State) : (askWrite  s).resetWaiting = s.resetWaiting := rfl
@[simp] theorem askWrite_rails  (s : State) : (askWrite  s).rails = s.rails := rfl
@[simp] theorem askWrite_en  (s : State) : (askWrite  s).en = s.en := rfl
@[simp] theorem askWrite_dis  (s : State) : (askWrite  s).dis = s.dis := rfl
@[simp] theorem askWrite_ctl  (s : State) : (askWrite  s).ctl = s.ctl := rfl
@[simp] theorem askWrite_chans  (s : State) : (askWrite  s).chans = s.chans := rfl
@[simp] theorem askWrite_marks  (s : State) : (askWrite  s).marks = s.marks := rfl
@[simp] theorem askWrite_conv  (s : State) : (askWrite  s).conv = s.conv := rfl
@[simp] theorem askWrite_line  (s : State) : (askWrite  s).line = s.line := rfl
@[simp] theorem askWrite_sync  (s : State) : (askWrite  s).sync = s.sync := rfl
@[simp] theorem askWrite_seq  (s : State) : (askWrite  s).seq = s.seq := rfl
@[simp] theorem askWrite_sched  (s : State) : (askWrite  s).sched = s.sched := rfl
@[simp] theorem askWrite_ports  (s : State) : (askWrite  s).ports = s.ports := rfl
@[simp] theorem askWrite_up  (s : State) : (askWrite  s).up = s.up := rfl
@[simp] theorem askWrite_fwd  (s : State) : (askWrite  s).fwd = s.fwd := rfl
@[simp] theorem askWrite_ev  (s : State) : (askWrite  s).ev = s.ev := rfl
@[simp] theorem askWrite_store  (s : State) : (askWrite  s).store = s.store := rfl

/-! ### setLevel -/

@[simp] theorem setLevel_pending (n : Nat) (s : State) : (setLevel n s).pending = s.pending := by unfold setLevel; split <;> rfl
@[simp] theorem setLevel_takeDue (n : Nat) (s : State) : (setLevel n s).takeDue = s.takeDue := by unfold setLevel; split <;> rfl
@[simp] theorem setLevel_now (n : Nat) (s : State) : (setLevel n s).now = s.now := by unfold setLevel; split <;> rfl
@[simp] theorem setLevel_choices (n : Nat) (s : State) : (setLevel n s).choices = s.choices := by unfold setLevel; split <;> rfl
@[simp] theorem setLevel_phase (n : Nat) (s : State) : (setLevel n s).phase = s.phase := by unfold setLevel; split <;> rfl
@[simp] theorem setLevel_cause (n : Nat) (s : State) : (setLevel n s).cause = s.cause := by unfold setLevel; split <;> rfl
@[simp] theorem setLevel_mode (n : Nat) (s : State) : (setLevel n s).mode = s.mode := by unfold setLevel; split <;> rfl
@[simp] theorem setLevel_resetWaiting (n : Nat) (s : State) : (setLevel n s).resetWaiting = s.resetWaiting := by unfold setLevel; split <;> rfl
@[simp] theorem setLevel_rails (n : Nat) (s : State) : (setLevel n s).rails = s.rails := by unfold setLevel; split <;> rfl
@[simp] theorem setLevel_en (n : Nat) (s : State) : (setLevel n s).en = s.en := by unfold setLevel; split <;> rfl
@[simp] theorem setLevel_dis (n : Nat) (s : State) : (setLevel n s).dis = s.dis := by unfold setLevel; split <;> rfl
@[simp] theorem setLevel_ctl (n : Nat) (s : State) : (setLevel n s).ctl = s.ctl := by unfold setLevel; split <;> rfl
@[simp] theorem setLevel_chans (n : Nat) (s : State) : (setLevel n s).chans = s.chans := by unfold setLevel; split <;> rfl
@[simp] theorem setLevel_marks (n : Nat) (s : State) : (setLevel n s).marks = s.marks := by unfold setLevel; split <;> rfl
@[simp] theorem setLevel_conv (n : Nat) (s : State) : (setLevel n s).conv = s.conv := by unfold setLevel; split <;> rfl
@[simp] theorem setLevel_line (n : Nat) (s : State) : (setLevel n s).line = s.line := by unfold setLevel; split <;> rfl
@[simp] theorem setLevel_sync (n : Nat) (s : State) : (setLevel n s).sync = s.sync := by unfold setLevel; split <;> rfl
@[simp] theorem setLevel_seq (n : Nat) (s : State) : (setLevel n s).seq = s.seq := by unfold setLevel; split <;> rfl
@[simp] theorem setLevel_sched (n : Nat) (s : State) : (setLevel n s).sched = s.sched := by unfold setLevel; split <;> rfl
@[simp] theorem setLevel_ports (n : Nat) (s : State) : (setLevel n s).ports = s.ports := by unfold setLevel; split <;> rfl
@[simp] theorem setLevel_up (n : Nat) (s : State) : (setLevel n s).up = s.up := by unfold setLevel; split <;> rfl
@[simp] theorem setLevel_ev (n : Nat) (s : State) : (setLevel n s).ev = s.ev := by unfold setLevel; split <;> rfl
@[simp] theorem setLevel_store (n : Nat) (s : State) : (setLevel n s).store = s.store := by unfold setLevel; split <;> rfl

/-! ### setStage -/

@[simp] theorem setStage_pending (st : Stage) (s : State) : (setStage st s).pending = s.pending := by unfold setStage; simp
@[simp] theorem setStage_takeDue (st : Stage) (s : State) : (setStage st s).takeDue = s.takeDue := by unfold setStage; simp
@[simp] theorem setStage_now (st : Stage) (s : State) : (setStage st s).now = s.now := by unfold setStage; simp
@[simp] theorem setStage_choices (st : Stage) (s : State) : (setStage st s).choices = s.choices := by unfold setStage; simp
@[simp] theorem setStage_phase (st : Stage) (s : State) : (setStage st s).phase = s.phase := by unfold setStage; simp
@[simp] theorem setStage_cause (st : Stage) (s : State) : (setStage st s).cause = s.cause := by unfold setStage; simp
@[simp] theorem setStage_mode (st : Stage) (s : State) : (setStage st s).mode = s.mode := by unfold setStage; simp
@[simp] theorem setStage_resetWaiting (st : Stage) (s : State) : (setStage st s).resetWaiting = s.resetWaiting := by unfold setStage; simp
@[simp] theorem setStage_rails (st : Stage) (s : State) : (setStage st s).rails = s.rails := by unfold setStage; simp
@[simp] theorem setStage_en (st : Stage) (s : State) : (setStage st s).en = s.en := by unfold setStage; simp
@[simp] theorem setStage_dis (st : Stage) (s : State) : (setStage st s).dis = s.dis := by unfold setStage; simp
@[simp] theorem setStage_ctl (st : Stage) (s : State) : (setStage st s).ctl = s.ctl := by unfold setStage; simp
@[simp] theorem setStage_chans (st : Stage) (s : State) : (setStage st s).chans = s.chans := by unfold setStage; simp
@[simp] theorem setStage_marks (st : Stage) (s : State) : (setStage st s).marks = s.marks := by unfold setStage; simp
@[simp] theorem setStage_conv (st : Stage) (s : State) : (setStage st s).conv = s.conv := by unfold setStage; simp
@[simp] theorem setStage_line (st : Stage) (s : State) : (setStage st s).line = s.line := by unfold setStage; simp
@[simp] theorem setStage_sync (st : Stage) (s : State) : (setStage st s).sync = s.sync := by unfold setStage; simp
@[simp] theorem setStage_seq (st : Stage) (s : State) : (setStage st s).seq = s.seq := by unfold setStage; simp
@[simp] theorem setStage_sched (st : Stage) (s : State) : (setStage st s).sched = s.sched := by unfold setStage; simp
@[simp] theorem setStage_ports (st : Stage) (s : State) : (setStage st s).ports = s.ports := by unfold setStage; simp
@[simp] theorem setStage_up (st : Stage) (s : State) : (setStage st s).up = s.up := by unfold setStage; simp
@[simp] theorem setStage_ev (st : Stage) (s : State) : (setStage st s).ev = s.ev := by unfold setStage; simp
@[simp] theorem setStage_store (st : Stage) (s : State) : (setStage st s).store = s.store := by unfold setStage; simp

/-! ### leaveDark -/

@[simp] theorem leaveDark_pending  (s : State) : (leaveDark  s).pending = s.pending := by unfold leaveDark; simp
@[simp] theorem leaveDark_takeDue  (s : State) : (leaveDark  s).takeDue = s.takeDue := by unfold leaveDark; simp
@[simp] theorem leaveDark_now  (s : State) : (leaveDark  s).now = s.now := by unfold leaveDark; simp
@[simp] theorem leaveDark_choices  (s : State) : (leaveDark  s).choices = s.choices := by unfold leaveDark; simp
@[simp] theorem leaveDark_phase  (s : State) : (leaveDark  s).phase = s.phase := by unfold leaveDark; simp
@[simp] theorem leaveDark_cause  (s : State) : (leaveDark  s).cause = s.cause := by unfold leaveDark; simp
@[simp] theorem leaveDark_mode  (s : State) : (leaveDark  s).mode = s.mode := by unfold leaveDark; simp
@[simp] theorem leaveDark_resetWaiting  (s : State) : (leaveDark  s).resetWaiting = s.resetWaiting := by unfold leaveDark; simp
@[simp] theorem leaveDark_rails  (s : State) : (leaveDark  s).rails = s.rails := by unfold leaveDark; simp
@[simp] theorem leaveDark_en  (s : State) : (leaveDark  s).en = s.en := by unfold leaveDark; simp
@[simp] theorem leaveDark_dis  (s : State) : (leaveDark  s).dis = s.dis := by unfold leaveDark; simp
@[simp] theorem leaveDark_ctl  (s : State) : (leaveDark  s).ctl = s.ctl := by unfold leaveDark; simp
@[simp] theorem leaveDark_chans  (s : State) : (leaveDark  s).chans = s.chans := by unfold leaveDark; simp
@[simp] theorem leaveDark_marks  (s : State) : (leaveDark  s).marks = s.marks := by unfold leaveDark; simp
@[simp] theorem leaveDark_conv  (s : State) : (leaveDark  s).conv = s.conv := by unfold leaveDark; simp
@[simp] theorem leaveDark_line  (s : State) : (leaveDark  s).line = s.line := by unfold leaveDark; simp
@[simp] theorem leaveDark_sync  (s : State) : (leaveDark  s).sync = s.sync := by unfold leaveDark; simp
@[simp] theorem leaveDark_seq  (s : State) : (leaveDark  s).seq = s.seq := by unfold leaveDark; simp
@[simp] theorem leaveDark_sched  (s : State) : (leaveDark  s).sched = s.sched := by unfold leaveDark; simp
@[simp] theorem leaveDark_ports  (s : State) : (leaveDark  s).ports = s.ports := by unfold leaveDark; simp
@[simp] theorem leaveDark_up  (s : State) : (leaveDark  s).up = s.up := by unfold leaveDark; simp
@[simp] theorem leaveDark_ev  (s : State) : (leaveDark  s).ev = s.ev := by unfold leaveDark; simp
@[simp] theorem leaveDark_store  (s : State) : (leaveDark  s).store = s.store := by unfold leaveDark; simp

/-! ### toLineOk -/

@[simp] theorem toLineOk_pending  (s : State) : (toLineOk  s).pending = s.pending := by unfold toLineOk; simp
@[simp] theorem toLineOk_takeDue  (s : State) : (toLineOk  s).takeDue = s.takeDue := by unfold toLineOk; simp
@[simp] theorem toLineOk_now  (s : State) : (toLineOk  s).now = s.now := by unfold toLineOk; simp
@[simp] theorem toLineOk_choices  (s : State) : (toLineOk  s).choices = s.choices := by unfold toLineOk; simp
@[simp] theorem toLineOk_phase  (s : State) : (toLineOk  s).phase = s.phase := by unfold toLineOk; simp
@[simp] theorem toLineOk_cause  (s : State) : (toLineOk  s).cause = s.cause := by unfold toLineOk; simp
@[simp] theorem toLineOk_mode  (s : State) : (toLineOk  s).mode = s.mode := by unfold toLineOk; simp
@[simp] theorem toLineOk_resetWaiting  (s : State) : (toLineOk  s).resetWaiting = s.resetWaiting := by unfold toLineOk; simp
@[simp] theorem toLineOk_rails  (s : State) : (toLineOk  s).rails = s.rails := by unfold toLineOk; simp
@[simp] theorem toLineOk_en  (s : State) : (toLineOk  s).en = s.en := by unfold toLineOk; simp
@[simp] theorem toLineOk_dis  (s : State) : (toLineOk  s).dis = s.dis := by unfold toLineOk; simp
@[simp] theorem toLineOk_ctl  (s : State) : (toLineOk  s).ctl = s.ctl := by unfold toLineOk; simp
@[simp] theorem toLineOk_chans  (s : State) : (toLineOk  s).chans = s.chans := by unfold toLineOk; simp
@[simp] theorem toLineOk_marks  (s : State) : (toLineOk  s).marks = s.marks := by unfold toLineOk; simp
@[simp] theorem toLineOk_conv  (s : State) : (toLineOk  s).conv = s.conv := by unfold toLineOk; simp
@[simp] theorem toLineOk_line  (s : State) : (toLineOk  s).line = s.line := by unfold toLineOk; simp
@[simp] theorem toLineOk_sync  (s : State) : (toLineOk  s).sync = s.sync := by unfold toLineOk; simp
@[simp] theorem toLineOk_seq  (s : State) : (toLineOk  s).seq = s.seq := by unfold toLineOk; simp
@[simp] theorem toLineOk_sched  (s : State) : (toLineOk  s).sched = s.sched := by unfold toLineOk; simp
@[simp] theorem toLineOk_ports  (s : State) : (toLineOk  s).ports = s.ports := by unfold toLineOk; simp
@[simp] theorem toLineOk_up  (s : State) : (toLineOk  s).up = s.up := by unfold toLineOk; simp
@[simp] theorem toLineOk_ev  (s : State) : (toLineOk  s).ev = s.ev := by unfold toLineOk; simp
@[simp] theorem toLineOk_store  (s : State) : (toLineOk  s).store = s.store := by unfold toLineOk; simp

/-! ### beginGroup -/

@[simp] theorem beginGroup_pending (g : Fin 5) (s : State) : (beginGroup g s).pending = s.pending := rfl
@[simp] theorem beginGroup_agenda (g : Fin 5) (s : State) : (beginGroup g s).agenda = s.agenda := rfl
@[simp] theorem beginGroup_takeDue (g : Fin 5) (s : State) : (beginGroup g s).takeDue = s.takeDue := rfl
@[simp] theorem beginGroup_now (g : Fin 5) (s : State) : (beginGroup g s).now = s.now := rfl
@[simp] theorem beginGroup_choices (g : Fin 5) (s : State) : (beginGroup g s).choices = s.choices := rfl
@[simp] theorem beginGroup_phase (g : Fin 5) (s : State) : (beginGroup g s).phase = s.phase := rfl
@[simp] theorem beginGroup_cause (g : Fin 5) (s : State) : (beginGroup g s).cause = s.cause := rfl
@[simp] theorem beginGroup_mode (g : Fin 5) (s : State) : (beginGroup g s).mode = s.mode := rfl
@[simp] theorem beginGroup_resetWaiting (g : Fin 5) (s : State) : (beginGroup g s).resetWaiting = s.resetWaiting := rfl
@[simp] theorem beginGroup_rails (g : Fin 5) (s : State) : (beginGroup g s).rails = s.rails := rfl
@[simp] theorem beginGroup_en (g : Fin 5) (s : State) : (beginGroup g s).en = s.en := rfl
@[simp] theorem beginGroup_dis (g : Fin 5) (s : State) : (beginGroup g s).dis = s.dis := rfl
@[simp] theorem beginGroup_ctl (g : Fin 5) (s : State) : (beginGroup g s).ctl = s.ctl := rfl
@[simp] theorem beginGroup_chans (g : Fin 5) (s : State) : (beginGroup g s).chans = s.chans := rfl
@[simp] theorem beginGroup_marks (g : Fin 5) (s : State) : (beginGroup g s).marks = s.marks := rfl
@[simp] theorem beginGroup_conv (g : Fin 5) (s : State) : (beginGroup g s).conv = s.conv := rfl
@[simp] theorem beginGroup_line (g : Fin 5) (s : State) : (beginGroup g s).line = s.line := rfl
@[simp] theorem beginGroup_sync (g : Fin 5) (s : State) : (beginGroup g s).sync = s.sync := rfl
@[simp] theorem beginGroup_seq (g : Fin 5) (s : State) : (beginGroup g s).seq = s.seq := rfl
@[simp] theorem beginGroup_sched (g : Fin 5) (s : State) : (beginGroup g s).sched = s.sched := rfl
@[simp] theorem beginGroup_rtu (g : Fin 5) (s : State) : (beginGroup g s).rtu = s.rtu := rfl
@[simp] theorem beginGroup_ports (g : Fin 5) (s : State) : (beginGroup g s).ports = s.ports := rfl
@[simp] theorem beginGroup_up (g : Fin 5) (s : State) : (beginGroup g s).up = s.up := rfl
@[simp] theorem beginGroup_fwd (g : Fin 5) (s : State) : (beginGroup g s).fwd = s.fwd := rfl
@[simp] theorem beginGroup_ev (g : Fin 5) (s : State) : (beginGroup g s).ev = s.ev := rfl

/-! ### beginSave -/

@[simp] theorem beginSave_pending  (s : State) : (beginSave  s).pending = s.pending := rfl
@[simp] theorem beginSave_agenda  (s : State) : (beginSave  s).agenda = s.agenda := rfl
@[simp] theorem beginSave_takeDue  (s : State) : (beginSave  s).takeDue = s.takeDue := rfl
@[simp] theorem beginSave_now  (s : State) : (beginSave  s).now = s.now := rfl
@[simp] theorem beginSave_choices  (s : State) : (beginSave  s).choices = s.choices := rfl
@[simp] theorem beginSave_phase  (s : State) : (beginSave  s).phase = s.phase := rfl
@[simp] theorem beginSave_cause  (s : State) : (beginSave  s).cause = s.cause := rfl
@[simp] theorem beginSave_mode  (s : State) : (beginSave  s).mode = s.mode := rfl
@[simp] theorem beginSave_resetWaiting  (s : State) : (beginSave  s).resetWaiting = s.resetWaiting := rfl
@[simp] theorem beginSave_rails  (s : State) : (beginSave  s).rails = s.rails := rfl
@[simp] theorem beginSave_en  (s : State) : (beginSave  s).en = s.en := rfl
@[simp] theorem beginSave_dis  (s : State) : (beginSave  s).dis = s.dis := rfl
@[simp] theorem beginSave_ctl  (s : State) : (beginSave  s).ctl = s.ctl := rfl
@[simp] theorem beginSave_chans  (s : State) : (beginSave  s).chans = s.chans := rfl
@[simp] theorem beginSave_marks  (s : State) : (beginSave  s).marks = s.marks := rfl
@[simp] theorem beginSave_conv  (s : State) : (beginSave  s).conv = s.conv := rfl
@[simp] theorem beginSave_line  (s : State) : (beginSave  s).line = s.line := rfl
@[simp] theorem beginSave_sync  (s : State) : (beginSave  s).sync = s.sync := rfl
@[simp] theorem beginSave_seq  (s : State) : (beginSave  s).seq = s.seq := rfl
@[simp] theorem beginSave_sched  (s : State) : (beginSave  s).sched = s.sched := rfl
@[simp] theorem beginSave_rtu  (s : State) : (beginSave  s).rtu = s.rtu := rfl
@[simp] theorem beginSave_ports  (s : State) : (beginSave  s).ports = s.ports := rfl
@[simp] theorem beginSave_up  (s : State) : (beginSave  s).up = s.up := rfl
@[simp] theorem beginSave_fwd  (s : State) : (beginSave  s).fwd = s.fwd := rfl
@[simp] theorem beginSave_ev  (s : State) : (beginSave  s).ev = s.ev := rfl

/-! ### abandonSave -/

@[simp] theorem abandonSave_pending (c : AbandonCause) (s : State) : (abandonSave c s).pending = s.pending := by unfold abandonSave; split <;> rfl
@[simp] theorem abandonSave_takeDue (c : AbandonCause) (s : State) : (abandonSave c s).takeDue = s.takeDue := by unfold abandonSave; split <;> rfl
@[simp] theorem abandonSave_now (c : AbandonCause) (s : State) : (abandonSave c s).now = s.now := by unfold abandonSave; split <;> rfl
@[simp] theorem abandonSave_choices (c : AbandonCause) (s : State) : (abandonSave c s).choices = s.choices := by unfold abandonSave; split <;> rfl
@[simp] theorem abandonSave_phase (c : AbandonCause) (s : State) : (abandonSave c s).phase = s.phase := by unfold abandonSave; split <;> rfl
@[simp] theorem abandonSave_cause (c : AbandonCause) (s : State) : (abandonSave c s).cause = s.cause := by unfold abandonSave; split <;> rfl
@[simp] theorem abandonSave_mode (c : AbandonCause) (s : State) : (abandonSave c s).mode = s.mode := by unfold abandonSave; split <;> rfl
@[simp] theorem abandonSave_resetWaiting (c : AbandonCause) (s : State) : (abandonSave c s).resetWaiting = s.resetWaiting := by unfold abandonSave; split <;> rfl
@[simp] theorem abandonSave_rails (c : AbandonCause) (s : State) : (abandonSave c s).rails = s.rails := by unfold abandonSave; split <;> rfl
@[simp] theorem abandonSave_en (c : AbandonCause) (s : State) : (abandonSave c s).en = s.en := by unfold abandonSave; split <;> rfl
@[simp] theorem abandonSave_dis (c : AbandonCause) (s : State) : (abandonSave c s).dis = s.dis := by unfold abandonSave; split <;> rfl
@[simp] theorem abandonSave_ctl (c : AbandonCause) (s : State) : (abandonSave c s).ctl = s.ctl := by unfold abandonSave; split <;> rfl
@[simp] theorem abandonSave_chans (c : AbandonCause) (s : State) : (abandonSave c s).chans = s.chans := by unfold abandonSave; split <;> rfl
@[simp] theorem abandonSave_marks (c : AbandonCause) (s : State) : (abandonSave c s).marks = s.marks := by unfold abandonSave; split <;> rfl
@[simp] theorem abandonSave_conv (c : AbandonCause) (s : State) : (abandonSave c s).conv = s.conv := by unfold abandonSave; split <;> rfl
@[simp] theorem abandonSave_line (c : AbandonCause) (s : State) : (abandonSave c s).line = s.line := by unfold abandonSave; split <;> rfl
@[simp] theorem abandonSave_sync (c : AbandonCause) (s : State) : (abandonSave c s).sync = s.sync := by unfold abandonSave; split <;> rfl
@[simp] theorem abandonSave_seq (c : AbandonCause) (s : State) : (abandonSave c s).seq = s.seq := by unfold abandonSave; split <;> rfl
@[simp] theorem abandonSave_sched (c : AbandonCause) (s : State) : (abandonSave c s).sched = s.sched := by unfold abandonSave; split <;> rfl
@[simp] theorem abandonSave_rtu (c : AbandonCause) (s : State) : (abandonSave c s).rtu = s.rtu := by unfold abandonSave; split <;> rfl
@[simp] theorem abandonSave_ports (c : AbandonCause) (s : State) : (abandonSave c s).ports = s.ports := by unfold abandonSave; split <;> rfl
@[simp] theorem abandonSave_up (c : AbandonCause) (s : State) : (abandonSave c s).up = s.up := by unfold abandonSave; split <;> rfl
@[simp] theorem abandonSave_fwd (c : AbandonCause) (s : State) : (abandonSave c s).fwd = s.fwd := by unfold abandonSave; split <;> rfl
@[simp] theorem abandonSave_ev (c : AbandonCause) (s : State) : (abandonSave c s).ev = s.ev := by unfold abandonSave; split <;> rfl

/-! ### startPulse -/

@[simp] theorem startPulse_pending (p : Port) (s : State) : (startPulse p s).pending = s.pending := rfl
@[simp] theorem startPulse_agenda (p : Port) (s : State) : (startPulse p s).agenda = s.agenda := rfl
@[simp] theorem startPulse_takeDue (p : Port) (s : State) : (startPulse p s).takeDue = s.takeDue := rfl
@[simp] theorem startPulse_now (p : Port) (s : State) : (startPulse p s).now = s.now := rfl
@[simp] theorem startPulse_choices (p : Port) (s : State) : (startPulse p s).choices = s.choices := rfl
@[simp] theorem startPulse_phase (p : Port) (s : State) : (startPulse p s).phase = s.phase := rfl
@[simp] theorem startPulse_cause (p : Port) (s : State) : (startPulse p s).cause = s.cause := rfl
@[simp] theorem startPulse_mode (p : Port) (s : State) : (startPulse p s).mode = s.mode := rfl
@[simp] theorem startPulse_resetWaiting (p : Port) (s : State) : (startPulse p s).resetWaiting = s.resetWaiting := rfl
@[simp] theorem startPulse_rails (p : Port) (s : State) : (startPulse p s).rails = s.rails := rfl
@[simp] theorem startPulse_en (p : Port) (s : State) : (startPulse p s).en = s.en := rfl
@[simp] theorem startPulse_dis (p : Port) (s : State) : (startPulse p s).dis = s.dis := rfl
@[simp] theorem startPulse_ctl (p : Port) (s : State) : (startPulse p s).ctl = s.ctl := rfl
@[simp] theorem startPulse_chans (p : Port) (s : State) : (startPulse p s).chans = s.chans := rfl
@[simp] theorem startPulse_marks (p : Port) (s : State) : (startPulse p s).marks = s.marks := rfl
@[simp] theorem startPulse_conv (p : Port) (s : State) : (startPulse p s).conv = s.conv := rfl
@[simp] theorem startPulse_line (p : Port) (s : State) : (startPulse p s).line = s.line := rfl
@[simp] theorem startPulse_sync (p : Port) (s : State) : (startPulse p s).sync = s.sync := rfl
@[simp] theorem startPulse_seq (p : Port) (s : State) : (startPulse p s).seq = s.seq := rfl
@[simp] theorem startPulse_sched (p : Port) (s : State) : (startPulse p s).sched = s.sched := rfl
@[simp] theorem startPulse_rtu (p : Port) (s : State) : (startPulse p s).rtu = s.rtu := rfl
@[simp] theorem startPulse_up (p : Port) (s : State) : (startPulse p s).up = s.up := rfl
@[simp] theorem startPulse_fwd (p : Port) (s : State) : (startPulse p s).fwd = s.fwd := rfl
@[simp] theorem startPulse_ev (p : Port) (s : State) : (startPulse p s).ev = s.ev := rfl
@[simp] theorem startPulse_store (p : Port) (s : State) : (startPulse p s).store = s.store := rfl

/-! ### leaveExchange -/

@[simp] theorem leaveExchange_pending (p : Port) (target : LinkState) (s : State) : (leaveExchange p target s).pending = s.pending := by unfold leaveExchange; simp only []; split <;> simp
@[simp] theorem leaveExchange_agenda (p : Port) (target : LinkState) (s : State) : (leaveExchange p target s).agenda = s.agenda := by unfold leaveExchange; simp only []; split <;> simp
@[simp] theorem leaveExchange_takeDue (p : Port) (target : LinkState) (s : State) : (leaveExchange p target s).takeDue = s.takeDue := by unfold leaveExchange; simp only []; split <;> simp
@[simp] theorem leaveExchange_now (p : Port) (target : LinkState) (s : State) : (leaveExchange p target s).now = s.now := by unfold leaveExchange; simp only []; split <;> simp
@[simp] theorem leaveExchange_choices (p : Port) (target : LinkState) (s : State) : (leaveExchange p target s).choices = s.choices := by unfold leaveExchange; simp only []; split <;> simp
@[simp] theorem leaveExchange_phase (p : Port) (target : LinkState) (s : State) : (leaveExchange p target s).phase = s.phase := by unfold leaveExchange; simp only []; split <;> simp
@[simp] theorem leaveExchange_cause (p : Port) (target : LinkState) (s : State) : (leaveExchange p target s).cause = s.cause := by unfold leaveExchange; simp only []; split <;> simp
@[simp] theorem leaveExchange_mode (p : Port) (target : LinkState) (s : State) : (leaveExchange p target s).mode = s.mode := by unfold leaveExchange; simp only []; split <;> simp
@[simp] theorem leaveExchange_resetWaiting (p : Port) (target : LinkState) (s : State) : (leaveExchange p target s).resetWaiting = s.resetWaiting := by unfold leaveExchange; simp only []; split <;> simp
@[simp] theorem leaveExchange_rails (p : Port) (target : LinkState) (s : State) : (leaveExchange p target s).rails = s.rails := by unfold leaveExchange; simp only []; split <;> simp
@[simp] theorem leaveExchange_en (p : Port) (target : LinkState) (s : State) : (leaveExchange p target s).en = s.en := by unfold leaveExchange; simp only []; split <;> simp
@[simp] theorem leaveExchange_dis (p : Port) (target : LinkState) (s : State) : (leaveExchange p target s).dis = s.dis := by unfold leaveExchange; simp only []; split <;> simp
@[simp] theorem leaveExchange_ctl (p : Port) (target : LinkState) (s : State) : (leaveExchange p target s).ctl = s.ctl := by unfold leaveExchange; simp only []; split <;> simp
@[simp] theorem leaveExchange_chans (p : Port) (target : LinkState) (s : State) : (leaveExchange p target s).chans = s.chans := by unfold leaveExchange; simp only []; split <;> simp
@[simp] theorem leaveExchange_marks (p : Port) (target : LinkState) (s : State) : (leaveExchange p target s).marks = s.marks := by unfold leaveExchange; simp only []; split <;> simp
@[simp] theorem leaveExchange_conv (p : Port) (target : LinkState) (s : State) : (leaveExchange p target s).conv = s.conv := by unfold leaveExchange; simp only []; split <;> simp
@[simp] theorem leaveExchange_line (p : Port) (target : LinkState) (s : State) : (leaveExchange p target s).line = s.line := by unfold leaveExchange; simp only []; split <;> simp
@[simp] theorem leaveExchange_sync (p : Port) (target : LinkState) (s : State) : (leaveExchange p target s).sync = s.sync := by unfold leaveExchange; simp only []; split <;> simp
@[simp] theorem leaveExchange_seq (p : Port) (target : LinkState) (s : State) : (leaveExchange p target s).seq = s.seq := by unfold leaveExchange; simp only []; split <;> simp
@[simp] theorem leaveExchange_sched (p : Port) (target : LinkState) (s : State) : (leaveExchange p target s).sched = s.sched := by unfold leaveExchange; simp only []; split <;> simp
@[simp] theorem leaveExchange_rtu (p : Port) (target : LinkState) (s : State) : (leaveExchange p target s).rtu = s.rtu := by unfold leaveExchange; simp only []; split <;> simp
@[simp] theorem leaveExchange_up (p : Port) (target : LinkState) (s : State) : (leaveExchange p target s).up = s.up := by unfold leaveExchange; simp only []; split <;> simp
@[simp] theorem leaveExchange_fwd (p : Port) (target : LinkState) (s : State) : (leaveExchange p target s).fwd = s.fwd := by unfold leaveExchange; simp only []; split <;> simp
@[simp] theorem leaveExchange_ev (p : Port) (target : LinkState) (s : State) : (leaveExchange p target s).ev = s.ev := by unfold leaveExchange; simp only []; split <;> simp
@[simp] theorem leaveExchange_store (p : Port) (target : LinkState) (s : State) : (leaveExchange p target s).store = s.store := by unfold leaveExchange; simp only []; split <;> simp

/-! ### setAgreed -/

@[simp] theorem setAgreed_pending (p : Port) (old : List RailId × List RailId) (a : Agreed) (s : State) : (setAgreed p old a s).pending = s.pending := by unfold setAgreed; simp only []; split <;> split <;> simp
@[simp] theorem setAgreed_takeDue (p : Port) (old : List RailId × List RailId) (a : Agreed) (s : State) : (setAgreed p old a s).takeDue = s.takeDue := by unfold setAgreed; simp only []; split <;> split <;> simp
@[simp] theorem setAgreed_now (p : Port) (old : List RailId × List RailId) (a : Agreed) (s : State) : (setAgreed p old a s).now = s.now := by unfold setAgreed; simp only []; split <;> split <;> simp
@[simp] theorem setAgreed_choices (p : Port) (old : List RailId × List RailId) (a : Agreed) (s : State) : (setAgreed p old a s).choices = s.choices := by unfold setAgreed; simp only []; split <;> split <;> simp
@[simp] theorem setAgreed_phase (p : Port) (old : List RailId × List RailId) (a : Agreed) (s : State) : (setAgreed p old a s).phase = s.phase := by unfold setAgreed; simp only []; split <;> split <;> simp
@[simp] theorem setAgreed_cause (p : Port) (old : List RailId × List RailId) (a : Agreed) (s : State) : (setAgreed p old a s).cause = s.cause := by unfold setAgreed; simp only []; split <;> split <;> simp
@[simp] theorem setAgreed_mode (p : Port) (old : List RailId × List RailId) (a : Agreed) (s : State) : (setAgreed p old a s).mode = s.mode := by unfold setAgreed; simp only []; split <;> split <;> simp
@[simp] theorem setAgreed_resetWaiting (p : Port) (old : List RailId × List RailId) (a : Agreed) (s : State) : (setAgreed p old a s).resetWaiting = s.resetWaiting := by unfold setAgreed; simp only []; split <;> split <;> simp
@[simp] theorem setAgreed_rails (p : Port) (old : List RailId × List RailId) (a : Agreed) (s : State) : (setAgreed p old a s).rails = s.rails := by unfold setAgreed; simp only []; split <;> split <;> simp
@[simp] theorem setAgreed_en (p : Port) (old : List RailId × List RailId) (a : Agreed) (s : State) : (setAgreed p old a s).en = s.en := by unfold setAgreed; simp only []; split <;> split <;> simp
@[simp] theorem setAgreed_dis (p : Port) (old : List RailId × List RailId) (a : Agreed) (s : State) : (setAgreed p old a s).dis = s.dis := by unfold setAgreed; simp only []; split <;> split <;> simp
@[simp] theorem setAgreed_ctl (p : Port) (old : List RailId × List RailId) (a : Agreed) (s : State) : (setAgreed p old a s).ctl = s.ctl := by unfold setAgreed; simp only []; split <;> split <;> simp
@[simp] theorem setAgreed_chans (p : Port) (old : List RailId × List RailId) (a : Agreed) (s : State) : (setAgreed p old a s).chans = s.chans := by unfold setAgreed; simp only []; split <;> split <;> simp
@[simp] theorem setAgreed_marks (p : Port) (old : List RailId × List RailId) (a : Agreed) (s : State) : (setAgreed p old a s).marks = s.marks := by unfold setAgreed; simp only []; split <;> split <;> simp
@[simp] theorem setAgreed_conv (p : Port) (old : List RailId × List RailId) (a : Agreed) (s : State) : (setAgreed p old a s).conv = s.conv := by unfold setAgreed; simp only []; split <;> split <;> simp
@[simp] theorem setAgreed_line (p : Port) (old : List RailId × List RailId) (a : Agreed) (s : State) : (setAgreed p old a s).line = s.line := by unfold setAgreed; simp only []; split <;> split <;> simp
@[simp] theorem setAgreed_sync (p : Port) (old : List RailId × List RailId) (a : Agreed) (s : State) : (setAgreed p old a s).sync = s.sync := by unfold setAgreed; simp only []; split <;> split <;> simp
@[simp] theorem setAgreed_seq (p : Port) (old : List RailId × List RailId) (a : Agreed) (s : State) : (setAgreed p old a s).seq = s.seq := by unfold setAgreed; simp only []; split <;> split <;> simp
@[simp] theorem setAgreed_sched (p : Port) (old : List RailId × List RailId) (a : Agreed) (s : State) : (setAgreed p old a s).sched = s.sched := by unfold setAgreed; simp only []; split <;> split <;> simp
@[simp] theorem setAgreed_rtu (p : Port) (old : List RailId × List RailId) (a : Agreed) (s : State) : (setAgreed p old a s).rtu = s.rtu := by unfold setAgreed; simp only []; split <;> split <;> simp
@[simp] theorem setAgreed_up (p : Port) (old : List RailId × List RailId) (a : Agreed) (s : State) : (setAgreed p old a s).up = s.up := by unfold setAgreed; simp only []; split <;> split <;> simp
@[simp] theorem setAgreed_fwd (p : Port) (old : List RailId × List RailId) (a : Agreed) (s : State) : (setAgreed p old a s).fwd = s.fwd := by unfold setAgreed; simp only []; split <;> split <;> simp
@[simp] theorem setAgreed_ev (p : Port) (old : List RailId × List RailId) (a : Agreed) (s : State) : (setAgreed p old a s).ev = s.ev := by unfold setAgreed; simp only []; split <;> split <;> simp
@[simp] theorem setAgreed_store (p : Port) (old : List RailId × List RailId) (a : Agreed) (s : State) : (setAgreed p old a s).store = s.store := by unfold setAgreed; simp only []; split <;> split <;> simp

/-! ### putRail -/

@[simp] theorem putRail_pending (r : RailId) (x : RailStatic) (s : State) : (putRail r x s).pending = s.pending := rfl
@[simp] theorem putRail_agenda (r : RailId) (x : RailStatic) (s : State) : (putRail r x s).agenda = s.agenda := rfl
@[simp] theorem putRail_takeDue (r : RailId) (x : RailStatic) (s : State) : (putRail r x s).takeDue = s.takeDue := rfl
@[simp] theorem putRail_now (r : RailId) (x : RailStatic) (s : State) : (putRail r x s).now = s.now := rfl
@[simp] theorem putRail_choices (r : RailId) (x : RailStatic) (s : State) : (putRail r x s).choices = s.choices := rfl
@[simp] theorem putRail_phase (r : RailId) (x : RailStatic) (s : State) : (putRail r x s).phase = s.phase := rfl
@[simp] theorem putRail_cause (r : RailId) (x : RailStatic) (s : State) : (putRail r x s).cause = s.cause := rfl
@[simp] theorem putRail_mode (r : RailId) (x : RailStatic) (s : State) : (putRail r x s).mode = s.mode := rfl
@[simp] theorem putRail_resetWaiting (r : RailId) (x : RailStatic) (s : State) : (putRail r x s).resetWaiting = s.resetWaiting := rfl
@[simp] theorem putRail_en (r : RailId) (x : RailStatic) (s : State) : (putRail r x s).en = s.en := rfl
@[simp] theorem putRail_dis (r : RailId) (x : RailStatic) (s : State) : (putRail r x s).dis = s.dis := rfl
@[simp] theorem putRail_ctl (r : RailId) (x : RailStatic) (s : State) : (putRail r x s).ctl = s.ctl := rfl
@[simp] theorem putRail_chans (r : RailId) (x : RailStatic) (s : State) : (putRail r x s).chans = s.chans := rfl
@[simp] theorem putRail_marks (r : RailId) (x : RailStatic) (s : State) : (putRail r x s).marks = s.marks := rfl
@[simp] theorem putRail_conv (r : RailId) (x : RailStatic) (s : State) : (putRail r x s).conv = s.conv := rfl
@[simp] theorem putRail_line (r : RailId) (x : RailStatic) (s : State) : (putRail r x s).line = s.line := rfl
@[simp] theorem putRail_sync (r : RailId) (x : RailStatic) (s : State) : (putRail r x s).sync = s.sync := rfl
@[simp] theorem putRail_seq (r : RailId) (x : RailStatic) (s : State) : (putRail r x s).seq = s.seq := rfl
@[simp] theorem putRail_sched (r : RailId) (x : RailStatic) (s : State) : (putRail r x s).sched = s.sched := rfl
@[simp] theorem putRail_rtu (r : RailId) (x : RailStatic) (s : State) : (putRail r x s).rtu = s.rtu := rfl
@[simp] theorem putRail_ports (r : RailId) (x : RailStatic) (s : State) : (putRail r x s).ports = s.ports := rfl
@[simp] theorem putRail_up (r : RailId) (x : RailStatic) (s : State) : (putRail r x s).up = s.up := rfl
@[simp] theorem putRail_fwd (r : RailId) (x : RailStatic) (s : State) : (putRail r x s).fwd = s.fwd := rfl
@[simp] theorem putRail_ev (r : RailId) (x : RailStatic) (s : State) : (putRail r x s).ev = s.ev := rfl
@[simp] theorem putRail_store (r : RailId) (x : RailStatic) (s : State) : (putRail r x s).store = s.store := rfl

/-! ### releaseEntry -/

@[simp] theorem releaseEntry_pending (e : UpEntry) (s : State) : (releaseEntry e s).pending = s.pending := by unfold releaseEntry; simp only []; split <;> split <;> rfl
@[simp] theorem releaseEntry_now (e : UpEntry) (s : State) : (releaseEntry e s).now = s.now := by unfold releaseEntry; simp only []; split <;> split <;> rfl
@[simp] theorem releaseEntry_choices (e : UpEntry) (s : State) : (releaseEntry e s).choices = s.choices := by unfold releaseEntry; simp only []; split <;> split <;> rfl
@[simp] theorem releaseEntry_phase (e : UpEntry) (s : State) : (releaseEntry e s).phase = s.phase := by unfold releaseEntry; simp only []; split <;> split <;> rfl
@[simp] theorem releaseEntry_cause (e : UpEntry) (s : State) : (releaseEntry e s).cause = s.cause := by unfold releaseEntry; simp only []; split <;> split <;> rfl
@[simp] theorem releaseEntry_mode (e : UpEntry) (s : State) : (releaseEntry e s).mode = s.mode := by unfold releaseEntry; simp only []; split <;> split <;> rfl
@[simp] theorem releaseEntry_resetWaiting (e : UpEntry) (s : State) : (releaseEntry e s).resetWaiting = s.resetWaiting := by unfold releaseEntry; simp only []; split <;> split <;> rfl
@[simp] theorem releaseEntry_rails (e : UpEntry) (s : State) : (releaseEntry e s).rails = s.rails := by unfold releaseEntry; simp only []; split <;> split <;> rfl
@[simp] theorem releaseEntry_en (e : UpEntry) (s : State) : (releaseEntry e s).en = s.en := by unfold releaseEntry; simp only []; split <;> split <;> rfl
@[simp] theorem releaseEntry_dis (e : UpEntry) (s : State) : (releaseEntry e s).dis = s.dis := by unfold releaseEntry; simp only []; split <;> split <;> rfl
@[simp] theorem releaseEntry_ctl (e : UpEntry) (s : State) : (releaseEntry e s).ctl = s.ctl := by unfold releaseEntry; simp only []; split <;> split <;> rfl
@[simp] theorem releaseEntry_chans (e : UpEntry) (s : State) : (releaseEntry e s).chans = s.chans := by unfold releaseEntry; simp only []; split <;> split <;> rfl
@[simp] theorem releaseEntry_marks (e : UpEntry) (s : State) : (releaseEntry e s).marks = s.marks := by unfold releaseEntry; simp only []; split <;> split <;> rfl
@[simp] theorem releaseEntry_conv (e : UpEntry) (s : State) : (releaseEntry e s).conv = s.conv := by unfold releaseEntry; simp only []; split <;> split <;> rfl
@[simp] theorem releaseEntry_line (e : UpEntry) (s : State) : (releaseEntry e s).line = s.line := by unfold releaseEntry; simp only []; split <;> split <;> rfl
@[simp] theorem releaseEntry_sync (e : UpEntry) (s : State) : (releaseEntry e s).sync = s.sync := by unfold releaseEntry; simp only []; split <;> split <;> rfl
@[simp] theorem releaseEntry_seq (e : UpEntry) (s : State) : (releaseEntry e s).seq = s.seq := by unfold releaseEntry; simp only []; split <;> split <;> rfl
@[simp] theorem releaseEntry_sched (e : UpEntry) (s : State) : (releaseEntry e s).sched = s.sched := by unfold releaseEntry; simp only []; split <;> split <;> rfl
@[simp] theorem releaseEntry_rtu (e : UpEntry) (s : State) : (releaseEntry e s).rtu = s.rtu := by unfold releaseEntry; simp only []; split <;> split <;> rfl
@[simp] theorem releaseEntry_ports (e : UpEntry) (s : State) : (releaseEntry e s).ports = s.ports := by unfold releaseEntry; simp only []; split <;> split <;> rfl
@[simp] theorem releaseEntry_fwd (e : UpEntry) (s : State) : (releaseEntry e s).fwd = s.fwd := by unfold releaseEntry; simp only []; split <;> split <;> rfl
@[simp] theorem releaseEntry_ev (e : UpEntry) (s : State) : (releaseEntry e s).ev = s.ev := by unfold releaseEntry; simp only []; split <;> split <;> rfl
@[simp] theorem releaseEntry_store (e : UpEntry) (s : State) : (releaseEntry e s).store = s.store := by unfold releaseEntry; simp only []; split <;> split <;> rfl

/-! ### placeUp -/

@[simp] theorem placeUp_pending (e : UpEntry) (s : State) : (placeUp e s).pending = s.pending := by unfold placeUp; split <;> simp
@[simp] theorem placeUp_now (e : UpEntry) (s : State) : (placeUp e s).now = s.now := by unfold placeUp; split <;> simp
@[simp] theorem placeUp_choices (e : UpEntry) (s : State) : (placeUp e s).choices = s.choices := by unfold placeUp; split <;> simp
@[simp] theorem placeUp_phase (e : UpEntry) (s : State) : (placeUp e s).phase = s.phase := by unfold placeUp; split <;> simp
@[simp] theorem placeUp_cause (e : UpEntry) (s : State) : (placeUp e s).cause = s.cause := by unfold placeUp; split <;> simp
@[simp] theorem placeUp_mode (e : UpEntry) (s : State) : (placeUp e s).mode = s.mode := by unfold placeUp; split <;> simp
@[simp] theorem placeUp_resetWaiting (e : UpEntry) (s : State) : (placeUp e s).resetWaiting = s.resetWaiting := by unfold placeUp; split <;> simp
@[simp] theorem placeUp_rails (e : UpEntry) (s : State) : (placeUp e s).rails = s.rails := by unfold placeUp; split <;> simp
@[simp] theorem placeUp_en (e : UpEntry) (s : State) : (placeUp e s).en = s.en := by unfold placeUp; split <;> simp
@[simp] theorem placeUp_dis (e : UpEntry) (s : State) : (placeUp e s).dis = s.dis := by unfold placeUp; split <;> simp
@[simp] theorem placeUp_ctl (e : UpEntry) (s : State) : (placeUp e s).ctl = s.ctl := by unfold placeUp; split <;> simp
@[simp] theorem placeUp_chans (e : UpEntry) (s : State) : (placeUp e s).chans = s.chans := by unfold placeUp; split <;> simp
@[simp] theorem placeUp_marks (e : UpEntry) (s : State) : (placeUp e s).marks = s.marks := by unfold placeUp; split <;> simp
@[simp] theorem placeUp_conv (e : UpEntry) (s : State) : (placeUp e s).conv = s.conv := by unfold placeUp; split <;> simp
@[simp] theorem placeUp_line (e : UpEntry) (s : State) : (placeUp e s).line = s.line := by unfold placeUp; split <;> simp
@[simp] theorem placeUp_sync (e : UpEntry) (s : State) : (placeUp e s).sync = s.sync := by unfold placeUp; split <;> simp
@[simp] theorem placeUp_seq (e : UpEntry) (s : State) : (placeUp e s).seq = s.seq := by unfold placeUp; split <;> simp
@[simp] theorem placeUp_sched (e : UpEntry) (s : State) : (placeUp e s).sched = s.sched := by unfold placeUp; split <;> simp
@[simp] theorem placeUp_rtu (e : UpEntry) (s : State) : (placeUp e s).rtu = s.rtu := by unfold placeUp; split <;> simp
@[simp] theorem placeUp_ports (e : UpEntry) (s : State) : (placeUp e s).ports = s.ports := by unfold placeUp; split <;> simp
@[simp] theorem placeUp_fwd (e : UpEntry) (s : State) : (placeUp e s).fwd = s.fwd := by unfold placeUp; split <;> simp
@[simp] theorem placeUp_ev (e : UpEntry) (s : State) : (placeUp e s).ev = s.ev := by unfold placeUp; split <;> simp
@[simp] theorem placeUp_store (e : UpEntry) (s : State) : (placeUp e s).store = s.store := by unfold placeUp; split <;> simp

/-! ### answer -/

@[simp] theorem answer_pending (f : Frame) (st : Byte) (s : State) : (answer f st s).pending = s.pending := by unfold answer; simp
@[simp] theorem answer_now (f : Frame) (st : Byte) (s : State) : (answer f st s).now = s.now := by unfold answer; simp
@[simp] theorem answer_choices (f : Frame) (st : Byte) (s : State) : (answer f st s).choices = s.choices := by unfold answer; simp
@[simp] theorem answer_phase (f : Frame) (st : Byte) (s : State) : (answer f st s).phase = s.phase := by unfold answer; simp
@[simp] theorem answer_cause (f : Frame) (st : Byte) (s : State) : (answer f st s).cause = s.cause := by unfold answer; simp
@[simp] theorem answer_mode (f : Frame) (st : Byte) (s : State) : (answer f st s).mode = s.mode := by unfold answer; simp
@[simp] theorem answer_resetWaiting (f : Frame) (st : Byte) (s : State) : (answer f st s).resetWaiting = s.resetWaiting := by unfold answer; simp
@[simp] theorem answer_rails (f : Frame) (st : Byte) (s : State) : (answer f st s).rails = s.rails := by unfold answer; simp
@[simp] theorem answer_en (f : Frame) (st : Byte) (s : State) : (answer f st s).en = s.en := by unfold answer; simp
@[simp] theorem answer_dis (f : Frame) (st : Byte) (s : State) : (answer f st s).dis = s.dis := by unfold answer; simp
@[simp] theorem answer_ctl (f : Frame) (st : Byte) (s : State) : (answer f st s).ctl = s.ctl := by unfold answer; simp
@[simp] theorem answer_chans (f : Frame) (st : Byte) (s : State) : (answer f st s).chans = s.chans := by unfold answer; simp
@[simp] theorem answer_marks (f : Frame) (st : Byte) (s : State) : (answer f st s).marks = s.marks := by unfold answer; simp
@[simp] theorem answer_conv (f : Frame) (st : Byte) (s : State) : (answer f st s).conv = s.conv := by unfold answer; simp
@[simp] theorem answer_line (f : Frame) (st : Byte) (s : State) : (answer f st s).line = s.line := by unfold answer; simp
@[simp] theorem answer_sync (f : Frame) (st : Byte) (s : State) : (answer f st s).sync = s.sync := by unfold answer; simp
@[simp] theorem answer_seq (f : Frame) (st : Byte) (s : State) : (answer f st s).seq = s.seq := by unfold answer; simp
@[simp] theorem answer_sched (f : Frame) (st : Byte) (s : State) : (answer f st s).sched = s.sched := by unfold answer; simp
@[simp] theorem answer_rtu (f : Frame) (st : Byte) (s : State) : (answer f st s).rtu = s.rtu := by unfold answer; simp
@[simp] theorem answer_ports (f : Frame) (st : Byte) (s : State) : (answer f st s).ports = s.ports := by unfold answer; simp
@[simp] theorem answer_fwd (f : Frame) (st : Byte) (s : State) : (answer f st s).fwd = s.fwd := by unfold answer; simp
@[simp] theorem answer_ev (f : Frame) (st : Byte) (s : State) : (answer f st s).ev = s.ev := by unfold answer; simp
@[simp] theorem answer_store (f : Frame) (st : Byte) (s : State) : (answer f st s).store = s.store := by unfold answer; simp

/-! ### accept -/

@[simp] theorem accept_pending (f : Frame) (d : List Byte) (s : State) : (accept f d s).pending = s.pending := by unfold accept; simp
@[simp] theorem accept_now (f : Frame) (d : List Byte) (s : State) : (accept f d s).now = s.now := by unfold accept; simp
@[simp] theorem accept_choices (f : Frame) (d : List Byte) (s : State) : (accept f d s).choices = s.choices := by unfold accept; simp
@[simp] theorem accept_phase (f : Frame) (d : List Byte) (s : State) : (accept f d s).phase = s.phase := by unfold accept; simp
@[simp] theorem accept_cause (f : Frame) (d : List Byte) (s : State) : (accept f d s).cause = s.cause := by unfold accept; simp
@[simp] theorem accept_mode (f : Frame) (d : List Byte) (s : State) : (accept f d s).mode = s.mode := by unfold accept; simp
@[simp] theorem accept_resetWaiting (f : Frame) (d : List Byte) (s : State) : (accept f d s).resetWaiting = s.resetWaiting := by unfold accept; simp
@[simp] theorem accept_rails (f : Frame) (d : List Byte) (s : State) : (accept f d s).rails = s.rails := by unfold accept; simp
@[simp] theorem accept_en (f : Frame) (d : List Byte) (s : State) : (accept f d s).en = s.en := by unfold accept; simp
@[simp] theorem accept_dis (f : Frame) (d : List Byte) (s : State) : (accept f d s).dis = s.dis := by unfold accept; simp
@[simp] theorem accept_ctl (f : Frame) (d : List Byte) (s : State) : (accept f d s).ctl = s.ctl := by unfold accept; simp
@[simp] theorem accept_chans (f : Frame) (d : List Byte) (s : State) : (accept f d s).chans = s.chans := by unfold accept; simp
@[simp] theorem accept_marks (f : Frame) (d : List Byte) (s : State) : (accept f d s).marks = s.marks := by unfold accept; simp
@[simp] theorem accept_conv (f : Frame) (d : List Byte) (s : State) : (accept f d s).conv = s.conv := by unfold accept; simp
@[simp] theorem accept_line (f : Frame) (d : List Byte) (s : State) : (accept f d s).line = s.line := by unfold accept; simp
@[simp] theorem accept_sync (f : Frame) (d : List Byte) (s : State) : (accept f d s).sync = s.sync := by unfold accept; simp
@[simp] theorem accept_seq (f : Frame) (d : List Byte) (s : State) : (accept f d s).seq = s.seq := by unfold accept; simp
@[simp] theorem accept_sched (f : Frame) (d : List Byte) (s : State) : (accept f d s).sched = s.sched := by unfold accept; simp
@[simp] theorem accept_rtu (f : Frame) (d : List Byte) (s : State) : (accept f d s).rtu = s.rtu := by unfold accept; simp
@[simp] theorem accept_ports (f : Frame) (d : List Byte) (s : State) : (accept f d s).ports = s.ports := by unfold accept; simp
@[simp] theorem accept_fwd (f : Frame) (d : List Byte) (s : State) : (accept f d s).fwd = s.fwd := by unfold accept; simp
@[simp] theorem accept_ev (f : Frame) (d : List Byte) (s : State) : (accept f d s).ev = s.ev := by unfold accept; simp
@[simp] theorem accept_store (f : Frame) (d : List Byte) (s : State) : (accept f d s).store = s.store := by unfold accept; simp

/-! ### offerNotice -/

@[simp] theorem offerNotice_pending (f : Frame) (s : State) : (offerNotice f s).pending = s.pending := by unfold offerNotice; split <;> (try split) <;> simp
@[simp] theorem offerNotice_agenda (f : Frame) (s : State) : (offerNotice f s).agenda = s.agenda := by unfold offerNotice; split <;> (try split) <;> simp
@[simp] theorem offerNotice_takeDue (f : Frame) (s : State) : (offerNotice f s).takeDue = s.takeDue := by unfold offerNotice; split <;> (try split) <;> simp
@[simp] theorem offerNotice_now (f : Frame) (s : State) : (offerNotice f s).now = s.now := by unfold offerNotice; split <;> (try split) <;> simp
@[simp] theorem offerNotice_choices (f : Frame) (s : State) : (offerNotice f s).choices = s.choices := by unfold offerNotice; split <;> (try split) <;> simp
@[simp] theorem offerNotice_phase (f : Frame) (s : State) : (offerNotice f s).phase = s.phase := by unfold offerNotice; split <;> (try split) <;> simp
@[simp] theorem offerNotice_cause (f : Frame) (s : State) : (offerNotice f s).cause = s.cause := by unfold offerNotice; split <;> (try split) <;> simp
@[simp] theorem offerNotice_mode (f : Frame) (s : State) : (offerNotice f s).mode = s.mode := by unfold offerNotice; split <;> (try split) <;> simp
@[simp] theorem offerNotice_resetWaiting (f : Frame) (s : State) : (offerNotice f s).resetWaiting = s.resetWaiting := by unfold offerNotice; split <;> (try split) <;> simp
@[simp] theorem offerNotice_rails (f : Frame) (s : State) : (offerNotice f s).rails = s.rails := by unfold offerNotice; split <;> (try split) <;> simp
@[simp] theorem offerNotice_en (f : Frame) (s : State) : (offerNotice f s).en = s.en := by unfold offerNotice; split <;> (try split) <;> simp
@[simp] theorem offerNotice_dis (f : Frame) (s : State) : (offerNotice f s).dis = s.dis := by unfold offerNotice; split <;> (try split) <;> simp
@[simp] theorem offerNotice_ctl (f : Frame) (s : State) : (offerNotice f s).ctl = s.ctl := by unfold offerNotice; split <;> (try split) <;> simp
@[simp] theorem offerNotice_chans (f : Frame) (s : State) : (offerNotice f s).chans = s.chans := by unfold offerNotice; split <;> (try split) <;> simp
@[simp] theorem offerNotice_marks (f : Frame) (s : State) : (offerNotice f s).marks = s.marks := by unfold offerNotice; split <;> (try split) <;> simp
@[simp] theorem offerNotice_conv (f : Frame) (s : State) : (offerNotice f s).conv = s.conv := by unfold offerNotice; split <;> (try split) <;> simp
@[simp] theorem offerNotice_line (f : Frame) (s : State) : (offerNotice f s).line = s.line := by unfold offerNotice; split <;> (try split) <;> simp
@[simp] theorem offerNotice_sync (f : Frame) (s : State) : (offerNotice f s).sync = s.sync := by unfold offerNotice; split <;> (try split) <;> simp
@[simp] theorem offerNotice_seq (f : Frame) (s : State) : (offerNotice f s).seq = s.seq := by unfold offerNotice; split <;> (try split) <;> simp
@[simp] theorem offerNotice_sched (f : Frame) (s : State) : (offerNotice f s).sched = s.sched := by unfold offerNotice; split <;> (try split) <;> simp
@[simp] theorem offerNotice_rtu (f : Frame) (s : State) : (offerNotice f s).rtu = s.rtu := by unfold offerNotice; split <;> (try split) <;> simp
@[simp] theorem offerNotice_ports (f : Frame) (s : State) : (offerNotice f s).ports = s.ports := by unfold offerNotice; split <;> (try split) <;> simp
@[simp] theorem offerNotice_fwd (f : Frame) (s : State) : (offerNotice f s).fwd = s.fwd := by unfold offerNotice; split <;> (try split) <;> simp
@[simp] theorem offerNotice_store (f : Frame) (s : State) : (offerNotice f s).store = s.store := by unfold offerNotice; split <;> (try split) <;> simp

end Sys2Proof.Machine
end

