-- ==== Sys2Proof/Laws/Flags.lean ====
section
/-! SUPPORT. What a change of the event sets does to the sets, ATTN and the attention place (R165 to R168). -/

namespace Sys2Proof.Machine

/-- ATTN once the requesting set has been followed, where it told of the set as it was (R167). -/
theorem followRequesting_ev (was : Word16) (s : State) (h : s.ev.attn = (was != 0)) :
    (followRequesting was s).ev = { s.ev with attn := s.ev.requesting != 0 } := by
  have e : ∀ b, s.ev.attn = b → s.ev = { s.ev with attn := b } := by
    intro b hb; cases hs : s.ev; rw [hs] at hb; simp only at hb; subst hb; rfl
  have ea : ∀ b, ({ s.ev with attn := b } : EventUnit).requesting = s.ev.requesting := fun _ => rfl
  unfold followRequesting
  simp only []
  by_cases w : was = 0 <;> by_cases r : s.ev.requesting = 0
  · simp only [w, r, beq_self_eq_true, bne_self_eq_false, Bool.and_false, Bool.false_eq_true, if_false, Bool.false_and]
    exact e _ (by rw [h, w]; rfl)
  · have r' : (s.ev.requesting != 0) = true := by simpa using r
    simp only [w, r', beq_self_eq_true, Bool.and_self, if_true]
    split <;> rfl
  · have w' : (was != 0) = true := by simpa using w
    have w'' : (was == 0) = false := by simpa using w
    simp only [w', w'', r, Bool.false_and, Bool.true_and, beq_self_eq_true, Bool.false_eq_true, if_false, if_true]
    rfl
  · have r' : (s.ev.requesting != 0) = true := by simpa using r
    have w'' : (was == 0) = false := by simpa using w
    have r'' : (s.ev.requesting == 0) = false := by simpa using r
    have w' : (was != 0) = true := by simpa using w
    simp only [w'', r', r'', Bool.false_and, Bool.and_false, Bool.false_eq_true, if_false]
    exact e _ (by rw [h, w'])

/-- The attention place once the requesting set has been followed (R168). -/
theorem followRequesting_up (was : Word16) (s : State) :
    (followRequesting was s).up =
      if was = 0 ∧ s.ev.requesting ≠ 0 ∧ s.up.present = true ∧ s.attentionHeld = false then
        { s.up with tx := s.up.tx ++ [attentionNotice s.ev.requesting] }
      else if was ≠ 0 ∧ s.ev.requesting = 0 then { s.up with tx := s.up.tx.filter (fun e => !e.isAttention) }
      else s.up := by
  unfold followRequesting
  simp only []
  have hh : ∀ b, State.attentionHeld { s with ev := { s.ev with attn := b } } = s.attentionHeld := fun _ => rfl
  by_cases w : was = 0 <;> by_cases r : s.ev.requesting = 0
  · simp [w, r]
  · have r' : ¬ s.ev.requesting = 0#16 := r
    by_cases p : s.up.present = true <;> by_cases a : s.attentionHeld = true <;> simp [w, r', p, a, hh]
  · have w' : ¬ was = 0#16 := w
    simp [w', r]
  · have w' : ¬ was = 0#16 := w
    have r' : ¬ s.ev.requesting = 0#16 := r
    simp [w', r']

/-- The sets and ATTN after a change of the pending set or the mask, once the outputs are enabled. -/
theorem changeEvents_ev (f : EventUnit → EventUnit) (s : State) (p : s.phase = .running) (h : s.AttnInv)
    (a : (f s.ev).attn = s.ev.attn) :
    (changeEvents f s).ev = { f s.ev with attn := (f s.ev).requesting != 0 } := by
  have e : changeEvents f s = followRequesting s.ev.requesting { s with ev := f s.ev } := if_pos p
  rw [e]
  exact followRequesting_ev _ { s with ev := f s.ev } (a.trans (h.1 p))

theorem changeEvents_up (f : EventUnit → EventUnit) (s : State) (p : s.phase = .running) :
    (changeEvents f s).up =
      if s.ev.requesting = 0 ∧ (f s.ev).requesting ≠ 0 ∧ s.up.present = true ∧ s.attentionHeld = false then
        { s.up with tx := s.up.tx ++ [attentionNotice (f s.ev).requesting] }
      else if s.ev.requesting ≠ 0 ∧ (f s.ev).requesting = 0 then
        { s.up with tx := s.up.tx.filter (fun e => !e.isAttention) }
      else s.up := by
  have e : changeEvents f s = followRequesting s.ev.requesting { s with ev := f s.ev } := if_pos p
  rw [e]
  exact followRequesting_up _ { s with ev := f s.ev }

theorem raise_ev (k : EventKind) (s : State) (p : s.phase = .running) (h : s.AttnInv) :
    (raise k s).ev = { s.ev with pending := s.ev.pending ||| k.bit,
                                 attn := ((s.ev.pending ||| k.bit) &&& s.ev.mask) != 0 } :=
  changeEvents_ev _ s p h rfl

/-- Joining the pending set takes nothing out of the requesting set (R167). -/
theorem requesting_grows (e : EventUnit) (b : Word16) (h : e.requesting ≠ 0) :
    ({ e with pending := e.pending ||| b } : EventUnit).requesting ≠ 0 := by
  intro c; apply h
  unfold EventUnit.requesting at *
  simp only at c
  ext i hi
  have := congrArg (fun x : Word16 => x.getLsbD i) c
  simp at this
  simp; intro p; exact this (Or.inl p)

theorem raise_up (k : EventKind) (s : State) (p : s.phase = .running) :
    (raise k s).up =
      if s.ev.requesting = 0 ∧ ((s.ev.pending ||| k.bit) &&& s.ev.mask) ≠ 0 ∧ s.up.present = true ∧
          s.attentionHeld = false then
        { s.up with tx := s.up.tx ++ [attentionNotice ((s.ev.pending ||| k.bit) &&& s.ev.mask)] }
      else s.up := by
  unfold raise
  rw [changeEvents_up _ _ p]
  have : ¬ (s.ev.requesting ≠ 0 ∧ ({ s.ev with pending := s.ev.pending ||| k.bit } : EventUnit).requesting = 0) :=
    fun ⟨a, b⟩ => requesting_grows _ _ a b
  simp only [this, if_false]; rfl

/-- A raised kind changes the Event Unit and the upstream queue alone. -/
theorem raise_rest (k : EventKind) (s : State) : { raise k s with ev := s.ev, up := s.up } = s := by
  apply State.ext <;> simp

theorem raise_requesting (k : EventKind) (s : State) (p : s.phase = .running) (h : s.AttnInv) :
    (raise k s).ev.requesting = (s.ev.pending ||| k.bit) &&& s.ev.mask := by rw [raise_ev k s p h]; rfl

/-- A change of the sets keeps ATTN's invariant. -/
theorem attnInv_changeEvents (f : EventUnit → EventUnit) (s : State) (a : (f s.ev).attn = s.ev.attn) (h : s.AttnInv) :
    (changeEvents f s).AttnInv := by
  by_cases p : s.phase = .running
  · refine ⟨fun _ => ?_, fun c => absurd (by simpa using p) c⟩
    rw [changeEvents_ev f s p h a]; rfl
  · refine ⟨fun c => absurd (by simpa using c) p, fun _ => ?_⟩
    unfold changeEvents; simp only [p, if_false]; exact a.trans (h.2 p)

theorem attnInv_raise (k : EventKind) (s : State) (h : s.AttnInv) : (raise k s).AttnInv :=
  attnInv_changeEvents _ s rfl h

/-- What a raised kind does to the Event Unit and port U depends on those two and the phase alone. -/
theorem raise_of {s u : State} (k : EventKind) (e : u.ev = s.ev) (v : u.up = s.up) (p : u.phase = s.phase) :
    (raise k u).ev = (raise k s).ev ∧ (raise k u).up = (raise k s).up := by
  unfold raise changeEvents followRequesting State.attentionHeld
  simp only [e, v, p]
  repeat' split
  all_goals first | exact ⟨rfl, rfl⟩ | exact ⟨rfl, v⟩ | exact ⟨e, v⟩

/-- Two states that differ elsewhere differ there alone once a kind is raised in both. -/
theorem raise_eq {s u : State} (k : EventKind) (e : u.ev = s.ev) (v : u.up = s.up) (p : u.phase = s.phase) :
    raise k u = { u with ev := (raise k s).ev, up := (raise k s).up } := by
  have h := raise_of k e v p
  apply State.ext <;> simp [h.1, h.2]

end Sys2Proof.Machine
end

