-- ==== Sys2Proof/Laws/Ports.lean ====
section
/-! SUPPORT. What the arbiter and the link operations do to the port records (R127, R128, R138 to R140). -/

namespace Sys2Proof.Machine

/-- Nothing done at one port changes another port's record. -/
theorem modPort_other {p q : Port} (f : PortRec → PortRec) (h : q ≠ p) (s : State) : (modPort p f s).port q = s.port q := by rw [port_modPort, if_neg h]
theorem refillPlaces_other {p q : Port} (h : q ≠ p) (s : State) : (refillPlaces p s).port q = s.port q := modPort_other _ h s
theorem grant_other {p q : Port} (c : Claimant) (h : q ≠ p) (s : State) : (grant p c s).port q = s.port q := by
  unfold grant; split
  · rfl
  · rw [refillPlaces_other h, modPort_other _ h]
theorem arbitrate_other {p q : Port} (h : q ≠ p) (s : State) : (arbitrate p s).port q = s.port q := by
  unfold arbitrate; simp only []
  split
  · split
    · exact grant_other _ h s
    · rfl
  · rfl
theorem sendProbe_other {p q : Port} (h : q ≠ p) (s : State) : (sendProbe p s).port q = s.port q := by unfold sendProbe; rw [arbitrate_other h, modPort_other _ h]
theorem enterExchange_other {p q : Port} (h : q ≠ p) (s : State) : (enterExchange p s).port q = s.port q := by unfold enterExchange; rw [sendProbe_other h, modPort_other _ h]
theorem lookAtPort_other {p q : Port} (h : q ≠ p) (s : State) : (lookAtPort p s).port q = s.port q := by
  unfold lookAtPort; split
  · exact enterExchange_other h s
  · rfl
theorem cutOff_other {p q : Port} (h : q ≠ p) (s : State) : (cutOff p s).port q = s.port q := modPort_other _ h s
theorem leaveExchange_other {p q : Port} (target : LinkState) (h : q ≠ p) (s : State) : (leaveExchange p target s).port q = s.port q := by
  unfold leaveExchange; simp only []; split
  · rw [modPort_other _ h, cutOff_other h]
  · rw [modPort_other _ h]
theorem setAgreed_other {p q : Port} (old : List RailId × List RailId) (a : Agreed) (h : q ≠ p) (s : State) : (setAgreed p old a s).port q = s.port q := by
  unfold setAgreed; simp only []; split <;> split <;> exact modPort_other (fun x => { x with agreed := some a }) h s

/-! ### The arbiter leaves the link, the settings and the offers as they are -/

@[simp] theorem port_refillPlaces_present (p q : Port) (s : State) : ((refillPlaces p s).port q).present = (s.port q).present := by
  unfold refillPlaces; rw [port_modPort]; split
  · next h => rw [h]
  · rfl
@[simp] theorem port_refillPlaces_link (p q : Port) (s : State) : ((refillPlaces p s).port q).link = (s.port q).link := by
  unfold refillPlaces; rw [port_modPort]; split
  · next h => rw [h]
  · rfl
@[simp] theorem port_refillPlaces_brst (p q : Port) (s : State) : ((refillPlaces p s).port q).brst = (s.port q).brst := by
  unfold refillPlaces; rw [port_modPort]; split
  · next h => rw [h]
  · rfl
@[simp] theorem port_refillPlaces_pulse (p q : Port) (s : State) : ((refillPlaces p s).port q).pulse = (s.port q).pulse := by
  unfold refillPlaces; rw [port_modPort]; split
  · next h => rw [h]
  · rfl
@[simp] theorem port_refillPlaces_probeCount (p q : Port) (s : State) : ((refillPlaces p s).port q).probeCount = (s.port q).probeCount := by
  unfold refillPlaces; rw [port_modPort]; split
  · next h => rw [h]
  · rfl
@[simp] theorem port_refillPlaces_probeTimer (p q : Port) (s : State) : ((refillPlaces p s).port q).probeTimer = (s.port q).probeTimer := by
  unfold refillPlaces; rw [port_modPort]; split
  · next h => rw [h]
  · rfl
@[simp] theorem port_refillPlaces_agreed (p q : Port) (s : State) : ((refillPlaces p s).port q).agreed = (s.port q).agreed := by
  unfold refillPlaces; rw [port_modPort]; split
  · next h => rw [h]
  · rfl
@[simp] theorem port_refillPlaces_latch (p q : Port) (s : State) : ((refillPlaces p s).port q).latch = (s.port q).latch := by
  unfold refillPlaces; rw [port_modPort]; split
  · next h => rw [h]
  · rfl
@[simp] theorem port_refillPlaces_windowMs (p q : Port) (s : State) : ((refillPlaces p s).port q).windowMs = (s.port q).windowMs := by
  unfold refillPlaces; rw [port_modPort]; split
  · next h => rw [h]
  · rfl
@[simp] theorem port_refillPlaces_fair (p q : Port) (s : State) : ((refillPlaces p s).port q).fair = (s.port q).fair := by
  unfold refillPlaces; rw [port_modPort]; split
  · next h => rw [h]
  · rfl
@[simp] theorem port_refillPlaces_seqOffer (p q : Port) (s : State) : ((refillPlaces p s).port q).seqOffer = (s.port q).seqOffer := by
  unfold refillPlaces; rw [port_modPort]; split
  · next h => rw [h]
  · rfl
@[simp] theorem port_refillPlaces_seqBehind (p q : Port) (s : State) : ((refillPlaces p s).port q).seqBehind = (s.port q).seqBehind := by
  unfold refillPlaces; rw [port_modPort]; split
  · next h => rw [h]
  · rfl

@[simp] theorem port_grant_present (p q : Port) (c : Claimant) (s : State) : ((grant p c s).port q).present = (s.port q).present := by
  unfold grant; split
  · rfl
  · simp only [port_refillPlaces_present]; rw [port_modPort]; split
    · next h => rw [h]
    · rfl
@[simp] theorem port_grant_link (p q : Port) (c : Claimant) (s : State) : ((grant p c s).port q).link = (s.port q).link := by
  unfold grant; split
  · rfl
  · simp only [port_refillPlaces_link]; rw [port_modPort]; split
    · next h => rw [h]
    · rfl
@[simp] theorem port_grant_brst (p q : Port) (c : Claimant) (s : State) : ((grant p c s).port q).brst = (s.port q).brst := by
  unfold grant; split
  · rfl
  · simp only [port_refillPlaces_brst]; rw [port_modPort]; split
    · next h => rw [h]
    · rfl
@[simp] theorem port_grant_pulse (p q : Port) (c : Claimant) (s : State) : ((grant p c s).port q).pulse = (s.port q).pulse := by
  unfold grant; split
  · rfl
  · simp only [port_refillPlaces_pulse]; rw [port_modPort]; split
    · next h => rw [h]
    · rfl
@[simp] theorem port_grant_probeCount (p q : Port) (c : Claimant) (s : State) : ((grant p c s).port q).probeCount = (s.port q).probeCount := by
  unfold grant; split
  · rfl
  · simp only [port_refillPlaces_probeCount]; rw [port_modPort]; split
    · next h => rw [h]
    · rfl
@[simp] theorem port_grant_probeTimer (p q : Port) (c : Claimant) (s : State) : ((grant p c s).port q).probeTimer = (s.port q).probeTimer := by
  unfold grant; split
  · rfl
  · simp only [port_refillPlaces_probeTimer]; rw [port_modPort]; split
    · next h => rw [h]
    · rfl
@[simp] theorem port_grant_agreed (p q : Port) (c : Claimant) (s : State) : ((grant p c s).port q).agreed = (s.port q).agreed := by
  unfold grant; split
  · rfl
  · simp only [port_refillPlaces_agreed]; rw [port_modPort]; split
    · next h => rw [h]
    · rfl
@[simp] theorem port_grant_latch (p q : Port) (c : Claimant) (s : State) : ((grant p c s).port q).latch = (s.port q).latch := by
  unfold grant; split
  · rfl
  · simp only [port_refillPlaces_latch]; rw [port_modPort]; split
    · next h => rw [h]
    · rfl
@[simp] theorem port_grant_windowMs (p q : Port) (c : Claimant) (s : State) : ((grant p c s).port q).windowMs = (s.port q).windowMs := by
  unfold grant; split
  · rfl
  · simp only [port_refillPlaces_windowMs]; rw [port_modPort]; split
    · next h => rw [h]
    · rfl
@[simp] theorem port_grant_fair (p q : Port) (c : Claimant) (s : State) : ((grant p c s).port q).fair = (s.port q).fair := by
  unfold grant; split
  · rfl
  · simp only [port_refillPlaces_fair]; rw [port_modPort]; split
    · next h => rw [h]
    · rfl
@[simp] theorem port_grant_seqOffer (p q : Port) (c : Claimant) (s : State) : ((grant p c s).port q).seqOffer = (s.port q).seqOffer := by
  unfold grant; split
  · rfl
  · simp only [port_refillPlaces_seqOffer]; rw [port_modPort]; split
    · next h => rw [h]
    · rfl
@[simp] theorem port_grant_seqBehind (p q : Port) (c : Claimant) (s : State) : ((grant p c s).port q).seqBehind = (s.port q).seqBehind := by
  unfold grant; split
  · rfl
  · simp only [port_refillPlaces_seqBehind]; rw [port_modPort]; split
    · next h => rw [h]
    · rfl

@[simp] theorem port_arbitrate_present (p q : Port) (s : State) : ((arbitrate p s).port q).present = (s.port q).present := by
  unfold arbitrate; simp only []; split
  · split
    · simp
    · rfl
  · rfl
@[simp] theorem port_arbitrate_link (p q : Port) (s : State) : ((arbitrate p s).port q).link = (s.port q).link := by
  unfold arbitrate; simp only []; split
  · split
    · simp
    · rfl
  · rfl
@[simp] theorem port_arbitrate_brst (p q : Port) (s : State) : ((arbitrate p s).port q).brst = (s.port q).brst := by
  unfold arbitrate; simp only []; split
  · split
    · simp
    · rfl
  · rfl
@[simp] theorem port_arbitrate_pulse (p q : Port) (s : State) : ((arbitrate p s).port q).pulse = (s.port q).pulse := by
  unfold arbitrate; simp only []; split
  · split
    · simp
    · rfl
  · rfl
@[simp] theorem port_arbitrate_probeCount (p q : Port) (s : State) : ((arbitrate p s).port q).probeCount = (s.port q).probeCount := by
  unfold arbitrate; simp only []; split
  · split
    · simp
    · rfl
  · rfl
@[simp] theorem port_arbitrate_probeTimer (p q : Port) (s : State) : ((arbitrate p s).port q).probeTimer = (s.port q).probeTimer := by
  unfold arbitrate; simp only []; split
  · split
    · simp
    · rfl
  · rfl
@[simp] theorem port_arbitrate_agreed (p q : Port) (s : State) : ((arbitrate p s).port q).agreed = (s.port q).agreed := by
  unfold arbitrate; simp only []; split
  · split
    · simp
    · rfl
  · rfl
@[simp] theorem port_arbitrate_latch (p q : Port) (s : State) : ((arbitrate p s).port q).latch = (s.port q).latch := by
  unfold arbitrate; simp only []; split
  · split
    · simp
    · rfl
  · rfl
@[simp] theorem port_arbitrate_windowMs (p q : Port) (s : State) : ((arbitrate p s).port q).windowMs = (s.port q).windowMs := by
  unfold arbitrate; simp only []; split
  · split
    · simp
    · rfl
  · rfl
@[simp] theorem port_arbitrate_fair (p q : Port) (s : State) : ((arbitrate p s).port q).fair = (s.port q).fair := by
  unfold arbitrate; simp only []; split
  · split
    · simp
    · rfl
  · rfl
@[simp] theorem port_arbitrate_seqOffer (p q : Port) (s : State) : ((arbitrate p s).port q).seqOffer = (s.port q).seqOffer := by
  unfold arbitrate; simp only []; split
  · split
    · simp
    · rfl
  · rfl
@[simp] theorem port_arbitrate_seqBehind (p q : Port) (s : State) : ((arbitrate p s).port q).seqBehind = (s.port q).seqBehind := by
  unfold arbitrate; simp only []; split
  · split
    · simp
    · rfl
  · rfl

/-! ### EXCHANGE (R127) -/

/-- A port that enters EXCHANGE has offered its first probe. -/
theorem enterExchange_link (p : Port) (s : State) : ((enterExchange p s).port p).link = .exchange := by
  unfold enterExchange sendProbe; simp

theorem enterExchange_probeCount (p : Port) (s : State) : ((enterExchange p s).port p).probeCount = 1 := by
  unfold enterExchange sendProbe; simp

/-- R127 applied to every port: each is looked at as it stood. -/
theorem lookAtPorts_port (s : State) (p : Port) : ∃ t : State, t.port p = s.port p ∧ t.mode = s.mode ∧
    (lookAtPorts s).port p = (lookAtPort p t).port p := by
  cases p
  · refine ⟨s, rfl, rfl, ?_⟩
    simp only [lookAtPorts, Port.all, List.foldl]
    rw [lookAtPort_other (by decide), lookAtPort_other (by decide), lookAtPort_other (by decide), lookAtPort_other (by decide)]
  · refine ⟨lookAtPort .d1 s, lookAtPort_other (by decide) s, by simp, ?_⟩
    simp only [lookAtPorts, Port.all, List.foldl]
    rw [lookAtPort_other (by decide), lookAtPort_other (by decide), lookAtPort_other (by decide)]
  · refine ⟨lookAtPort .d2 (lookAtPort .d1 s), ?_, by simp, ?_⟩
    · rw [lookAtPort_other (by decide), lookAtPort_other (by decide)]
    · simp only [lookAtPorts, Port.all, List.foldl]
      rw [lookAtPort_other (by decide), lookAtPort_other (by decide)]
  · refine ⟨lookAtPort .d3 (lookAtPort .d2 (lookAtPort .d1 s)), ?_, by simp, ?_⟩
    · rw [lookAtPort_other (by decide), lookAtPort_other (by decide), lookAtPort_other (by decide)]
    · simp only [lookAtPorts, Port.all, List.foldl]
      rw [lookAtPort_other (by decide)]
  · refine ⟨lookAtPort .d4 (lookAtPort .d3 (lookAtPort .d2 (lookAtPort .d1 s))), ?_, by simp, ?_⟩
    · rw [lookAtPort_other (by decide), lookAtPort_other (by decide), lookAtPort_other (by decide), lookAtPort_other (by decide)]
    · simp only [lookAtPorts, Port.all, List.foldl]

end Sys2Proof.Machine
end

