-- ==== Sys2Proof/Laws/Store.lean ====
section
/-! SUPPORT. What the start-up load leaves and what each group's judgement gives (R185, R186). -/

namespace Sys2Proof.Machine

/-- What every part of the start-up load leaves: all but the tables, their roles and marks, the event sets and the
load results; no event leaves the pending set. -/
structure LoadKeeps (s t : State) : Prop where
  pending : t.pending = s.pending
  agenda : t.agenda = s.agenda
  takeDue : t.takeDue = s.takeDue
  now : t.now = s.now
  choices : t.choices = s.choices
  phase : t.phase = s.phase
  cause : t.cause = s.cause
  mode : t.mode = s.mode
  resetWaiting : t.resetWaiting = s.resetWaiting
  en : t.en = s.en
  dis : t.dis = s.dis
  ctl : t.ctl = s.ctl
  conv : t.conv = s.conv
  line : t.line = s.line
  sync : t.sync = s.sync
  sched : t.sched = s.sched
  up : t.up = s.up
  groups : t.store.groups = s.store.groups
  slot : t.store.slot = s.store.slot
  attn : t.ev.attn = s.ev.attn
  grows : ∀ i, s.ev.pending.getLsbD i = true → t.ev.pending.getLsbD i = true

theorem LoadKeeps.rfl {s : State} : LoadKeeps s s := by constructor <;> first | exact Eq.refl _ | exact fun _ h => h

theorem LoadKeeps.trans {s t u : State} (a : LoadKeeps s t) (b : LoadKeeps t u) : LoadKeeps s u := by
  constructor
  · exact b.pending.trans a.pending
  · exact b.agenda.trans a.agenda
  · exact b.takeDue.trans a.takeDue
  · exact b.now.trans a.now
  · exact b.choices.trans a.choices
  · exact b.phase.trans a.phase
  · exact b.cause.trans a.cause
  · exact b.mode.trans a.mode
  · exact b.resetWaiting.trans a.resetWaiting
  · exact b.en.trans a.en
  · exact b.dis.trans a.dis
  · exact b.ctl.trans a.ctl
  · exact b.conv.trans a.conv
  · exact b.line.trans a.line
  · exact b.sync.trans a.sync
  · exact b.sched.trans a.sched
  · exact b.up.trans a.up
  · exact b.groups.trans a.groups
  · exact b.slot.trans a.slot
  · exact b.attn.trans a.attn
  · exact fun i h => b.grows i (a.grows i h)

theorem loadGroup_keeps (g : Fin 5) (b : List Byte) (s t : State) (h : loadGroup g b s = some t) :
    LoadKeeps s t ∧ t.store = s.store := by
  unfold loadGroup at h
  split at h
  · unfold loadOne at h
    split at h
    · simp only [] at h; split at h
      · injection h with h; rw [← h]; exact ⟨by constructor <;> first | exact Eq.refl _ | exact fun _ h => h, Eq.refl _⟩
      · cases h
    · cases h
  · unfold loadTwo at h
    split at h
    · split at h
      · injection h with h; rw [← h]; exact ⟨by constructor <;> first | exact Eq.refl _ | exact fun _ h => h, Eq.refl _⟩
      · cases h
    · cases h
  · unfold loadThree at h
    split at h
    · simp only [] at h; split at h
      · cases h
      · injection h with h; rw [← h]; exact ⟨by constructor <;> first | exact Eq.refl _ | exact fun _ h => h, Eq.refl _⟩
    · cases h
  · unfold loadFour at h
    cases d : decPlan b with
    | none => rw [d] at h; cases h
    | some p => rw [d] at h; injection h with h; rw [← h]; exact ⟨by constructor <;> first | exact Eq.refl _ | exact fun _ h => h, Eq.refl _⟩
  · unfold loadFive at h
    cases d : decPortSettings b with
    | none => rw [d] at h; cases h
    | some p => rw [d] at h; injection h with h; rw [← h]; exact ⟨by constructor <;> first | exact Eq.refl _ | exact fun _ h => h, Eq.refl _⟩

theorem fallback_keeps (s : State) : LoadKeeps s (fallback s) := by
  constructor <;> first | exact Eq.refl _ | skip
  intro i h; simp [fallback, h]

/-- CONFIG_FALLBACK is pending after `fallback` (R185). -/
theorem fallback_bit (s : State) : (fallback s).ev.pending.getLsbD 14 = true := by
  simp [fallback, EventKind.bit, EventKind.number]

theorem setLoad_keeps (g : Fin 5) (x : LoadResult) (s : State) : LoadKeeps s (setLoad g x s) := by
  constructor <;> first | exact Eq.refl _ | exact fun _ h => h

theorem setLoad_loads (g k : Fin 5) (x : LoadResult) (s : State) :
    (setLoad g x s).store.loads.get k = if k = g then x else s.store.loads.get k := get_set _ _ _ _

theorem fallback_store (s : State) : (fallback s).store = s.store := rfl

theorem judgeGroup_keeps (g : Fin 5) (s : State) : LoadKeeps s (judgeGroup g s) := by
  unfold judgeGroup; simp only []
  split
  · split
    · exact setLoad_keeps _ _ _
    · exact (setLoad_keeps _ _ _).trans (fallback_keeps _)
  · split
    · exact (setLoad_keeps _ _ _).trans (fallback_keeps _)
    · split
      · next h => exact (loadGroup_keeps _ _ _ _ h).1.trans (setLoad_keeps _ _ _)
      · exact (setLoad_keeps _ _ _).trans (fallback_keeps _)

/-- A group's judgement writes that group's load result alone. -/
theorem judgeGroup_loads (g k : Fin 5) (s : State) (h : k ≠ g) :
    (judgeGroup g s).store.loads.get k = s.store.loads.get k := by
  unfold judgeGroup; simp only []
  split
  · split <;> simp only [fallback_store, setLoad_loads, if_neg h]
  · split
    · simp only [fallback_store, setLoad_loads, if_neg h]
    · split
      · next e => rw [setLoad_loads, if_neg h, (loadGroup_keeps _ _ _ _ e).2]
      · simp only [fallback_store, setLoad_loads, if_neg h]

/-- A group without the accept code takes its defaults for CODE (R185). -/
theorem judgeGroup_code (g : Fin 5) (s : State) (h : (s.store.groups.get g).code ≠ 0xA5) :
    (judgeGroup g s).store.loads.get g = .code := by
  unfold judgeGroup; simp only []
  rw [if_pos h]
  split <;> simp [fallback_store, setLoad_loads]

/-- A group whose CRC does not match takes its defaults for CRC (R185). -/
theorem judgeGroup_crc (g : Fin 5) (s : State) (h : (s.store.groups.get g).code = 0xA5)
    (c : crc16 (s.store.groups.get g).contents ≠ (s.store.groups.get g).crc) :
    (judgeGroup g s).store.loads.get g = .crc := by
  unfold judgeGroup; simp only []
  rw [if_neg (by simp [h]), if_pos c]
  simp [fallback_store, setLoad_loads]

/-- A group with an accept code that is neither 0xA5 nor 0xFF sets CONFIG_FALLBACK (R185). -/
theorem judgeGroup_fallback (g : Fin 5) (s : State) (h : (s.store.groups.get g).code ≠ 0xA5)
    (f : (s.store.groups.get g).code ≠ 0xFF) : (judgeGroup g s).ev.pending.getLsbD 14 = true := by
  unfold judgeGroup; simp only []
  rw [if_pos h, if_neg f]; exact fallback_bit _

theorem crossBulk_keeps (s : State) : LoadKeeps s (crossBulk s) := by
  unfold crossBulk
  split
  · split
    · exact LoadKeeps.trans (t := defaultFour s) (by constructor <;> first | exact Eq.refl _ | exact fun _ h => h)
        ((setLoad_keeps _ _ _).trans (fallback_keeps _))
    · exact LoadKeeps.rfl
  · exact LoadKeeps.rfl

theorem crossBudget_keeps (s : State) : LoadKeeps s (crossBudget s) := by
  unfold crossBudget
  split
  · exact LoadKeeps.rfl
  · exact LoadKeeps.trans (t := defaultThree (defaultFour s)) (by constructor <;> first | exact Eq.refl _ | exact fun _ h => h)
      ((setLoad_keeps _ _ _).trans ((setLoad_keeps _ _ _).trans (fallback_keeps _)))

theorem crossRoles_keeps (s : State) : LoadKeeps s (crossRoles s) := by
  unfold crossRoles; simp only []
  split
  · exact LoadKeeps.trans (by constructor <;> first | exact Eq.refl _ | exact fun _ h => h) (fallback_keeps _)
  · constructor <;> first | exact Eq.refl _ | exact fun _ h => h

/-- The checks of the groups together touch the load results of G3 and G4 alone (R186). -/
theorem crossBulk_loads (s : State) (k : Fin 5) (h : k ≠ 3) : (crossBulk s).store.loads.get k = s.store.loads.get k := by
  unfold crossBulk
  split
  · split
    · rw [fallback_store, setLoad_loads, if_neg h]; rfl
    · rfl
  · rfl

theorem crossBudget_loads (s : State) (k : Fin 5) (h : k ≠ 3) (h' : k ≠ 2) :
    (crossBudget s).store.loads.get k = s.store.loads.get k := by
  unfold crossBudget
  split
  · rfl
  · rw [fallback_store, setLoad_loads, if_neg h', setLoad_loads, if_neg h]; rfl

theorem crossRoles_store (s : State) : (crossRoles s).store = s.store := by
  have e (b : Bool) (t : State) : (if b then fallback t else t).store = t.store := by cases b <;> exact Eq.refl _
  unfold crossRoles; exact e _ _

/-- The five groups judged in turn. -/
def judged (s : State) : State := judgeGroup 4 (judgeGroup 3 (judgeGroup 2 (judgeGroup 1 (judgeGroup 0 s))))

/-- The five groups judged in turn, each state by its name. -/
theorem judged_chain (s : State) : ∃ a b c d, a = judgeGroup 0 s ∧ b = judgeGroup 1 a ∧ c = judgeGroup 2 b ∧
    d = judgeGroup 3 c ∧ judged s = judgeGroup 4 d :=
  ⟨_, _, _, _, Eq.refl _, Eq.refl _, Eq.refl _, Eq.refl _, Eq.refl _⟩

theorem judged_keeps (s : State) : LoadKeeps s (judged s) := by
  obtain ⟨a, b, c, d, ha, hb, hc, hd, e⟩ := judged_chain s
  rw [e]
  have k0 : LoadKeeps s a := by rw [ha]; exact judgeGroup_keeps 0 s
  have k1 : LoadKeeps a b := by rw [hb]; exact judgeGroup_keeps 1 a
  have k2 : LoadKeeps b c := by rw [hc]; exact judgeGroup_keeps 2 b
  have k3 : LoadKeeps c d := by rw [hd]; exact judgeGroup_keeps 3 c
  exact k0.trans (k1.trans (k2.trans (k3.trans (judgeGroup_keeps 4 d))))

/-- The tables after the checks of the groups together. -/
def crossed (s : State) : State := rebuildMarks (refreshRoles (crossRoles (crossBudget (crossBulk s))))

theorem crossed_keeps (s : State) : LoadKeeps s (crossed s) := by
  refine (crossBulk_keeps s).trans ((crossBudget_keeps _).trans ((crossRoles_keeps _).trans ?_))
  constructor <;> first | (simp [crossed]; done) | (intro i h; simpa using h)

/-- The mask and the record copy at the end of the load (R115, R171). -/
def finishLoad (s : State) : State :=
  { s with ev := { s.ev with mask := s.ev.defaultMask }, rtu := { s.rtu with record := s.store.slot.copy } }

theorem finishLoad_keeps (s : State) : LoadKeeps s (finishLoad s) := by
  constructor <;> first | exact Eq.refl _ | exact fun _ h => h

theorem startupLoad_eq (s : State) : startupLoad s = finishLoad (crossed (judged s)) := by
  have e : List.finRange 5 = [0, 1, 2, 3, 4] := by decide
  have f : (List.finRange 5).foldl (fun s g => judgeGroup g s) s = judged s := by
    simp only [e, List.foldl_cons, List.foldl_nil, judged]
  have g (u : State) (h : (List.finRange 5).foldl (fun s g => judgeGroup g s) s = u) :
      startupLoad s = finishLoad (crossed u) := by subst h; exact Eq.refl _
  exact g _ f

theorem startupLoad_keeps (s : State) : LoadKeeps s (startupLoad s) := by
  rw [startupLoad_eq]
  exact ((judged_keeps s).trans (crossed_keeps _)).trans (finishLoad_keeps _)

/-- The load results of G1, G2 and G5 are those of the groups' own judgement. -/
theorem startupLoad_loads (s : State) (k : Fin 5) (h : k ≠ 3) (h' : k ≠ 2) :
    (startupLoad s).store.loads.get k = (judged s).store.loads.get k := by
  rw [startupLoad_eq]
  generalize judged s = u
  have f (t : State) : (finishLoad t).store = t.store := Eq.refl _
  rw [f]
  unfold crossed
  rw [rebuildMarks_store, refreshRoles_store, crossRoles_store, crossBudget_loads _ _ h h', crossBulk_loads _ _ h]

theorem judged_loads (s : State) (k : Fin 5) : ∃ t, t.store.groups = s.store.groups ∧
    (judged s).store.loads.get k = (judgeGroup k t).store.loads.get k := by
  obtain ⟨a, b, c, d, ha, hb, hc, hd, e⟩ := judged_chain s
  rw [e]
  have k0 : LoadKeeps s a := by rw [ha]; exact judgeGroup_keeps 0 s
  have k1 : LoadKeeps s b := by rw [hb]; exact k0.trans (judgeGroup_keeps 1 a)
  have k2 : LoadKeeps s c := by rw [hc]; exact k1.trans (judgeGroup_keeps 2 b)
  have k3 : LoadKeeps s d := by rw [hd]; exact k2.trans (judgeGroup_keeps 3 c)
  match k with
  | 4 => exact ⟨d, k3.groups, Eq.refl _⟩
  | 3 => refine ⟨c, k2.groups, ?_⟩; rw [judgeGroup_loads _ _ _ (by decide), hd]
  | 2 =>
    refine ⟨b, k1.groups, ?_⟩
    rw [judgeGroup_loads _ _ _ (by decide), hd, judgeGroup_loads _ _ _ (by decide), hc]
  | 1 =>
    refine ⟨a, k0.groups, ?_⟩
    rw [judgeGroup_loads _ _ _ (by decide), hd, judgeGroup_loads _ _ _ (by decide), hc,
      judgeGroup_loads _ _ _ (by decide), hb]
  | 0 =>
    refine ⟨s, Eq.refl _, ?_⟩
    rw [judgeGroup_loads _ _ _ (by decide), hd, judgeGroup_loads _ _ _ (by decide), hc,
      judgeGroup_loads _ _ _ (by decide), hb, judgeGroup_loads _ _ _ (by decide), ha]

/-- A group that is neither written nor fresh sets CONFIG_FALLBACK in the start-up load (R185). -/
theorem startupLoad_fallback (s : State) (g : Fin 5) (h : (s.store.groups.get g).code ≠ 0xA5)
    (f : (s.store.groups.get g).code ≠ 0xFF) : (startupLoad s).ev.pending.getLsbD 14 = true := by
  rw [startupLoad_eq]
  apply (finishLoad_keeps _).grows
  apply (crossed_keeps _).grows
  obtain ⟨a, b, c, d, ha, hb, hc, hd, e⟩ := judged_chain s
  rw [e]
  have k0 : LoadKeeps s a := by rw [ha]; exact judgeGroup_keeps 0 s
  have k1 : LoadKeeps s b := by rw [hb]; exact k0.trans (judgeGroup_keeps 1 a)
  have k2 : LoadKeeps s c := by rw [hc]; exact k1.trans (judgeGroup_keeps 2 b)
  have k3 : LoadKeeps s d := by rw [hd]; exact k2.trans (judgeGroup_keeps 3 c)
  match g with
  | 4 => exact judgeGroup_fallback 4 d (by rw [k3.groups]; exact h) (by rw [k3.groups]; exact f)
  | 3 =>
    apply (judgeGroup_keeps 4 d).grows; rw [hd]
    exact judgeGroup_fallback 3 c (by rw [k2.groups]; exact h) (by rw [k2.groups]; exact f)
  | 2 =>
    apply (judgeGroup_keeps 4 d).grows; rw [hd]; apply (judgeGroup_keeps 3 c).grows; rw [hc]
    exact judgeGroup_fallback 2 b (by rw [k1.groups]; exact h) (by rw [k1.groups]; exact f)
  | 1 =>
    apply (judgeGroup_keeps 4 d).grows; rw [hd]; apply (judgeGroup_keeps 3 c).grows; rw [hc]
    apply (judgeGroup_keeps 2 b).grows; rw [hb]
    exact judgeGroup_fallback 1 a (by rw [k0.groups]; exact h) (by rw [k0.groups]; exact f)
  | 0 =>
    apply (judgeGroup_keeps 4 d).grows; rw [hd]; apply (judgeGroup_keeps 3 c).grows; rw [hc]
    apply (judgeGroup_keeps 2 b).grows; rw [hb]; apply (judgeGroup_keeps 1 a).grows; rw [ha]
    exact judgeGroup_fallback 0 s h f

end Sys2Proof.Machine
end

