-- ==== Sys2Proof/Laws/Requests.lean ====
section
/-! SUPPORT. What reaches no request: a code that is unknown or a length that is not the layout's (R172), and the
bytes of a frame read back (R120). -/

namespace Sys2Proof.Machine

theorem sized_refuses (n : Nat) (act : Frame → State → State) (f : Frame) (s : State)
    (h : (some n == some f.payload.length) = false) : sized n act f s = answer f stBadRequest s := by
  unfold sized; rw [if_neg]; intro c; rw [c] at h; simp at h

theorem sizedBy_refuses (l n : Nat) (act : Frame → State → State) (f : Frame) (s : State)
    (h : (some n == some f.payload.length) = false) : sizedBy l n act f s = answer f stBadRequest s := by
  unfold sizedBy; rw [if_neg]; intro c; rw [c.2] at h; simp at h

/-- A request that is not sized as its layout asks is refused BAD_REQUEST (R172). -/
theorem request_unsized (before : Mode) (f : Frame) (s : State) (h : requestSized f.cls f.payload = false) :
    request before f s = answer f stBadRequest s := by
  unfold requestSized requestLength at h
  unfold request
  generalize f.cls.toNat = n at h ⊢
  split <;> first | exact sized_refuses _ _ _ _ h | exact sizedBy_refuses _ _ _ _ _ h | rfl

end Sys2Proof.Machine
end

