-- ==== Sys2Proof/Laws/Rails.lean ====
section
/-! SUPPORT. What a change of a rail's state does, and the reports it hands on where no rail step runs (R2, R7). -/

namespace Sys2Proof.Machine

theorem modDyn_same (r : RailId) (s : State) (f : RailDynamic → RailDynamic) (h : f (s.rail r).dyn = (s.rail r).dyn) :
    modDyn r f s = s := by
  apply State.ext <;> try rfl
  simp only [modDyn, setRail, h]
  exact Vector.ext (fun i hi => by
    rw [Vector.getElem_set]; split
    · next e => subst e; rfl
    · rfl)

theorem modPort_same (p : Port) (s : State) (f : PortRec → PortRec) (h : f (s.port p) = s.port p) :
    modPort p f s = s := by
  apply State.ext <;> try rfl
  simp only [modPort, setPort, h]
  exact Vector.ext (fun i hi => by
    rw [Vector.getElem_set]; split
    · next e => subst e; rfl
    · rfl)

/-- Two changes of one port's record. -/
theorem modPort_modPort (p : Port) (f g : PortRec → PortRec) (s : State) :
    modPort p g (modPort p f s) = modPort p (fun x => g (f x)) s := by
  unfold modPort
  rw [port_setPort_self]
  apply State.ext <;> simp [setPort]

@[simp] theorem rail_setChan (c : ChannelId) (x : Channel) (r : RailId) (s : State) :
    (setChan c x s).rail r = s.rail r := rfl

@[simp] theorem rail_driveOutputs (r q : RailId) (st : RailState) (s : State) :
    (driveOutputs r st s).rail q = s.rail q := by unfold State.rail; rw [driveOutputs_rails]

@[simp] theorem chan_driveOutputs (r : RailId) (c : ChannelId) (st : RailState) (s : State) :
    (driveOutputs r st s).chan c = s.chan c := by unfold State.chan; rw [driveOutputs_chans]

@[simp] theorem rail_followRail (r q : RailId) (a b : RailState) (s : State) :
    (followRail r a b s).rail q = s.rail q := by unfold State.rail; rw [followRail_rails]

@[simp] theorem chan_modDyn (r : RailId) (f : RailDynamic → RailDynamic) (c : ChannelId) (s : State) :
    (modDyn r f s).chan c = s.chan c := rfl

/-- The EN and DIS outputs after a change of state (R2). -/
theorem driveOutputs_outputs (r : RailId) (st : RailState) (s : State) :
    (∀ e, (s.rail r).static.path = .onPart e → (driveOutputs r st s).en = s.en.set e (st == .rising || st == .on)) ∧
    (∀ p i a b, (s.rail r).static.path = .board p i a b → (driveOutputs r st s).en = s.en) ∧
    ((s.rail r).static.discharge = .none → (driveOutputs r st s).dis = s.dis) ∧
    (∀ o, (s.rail r).static.discharge = .bleed o → (driveOutputs r st s).dis = s.dis.set o (st == .falling)) ∧
    (∀ o n, (s.rail r).static.discharge = .force o n →
      (driveOutputs r st s).dis = s.dis.set o (st == .discharging)) := by
  unfold driveOutputs
  refine ⟨fun e h => ?_, fun p i a b h => ?_, fun h => ?_, fun o h => ?_, fun o n h => ?_⟩
  all_goals simp only [h]
  · split <;> rfl
  · split <;> rfl
  all_goals split <;> rfl

/-- A rail enters a state (R2, R7, R14, R32, R33). -/
theorem movedTo_enterState (r : RailId) (st : RailState) (s : State) :
    s.MovedTo r st (((s.rail r).static.timerMs st).map (fun t => s.now + Config.ms t)) none (enterState r st s) := by
  obtain ⟨u, hu⟩ : ∃ u, u = modDyn r (fun d => { d with state := st, timer := ((s.rail r).static.timerMs st).map (fun t => s.now + Config.ms t), heldGood := st == .on, faultCause := none }) s := ⟨_, rfl⟩
  have e : enterState r st s = followRail r (s.rail r).dyn.state st (driveOutputs r st u) := by rw [hu]; rfl
  have us : (u.rail r).static = (s.rail r).static := by rw [hu, rail_modDyn_self]
  have o := driveOutputs_outputs r st u
  rw [us] at o
  have ue : u.en = s.en := by rw [hu]; rfl
  have ud : u.dis = s.dis := by rw [hu]; rfl
  rw [ue, ud] at o
  rw [e]
  constructor
  · rw [rail_followRail, rail_driveOutputs, hu, rail_modDyn_self]
  · intro q h; rw [rail_followRail, rail_driveOutputs, hu, rail_modDyn, if_neg h]
  · intro e h; rw [followRail_en]; exact o.1 e h
  · intro p i a b h; rw [followRail_en]; exact o.2.1 p i a b h
  · intro h; rw [followRail_dis]; exact o.2.2.1 h
  · intro x h; rw [followRail_dis]; exact o.2.2.2.1 x h
  · intro x n h; rw [followRail_dis]; exact o.2.2.2.2 x n h
  · intro c
    unfold followRail
    rw [rail_driveOutputs, us]
    cases h : (s.rail r).static.sense with
    | none => simp only [chan_driveOutputs]; rw [hu]; simp
    | some d =>
      simp only []
      rw [chan_setChan, chan_driveOutputs, chan_driveOutputs]
      have : ∀ k, u.chan k = s.chan k := by intro k; rw [hu]; rfl
      rw [this, this]
      by_cases q : c = d
      · subst q; simp
      · rw [if_neg q, if_neg]; intro z; injection z with z; exact q z.symm

/-- Nothing but the rails, the outputs and the channels takes part in a change of state. -/
theorem enterState_rest (r : RailId) (st : RailState) (s : State) :
    { enterState r st s with rails := s.rails, en := s.en, dis := s.dis, chans := s.chans } = s := by
  apply State.ext <;> simp

/-! ### A change of state with work waiting -/

theorem driveOutputs_todo (r : RailId) (st : RailState) (s : State) (ws : List Work) :
    driveOutputs r st (s.todo ws) = (driveOutputs r st s).todo ws := by
  unfold driveOutputs
  have e : (s.todo ws).rail r = s.rail r := rfl
  rw [e]
  simp only []
  cases (s.rail r).static.path <;> cases (s.rail r).static.discharge <;> rfl

theorem followRail_todo (r : RailId) (a b : RailState) (s : State) (ws : List Work) :
    followRail r a b (s.todo ws) = (followRail r a b s).todo ws := by
  unfold followRail
  have e : (s.todo ws).rail r = s.rail r := rfl
  rw [e]
  cases (s.rail r).static.sense <;> rfl

theorem enterState_todo (r : RailId) (st : RailState) (s : State) (ws : List Work) :
    enterState r st (s.todo ws) = (enterState r st s).todo ws := by
  unfold enterState
  have e : (s.todo ws).rail r = s.rail r := rfl
  have m : ∀ f, modDyn r f (s.todo ws) = (modDyn r f s).todo ws := fun _ => rfl
  simp only [e, m, driveOutputs_todo, followRail_todo, todo_now]

/-- The HIGH alarm is a matter of the rail's channel; a rise leaves it. -/
theorem highAlarm_enterState (r : RailId) (s : State) : (enterState r .rising s).highAlarm r = s.highAlarm r := by
  have m := movedTo_enterState r .rising s
  have e : ((enterState r .rising s).rail r).static = (s.rail r).static := by rw [m.rail]
  unfold State.highAlarm
  rw [e]
  cases h : (s.rail r).static.sense with
  | none => rfl
  | some c =>
    simp only []
    rw [m.channels, h, if_pos rfl]
    unfold Channel.followRail
    simp only [true_or, if_true]
    split
    · split
      · next q => rw [q]; rfl
      · rfl
    · rfl

/-- The work a change of state hands on behind what waits (R7, R10, R15). -/
theorem moveRail_todo (r : RailId) (st : RailState) (s : State) (ws : List Work)
    (high : s.highAlarm r = false ∨ st ≠ .rising) :
    moveRail r st (s.todo ws) = (enterState r st s).todo
      (ws ++ [.report r .state] ++ if (s.rail r).dyn.state.isUp && !st.isUp then [.cascade r 0] else []) := by
  unfold moveRail
  have e : ((s.todo ws).rail r).dyn.state = (s.rail r).dyn.state := rfl
  rw [e, enterState_todo]
  simp only [later_todo]
  have hl : ∀ v, ¬ (st = .rising ∧ ((enterState r st s).todo v).highAlarm r = true) := by
    rintro v ⟨a, b⟩
    subst a
    have : ((enterState r .rising s).todo v).highAlarm r = (enterState r .rising s).highAlarm r := rfl
    rw [this, highAlarm_enterState] at b
    rcases high with h | h
    · rw [b] at h; cases h
    · exact h rfl
  split <;> simp only [hl, if_false, later_todo, List.append_nil]

theorem moveRail_settled (r : RailId) (st : RailState) {s : State} (h : s.agenda = [])
    (high : s.highAlarm r = false ∨ st ≠ .rising) :
    moveRail r st s = (enterState r st s).todo
      ([.report r .state] ++ if (s.rail r).dyn.state.isUp && !st.isUp then [.cascade r 0] else []) := by
  have := moveRail_todo r st s [] high
  rw [todo_self h] at this
  simpa using this

/-! ### Where no rail step runs -/

theorem current_calm {s : State} (h : ∀ c, s.seq.ctx = some c → (s.stepAt c.index).kind.rail? = none) :
    s.current = none ∨ ∃ c k, s.current = some (c, k) ∧ k.rail? = none := by
  unfold State.current
  cases e : s.seq.ctx with
  | none => exact Or.inl rfl
  | some c => exact Or.inr ⟨c, _, rfl, h c e⟩

theorem seqRail_calm {s : State} (h : ∀ c, s.seq.ctx = some c → (s.stepAt c.index).kind.rail? = none) (r : RailId)
    (k : ReportKind) : seqRail r k s = s := by
  unfold seqRail
  rcases current_calm h with e | ⟨c, j, e, n⟩
  · rw [e]
  · rw [e]; cases j <;> simp [StepKind.rail?] at n <;> rfl

theorem seqPathLost_calm {s : State} (h : ∀ c, s.seq.ctx = some c → (s.stepAt c.index).kind.rail? = none) (r : RailId) :
    seqPathLost r s = s := by
  unfold seqPathLost
  rcases current_calm h with e | ⟨c, j, e, n⟩
  · rw [e]
  · rw [e]; cases j <;> simp [StepKind.rail?] at n <;> rfl

theorem seqFrameEnd_calm {s : State} (h : ∀ c, s.seq.ctx = some c → (s.stepAt c.index).kind.rail? = none) (r : RailId)
    (x : FailReason) : seqFrameEnd r x s = s := by
  unfold seqFrameEnd
  rcases current_calm h with e | ⟨c, j, e, n⟩
  · rw [e]
  · rw [e]; cases j <;> simp [StepKind.rail?] at n <;> rfl

/-- Whether a rail step runs is told by the Sequencer alone. -/
theorem noRailStep_of {s t : State} (e : t.seq = s.seq)
    (h : ∀ c, s.seq.ctx = some c → (s.stepAt c.index).kind.rail? = none) :
    ∀ c, t.seq.ctx = some c → (t.stepAt c.index).kind.rail? = none := by
  intro c hc; rw [e] at hc; have := h c hc; unfold State.stepAt at *; rw [e]; exact this

/-- A report of a rail where no command is held and no rail step runs changes nothing (R7). -/
theorem settle_report_calm (n : Nat) (r : RailId) (k : ReportKind) (ws : List Work) {s : State} (h : s.agenda = [])
    (f : s.fwd.hold = []) (c : ∀ c, s.seq.ctx = some c → (s.stepAt c.index).kind.rail? = none) :
    settle (n + 3) (s.todo (.report r k :: ws)) = settle n (s.todo ws) := by
  rw [settle_report_noHold (n + 1) r k ws h f]
  exact settle_plain _ _ _ h rfl (seqRail_calm c r k) h

/-- A cascade with no dependent RISING or ON (R16). -/
theorem settle_cascade_none (n : Nat) (r : RailId) (b : Nat) (ws : List Work) {s : State} (h : s.agenda = [])
    (d : ∀ q ∈ s.dependents r, (s.railState q).isUp = false) :
    settle (n + 1) (s.todo (.cascade r b :: ws)) = settle n (s.todo ws) := by
  refine settle_plain n _ ws h rfl ?_ h
  show cascade r b s = s
  unfold cascade
  rw [List.find?_eq_none.mpr]
  intro q hq; rw [d q hq]; simp

end Sys2Proof.Machine
end

