-- ==== Sys2Proof/Laws/Events.lean ====
section
/-! SUPPORT. What an event's shared operations do where their hand-ons are known: where a frame goes, how a program starts and
how its last step ends it, what a port's transmitter leaves as it was. -/

namespace Sys2Proof.Machine

/-- An event that leaves this work to be taken answers the state in which it has been taken. -/
theorem event_todo {f : State → State} {s t : State} {ws : List Work} (h : s.Settled) (e : f s = t.todo ws) :
    event f s = .next (settle 65536 (t.todo ws)) := by
  rw [event_settled h, e]; rfl

theorem inRange_congr {s t : State} (h : t.seq.headers = s.seq.headers) (n : ProgNo) (i : Nat) :
    t.inRange n i = s.inRange n i := by
  unfold State.inRange State.header; rw [h]

theorem stepAt_congr {s t : State} (h : t.seq.steps = s.seq.steps) (i : Nat) : t.stepAt i = s.stepAt i := by
  unfold State.stepAt; rw [h]

theorem all_rails_iff (p : RailId → Bool) : allRails.all p = true ↔ ∀ r, p r = true := by simp [allRails]

theorem all_ports_iff (p : Port → Bool) : Port.all.all p = true ↔ ∀ r, p r = true := by
  simp only [Port.all, List.all_cons, List.all_nil, Bool.and_true, Bool.and_eq_true]
  exact ⟨fun h r => by cases r <;> simp [h], fun h => ⟨h _, h _, h _, h _, h _⟩⟩

/-- The step under way and its kind. -/
theorem current_eq {s : State} {c : Context} {k : StepKind} (h : s.seq.ctx = some c) (hk : (s.stepAt c.index).kind = k) :
    s.current = some (c, k) := by
  unfold State.current; rw [h, ← hk]; rfl

theorem modCtx_eq (s : State) (f : Context → Context) (c : Context) (h : s.seq.ctx = some c) :
    modCtx f s = { s with seq := { s.seq with ctx := some (f c) } } := by
  unfold modCtx setCtx; rw [h]; rfl

/-- What a program's end leaves does not depend on the context it clears. -/
theorem endedWith_ctx (s : State) (c : Context) (e : ProgramEnd) (d : Option Context) :
    State.endedWith { s with seq := { s.seq with ctx := d } } c e = s.endedWith c e := rfl

/-- How a last step that completes, or fails with ON_FAIL ABORT, ends its program. -/
def Context.endOf (c : Context) : Option FailReason → ProgramEnd
  | none => .done
  | some y => .failed c.index y

/-- The work after a last step ends its program, and what waited behind it is taken next. -/
theorem settle_lastStep_tail (n : Nat) (ws : List Work) {v s : State} {c c' : Context} {x : Running}
    {fl : Option FailReason} (ls : s.LastStep c x) (va : v.Settled) (vc : v.seq.ctx = some c') (vs : v.sched = s.sched)
    (vh : v.seq.headers = s.seq.headers) (vst : v.seq.steps = s.seq.steps) (ci : c'.index = c.index)
    (cp : c'.program = c.program) (cr : c'.requester = c.requester) (cf : c'.failed = c.failed)
    (ab : fl ≠ none → (s.stepAt c.index).onFail = .abort) :
    settle (n + 3) (v.todo (.afterStep fl :: ws)) = settle n ((v.endedWith c (Context.endOf c fl)).todo ws) := by
  obtain ⟨e, he⟩ : ∃ e, e = Context.endOf c fl := ⟨_, rfl⟩
  rw [← he]
  have p0 : c.program ≠ 0 := by intro h; have := ls.ordinary; rw [h] at this; simp at this
  have p1 : c.program ≠ 1 := by intro h; have := ls.ordinary; rw [h] at this; simp at this
  have as : afterStep fl v = programEnd e false v := by
    unfold afterStep
    rw [vc, vs, ls.running]; simp only []
    have cut : v.cutOffDue x = false := by
      unfold State.cutOffDue; rw [ls.unmarked, vs, ls.noQueue]; rfl
    rw [cut]; simp only [Bool.and_false, Bool.false_and, Bool.false_eq_true, if_false]
    cases fl with
    | none => rw [he]; simp only [Context.endOf]; unfold goTo; rw [inRange_congr vh, ci, cp, ls.last]; simp
    | some y =>
      rw [he]; simp only [Context.endOf]; rw [cp, ci, if_neg p0, stepAt_congr vst, ab (by simp)]
  have pe : programEnd e false v = (setResult (c.result e) (setRunning none (setCtx none v))).todo [.raise .programEnd,
      .startHead] := by
    unfold programEnd; rw [vc]; simp only []
    rw [cp, if_neg p0, if_neg p1]
    have : c'.result e = c.result e := by unfold Context.result; rw [cp, cr, cf]
    rw [this, later_eq_todo (by exact va.1)]; rfl
  rw [settle_todo _ _ _ va.1 rfl]
  have : handle (.afterStep fl) v = (setResult (c.result e) (setRunning none (setCtx none v))).todo [.raise .programEnd,
      .startHead] := (show afterStep fl v = _ from as.trans pe)
  rw [this]
  obtain ⟨w, hw⟩ : ∃ w, w = setResult (c.result e) (setRunning none (setCtx none v)) := ⟨_, rfl⟩
  rw [← hw]
  have wn : w.Settled := by rw [hw]; exact va
  show settle (n + 1 + 1) (w.todo (.raise .programEnd :: .startHead :: ws)) = _
  rw [settle_raise _ _ _ wn.1, settle_startHead _ _ (by simp [wn.1]) (by
    rw [raise_sched, hw]; show v.sched.queue = []; rw [vs]; exact ls.noQueue)]
  rw [hw]; rfl

theorem settled_endedWith {s : State} (c : Context) (e : ProgramEnd) (h : s.Settled) : (s.endedWith c e).Settled :=
  settled_raise _ (by exact h)

/-- The work after a last step ends its program. -/
theorem settle_lastStep_end (n : Nat) {v s : State} {c c' : Context} {x : Running} {fl : Option FailReason}
    (ls : s.LastStep c x) (va : v.Settled) (vc : v.seq.ctx = some c') (vs : v.sched = s.sched)
    (vh : v.seq.headers = s.seq.headers) (vst : v.seq.steps = s.seq.steps) (ci : c'.index = c.index)
    (cp : c'.program = c.program) (cr : c'.requester = c.requester) (cf : c'.failed = c.failed)
    (ab : fl ≠ none → (s.stepAt c.index).onFail = .abort) :
    settle (n + 3) (v.todo [.afterStep fl]) = v.endedWith c (Context.endOf c fl) := by
  rw [settle_lastStep_tail n [] ls va vc vs vh vst ci cp cr cf ab]
  exact settle_done n (settled_endedWith c _ va)

/-- An event that ends a last step ends its program; `v` is what the step's own clearing leaves but for the context. -/
theorem event_lastStep_end {s : State} {c : Context} {x : Running} (ls : s.LastStep c x) (fl : Option FailReason)
    {w v : State} {c' : Context}
    (hs : s.Settled) (w1 : w.Settled)
    (f : State → State) (hf : f s = later (.afterStep fl) w)
    (wc : w.seq.ctx = some c') (vs : w.sched = s.sched) (vh : w.seq.headers = s.seq.headers)
    (vst : w.seq.steps = s.seq.steps)
    (ci : c'.index = c.index) (cp : c'.program = c.program) (cr : c'.requester = c.requester) (cf : c'.failed = c.failed)
    (ab : fl ≠ none → (s.stepAt c.index).onFail = .abort)
    (wv : { w with seq := { w.seq with ctx := none } } = { v with seq := { v.seq with ctx := none } }) :
    event f s = .next (v.endedWith c (Context.endOf c fl)) := by
  rw [event_todo hs (hf.trans (later_eq_todo w1.1 _))]
  refine congrArg _ ?_
  show settle (65533 + 3) _ = _
  rw [settle_lastStep_end _ ls w1 wc vs vh vst ci cp cr cf ab]
  have : ∀ e, w.endedWith c e = v.endedWith c e := by
    intro e
    rw [← endedWith_ctx w c e none, ← endedWith_ctx v c e none, wv]
  exact this _

/-- A program whose first step is a DELAY starts: its running record, its context and the step's timer. -/
theorem startProgramOf_delay (s : State) (n : ProgNo) (q : Requester) (pr time : Nat) (m : s.mode = .active)
    (c : (s.header n).count ≠ 0) (k : (s.stepAt (s.header n).first).kind = .delay time) :
    startProgramOf n q pr s = { s with
      sched := { s.sched with running := some {
        program := n, requester := q, priority := pr, guarded := (s.stepAt (s.header n).first).guarded, marked := false } }
      seq := { s.seq with ctx := some {
        program := n, requester := q, index := (s.header n).first, timer := some (s.now + 2000 * time), frame := none,
        failed := 0, wait := .none } } } := by
  unfold startProgramOf
  rw [wake_active m]
  simp only []
  obtain ⟨v, hv⟩ : ∃ v, v = setCtx (some {
        program := n, requester := q, index := (s.header n).first, timer := none, frame := none, failed := 0, wait := .none })
      (setRunning (some { program := n, requester := q, priority := pr, guarded := false, marked := false }) s) := ⟨_, rfl⟩
  have h1 : ∀ x, (setRunning x s).header n = s.header n := fun _ => rfl
  rw [h1, if_neg c, ← hv]
  unfold startStep
  have sa : v.stepAt (s.header n).first = s.stepAt (s.header n).first := by rw [hv]; rfl
  simp only [sa]
  rw [modCtx_eq v _ _ (by rw [hv]; rfl)]
  unfold setGuarded
  simp only [k]
  unfold stepWait modCtx setCtx
  rw [hv]
  simp [setRunning, setCtx, Config.ms]

/-- A program requested of an idle part starts at once. -/
theorem takeRequest_idle (s : State) (n : ProgNo) (q : Requester) (time : Nat) (h : s.Quiet) (m : s.mode = .active)
    (c : (s.header n).count ≠ 0) (k : (s.stepAt (s.header n).first).kind = .delay time) :
    takeRequest n q s = { s with
      sched := { s.sched with
        arrivals := s.sched.arrivals + 1
        running := some {
          program := n, requester := q, priority := (s.header n).priority,
          guarded := (s.stepAt (s.header n).first).guarded, marked := false } }
      seq := { s.seq with ctx := some {
        program := n, requester := q, index := (s.header n).first, timer := some (s.now + 2000 * time), frame := none,
        failed := 0, wait := .none } } } := by
  unfold takeRequest
  rw [h.notCommitted]
  have r : s.isRunning n = false := by unfold State.isRunning; rw [h.noRunning]
  have qd : s.isQueued n = false := by unfold State.isQueued; rw [h.noQueue]; rfl
  rw [r, qd]
  simp only [Bool.false_eq_true, if_false]
  unfold newEntry
  rw [h.noQueue, if_pos (by decide)]
  unfold joinQueue
  rw [h.noQueue]
  simp only [insertEntry]
  unfold judgeHead
  simp only [h.noRunning]
  unfold startHead
  simp only [h.noRunning, h.notCommitted, Option.isSome_none, Bool.or_self, Bool.false_eq_true, if_false]
  have nq := h.noQueue
  unfold setRequests
  rw [startProgramOf_delay _ n q _ time (by exact m) (by exact c) (by exact k)]
  apply State.ext <;> simp [nq] <;> rfl

theorem withdrawSend_ports (p : Port) (s : State) : ∃ ps, withdrawSend p s = { s with ports := ps } := by
  refine ⟨(withdrawSend p s).ports, ?_⟩
  apply State.ext <;> simp

theorem offerSeq_ports (p : Port) (f : SeqFrame) (s : State) : ∃ ps, offerSeq p f s = { s with ports := ps } := by
  refine ⟨(offerSeq p f s).ports, ?_⟩
  apply State.ext <;> simp

theorem arbitrate_ports (p : Port) (s : State) : ∃ ps, arbitrate p s = { s with ports := ps } := by
  refine ⟨(arbitrate p s).ports, ?_⟩; apply State.ext <;> simp

/-- Arbitration does not look at the work that is still to be taken. -/
theorem arbitrate_todo (p : Port) (s : State) (ws : List Work) : arbitrate p (s.todo ws) = (arbitrate p s).todo ws := by
  have key : (arbitrate p (s.todo ws)).ports = (arbitrate p s).ports := by
    unfold arbitrate
    have e1 : (s.todo ws).port p = s.port p := rfl
    have e2 : (s.todo ws).nextClaimant p = s.nextClaimant p := rfl
    rw [e1, e2]
    simp only []
    split
    · cases s.nextClaimant p with
      | none => rfl
      | some c =>
        simp only []
        unfold grant
        have : (s.todo ws).claimedFrame p c = s.claimedFrame p c := rfl
        rw [this]
        cases s.claimedFrame p c with
        | none => rfl
        | some f => rfl
    · rfl
  apply State.ext <;> first | exact key | (simp)

theorem withdrawRail_todo (r : RailId) (s : State) (ws : List Work) :
    withdrawRail r (s.todo ws) = (withdrawRail r s).todo ws := by
  unfold withdrawRail
  have : (s.todo ws).rail r = s.rail r := rfl
  rw [this]
  cases (s.rail r).static.port? with
  | none => rfl
  | some p =>
    dsimp only
    obtain ⟨f, hf⟩ : ∃ f : PortRec → PortRec, f = (fun x => if
        ({ x with railPlaces := x.railPlaces.filter (fun q => q != r) } : PortRec).owner == some (.rail r) then
        ({ x with railPlaces := x.railPlaces.filter (fun q => q != r) } : PortRec).disown else
        { x with railPlaces := x.railPlaces.filter (fun q => q != r) }) := ⟨_, rfl⟩
    rw [← hf]
    have e1 : modPort p f (s.todo ws) = (modPort p f s).todo ws := rfl
    have e2 : refillPlaces p ((modPort p f s).todo ws) = (refillPlaces p (modPort p f s)).todo ws := rfl
    rw [e1, e2]; exact arbitrate_todo p _ ws

theorem withdrawRail_ports (r : RailId) (s : State) : ∃ ps, withdrawRail r s = { s with ports := ps } := by
  refine ⟨(withdrawRail r s).ports, ?_⟩
  unfold withdrawRail
  cases (s.rail r).static.port? with
  | none => rfl
  | some p => dsimp only; apply State.ext <;> simp

theorem offerNotice_rest (f : Frame) (s : State) :
    (offerNotice f s).agenda = s.agenda ∧ (offerNotice f s).takeDue = s.takeDue ∧ (offerNotice f s).seq = s.seq ∧
      (offerNotice f s).sched = s.sched := by
  unfold offerNotice; split
  · exact ⟨rfl, rfl, rfl, rfl⟩
  · split
    · simp
    · exact ⟨rfl, rfl, rfl, rfl⟩

/-- Leaving EXCHANGE, in one update of the port. -/
theorem leaveExchange_eq (s : State) (p : Port) (l : LinkState) :
    leaveExchange p l s = modPort p (fun x => { x with
      link := l, probeCount := 0, probeTimer := none, probeWaiting := false,
      line := if x.owner = some .probe then .stretch (s.now + 10) else x.line }) s := by
  have key : ∀ f g : PortRec → PortRec, f (s.port p) = g (s.port p) → modPort p f s = modPort p g s := by
    intro f g h; unfold modPort; rw [h]
  unfold leaveExchange
  by_cases o : (s.port p).owner = some .probe
  · simp only [o, beq_self_eq_true, if_true]
    unfold cutOff
    rw [modPort_modPort]
    apply key
    simp only [o, if_true]
    have : ∃ a b c, (s.port p).line = .sending a b c := by
      unfold PortRec.owner at o; revert o; cases (s.port p).line <;> simp
    obtain ⟨a, b, c, h⟩ := this
    simp only [h]; rfl
  · have : ((s.port p).owner == some .probe) = false := by simpa using o
    simp only [this, Bool.false_eq_true, if_false]
    apply key; simp only [o, if_false]

/-- A cut-off, in one update of the port. -/
theorem cutOff_eq (p : Port) (s : State) : cutOff p s = modPort p (fun x =>
      { x with
        line := match x.line with
          | .sending _ _ _ => .stretch (s.now + 10)
          | l => l }) s := by
  unfold cutOff modPort; congr 1; cases h : (s.port p).line <;> simp [h, Config.idleStretch, Config.us]
  all_goals (generalize s.port p = x at h; cases x; simp only at h; subst h; rfl)

/-- A well-formed frame of the port's own board is routed. -/
theorem receiveDown_up (s : State) (p : Port) (f : Frame) (h : s.Up) (lk : (s.port p).link = .up) (ok : f.ok = true)
    (src : f.src = p.addr) : receiveDown p f s = route p f s := by
  unfold receiveDown; rw [if_neg (by rw [h.running]; simp), lk]; simp only []
  rw [ok, src]; simp

theorem receiveDown_seqReply (s : State) (p : Port) (cls tag : Byte) (pl : List Byte) (h : s.Up)
    (lk : (s.port p).link = .up) (l : pl.length ≤ 60) (t : 0xE0 ≤ tag.toNat) :
    receiveDown p (mkFrame 0 p.addr kindReply cls tag pl) s = seqReply p tag pl s := by
  rw [receiveDown_up s p (mkFrame 0 p.addr kindReply cls tag pl) h lk (mkFrame_ok _ _ _ _ _ _ l (by decide)) rfl]
  unfold route
  have s2 : (mkFrame 0 p.addr kindReply cls tag pl).kind = kindReply := rfl
  have s3 : (mkFrame 0 p.addr kindReply cls tag pl).dest = 0 := rfl
  have s4 : (mkFrame 0 p.addr kindReply cls tag pl).payload = pl := rfl
  have s5 : (mkFrame 0 p.addr kindReply cls tag pl).tag = tag := rfl
  rw [s2, s3, s4, s5, if_pos ⟨rfl, rfl⟩]
  have : railOfTag tag = none := by
    unfold railOfTag railOf?; rw [if_pos (by omega), dif_neg (by omega)]
  rw [this]; simp only []; rw [if_pos t]

theorem receiveDown_notice (s : State) (p : Port) (cls tag : Byte) (pl : List Byte) (h : s.Up)
    (lk : (s.port p).link = .up) (l : pl.length ≤ 60) :
    receiveDown p (mkFrame 7 p.addr kindNotice cls tag pl) s =
      matchNotice p cls (offerNotice (mkFrame 7 p.addr kindNotice cls tag pl) s) := by
  rw [receiveDown_up s p (mkFrame 7 p.addr kindNotice cls tag pl) h lk (mkFrame_ok _ _ _ _ _ _ l (by decide)) rfl]
  unfold route
  have s2 : (mkFrame 7 p.addr kindNotice cls tag pl).kind = kindNotice := rfl
  have s3 : (mkFrame 7 p.addr kindNotice cls tag pl).dest = 7 := rfl
  rw [s2, s3, if_neg (by simp), if_neg (by simp [kindNotice, kindReply]), if_pos ⟨rfl, rfl⟩]; rfl

theorem receiveDown_boardReply (s : State) (p : Port) (cls tag : Byte) (pl : List Byte) (h : s.Up)
    (lk : (s.port p).link = .up) (l : pl.length ≤ 60) :
    receiveDown p (mkFrame 7 p.addr kindReply cls tag pl) s = boardReplyTaken p (mkFrame 7 p.addr kindReply cls tag pl) s :=
        by
  rw [receiveDown_up s p (mkFrame 7 p.addr kindReply cls tag pl) h lk (mkFrame_ok _ _ _ _ _ _ l (by decide)) rfl]
  unfold route
  have s2 : (mkFrame 7 p.addr kindReply cls tag pl).kind = kindReply := rfl
  have s3 : (mkFrame 7 p.addr kindReply cls tag pl).dest = 7 := rfl
  rw [s2, s3, if_neg (by simp), if_pos ⟨rfl, rfl⟩]

theorem railOfTag_railTag : ∀ r : RailId, railOfTag (byteOf (0xC0 + r.val)) = some r := by decide

theorem receiveDown_railReply (s : State) (p : Port) (cls : Byte) (r : RailId) (pl : List Byte) (h : s.Up)
    (lk : (s.port p).link = .up) (l : pl.length ≤ 60) :
    receiveDown p (mkFrame 0 p.addr kindReply cls (byteOf (0xC0 + r.val)) pl) s = railReply r pl s := by
  unfold receiveDown; rw [if_neg (by rw [h.running]; simp), lk]; simp only []
  rw [mkFrame_ok _ _ _ _ _ _ l (by decide)]
  have s1 : (mkFrame 0 p.addr kindReply cls (byteOf (0xC0 + r.val)) pl).src = p.addr := rfl
  have s2 : (mkFrame 0 p.addr kindReply cls (byteOf (0xC0 + r.val)) pl).kind = kindReply := rfl
  have s3 : (mkFrame 0 p.addr kindReply cls (byteOf (0xC0 + r.val)) pl).dest = 0 := rfl
  have s4 : (mkFrame 0 p.addr kindReply cls (byteOf (0xC0 + r.val)) pl).payload = pl := rfl
  have s5 : (mkFrame 0 p.addr kindReply cls (byteOf (0xC0 + r.val)) pl).tag = byteOf (0xC0 + r.val) := rfl
  rw [s1]; simp only [Bool.not_true, bne_self_eq_false, Bool.or_self, Bool.false_eq_true, if_false]
  unfold route
  rw [s2, s3, s4, s5, if_pos ⟨rfl, rfl⟩, railOfTag_railTag]

theorem capabilityFrame_ok (p : Port) (tag : Byte) (pl : List Byte) (l : pl.length ≤ 60) :
    (mkFrame 0 p.addr kindCapability 0 tag pl).ok = true :=
  mkFrame_ok _ _ _ _ _ _ l (by decide)

theorem receiveDown_capability (s : State) (p : Port) (tag : Byte) (pl : List Byte) (c : Capability) (h : s.Up)
    (lk : (s.port p).link = .up) (l : pl.length ≤ 60) (d : decCapability pl = some c) :
    receiveDown p (mkFrame 0 p.addr kindCapability 0 tag pl) s = unsolicited p c s := by
  rw [receiveDown_up s p _ h lk (capabilityFrame_ok p tag pl l) rfl]
  unfold route
  have s2 : (mkFrame 0 p.addr kindCapability 0 tag pl).kind = kindCapability := rfl
  have s3 : (mkFrame 0 p.addr kindCapability 0 tag pl).dest = 0 := rfl
  have s4 : (mkFrame 0 p.addr kindCapability 0 tag pl).payload = pl := rfl
  rw [s2, s3, s4]
  rw [if_neg (by rintro ⟨h, _⟩; exact absurd h (by decide)), if_neg (by rintro ⟨h, _⟩; exact absurd h (by decide)),
    if_neg (by rintro ⟨h, _⟩; exact absurd h (by decide)), if_pos ⟨rfl, rfl⟩]
  unfold capability; rw [d]

/-- The rails of a port that are listed, or not listed, among these identifiers. -/
theorem mem_portRails (s : State) (p : Port) (ids : List (Fin 32)) (b : Bool) (r : RailId) :
    r ∈ s.portRails p ids b ↔ (s.rail r).static.used = true ∧ ∃ i on off, (s.rail r).static.path = .board p i on off ∧
      ids.contains i = b := by
  unfold State.portRails
  simp only [allRails, List.mem_filter, List.mem_finRange, true_and, Bool.and_eq_true]
  refine and_congr_right fun _ => ?_
  unfold RailStatic.boardId?
  cases h : (s.rail r).static.path with
  | onPart e => simp
  | board q i on off =>
    dsimp only
    rw [Bool.and_eq_true, beq_iff_eq, beq_iff_eq]
    constructor
    · rintro ⟨a, b⟩; subst a; exact ⟨i, on, off, rfl, b⟩
    · rintro ⟨_, _, _, a, b⟩; cases a; exact ⟨rfl, b⟩

/-- The places that a list of frames gives back. -/
theorem foldl_releaseEntry (l : List UpEntry) (s : State) (h : ∀ e ∈ l, e.reset = false) :
    l.foldl (fun s e => releaseEntry e s) s = { s with
      up := { s.up with replyTaken := s.up.replyTaken - (l.filter (fun x => x.group == .reply)).length }
      takeDue := s.takeDue || l.any (fun x => x.group == .reply) } := by
  induction l generalizing s with
  | nil => simp
  | cons e l ih =>
    simp only [List.foldl_cons]
    rw [ih _ (fun x hx => h x (List.mem_cons_of_mem _ hx))]
    unfold releaseEntry
    rw [h e (List.mem_cons_self)]
    simp only [Bool.false_eq_true, if_false]
    cases g : e.group
    · simp [g, Nat.sub_sub, Nat.add_comm]
    · simp [g, show (PlaceGroup.notice == PlaceGroup.reply) = false from rfl]
    · simp [g, show (PlaceGroup.attention == PlaceGroup.reply) = false from rfl]

end Sys2Proof.Machine
end

