-- ==== Sys2Proof/Laws/Faults.lean ====
section
/-! SUPPORT. Entry into FAULT and what it hands on (R4, R8, R21): where no dependent is up, no claim is held and no
FAULT_ACTION is named. -/

namespace Sys2Proof.Machine

/-- A state that holds nothing and runs no rail step stays so while those parts do. -/
theorem calm_congr {s t : State} (h : s.Calm) (a : t.agenda = s.agenda) (b : t.takeDue = s.takeDue) (c : t.phase = s.phase)
    (d : t.fwd = s.fwd) (e : t.seq = s.seq) : t.Calm :=
  { settled := ⟨a.trans h.settled.1, b.trans h.settled.2⟩
    running := c.trans h.running
    noHold := by rw [d]; exact h.noHold
    noRailStep := noRailStep_of e h.noRailStep }

theorem railState_used {s : State} {r : RailId} (h : (s.rail r).static.used = true) : s.railState r = (s.rail r).dyn.state := by
  unfold State.railState; rw [h]; rfl

theorem isUp_iff (x : RailState) : x.isUp = true ↔ x = .rising ∨ x = .on := by cases x <;> decide

theorem isUp_no (x : RailState) (a : x ≠ .rising) (b : x ≠ .on) : x.isUp = false := by cases x <;> simp_all [RailState.isUp]

theorem mem_dependents (v : State) (r : RailId) (q : RailId) : q ∈ v.dependents r ↔ (v.rail q).static.used = true ∧ inSet
    (v.rail q).static.prereqs r = true := by
  unfold State.dependents; simp [allRails]

/-- No dependent of a rail is up. -/
theorem dependents_down {s : State} (r : RailId)
    (h : ∀ d, (s.rail d).static.used = true → inSet (s.rail d).static.prereqs r = true →
      (s.rail d).dyn.state ≠ .rising ∧ (s.rail d).dyn.state ≠ .on) :
    ∀ q ∈ s.dependents r, (s.railState q).isUp = false := by
  intro q hq
  unfold State.dependents at hq
  simp only [allRails, List.mem_filter, List.mem_finRange, true_and, Bool.and_eq_true] at hq
  have := h q hq.1 hq.2
  unfold State.railState; rw [hq.1]; simp only [if_true]
  unfold RailState.isUp; simp [this.1, this.2]

theorem calm_enterState {s : State} (h : s.Calm) (r : RailId) (st : RailState) : (enterState r st s).Calm :=
  calm_congr h (by simp) (by simp) (by simp) (by simp) (by simp)

theorem dependents_down_enterState {s : State} (r : RailId) (st : RailState) (st' : st.isUp = false)
    (h : ∀ d, (s.rail d).static.used = true → inSet (s.rail d).static.prereqs r = true →
      (s.rail d).dyn.state ≠ .rising ∧ (s.rail d).dyn.state ≠ .on) :
    ∀ q ∈ (enterState r st s).dependents r, ((enterState r st s).railState q).isUp = false := by
  apply dependents_down
  have m := movedTo_enterState r st s
  intro d u i
  by_cases q : d = r
  · subst q; rw [m.rail]; constructor <;> (intro c; simp at c; subst c; revert st'; decide)
  · rw [m.others d q] at *; exact h d u i

theorem calm_raise (k : EventKind) {s : State} (h : s.Calm) : (raise k s).Calm := calm_congr h (by simp) (by simp) (by simp)
    (by simp) (by simp)

/-- A report of a rail with nothing that waits for it does nothing. -/
theorem settle_report_done {u : State} (uc : u.Calm) (r : RailId) : settle 65536 (u.todo [.report r .state]) = u := by
  show settle (65533 + 3) _ = _
  rw [settle_report_calm _ _ _ _ uc.settled.1 uc.noHold uc.noRailStep]; exact settle_done _ uc.settled

/-- A rail that enters FAULT moves there, with its cause. -/
theorem movedTo_fault (r : RailId) (ca : FaultCause) (u v : State)
    (hv : v = modDyn r (fun d => { d with faultCause := some ca }) (enterState r .fault u)) :
    State.MovedTo r .fault none (some ca) u v := by
  have mv := movedTo_enterState r .fault u
  have vr : v.rail r = { u.rail r with dyn := { (u.rail r).dyn with
      state := .fault, timer := none, heldGood := false, faultCause := some ca } } := by
    rw [hv, rail_modDyn_self, mv.rail]; rfl
  constructor
  · rw [vr]; rfl
  · intro q h; rw [hv, rail_modDyn, if_neg h, mv.others q h]
  · intro e h; rw [hv]; exact mv.enable e h
  · intro p i a b h; rw [hv]; exact mv.noEnable p i a b h
  · intro h; rw [hv]; exact mv.noDischarge h
  · intro o h; rw [hv]; exact mv.bleed o h
  · intro o n h; rw [hv]; exact mv.force o n h
  · intro k; rw [hv, chan_modDyn]; exact mv.channels k

theorem fault_rest (r : RailId) (ca : FaultCause) (u : State) :
    { modDyn r (fun d => { d with faultCause := some ca }) (enterState r .fault u) with
      rails := u.rails, en := u.en, dis := u.dis, chans := u.chans } = u := by
  have := enterState_rest r .fault u
  apply State.ext <;> simp [modDyn, setRail]

theorem riseTimeout_eq (s u : State) (r : RailId) (due : Time) (c : ChannelId) (us : (s.rail r).static.used = true)
    (ti : (s.rail r).dyn.timer = some due) (se : (s.rail r).static.sense = some c) (st : (s.rail r).dyn.state = .rising)
    (hu : u = { s with now := max s.now due }) :
    riseTimeout r s = enterFault r .riseTimeout u := by
  unfold riseTimeout; rw [ti]; simp only []
  rw [if_pos ⟨(railState_used us).trans st, by rw [se]; simp⟩, hu]; rfl

/-- No OFF frame follows a rail of the part, or one whose path is lost. -/
theorem followOff_none {u v : State} {r : RailId} {ca : Option FaultCause} {st : RailState} {ti}
    (mv : State.MovedTo r st ti ca u v) (ps : v.ports = u.ports)
    (h : ∀ p i on off, (u.rail r).static.path = .board p i on off → u.pathAvailable r = false) : followOff r v = v := by
  have rs : (v.rail r).static = (u.rail r).static := by rw [mv.rail]
  unfold followOff State.isBoard RailStatic.port?
  rw [rs]
  cases k : (u.rail r).static.path with
  | onPart e => rfl
  | board p i on off =>
    have := h p i on off k
    have : v.pathAvailable r = false := by
      rw [← this]; unfold State.pathAvailable; rw [rs]; unfold State.isUp State.agreedRails State.port; rw [ps]
    rw [this]; rfl

/-- What entry into FAULT hands on, in order. -/
theorem enterFault_todo (r : RailId) (ca : FaultCause) (u v w : State)
    (hv : v = modDyn r (fun d => { d with faultCause := some ca }) (enterState r .fault u)) (fo : followOff r v = w)
    (wa : w.agenda = []) :
    enterFault r ca u = w.todo [.report r .state, .faultClaim r, .raise .railFault, .cascade r 0, .faultAction r] := by
  unfold enterFault; simp only []; rw [← hv, fo, later_eq_todo wa]; rfl

theorem dependents_down_fault {u v : State} {r : RailId} {ca : Option FaultCause}
    (mv : State.MovedTo r .fault none ca u v)
    (dp : ∀ d, (u.rail d).static.used = true → inSet (u.rail d).static.prereqs r = true →
      (u.rail d).dyn.state ≠ .rising ∧ (u.rail d).dyn.state ≠ .on) :
    ∀ q ∈ v.dependents r, (v.railState q).isUp = false := by
  apply dependents_down; intro d
  by_cases q : d = r
  · subst q; rw [mv.rail]; intro _ _; constructor <;> simp
  · rw [mv.others d q]; exact dp d

/-- What is left of an entry into FAULT once the claim has been looked at. -/
theorem settle_fault_tail (n : Nat) (ws : List Work) (r : RailId) {v : State} (hs : v.Settled)
    (dp : ∀ q ∈ v.dependents r, (v.railState q).isUp = false) (fa : (v.rail r).static.faultAction = none) :
    settle (n + 3) (v.todo ([.raise .railFault, .cascade r 0, .faultAction r] ++ ws)) =
      settle n ((raise .railFault v).todo ws) := by
  have rs : (raise .railFault v).Settled := settled_raise _ hs
  have rr : ∀ q, (raise .railFault v).rail q = v.rail q := by intro q; unfold State.rail; rw [raise_rails]
  have act : handle (.faultAction r) (raise .railFault v) = raise .railFault v := by
    show faultAction r _ = _
    unfold faultAction; rw [rr, fa]
  simp only [List.cons_append, List.nil_append]
  rw [settle_raise _ _ _ hs.1, settle_cascade_none _ _ _ _ rs.1, settle_plain _ (.faultAction r) _ rs.1 rfl act rs.1]
  intro q hq
  have hd : (raise .railFault v).dependents r = v.dependents r := by unfold State.dependents; simp only [rr]
  rw [hd] at hq
  have := dp q hq
  unfold State.railState at *; rw [rr]; exact this

/-- The whole entry into FAULT of such a rail. -/
theorem settle_fault (n : Nat) (ws : List Work) (r : RailId) (ca : FaultCause) {u v : State} (uc : u.Calm)
    (hv : v = modDyn r (fun d => { d with faultCause := some ca }) (enterState r .fault u)) (fo : followOff r v = v)
    (cl : (u.rail r).dyn.claim = .none) (fa : (u.rail r).static.faultAction = none)
    (dp : ∀ d, (u.rail d).static.used = true → inSet (u.rail d).static.prereqs r = true →
      (u.rail d).dyn.state ≠ .rising ∧ (u.rail d).dyn.state ≠ .on) :
    settle (n + 7) ((enterFault r ca u).todo ([.report r .state, .faultClaim r, .raise .railFault, .cascade r 0,
        .faultAction r] ++ ws)) = settle n ((raise .railFault v).todo ws) := by
  have mv := movedTo_fault r ca u v hv
  have vc : v.Calm := by
    rw [hv]; exact calm_congr (calm_enterState uc r .fault) rfl rfl rfl rfl rfl
  have e : (enterFault r ca u).todo ([.report r .state, .faultClaim r, .raise .railFault, .cascade r 0,
      .faultAction r] ++ ws) = v.todo ([.report r .state, .faultClaim r, .raise .railFault, .cascade r 0,
      .faultAction r] ++ ws) := by
    rw [enterFault_todo r ca u v v hv fo vc.settled.1]; rfl
  rw [e]
  simp only [List.cons_append, List.nil_append]
  show settle (n + 4 + 3) _ = _
  have claim : handle (.faultClaim r) v = v := by
    show faultClaim r v = v
    unfold faultClaim; rw [mv.rail]; simp only [cl]
  rw [settle_report_calm _ _ _ _ vc.settled.1 vc.noHold vc.noRailStep,
    settle_plain _ (.faultClaim r) _ vc.settled.1 rfl claim vc.settled.1]
  exact settle_fault_tail n ws r vc.settled (dependents_down_fault mv dp) (by rw [mv.rail]; exact fa)

end Sys2Proof.Machine
end

