-- ==== Sys2Proof/Laws/Forward.lean ====
section
/-! SUPPORT. A pass over the hold queue entry by entry (R152), and the commit closure (R164). -/

namespace Sys2Proof.Machine

/-- A verdict looks at the rails and the shed level only. -/
theorem verdict_congr {s t : State} (h : t.rails = s.rails) (l : t.fwd.shedLevel = s.fwd.shedLevel)
    (c : Cmd) : t.verdict c = s.verdict c := by
  unfold State.verdict State.shedBlocked State.unmet State.effectReady State.railHeld State.allOn State.dependents
    State.railState State.rail
  rw [h, l]

/-- A state that differs in the ports, the hold and forward queues, and frames added to the upstream queue alone. -/
structure State.PassLike (s t : State) : Prop where
  rest : { t with ports := s.ports, up := { t.up with tx := s.up.tx },
                  fwd := { t.fwd with hold := s.fwd.hold, queues := s.fwd.queues } } = s
  tx : ∃ e, t.up.tx = s.up.tx ++ e

theorem State.PassLike.refl (s : State) : State.PassLike s s := ⟨rfl, [], by simp⟩

theorem State.PassLike.rails {s t : State} (h : State.PassLike s t) : t.rails = s.rails :=
  (congrArg State.rails h.rest : _)

theorem State.PassLike.shed {s t : State} (h : State.PassLike s t) : t.fwd.shedLevel = s.fwd.shedLevel :=
  (congrArg Forwarding.shedLevel (congrArg State.fwd h.rest) : _)

theorem State.PassLike.present {s t : State} (h : State.PassLike s t) : t.up.present = s.up.present :=
  (congrArg Upstream.present (congrArg State.up h.rest) : _)

theorem State.PassLike.trans {s t u : State} (h : State.PassLike s t) (k : State.PassLike t u) : State.PassLike s u := by
  refine ⟨?_, ?_⟩
  · have a := h.rest
    rw [← k.rest] at a; exact a
  · obtain ⟨e, he⟩ := h.tx; obtain ⟨f, hf⟩ := k.tx; exact ⟨e ++ f, by rw [hf, he, List.append_assoc]⟩

theorem passLike_answer (f : Frame) (st : Byte) {s : State} (p : s.up.present = true) :
    State.PassLike s (answer f st s) ∧ (answer f st s).up.tx = s.up.tx ++ [replyEntry (replyFrame f st [])] ∧
      (answer f st s).fwd = s.fwd := by
  have : answer f st s = s.placed (replyEntry (replyFrame f st [])) := placeUp_present _ p
  rw [this]; exact ⟨⟨rfl, _, rfl⟩, rfl, rfl⟩

theorem passLike_toForward (c : Cmd) (s : State) :
    State.PassLike s (toForward c s) ∧
      (∀ q, (toForward c s).queue q = if q = c.port then s.queue q ++ [c] else s.queue q) ∧
      (toForward c s).fwd.hold = s.fwd.hold ∧ (toForward c s).up = s.up := by
  unfold toForward
  obtain ⟨ps, hp⟩ := arbitrate_ports c.port (setQueue c.port (s.queue c.port ++ [c]) s)
  rw [hp]
  refine ⟨⟨rfl, [], by simp⟩, ?_, rfl, rfl⟩
  intro q
  show (setQueue c.port (s.queue c.port ++ [c]) s).queue q = _
  rw [queue_setQueue]; split <;> simp_all

theorem passLike_setHold (q : List HoldEntry) (s : State) : State.PassLike s (setHold q s) := ⟨rfl, [], by simp [setHold]⟩

theorem passOver_keep {s : State} {e : HoldEntry} {x : HoldReason} (l b k) (v : s.verdict e.cmd = .keep x) :
    passOver (e :: l) b k s = passOver l (e.cmd.port :: b) ({ e with reason := x } :: k) s := by
  conv => lhs; unfold passOver
  dsimp only; rw [v]

theorem passOver_refuse {s : State} {e : HoldEntry} {st : Byte} (l b k) (v : s.verdict e.cmd = .refuse st) :
    passOver (e :: l) b k s = passOver l b k (answer e.cmd.frame st s) := by
  conv => lhs; unfold passOver
  dsimp only; rw [v]

theorem passOver_stay {s : State} {e : HoldEntry} (l) (b : List Port) (k) (v : s.verdict e.cmd = .ready)
    (h : e.cmd.port ∈ b ∨ 8 ≤ (s.queue e.cmd.port).length) :
    passOver (e :: l) b k s = passOver l (e.cmd.port :: b) ({ e with reason := .order } :: k) s := by
  conv => lhs; unfold passOver
  dsimp only; rw [v]; dsimp only
  split
  · rfl
  · next n => rw [if_pos]; rcases h with h | h
              · exact absurd (by simpa using h) n
              · exact h

theorem passOver_release {s : State} {e : HoldEntry} (l) (b : List Port) (k) (v : s.verdict e.cmd = .ready)
    (h : e.cmd.port ∉ b) (q : (s.queue e.cmd.port).length < 8) :
    passOver (e :: l) b k s = passOver l b k (toForward e.cmd s) := by
  conv => lhs; unfold passOver
  dsimp only; rw [v]; dsimp only
  rw [if_neg (by simpa using h), if_neg (by simp only [Config.forwardPlaces]; omega)]

/-- Everything that a pass over the rest of the queue can do: the entries that stay and the commands released keep their
order. -/
theorem passOver_spec (l : List HoldEntry) :
    ∀ (b : List Port) (k : List HoldEntry) (s : State), s.up.present = true → State.PassLike s (passOver l b k s) ∧
      (∃ m, (passOver l b k s).fwd.hold = k.reverse ++ m ∧
      (m.map (fun x => (x.cmd, x.deadline))).Sublist (l.map (fun x => (x.cmd, x.deadline)))) ∧
      (∀ p, ∃ r, (passOver l b k s).queue p = s.queue p ++ r ∧
      r.Sublist ((l.map HoldEntry.cmd).filter (fun c => c.port == p))) := by
  induction l with
  | nil =>
    intro b k s p
    unfold passOver
    exact ⟨passLike_setHold _ _, ⟨[], by simp [setHold], by simp⟩, fun p => ⟨[], by simp; rfl, by simp⟩⟩
  | cons e l ih =>
    intro b k s p
    have sub : ∀ (r : List Cmd) q, r.Sublist ((l.map HoldEntry.cmd).filter (fun c => c.port == q)) → r.Sublist
        (((e :: l).map HoldEntry.cmd).filter (fun c => c.port == q)) := by
      intro r q h; simp only [List.map_cons, List.filter_cons]; split
      · exact h.trans (List.sublist_cons_self _ _)
      · exact h
    have stay : ∀ x b', State.PassLike s (passOver l b' ({ e with reason := x } :: k) s) ∧
    (∃ m, (passOver l b' ({ e with reason := x } :: k) s).fwd.hold = k.reverse ++ m ∧ (m.map (fun x => (x.cmd,
        x.deadline))).Sublist ((e :: l).map (fun x => (x.cmd, x.deadline)))) ∧
    (∀ p, ∃ r, (passOver l b' ({ e with reason := x } :: k) s).queue p = s.queue p ++ r ∧ r.Sublist
        (((e :: l).map HoldEntry.cmd).filter (fun c => c.port == p))) := by
      intro x b'
      obtain ⟨a, ⟨m, c, d⟩, f⟩ := ih b' ({ e with reason := x } :: k) s p
      refine ⟨a, ⟨{ e with reason := x } :: m, by rw [c]; simp, ?_⟩, fun q => ?_⟩
      · exact d.cons_cons _
      · obtain ⟨r, y, z⟩ := f q; exact ⟨r, y, sub r q z⟩
    unfold passOver; dsimp only
    cases v : s.verdict e.cmd with
    | keep x => exact stay x _
    | refuse st =>
      dsimp only
      obtain ⟨l1, l2, l3⟩ := passLike_answer e.cmd.frame st p
      obtain ⟨a, ⟨m, c, d⟩, f⟩ := ih b k (answer e.cmd.frame st s) (by rw [l1.present]; exact p)
      refine ⟨l1.trans a, ⟨m, c, d.trans (List.sublist_cons_self _ _)⟩, fun q => ?_⟩
      obtain ⟨r, y, z⟩ := f q
      refine ⟨r, ?_, sub r q z⟩
      rw [y]; unfold State.queue; rw [l3]
    | ready =>
      dsimp only
      split
      · exact stay _ _
      · split
        · exact stay _ _
        · obtain ⟨l1, l2, l3, l4⟩ := passLike_toForward e.cmd s
          obtain ⟨a, ⟨m, c, d⟩, f⟩ := ih b k (toForward e.cmd s) (by rw [l1.present]; exact p)
          refine ⟨l1.trans a, ⟨m, c, d.trans (List.sublist_cons_self _ _)⟩, fun q => ?_⟩
          obtain ⟨r, y, z⟩ := f q
          rw [l2 q] at y
          by_cases h : q = e.cmd.port
          · rw [if_pos h] at y
            refine ⟨e.cmd :: r, by rw [y]; simp, ?_⟩
            simp only [List.map_cons, List.filter_cons]; rw [if_pos (by simp [h])]
            exact z.cons_cons _
          · rw [if_neg h] at y; exact ⟨r, y, sub r q z⟩

theorem mem_insertOrder (c x : Cmd) (l : List Cmd) : x ∈ insertOrder c l ↔ x = c ∨ x ∈ l := by
  induction l with
  | nil => simp [insertOrder]
  | cons y l ih => unfold insertOrder; split <;> grind

theorem mem_foldl_insertOrder (x : Cmd) (l acc : List Cmd) :
    x ∈ l.foldl (fun l c => insertOrder c l) acc ↔ x ∈ l ∨ x ∈ acc := by
  induction l generalizing acc with
  | nil => simp
  | cons y l ih => simp only [List.foldl_cons]; rw [ih, mem_insertOrder]; grind

/-- Commands answered in order, U being present. -/
theorem answerAll_present (l : List Cmd) (st : Byte) (s : State) (u : s.up.present = true) :
    answerAll l st s = { s with
      up := { s.up with tx := s.up.tx ++ l.map (fun c => replyEntry (replyFrame c.frame st [])) } } := by
  induction l generalizing s with
  | nil => simp [answerAll]
  | cons c l ih =>
    have : answerAll (c :: l) st s = answerAll l st (answer c.frame st s) := rfl
    rw [this]; unfold answer; rw [placeUp_present _ u, ih _ (by exact u)]
    simp [State.placed]

/-- What the closure of COMMIT does: every forward queue and the hold queue empty, each command answered. -/
theorem commitClosure_spec (s : State) (up : s.up.present = true) :
    ∃ v : State, commitClosure s = v ∧ (∀ p, v.queue p = [] ∧ v.outs p = s.outs p) ∧ v.fwd.hold = [] ∧
    (∀ p c, c ∈ s.queue p → replyEntry (replyFrame c.frame stRefusedCommit []) ∈ v.up.tx) ∧
    { v with ports := s.ports, fwd := s.fwd, up := s.up } = s ∧ v.fwd.shedLevel = s.fwd.shedLevel ∧
    v.up.present = true := by
  refine ⟨_, rfl, ?_⟩
  unfold commitClosure
  simp only []
  obtain ⟨v, hv⟩ : ∃ v, v = Port.all.foldl (fun s p => setQueue p [] (withdrawForward p s)) (setHold [] s) := ⟨_, rfl⟩
  rw [← hv]
  have vup : v.up = s.up := by rw [hv]; simp [Port.all]
  have vouts : v.fwd.outs = s.fwd.outs := by
    rw [hv]; unfold Port.all; simp only [List.foldl_cons, List.foldl_nil]; simp [setQueue, setHold]
  have vhold : v.fwd.hold = [] := by
    rw [hv]; unfold Port.all; simp only [List.foldl_cons, List.foldl_nil]; simp [setQueue, setHold]
  have vlev : v.fwd.shedLevel = s.fwd.shedLevel := by
    rw [hv]; unfold Port.all; simp only [List.foldl_cons, List.foldl_nil]; simp [setQueue, setHold]
  rw [answerAll_present _ _ _ (by rw [vup]; exact up)]
  refine ⟨fun p => ⟨?_, ?_⟩, ?_, fun p c hc => ?_, ?_, ?_, ?_⟩
  · show v.queue p = []
    rw [hv]; unfold Port.all; simp only [List.foldl_cons, List.foldl_nil]
    have wq : ∀ q r (z : State), (withdrawForward q z).queue r = z.queue r := fun _ _ _ => rfl
    cases p <;> simp [queue_setQueue, wq]
  · show v.outs p = s.outs p
    unfold State.outs; rw [vouts]
  · exact vhold
  · simp only [List.mem_append, List.mem_map]
    right
    refine ⟨c, ?_, rfl⟩
    unfold State.closable
    rw [mem_foldl_insertOrder]
    left
    simp only [List.mem_append, List.mem_flatMap]
    right
    exact ⟨p, by cases p <;> simp [Port.all], hc⟩
  · rw [hv]; apply State.ext <;> simp [Port.all]
  · exact vlev
  · show v.up.present = true
    rw [vup]; exact up

/-- COMMIT and STAGE_CHANGE join the pending set, in either order. -/
theorem commitEvents_spec (s : State) (ph : s.phase = .running) (ai : s.AttnInv) (hs : s.Settled) :
    (commitEvents s).Settled ∧
    (commitEvents s).ev.pending = s.ev.pending ||| EventKind.commit.bit ||| EventKind.stageChange.bit ∧
    { commitEvents s with choices := s.choices, up := s.up, ev := s.ev } = s ∧
    (∀ e ∈ s.up.tx, e ∈ (commitEvents s).up.tx) := by
  have tx1 : ∀ k (z : State), z.phase = .running → ∀ e ∈ z.up.tx, e ∈ (raise k z).up.tx := by
    intro k z zp e he; rw [raise_up k z zp]; split
    · simp [he]
    · exact he
  have two : ∀ j k (z : State), z.phase = .running → z.AttnInv → z.Settled →
      (raise j (raise k z)).Settled ∧ (raise j (raise k z)).ev.pending = z.ev.pending ||| k.bit ||| j.bit ∧
      { raise j (raise k z) with up := z.up, ev := z.ev } = z ∧ (∀ e ∈ z.up.tx, e ∈ (raise j (raise k z)).up.tx) := by
    intro j k z zp za zs
    have p2 : (raise k z).phase = .running := by rw [raise_phase]; exact zp
    refine ⟨settled_raise _ (settled_raise _ zs), ?_, ?_, fun e he => tx1 _ _ p2 _ (tx1 _ _ zp _ he)⟩
    · rw [raise_ev j _ p2 (attnInv_raise k z za), raise_ev k z zp za]
    · apply State.ext <;> simp
  have cm : ∀ a b c : Word16, a ||| b ||| c = a ||| c ||| b :=
    fun a b c => by rw [BitVec.or_assoc, BitVec.or_comm b c, ← BitVec.or_assoc]
  unfold commitEvents
  simp only []
  split
  · obtain ⟨d, hd⟩ : ∃ d, d = draw s := ⟨_, rfl⟩
    rw [← hd]
    have dp : d.phase = .running := by rw [hd]; exact ph
    have da : d.AttnInv := by rw [hd]; exact ai
    have ds : d.Settled := by rw [hd]; exact hs
    split
    · obtain ⟨a, b, c, e⟩ := two .stageChange .commit d dp da ds
      refine ⟨a, by rw [b, hd]; rfl, ?_, by rw [hd] at e ⊢; exact e⟩
      have := congrArg (fun z : State => { z with choices := s.choices }) c
      rw [hd] at this ⊢; exact this
    · obtain ⟨a, b, c, e⟩ := two .commit .stageChange d dp da ds
      refine ⟨a, by rw [b, hd]; exact cm _ _ _, ?_, by rw [hd] at e ⊢; exact e⟩
      have := congrArg (fun z : State => { z with choices := s.choices }) c
      rw [hd] at this ⊢; exact this
  · obtain ⟨a, b, c, e⟩ := two .stageChange .commit s ph ai hs
    refine ⟨a, b, ?_, e⟩
    apply State.ext <;> simp

/-! ### A pass in its event -/

/-- What a pass leaves (R152). -/
theorem passLike_rescan {s : State} (p : s.up.present = true) : State.PassLike s (rescan s) :=
  (passOver_spec s.fwd.hold [] [] s p).1

theorem State.PassLike.agenda {s t : State} (h : State.PassLike s t) : t.agenda = s.agenda :=
  (congrArg State.agenda h.rest : _)

theorem State.PassLike.takeDue {s t : State} (h : State.PassLike s t) : t.takeDue = s.takeDue :=
  (congrArg State.takeDue h.rest : _)

theorem State.PassLike.seq {s t : State} (h : State.PassLike s t) : t.seq = s.seq :=
  (congrArg State.seq h.rest : _)

theorem State.PassLike.sched {s t : State} (h : State.PassLike s t) : t.sched = s.sched :=
  (congrArg State.sched h.rest : _)

theorem settled_rescan {s : State} (h : s.Settled) (p : s.up.present = true) : (rescan s).Settled :=
  ⟨(passLike_rescan p).agenda.trans h.1, (passLike_rescan p).takeDue.trans h.2⟩

theorem settle_rescan (n : Nat) (ws : List Work) {s : State} (h : s.Settled) (p : s.up.present = true) :
    settle (n + 1) (s.todo (.pass :: ws)) = settle n ((rescan s).todo ws) :=
  settle_plain n _ ws h.1 rfl rfl (settled_rescan h p).1

/-- A rail's report where no rail step runs makes one pass, whatever is held and whichever unit hears first (R7, R151;
log 6). -/
theorem settle_report_passes (n : Nat) (r : RailId) (k : ReportKind) (ws : List Work) {s : State} (h : s.Settled)
    (p : s.up.present = true) (c : ∀ c, s.seq.ctx = some c → (s.stepAt c.index).kind.rail? = none) :
    ∃ m, (s.seq.ctx = none ∨ s.fwd.hold = [] → m = s.choices) ∧
      settle (n + 3) (s.todo (.report r k :: ws)) = settle n ((rescan { s with choices := m }).todo ws) := by
  have key : ∀ m, settle (n + 2) (State.todo { s with choices := m } (.pass :: .seqRail r k :: ws)) =
        settle n ((rescan { s with choices := m }).todo ws) ∧
      settle (n + 2) (State.todo { s with choices := m } (.seqRail r k :: .pass :: ws)) =
        settle n ((rescan { s with choices := m }).todo ws) := by
    intro m
    have hs : ({ s with choices := m } : State).Settled := h
    have hr := settled_rescan hs p
    have q1 : seqRail r k (rescan { s with choices := m }) = rescan { s with choices := m } :=
      seqRail_calm (noRailStep_of (s := s) (passLike_rescan (s := { s with choices := m }) p).seq c) r k
    have q2 : seqRail r k { s with choices := m } = { s with choices := m } :=
      seqRail_calm (noRailStep_of (s := s) (t := { s with choices := m }) rfl c) r k
    refine ⟨?_, ?_⟩
    · rw [settle_rescan (n + 1) _ hs p, settle_plain n (.seqRail r k) ws hr.1 rfl q1 hr.1]
    · rw [settle_plain (n + 1) (.seqRail r k) _ hs.1 rfl q2 hs.1, settle_rescan n ws hs p]
  rw [settle_todo _ _ _ h.1 rfl]
  have e : handle (.report r k) s = report r k s := rfl
  rw [e]
  unfold report
  by_cases g : (s.fwd.hold.isEmpty || s.seq.ctx.isNone) = true
  · rw [if_pos g]
    have : later (.seqRail r k) (later .pass s) = s.todo [.pass, .seqRail r k] := by rw [later_eq_todo h.1]; rfl
    rw [this]
    exact ⟨s.choices, fun _ => rfl, (key s.choices).1⟩
  · rw [if_neg g]
    refine ⟨s.choices + 1, fun a => absurd (by rcases a with a | a <;> simp [a]) g, ?_⟩
    have da : (draw s).agenda = [] := h.1
    by_cases f : Config.forwardingFirst s.choices = true
    · rw [if_pos f]
      have : later (.seqRail r k) (later .pass (draw s)) = (draw s).todo [.pass, .seqRail r k] := by
        rw [later_eq_todo da]; rfl
      rw [this]; exact (key _).1
    · rw [if_neg f]
      have : later .pass (later (.seqRail r k) (draw s)) = (draw s).todo [.seqRail r k, .pass] := by
        rw [later_eq_todo da]; rfl
      rw [this]; exact (key _).2

end Sys2Proof.Machine
end

