-- ==== Sys2Proof/Laws/Invariant.lean ====
section
/-! SUPPORT. What every operation keeps: the two invariants of a step (R121, R141, R76, R49, R167), one lemma for each
operation; the last lemmas carry them through a whole event. -/

namespace Sys2Proof.Machine

set_option Elab.async false

/-- The two invariants, each carried only where it is asked for. -/
structure State.Sound (A B : Prop) (s : State) : Prop where
  attn : A → s.AttnInv
  bounds : B → s.BoundsInv

variable {A B : Prop}

theorem noticesTaken_of {s t : State} (a : t.up.tx = s.up.tx) (b : t.up.line = s.up.line) :
    t.noticesTaken = s.noticesTaken := by unfold State.noticesTaken; rw [a, b]

theorem attentionsTaken_of {s t : State} (a : t.up.tx = s.up.tx) (b : t.up.line = s.up.line) :
    t.attentionsTaken = s.attentionsTaken := by unfold State.attentionsTaken; rw [a, b]

/-- The upstream transmit queue, its transmitter and the reply places are those of `s`. -/
def State.SameUp (s t : State) : Prop :=
  t.up.tx = s.up.tx ∧ t.up.line = s.up.line ∧ t.up.replyTaken = s.up.replyTaken

theorem sameUp_of {s t : State} (h : t.up = s.up) : s.SameUp t := by rw [State.SameUp, h]; exact ⟨rfl, rfl, rfl⟩

/-- A port sends a forwarded command only where it did or where an outstanding place is free (R138). -/
def State.GrantsFit (s t : State) : Prop :=
  ∀ p, (t.port p).owner = some .forward → (s.port p).owner = some .forward ∨ (s.outs p).length < 4

theorem grantsFit_of {s t : State} (h : t.ports = s.ports) : s.GrantsFit t := by
  intro p e; rw [State.port, h] at e; exact .inl e

/-- What the bounds rest on stays, but for what the ports send. -/
theorem State.BoundsInv.of {s t : State} (h : s.BoundsInv) (c : t.up.rx = s.up.rx)
    (d : t.sched.queue = s.sched.queue) (e : t.fwd.hold = s.fwd.hold) (f : t.seq.tagCounter = s.seq.tagCounter)
    (g : s.SameUp t) (q : t.fwd.queues = s.fwd.queues) (o : t.fwd.outs = s.fwd.outs) (p : s.GrantsFit t) :
    t.BoundsInv where
  receive := by rw [c]; exact h.receive
  requests := by rw [d]; exact h.requests
  hold := by rw [e]; exact h.hold
  tag := by rw [f]; exact h.tag
  forward := by intro p; rw [State.queue, q]; exact h.forward p
  outstanding := by intro p; rw [State.outs, o]; exact h.outstanding p
  granted := by
    intro r z; rw [State.outs, o]
    rcases p r z with k | k
    · exact h.granted r k
    · exact k
  replies := by rw [g.2.2]; exact h.replies
  notices := by rw [noticesTaken_of g.1 g.2.1]; exact h.notices
  attention := by rw [attentionsTaken_of g.1 g.2.1]; exact h.attention

theorem State.BoundsInv.same {s t : State} (h : s.BoundsInv) (u : t.up = s.up) (d : t.sched.queue = s.sched.queue)
    (e : t.fwd.hold = s.fwd.hold) (f : t.seq.tagCounter = s.seq.tagCounter) (q : t.fwd.queues = s.fwd.queues)
    (o : t.fwd.outs = s.fwd.outs) (p : t.ports = s.ports) : t.BoundsInv :=
  h.of (by rw [u]) d e f (sameUp_of u) q o (grantsFit_of p)

theorem State.Sound.of {s t : State} (h : s.Sound A B) (a : t.phase = s.phase) (b : t.ev = s.ev)
    (c : t.up.rx = s.up.rx)
    (d : t.sched.queue = s.sched.queue) (e : t.fwd.hold = s.fwd.hold) (f : t.seq.tagCounter = s.seq.tagCounter)
    (g : s.SameUp t := by first | exact ⟨rfl, rfl, rfl⟩ | exact sameUp_of (by simp))
    (q : t.fwd.queues = s.fwd.queues := by first | rfl | simp) (o : t.fwd.outs = s.fwd.outs := by first | rfl | simp)
    (p : s.GrantsFit t := by first | exact grantsFit_of rfl | exact grantsFit_of (by simp)) : t.Sound A B := by
  refine ⟨fun x => ?_, fun y => (h.bounds y).of c d e f g q o p⟩
  obtain ⟨h1, h2⟩ := h.attn x
  exact ⟨by rw [a, b]; exact h1, by rw [a, b]; exact h2⟩

@[simp] theorem sound_later (w : Work) {s : State} (h : s.Sound A B) : (later w s).Sound A B :=
  h.of (by simp) (by simp) (by simp) (by simp) (by simp) (by simp)
@[simp] theorem sound_advance (t : Time) {s : State} (h : s.Sound A B) : (advance t s).Sound A B :=
  h.of (by simp) (by simp) (by simp) (by simp) (by simp) (by simp)
@[simp] theorem sound_draw {s : State} (h : s.Sound A B) : (draw s).Sound A B :=
  h.of (by simp) (by simp) (by simp) (by simp) (by simp) (by simp)
@[simp] theorem sound_setRail (r : RailId) (x : Rail) {s : State} (h : s.Sound A B) : (setRail r x s).Sound A B :=
  h.of (by simp) (by simp) (by simp) (by simp) (by simp) (by simp)
@[simp] theorem sound_modDyn (r : RailId) (f : RailDynamic → RailDynamic) {s : State} (h : s.Sound A B) :
    (modDyn r f s).Sound A B :=
  h.of (by simp) (by simp) (by simp) (by simp) (by simp) (by simp)
/-- A port record changed so that it sends no forwarded command that it did not send. -/
theorem grantsFit_modPort (p : Port) {f : PortRec → PortRec} {s : State}
    (k : (f (s.port p)).owner = some .forward → (s.port p).owner = some .forward ∨ (s.outs p).length < 4) :
    s.GrantsFit (modPort p f s) := by
  intro q e; rw [port_modPort] at e; split at e
  · next z => subst z; exact k e
  · exact .inl e

theorem sound_portFit (p : Port) {f : PortRec → PortRec} {s : State} (h : s.Sound A B)
    (k : (f (s.port p)).owner = some .forward → (s.port p).owner = some .forward ∨ (s.outs p).length < 4) :
    (modPort p f s).Sound A B :=
  h.of (by simp) (by simp) (by simp) (by simp) (by simp) (by simp) (p := grantsFit_modPort p k)

theorem owner_line {x y : PortRec} (h : x.line = y.line) : x.owner = y.owner := by unfold PortRec.owner; rw [h]

@[simp] theorem sound_modPort (p : Port) (f : PortRec → PortRec) (k : ∀ x, (f x).line = x.line) {s : State}
    (h : s.Sound A B) : (modPort p f s).Sound A B :=
  sound_portFit p h (fun e => .inl (by rw [owner_line (k _)] at e; exact e))
@[simp] theorem sound_setChan (c : ChannelId) (x : Channel) {s : State} (h : s.Sound A B) : (setChan c x s).Sound A B
    :=
  h.of (by simp) (by simp) (by simp) (by simp) (by simp) (by simp)
@[simp] theorem sound_setQueue (p : Port) (q : List Cmd) {s : State} (h : s.Sound A B)
    (l : q.length ≤ (s.queue p).length) : (setQueue p q s).Sound A B := by
  refine ⟨h.attn, fun b => { h.bounds b with forward := ?_ }⟩
  intro r; rw [queue_setQueue]; split
  · next z => subst z; exact Nat.le_trans l ((h.bounds b).forward _)
  · exact (h.bounds b).forward r
@[simp] theorem sound_setOuts (p : Port) (q : List OutEntry) {s : State} (h : s.Sound A B)
    (l : q.length ≤ (s.outs p).length) : (setOuts p q s).Sound A B := by
  refine ⟨h.attn, fun b => { h.bounds b with outstanding := ?_, granted := ?_ }⟩
  · intro r; rw [outs_setOuts]; split
    · next z => subst z; exact Nat.le_trans l ((h.bounds b).outstanding _)
    · exact (h.bounds b).outstanding r
  · intro r e
    have k := (h.bounds b).granted r e
    rw [outs_setOuts]; split
    · next z => subst z; exact Nat.lt_of_le_of_lt l k
    · exact k
@[simp] theorem sound_refillPlaces (p : Port) {s : State} (h : s.Sound A B) : (refillPlaces p s).Sound A B := by
  unfold refillPlaces; simp [h]
theorem nextClaimant_forward {s : State} {p : Port} (h : s.nextClaimant p = some .forward) :
    (s.outs p).length < 4 := by
  have k : s.headEligible p = true := by
    unfold State.nextClaimant at h; dsimp only at h
    split at h
    · rename_i c; simp at c; exact c.1
    · repeat' split at h
      all_goals first | assumption | (simp at h; done) | trivial
  unfold State.headEligible at k; simp at k; exact k.1.2
@[simp] theorem sound_arbitrate (p : Port) {s : State} (h : s.Sound A B) : (arbitrate p s).Sound A B := by
  unfold arbitrate; dsimp only; split
  · split
    · rename_i c e
      unfold grant; split
      · exact h
      · refine sound_refillPlaces p (sound_portFit p h (fun k => .inr ?_))
        simp [PortRec.owner] at k
        subst k; exact nextClaimant_forward e
    · exact h
  · exact h
@[simp] theorem sound_offerRail (r : RailId) {s : State} (h : s.Sound A B) : (offerRail r s).Sound A B := by
  unfold offerRail
  repeat' split
  all_goals simp (maxDischargeDepth := 12) [h]
theorem disown_forward {x : PortRec} (h : x.disown.owner = some .forward) : x.owner = some .forward := by
  unfold PortRec.disown at h; split at h
  · simp [PortRec.owner] at h
  · exact h
@[simp] theorem sound_withdrawRail (r : RailId) {s : State} (h : s.Sound A B) : (withdrawRail r s).Sound A B := by
  unfold withdrawRail; split
  · refine sound_arbitrate _ (sound_refillPlaces _ (sound_portFit _ h ?_))
    dsimp only; split
    · exact fun k => .inl (by have z := disown_forward k; exact z)
    · exact fun k => .inl k
  · exact h
@[simp] theorem sound_offerSeq (p : Port) (f : SeqFrame) {s : State} (h : s.Sound A B) : (offerSeq p f s).Sound A B :=
  sound_arbitrate p (sound_modPort p _ (fun x => by split <;> rfl) h)
theorem nextSeq_line (x : PortRec) : x.nextSeq.line = x.line := by unfold PortRec.nextSeq; split <;> rfl
@[simp] theorem sound_withdrawSend (p : Port) {s : State} (h : s.Sound A B) : (withdrawSend p s).Sound A B := by
  refine sound_arbitrate p (sound_portFit p h ?_)
  dsimp only
  split
  · split
    · exact fun k => .inl k
    · intro k
      rw [owner_line (nextSeq_line _)] at k
      split at k
      · exact .inl (by have z := disown_forward k; exact z)
      · exact .inl k
  · exact fun k => .inl k
@[simp] theorem sound_withdrawSeqAll (p : Port) {s : State} (h : s.Sound A B) : (withdrawSeqAll p s).Sound A B := by
  unfold withdrawSeqAll; simp [h]
@[simp] theorem sound_withdrawForward (p : Port) {s : State} (h : s.Sound A B) : (withdrawForward p s).Sound A B := by
  refine sound_portFit p h ?_
  split
  · exact fun k => .inl (by have z := disown_forward k; exact z)
  · exact fun k => .inl k
@[simp] theorem sound_cutOff (p : Port) {s : State} (h : s.Sound A B) : (cutOff p s).Sound A B := by
  refine sound_portFit p h ?_
  split
  · intro k; simp [PortRec.owner] at k
  · exact fun k => .inl k
@[simp] theorem sound_sendProbe (p : Port) {s : State} (h : s.Sound A B) : (sendProbe p s).Sound A B := by
  unfold sendProbe; simp [h]
@[simp] theorem sound_enterExchange (p : Port) {s : State} (h : s.Sound A B) : (enterExchange p s).Sound A B := by
  unfold enterExchange; simp [h]
@[simp] theorem sound_lookAtPort (p : Port) {s : State} (h : s.Sound A B) :
    (lookAtPort p s).Sound A B := by
  unfold lookAtPort
  try dsimp only
  repeat' split
  all_goals simp (maxDischargeDepth := 12) [h]
@[simp] theorem sound_foldl {α : Type} (f : State → α → State) (hf : ∀ s a, s.Sound A B → (f s a).Sound A B)
    (l : List α) {s : State} (h : s.Sound A B) : (l.foldl f s).Sound A B := by
  induction l generalizing s with
  | nil => exact h
  | cons a l ih => exact ih (hf s a h)
@[simp] theorem sound_lookAtPorts {s : State} (h : s.Sound A B) : (lookAtPorts s).Sound A B :=
  sound_foldl _ (fun _ p h => sound_lookAtPort p h) _ h
@[simp] theorem sound_wake {s : State} (h : s.Sound A B) : (wake s).Sound A B := by
  unfold wake; split
  · exact sound_lookAtPorts (h.of rfl rfl rfl rfl rfl rfl)
  · exact h
@[simp] theorem sound_makeFrame (r : RailId) (a b : Bool) {s : State} (h : s.Sound A B) :
    (makeFrame r a b s).Sound A B := by
  unfold makeFrame
  try dsimp only
  repeat' split
  all_goals simp (maxDischargeDepth := 12) [h]
@[simp] theorem sound_markThenOff (r : RailId) {s : State} (h : s.Sound A B) :
    (markThenOff r s).Sound A B := by
  unfold markThenOff
  try dsimp only
  repeat' split
  all_goals simp (maxDischargeDepth := 12) [h]
@[simp] theorem sound_needOff (r : RailId) (a : Bool) {s : State} (h : s.Sound A B) :
    (needOff r a s).Sound A B := by
  unfold needOff
  try dsimp only
  repeat' split
  all_goals simp (maxDischargeDepth := 12) [h]
@[simp] theorem sound_followOff (r : RailId) {s : State} (h : s.Sound A B) :
    (followOff r s).Sound A B := by
  unfold followOff
  try dsimp only
  repeat' split
  all_goals simp (maxDischargeDepth := 12) [h]
@[simp] theorem sound_clearFrame (r : RailId) {s : State} (h : s.Sound A B) :
    (clearFrame r s).Sound A B := by
  unfold clearFrame
  try dsimp only
  repeat' split
  all_goals simp (maxDischargeDepth := 12) [h]
@[simp] theorem sound_driveOutputs (r : RailId) (st : RailState) {s : State} (h : s.Sound A B) :
    (driveOutputs r st s).Sound A B :=
  h.of (by simp) (by simp) (by simp) (by simp) (by simp) (by simp)
@[simp] theorem sound_enterState (r : RailId) (st : RailState) {s : State} (h : s.Sound A B) :
    (enterState r st s).Sound A B :=
  h.of (by simp) (by simp) (by simp) (by simp) (by simp) (by simp)
@[simp] theorem sound_moveRail (r : RailId) (st : RailState) {s : State} (h : s.Sound A B) :
    (moveRail r st s).Sound A B := by
  unfold moveRail
  try dsimp only
  repeat' split
  all_goals simp (maxDischargeDepth := 12) [h]
@[simp] theorem sound_dropClaim (r : RailId) {s : State} (h : s.Sound A B) : (dropClaim r s).Sound A B := by
  unfold dropClaim
  repeat' split
  all_goals simp (maxDischargeDepth := 12) [h]
@[simp] theorem sound_clearClaimMark (p : Port) (t : Byte) {s : State} (h : s.Sound A B) :
    (clearClaimMark p t s).Sound A B := by
  unfold clearClaimMark; exact sound_setOuts _ _ h (by simp)
@[simp] theorem sound_zeroMarks (c : ChannelId) {s : State} (h : s.Sound A B) : (zeroMarks c s).Sound A B :=
  h.of (by simp) (by simp) (by simp) (by simp) (by simp) (by simp)
@[simp] theorem sound_rebuildMarks {s : State} (h : s.Sound A B) : (rebuildMarks s).Sound A B :=
  h.of (by simp) (by simp) (by simp) (by simp) (by simp) (by simp)
@[simp] theorem sound_refreshRoles {s : State} (h : s.Sound A B) : (refreshRoles s).Sound A B :=
  h.of (by simp) (by simp) (by simp) (by simp) (by simp) (by simp)
@[simp] theorem sound_convTurn (c : ChannelId) {s : State} (h : s.Sound A B) : (convTurn c s).Sound A B :=
  h.of (by simp) (by simp) (by simp) (by simp) (by simp) (by simp)
@[simp] theorem sound_setGuarded (g : Bool) {s : State} (h : s.Sound A B) : (setGuarded g s).Sound A B :=
  h.of (by simp) (by simp) (by simp) (by simp [setGuarded]) (by simp) (by simp)
@[simp] theorem sound_markRunning (m : Bool) {s : State} (h : s.Sound A B) : (markRunning m s).Sound A B :=
  h.of (by simp) (by simp) (by simp) (by simp [markRunning]) (by simp) (by simp)
@[simp] theorem sound_dropped (n : ProgNo) (q : Requester) {s : State} (h : s.Sound A B) : (dropped n q s).Sound A B
    :=
  h.of (by simp) (by simp) (by simp) (by unfold dropped; split <;> simp) (by simp) (by simp)
@[simp] theorem sound_stopTriggers {s : State} (h : s.Sound A B) : (stopTriggers s).Sound A B :=
  h.of (by simp) (by simp) (by simp) (by simp) (by simp) (by simp)
@[simp] theorem sound_startTriggers {s : State} (h : s.Sound A B) : (startTriggers s).Sound A B :=
  h.of (by simp) (by simp) (by simp) (by simp) (by simp) (by simp)
@[simp] theorem sound_endEpisode {s : State} (h : s.Sound A B) : (endEpisode s).Sound A B :=
  h.of (by simp) (by simp) (by simp) (by simp) (by simp) (by simp)
@[simp] theorem sound_askWrite {s : State} (h : s.Sound A B) : (askWrite s).Sound A B :=
  h.of (by simp) (by simp) (by simp) (by simp) (by simp) (by simp)
@[simp] theorem sound_setStore (x : Store) {s : State} (h : s.Sound A B) : (setStore x s).Sound A B :=
  h.of (by simp) (by simp) (by simp) (by simp) (by simp) (by simp)
@[simp] theorem sound_setRtu (x : RideThrough) {s : State} (h : s.Sound A B) : (setRtu x s).Sound A B :=
  h.of (by simp) (by simp) (by simp) (by simp) (by simp) (by simp)
@[simp] theorem sound_setLine (l : LineMonitor) {s : State} (h : s.Sound A B) : (setLine l s).Sound A B :=
  h.of (by simp) (by simp) (by simp) (by simp) (by simp) (by simp)
@[simp] theorem sound_setRunning (x : Option Running) {s : State} (h : s.Sound A B) : (setRunning x s).Sound A B :=
  h.of (by simp) (by simp) (by simp) (by simp) (by simp) (by simp)
@[simp] theorem sound_setResult (x : Result) {s : State} (h : s.Sound A B) : (setResult x s).Sound A B :=
  h.of (by simp) (by simp) (by simp) (by simp) (by simp) (by simp)
@[simp] theorem sound_beginGroup (g : Fin 5) {s : State} (h : s.Sound A B) : (beginGroup g s).Sound A B :=
  h.of (by simp) (by simp) (by simp) (by simp) (by simp) (by simp)
@[simp] theorem sound_beginSave {s : State} (h : s.Sound A B) : (beginSave s).Sound A B :=
  h.of (by simp) (by simp) (by simp) (by simp) (by simp) (by simp)
@[simp] theorem sound_abandonSave (c : AbandonCause) {s : State} (h : s.Sound A B) : (abandonSave c s).Sound A B :=
  h.of (by simp) (by simp) (by simp) (by simp) (by simp) (by simp)
@[simp] theorem sound_startPulse (p : Port) {s : State} (h : s.Sound A B) :
    (startPulse p s).Sound A B := by
  unfold startPulse
  try dsimp only
  repeat' split
  all_goals simp (maxDischargeDepth := 12) [h]
@[simp] theorem sound_leaveExchange (p : Port) (target : LinkState) {s : State} (h : s.Sound A B) :
    (leaveExchange p target s).Sound A B := by
  unfold leaveExchange
  try dsimp only
  repeat' split
  all_goals simp (maxDischargeDepth := 12) [h]
@[simp] theorem sound_setAgreed (p : Port) (o : List RailId × List RailId) (a : Agreed) {s : State} (h : s.Sound A B) :
    (setAgreed p o a s).Sound A B := by
  unfold setAgreed
  try dsimp only
  repeat' split
  all_goals simp (maxDischargeDepth := 12) [h]
@[simp] theorem sound_putRail (r : RailId) (x : RailStatic) {s : State} (h : s.Sound A B) : (putRail r x s).Sound A B
    :=
  h.of (by simp) (by simp) (by simp) (by simp) (by simp) (by simp)
/-- A change of the upstream places within their bounds. -/
theorem State.BoundsInv.ofUp {s t : State} (k : s.BoundsInv) (c : t.up.rx = s.up.rx)
    (d : t.sched.queue = s.sched.queue) (e : t.fwd.hold = s.fwd.hold) (f : t.seq.tagCounter = s.seq.tagCounter)
    (g : s.up.replyTaken ≤ 24 → t.up.replyTaken ≤ 24) (n : s.noticesTaken ≤ 7 → t.noticesTaken ≤ 7)
    (m : s.attentionsTaken ≤ 1 → t.attentionsTaken ≤ 1)
    (q : t.fwd.queues = s.fwd.queues := by first | rfl | simp) (o : t.fwd.outs = s.fwd.outs := by first | rfl | simp)
    (p : t.ports = s.ports := by first | rfl | simp) : t.BoundsInv where
  receive := by rw [c]; exact k.receive
  requests := by rw [d]; exact k.requests
  hold := by rw [e]; exact k.hold
  tag := by rw [f]; exact k.tag
  forward := by intro r; rw [State.queue, q]; exact k.forward r
  outstanding := by intro r; rw [State.outs, o]; exact k.outstanding r
  granted := by intro r z; rw [State.outs, o]; rw [State.port, p] at z; exact k.granted r z
  replies := g k.replies
  notices := n k.notices
  attention := m k.attention
theorem State.Sound.ofUp {s t : State} (h : s.Sound A B) (a : t.phase = s.phase) (b : t.ev = s.ev)
    (c : t.up.rx = s.up.rx) (d : t.sched.queue = s.sched.queue) (e : t.fwd.hold = s.fwd.hold)
    (f : t.seq.tagCounter = s.seq.tagCounter) (g : s.up.replyTaken ≤ 24 → t.up.replyTaken ≤ 24)
    (n : s.noticesTaken ≤ 7 → t.noticesTaken ≤ 7) (m : s.attentionsTaken ≤ 1 → t.attentionsTaken ≤ 1)
    (q : t.fwd.queues = s.fwd.queues := by first | rfl | simp) (o : t.fwd.outs = s.fwd.outs := by first | rfl | simp)
    (p : t.ports = s.ports := by first | rfl | simp) : t.Sound A B := by
  refine ⟨fun x => ?_, fun y => (h.bounds y).ofUp c d e f g n m q o p⟩
  obtain ⟨h1, h2⟩ := h.attn x
  exact ⟨by rw [a, b]; exact h1, by rw [a, b]; exact h2⟩
@[simp] theorem sound_releaseEntry (e : UpEntry) {s : State} (h : s.Sound A B) : (releaseEntry e s).Sound A B := by
  have g : ∀ u : State, u.Sound A B → (if e.reset then later (.reset .requested) u else u).Sound A B := by
    intro u k; split
    · exact sound_later _ k
    · exact k
  unfold releaseEntry; dsimp only
  apply g
  split
  · exact h.ofUp rfl rfl rfl rfl rfl rfl (fun k => Nat.le_trans (Nat.sub_le _ _) k) id id
  · exact h
@[simp] theorem sound_placeUp (e : UpEntry) (g : e.group = .reply) {s : State} (h : s.Sound A B) :
    (placeUp e s).Sound A B := by
  unfold placeUp; split
  · refine h.ofUp rfl rfl rfl rfl rfl rfl id (fun k => ?_) (fun k => ?_)
    · have : (State.noticesTaken { s with up := { s.up with tx := s.up.tx ++ [e] } }) = s.noticesTaken := by
        simp [State.noticesTaken, g, List.filter_append]
      rw [this]; exact k
    · have : (State.attentionsTaken { s with up := { s.up with tx := s.up.tx ++ [e] } }) = s.attentionsTaken := by
        simp [State.attentionsTaken, UpEntry.isAttention, g, List.filter_append]
      rw [this]; exact k
  · exact sound_releaseEntry e h
@[simp] theorem sound_placeReply (f : Frame) {s : State} (h : s.Sound A B) : (placeUp (replyEntry f) s).Sound A B :=
  sound_placeUp _ rfl h
@[simp] theorem sound_answer (f : Frame) (st : Byte) {s : State} (h : s.Sound A B) : (answer f st s).Sound A B :=
    sound_placeUp _ rfl h
@[simp] theorem sound_accept (f : Frame) (d : List Byte) {s : State} (h : s.Sound A B) : (accept f d s).Sound A B :=
    sound_placeUp _ rfl h
@[simp] theorem sound_acceptLater (f : Frame) {s : State} (h : s.Sound A B) : (acceptLater f s).Sound A B :=
  h.of (by simp [acceptLater]) (by simp [acceptLater]) (by simp [acceptLater]) (by simp [acceptLater])
    (by simp [acceptLater]) (by simp [acceptLater])
@[simp] theorem sound_armSync (n : Nat) {s : State} (h : s.Sound A B) : (armSync n s).Sound A B :=
  h.of (by simp [armSync]) (by simp [armSync]) (by simp [armSync]) (by simp [armSync]) (by simp [armSync])
    (by simp [armSync])
@[simp] theorem sound_disarmSync {s : State} (h : s.Sound A B) : (disarmSync s).Sound A B :=
  h.of (by simp [disarmSync]) (by simp [disarmSync]) (by simp [disarmSync]) (by simp [disarmSync])
    (by simp [disarmSync]) (by simp [disarmSync])
@[simp] theorem sound_setCtx (c : Option Context) {s : State} (h : s.Sound A B) : (setCtx c s).Sound A B :=
  h.of (by simp) (by simp) (by simp) (by simp) (by simp) (by simp)
@[simp] theorem sound_modCtx (f : Context → Context) {s : State} (h : s.Sound A B) : (modCtx f s).Sound A B :=
  h.of (by simp) (by simp) (by simp) (by simp) (by simp) (by simp [modCtx])
@[simp] theorem sound_setLevel (n : Nat) {s : State} (h : s.Sound A B) : (setLevel n s).Sound A B := by
  unfold setLevel; split <;> (try refine sound_later _ ?_) <;> first | exact h | exact h.of rfl rfl rfl rfl rfl rfl
@[simp] theorem sound_setStage (st : Stage) {s : State} (h : s.Sound A B) : (setStage st s).Sound A B :=
    sound_setLevel _ (sound_later _ (sound_setRtu _ h))
@[simp] theorem sound_toLineOk {s : State} (h : s.Sound A B) : (toLineOk s).Sound A B := sound_setStage _
    (sound_endEpisode h)
@[simp] theorem sound_leaveDark {s : State} (h : s.Sound A B) : (leaveDark s).Sound A B := sound_setStage _
    (sound_setRtu _ h)
@[simp] theorem sound_removeOut (p : Port) (e : OutEntry) {s : State} (h : s.Sound A B) :
    (removeOut p e s).Sound A B := sound_setOuts _ _ h (List.length_filter_le _ _)

@[simp] theorem sound_setHold (q : List HoldEntry) {s : State} (h : s.Sound A B) (l : q.length ≤ s.fwd.hold.length) :
    (setHold q s).Sound A B :=
  ⟨h.attn, fun b => { h.bounds b with hold := Nat.le_trans l (h.bounds b).hold }⟩
@[simp] theorem sound_setRequests (q : List Entry) {s : State} (h : s.Sound A B) (l : q.length ≤ s.sched.queue.length)
    : (setRequests q s).Sound A B :=
  ⟨h.attn, fun b => { h.bounds b with requests := Nat.le_trans l (h.bounds b).requests }⟩
theorem nextTag_ge (t : Byte) (h : 0xE0 ≤ t.toNat) : 0xE0 ≤ (nextTag t).toNat := by
  revert h; revert t; decide
@[simp] theorem sound_stepTag {s : State} (h : s.Sound A B) : (stepTag s).Sound A B :=
  ⟨h.attn, fun b => { h.bounds b with tag := nextTag_ge _ (h.bounds b).tag }⟩
@[simp] theorem sound_modFwd {s : State} (h : s.Sound A B) (g : Forwarding) (e : g.hold = s.fwd.hold)
    (q : g.queues = s.fwd.queues) (o : g.outs = s.fwd.outs) : ({ s with fwd := g } : State).Sound A B :=
  h.of rfl rfl rfl rfl e rfl ⟨rfl, rfl, rfl⟩ q o
@[simp] theorem sound_modSeq {s : State} (h : s.Sound A B) (g : Sequencer) (e : g.tagCounter = s.seq.tagCounter) :
    ({ s with seq := g } : State).Sound A B :=
  h.of rfl rfl rfl rfl rfl e
theorem attentionsTaken_free {s : State} (h : s.attentionHeld = false) : s.attentionsTaken = 0 := by
  unfold State.attentionHeld at h
  rw [Bool.or_eq_false_iff] at h
  have a : s.up.tx.filter UpEntry.isAttention = [] := by
    rw [List.filter_eq_nil_iff]; intro e he c
    exact absurd h.1 (by rw [List.any_eq_true.mpr ⟨e, he, c⟩]; decide)
  have b := h.2
  unfold State.attentionsTaken
  rw [a]; revert b
  cases s.up.line with
  | sending e d => intro b; simp only at b; simp [b]
  | idle => intro _; rfl
  | stretch d => intro _; rfl
theorem attention_group (w : Word16) : (attentionNotice w).group = .attention := rfl
/-- The attention notice and its withdrawal keep the bounds. -/
theorem bounds_followRequesting (was : Word16) {s : State} (h : s.BoundsInv) : (followRequesting was s).BoundsInv := by
  unfold followRequesting; dsimp only
  split
  · split
    · rename_i z
      simp only [Bool.and_eq_true, Bool.not_eq_true'] at z
      have k := attentionsTaken_free (s := s) z.2
      refine h.ofUp rfl rfl rfl rfl id (fun n => ?_) (fun _ => ?_)
      · refine Nat.le_trans (Nat.le_of_eq ?_) n
        simp [State.noticesTaken, List.filter_append, attention_group]
      · unfold State.attentionsTaken at k ⊢
        dsimp only at k ⊢
        rw [List.filter_append, List.length_append]
        have y : ∀ w, ([attentionNotice w].filter UpEntry.isAttention).length ≤ 1 :=
          fun w => List.length_filter_le _ _
        have y := y s.ev.requesting
        omega
    · exact h.ofUp rfl rfl rfl rfl id id id
  · split
    · refine h.ofUp rfl rfl rfl rfl id (fun n => Nat.le_trans ?_ n) (fun n => Nat.le_trans ?_ n)
      · unfold State.noticesTaken
        refine Nat.add_le_add_right ?_ _
        dsimp only
        exact ((List.filter_sublist (p := fun e => !e.isAttention) (l := s.up.tx)).filter _).length_le
      · unfold State.attentionsTaken
        refine Nat.add_le_add_right ?_ _
        exact ((List.filter_sublist (p := fun e => !e.isAttention) (l := s.up.tx)).filter _).length_le
    · exact h
@[simp] theorem sound_changeEvents (f : EventUnit → EventUnit) (hf : ∀ e, (f e).attn = e.attn) {s : State}
    (h : s.Sound A B) : (changeEvents f s).Sound A B := by
  have e : A → (changeEvents f s).AttnInv := by
    intro w
    by_cases p : s.phase = .running
    · have a := (h.attn w).1 p
      refine ⟨fun _ => ?_, fun q => absurd (by simpa using p) q⟩
      have fa := hf s.ev
      unfold changeEvents; simp only [p, if_true]
      unfold followRequesting; simp only []
      split
      · rename_i c
        simp at c
        split <;> simp [EventUnit.requesting] <;> exact c.2
      · split
        · rename_i c; simp at c
          simp [EventUnit.requesting]; exact c.2
        · rename_i c d
          simp only [fa, a]
          simp at c d
          by_cases z : s.ev.requesting = 0
          · simp [z, c z]
          · have dz := d z
            rw [bne_iff_ne.mpr z]; exact (bne_iff_ne.mpr dz).symm
    · refine ⟨fun q => absurd (by simpa using q) p, fun _ => ?_⟩
      unfold changeEvents; simp only [p, if_false]; rw [hf]; exact (h.attn w).2 p
  refine ⟨e, fun b => ?_⟩
  unfold changeEvents; dsimp only; split
  · exact bounds_followRequesting _ ((h.bounds b).of rfl rfl rfl rfl ⟨rfl, rfl, rfl⟩ rfl rfl (grantsFit_of rfl))
  · exact (h.bounds b).of rfl rfl rfl rfl ⟨rfl, rfl, rfl⟩ rfl rfl (grantsFit_of rfl)
@[simp] theorem sound_raise (k : EventKind) {s : State} (h : s.Sound A B) : (raise k s).Sound A B :=
    sound_changeEvents _ (by intros; rfl) h
@[simp] theorem sound_upd {s : State} (h : s.Sound A B) (u : Upstream) (e : u.rx = s.up.rx)
    (g : u.replyTaken = s.up.replyTaken) (n : s.noticesTaken ≤ 7 → State.noticesTaken { s with up := u } ≤ 7)
    (m : s.attentionsTaken ≤ 1 → State.attentionsTaken { s with up := u } ≤ 1) :
    ({ s with up := u } : State).Sound A B :=
  h.ofUp rfl rfl e rfl rfl rfl (fun k => by show u.replyTaken ≤ 24; rw [g]; exact k) n m

@[simp] theorem sound_offerNotice (f : Frame) {s : State} (h : s.Sound A B) : (offerNotice f s).Sound A B := by
  unfold offerNotice; split
  · exact h
  split
  · exact sound_raise _ h
  · rename_i z
    simp only [Config.noticePlaces] at z
    refine h.ofUp rfl rfl rfl rfl rfl rfl id (fun _ => ?_) (fun n => Nat.le_trans (Nat.le_of_eq ?_) n)
    · unfold State.noticesTaken at z ⊢
      dsimp only
      rw [List.filter_append, List.length_append]
      have y := List.length_filter_le (fun e : UpEntry => e.group == .notice)
        [{ frame := f, group := .notice, reset := false }]
      simp only [List.length_singleton] at y
      omega
    · simp [State.attentionsTaken, UpEntry.isAttention, List.filter_append]
@[simp] theorem sound_tellStep (r : RailId) (x : FailReason) (w : Bool) {s : State} (h : s.Sound A B) :
    (tellStep r x w s).Sound A B := by
  unfold tellStep; split
  · exact sound_later _ h
  · exact h
@[simp] theorem sound_frameEnd (r : RailId) (o : FrameOutcome) {s : State} (h : s.Sound A B) : (frameEnd r o s).Sound
    A B := by
  unfold frameEnd
  try dsimp only
  repeat' split
  all_goals simp (maxDischargeDepth := 12) [h]
@[simp] theorem sound_railReply (r : RailId) (p : List Byte) {s : State} (h : s.Sound A B) : (railReply r p s).Sound A
    B := by
  unfold railReply
  try dsimp only
  repeat' split
  all_goals simp (maxDischargeDepth := 12) [h]
@[simp] theorem sound_railFrameDeadline (r : RailId) {s : State} (h : s.Sound A B) : (railFrameDeadline r s).Sound A B
    := by
  unfold railFrameDeadline
  try dsimp only
  repeat' split
  all_goals simp (maxDischargeDepth := 12) [h]
@[simp] theorem sound_railFrameSent (p : Port) (r : RailId) {s : State} (h : s.Sound A B) :
    (railFrameSent p r s).Sound A B := by
  unfold railFrameSent
  try dsimp only
  repeat' split
  all_goals simp (maxDischargeDepth := 12) [h]
@[simp] theorem sound_enterFault (r : RailId) (c : FaultCause) {s : State} (h : s.Sound A B) :
    (enterFault r c s).Sound A B := by
  unfold enterFault
  try dsimp only
  repeat' split
  all_goals simp (maxDischargeDepth := 12) [h]
@[simp] theorem sound_alarmTaken (r : RailId) (b : Bool) {s : State} (h : s.Sound A B) : (alarmTaken r b s).Sound A B
    := by
  unfold alarmTaken
  try dsimp only
  repeat' split
  all_goals simp (maxDischargeDepth := 12) [h]
@[simp] theorem sound_faultClaim (r : RailId) {s : State} (h : s.Sound A B) : (faultClaim r s).Sound A B := by
  unfold faultClaim
  try dsimp only
  repeat' split
  all_goals simp (maxDischargeDepth := 12) [h]
@[simp] theorem sound_releaseFrame (r : RailId) (p : Port) (t : Byte) {s : State} (h : s.Sound A B) :
    (releaseFrame r p t s).Sound A B := by
  unfold releaseFrame
  try dsimp only
  repeat' split
  all_goals simp (maxDischargeDepth := 12) [h]
@[simp] theorem sound_fallRail (r : RailId) {s : State} (h : s.Sound A B) : (fallRail r s).Sound A B := by
  unfold fallRail
  try dsimp only
  repeat' split
  all_goals simp (maxDischargeDepth := 12) [h]
@[simp] theorem sound_cascade (r : RailId) (n : Nat) {s : State} (h : s.Sound A B) : (cascade r n s).Sound A B := by
  unfold cascade
  try dsimp only
  repeat' split
  all_goals simp (maxDischargeDepth := 12) [h]
@[simp] theorem sound_finalDrop (n : Nat) {s : State} (h : s.Sound A B) : (finalDrop n s).Sound A B := by
  unfold finalDrop
  try dsimp only
  repeat' split
  all_goals simp (maxDischargeDepth := 12) [h]
@[simp] theorem sound_losePath (r : RailId) {s : State} (h : s.Sound A B) : (losePath r s).Sound A B := by
  unfold losePath
  try dsimp only
  repeat' split
  all_goals simp (maxDischargeDepth := 12) [h]
@[simp] theorem sound_pathLost (rs : List RailId) {s : State} (h : s.Sound A B) : (pathLost rs s).Sound A B := by
  unfold pathLost
  try dsimp only
  repeat' split
  all_goals simp (maxDischargeDepth := 12) [h]
@[simp] theorem sound_applyEffect (r : RailId) (a b c : Bool) {s : State} (h : s.Sound A B) :
    (applyEffect r a b c s).Sound A B := by
  unfold applyEffect
  try dsimp only
  repeat' split
  all_goals simp (maxDischargeDepth := 12) [h]
@[simp] theorem sound_goodReport (r : RailId) {s : State} (h : s.Sound A B) : (goodReport r s).Sound A B := by
  unfold goodReport
  try dsimp only
  repeat' split
  all_goals simp (maxDischargeDepth := 12) [h]
@[simp] theorem sound_safeReport (r : RailId) {s : State} (h : s.Sound A B) : (safeReport r s).Sound A B := by
  unfold safeReport
  try dsimp only
  repeat' split
  all_goals simp (maxDischargeDepth := 12) [h]
@[simp] theorem sound_belowGoodReport (r : RailId) {s : State} (h : s.Sound A B) : (belowGoodReport r s).Sound A B :=
    by
  unfold belowGoodReport
  try dsimp only
  repeat' split
  all_goals simp (maxDischargeDepth := 12) [h]
@[simp] theorem sound_settleExpiry (r : RailId) {s : State} (h : s.Sound A B) : (settleExpiry r s).Sound A B := by
  unfold settleExpiry
  try dsimp only
  repeat' split
  all_goals simp (maxDischargeDepth := 12) [h]
@[simp] theorem sound_riseTimeout (r : RailId) {s : State} (h : s.Sound A B) : (riseTimeout r s).Sound A B := by
  unfold riseTimeout
  try dsimp only
  repeat' split
  all_goals simp (maxDischargeDepth := 12) [h]
@[simp] theorem sound_fallExpiry (r : RailId) {s : State} (h : s.Sound A B) : (fallExpiry r s).Sound A B := by
  unfold fallExpiry
  try dsimp only
  repeat' split
  all_goals simp (maxDischargeDepth := 12) [h]
@[simp] theorem sound_dischargeExpiry (r : RailId) {s : State} (h : s.Sound A B) : (dischargeExpiry r s).Sound A B :=
    by
  unfold dischargeExpiry
  try dsimp only
  repeat' split
  all_goals simp (maxDischargeDepth := 12) [h]
@[simp] theorem sound_alarmEntry (o : Alarm) (c : Channel) {s : State} (h : s.Sound A B) : (alarmEntry o c s).Sound A
    B := by
  unfold alarmEntry
  try dsimp only
  repeat' split
  all_goals simp (maxDischargeDepth := 12) [h]
@[simp] theorem sound_levelReport (c : Channel) (n : Nat) {s : State} (h : s.Sound A B) : (levelReport c n s).Sound A
    B := by
  unfold levelReport
  try dsimp only
  repeat' split
  all_goals simp (maxDischargeDepth := 12) [h]

@[simp] theorem sound_marks {s : State} (h : s.Sound A B) (m : List BulkMark) : ({ s with marks := m } : State).Sound
    A B :=
  h.of rfl rfl rfl rfl rfl rfl

@[simp] theorem sound_marksSampled (d c : Nat) {s : State} (h : s.Sound A B) : (marksSampled d c s).Sound A B := by
  unfold marksSampled; exact sound_foldl _ (fun s a h => sound_later _ h) _ (sound_marks h _)
@[simp] theorem sound_senseSample (c : ChannelId) (n : Nat) {s : State} (h : s.Sound A B) : (senseSample c n s).Sound
    A B := by
  unfold senseSample
  try dsimp only
  repeat' split
  all_goals simp (maxDischargeDepth := 12) [h]
@[simp] theorem sound_lineEdge {s : State} (h : s.Sound A B) : (lineEdge s).Sound A B := by
  unfold lineEdge
  try dsimp only
  repeat' split
  all_goals simp (maxDischargeDepth := 12) [h]
@[simp] theorem sound_lineGapExpiry {s : State} (h : s.Sound A B) : (lineGapExpiry s).Sound A B := by
  unfold lineGapExpiry
  try dsimp only
  repeat' split
  all_goals simp (maxDischargeDepth := 12) [h]
@[simp] theorem sound_cancelFrame (c : Option (Fin 16)) {s : State} (h : s.Sound A B) : (cancelFrame c s).Sound A B :=
    by
  unfold cancelFrame; split <;> (try split) <;> (first | exact h | exact sound_offerSeq _ _ (sound_stepTag (sound_modSeq h _ rfl)))
@[simp] theorem sound_dropStepClaim (r : RailId) {s : State} (h : s.Sound A B) : (dropStepClaim r s).Sound A B := by
  unfold dropStepClaim
  try dsimp only
  repeat' split
  all_goals simp (maxDischargeDepth := 12) [h]
@[simp] theorem sound_tidyStep (b : Bool) {s : State} (h : s.Sound A B) : (tidyStep b s).Sound A B := by
  unfold tidyStep
  try dsimp only
  repeat' split
  all_goals simp (maxDischargeDepth := 12) [h]
@[simp] theorem sound_stepEnd (x : Option FailReason) {s : State} (h : s.Sound A B) : (stepEnd x s).Sound A B := by
  unfold stepEnd
  try dsimp only
  repeat' split
  all_goals simp (maxDischargeDepth := 12) [h]
@[simp] theorem sound_stepFail (x : FailReason) {s : State} (h : s.Sound A B) : (stepFail x s).Sound A B := by
  unfold stepFail
  try dsimp only
  repeat' split
  all_goals simp (maxDischargeDepth := 12) [h]
@[simp] theorem sound_stepWait (w : Wait) (t : Option Nat) {s : State} (h : s.Sound A B) : (stepWait w t s).Sound A B
    := by
  unfold stepWait
  try dsimp only
  repeat' split
  all_goals simp (maxDischargeDepth := 12) [h]
@[simp] theorem sound_switchOn (r : RailId) {s : State} (h : s.Sound A B) : (switchOn r s).Sound A B := by
  unfold switchOn
  try dsimp only
  repeat' split
  all_goals simp (maxDischargeDepth := 12) [h]
@[simp] theorem sound_takeOver (n : ProgNo) (r : RailId) {s : State} (h : s.Sound A B) : (takeOver n r s).Sound A B :=
    by
  unfold takeOver
  try dsimp only
  repeat' split
  all_goals simp (maxDischargeDepth := 12) [h]
@[simp] theorem sound_switchOff (n : ProgNo) (r : RailId) {s : State} (h : s.Sound A B) : (switchOff n r s).Sound A B
    := by
  unfold switchOff
  try dsimp only
  repeat' split
  all_goals simp (maxDischargeDepth := 12) [h]
@[simp] theorem sound_takeOrder (n : ProgNo) (k : StepKind) {s : State} (h : s.Sound A B) : (takeOrder n k s).Sound A
    B := by
  unfold takeOrder
  try dsimp only
  repeat' split
  all_goals simp (maxDischargeDepth := 12) [h]
@[simp] theorem sound_claimAndOrder (n : ProgNo) (k : StepKind) (r : RailId) {s : State} (h : s.Sound A B) :
    (claimAndOrder n k r s).Sound A B := by
  unfold claimAndOrder
  try dsimp only
  repeat' split
  all_goals simp (maxDischargeDepth := 12) [h]
@[simp] theorem sound_startRailStep (n : ProgNo) (k : StepKind) (r : RailId) {s : State} (h : s.Sound A B) :
    (startRailStep n k r s).Sound A B := by
  unfold startRailStep
  try dsimp only
  repeat' split
  all_goals simp (maxDischargeDepth := 12) [h]
@[simp] theorem sound_startSend (t : Fin 16) {s : State} (h : s.Sound A B) : (startSend t s).Sound A B := by
  unfold startSend
  try dsimp only
  repeat' split
  all_goals simp (maxDischargeDepth := 12) [h]
@[simp] theorem sound_ctl {s : State} (h : s.Sound A B) (c) : ({ s with ctl := c } : State).Sound A B :=
  h.of rfl rfl rfl rfl rfl rfl
@[simp] theorem sound_startStep (i : Nat) {s : State} (h : s.Sound A B) : (startStep i s).Sound A B := by
  unfold startStep; dsimp only
  have g := sound_setGuarded (s.stepAt i).guarded (sound_modCtx (fun c => { c with index := i, timer := none, frame := none, wait := .none }) h)
  revert g
  generalize setGuarded _ _ = u
  intro g
  split
  · exact g
  · split <;> first | exact sound_stepEnd _ (sound_ctl g _) | (repeat' split) <;> simp (maxDischargeDepth := 12) [g]
@[simp] theorem sound_railOnReport (c : Context) (r q : RailId) (b : Bool) {s : State} (h : s.Sound A B) :
    (railOnReport c r q b s).Sound A B := by
  unfold railOnReport
  try dsimp only
  repeat' split
  all_goals simp (maxDischargeDepth := 12) [h]
@[simp] theorem sound_railOffReport (c : Context) (r q : RailId) (b : Bool) (k : ReportKind) {s : State}
    (h : s.Sound A B) : (railOffReport c r q b k s).Sound A B := by
  unfold railOffReport
  try dsimp only
  repeat' split
  all_goals simp (maxDischargeDepth := 12) [h]
@[simp] theorem sound_claimReport (c : Context) (k : StepKind) (r q : RailId) {s : State} (h : s.Sound A B) :
    (claimReport c k r q s).Sound A B := by
  unfold claimReport
  try dsimp only
  repeat' split
  all_goals simp (maxDischargeDepth := 12) [h]
@[simp] theorem sound_seqRail (q : RailId) (k : ReportKind) {s : State} (h : s.Sound A B) : (seqRail q k s).Sound A B
    := by
  unfold seqRail
  try dsimp only
  repeat' split
  all_goals simp (maxDischargeDepth := 12) [h]
@[simp] theorem sound_seqPathLost (q : RailId) {s : State} (h : s.Sound A B) : (seqPathLost q s).Sound A B := by
  unfold seqPathLost
  try dsimp only
  repeat' split
  all_goals simp (maxDischargeDepth := 12) [h]
@[simp] theorem sound_seqFrameEnd (q : RailId) (x : FailReason) {s : State} (h : s.Sound A B) :
    (seqFrameEnd q x s).Sound A B := by
  unfold seqFrameEnd
  try dsimp only
  repeat' split
  all_goals simp (maxDischargeDepth := 12) [h]
@[simp] theorem sound_cancel {s : State} (h : s.Sound A B) (c) :
    ({ s with seq := { s.seq with cancel := c } } : State).Sound A B :=
  h.of rfl rfl rfl rfl rfl rfl
@[simp] theorem sound_seqPortDown (p : Port) {s : State} (h : s.Sound A B) : (seqPortDown p s).Sound A B := by
  unfold seqPortDown
  try dsimp only
  repeat' split
  all_goals simp (maxDischargeDepth := 12) [h]
@[simp] theorem sound_seqNoticesLost (p : Port) {s : State} (h : s.Sound A B) : (seqNoticesLost p s).Sound A B := by
  unfold seqNoticesLost
  try dsimp only
  repeat' split
  all_goals simp (maxDischargeDepth := 12) [h]
@[simp] theorem sound_matchNotice (p : Port) (c : Byte) {s : State} (h : s.Sound A B) : (matchNotice p c s).Sound A B
    := by
  unfold matchNotice
  try dsimp only
  repeat' split
  all_goals simp (maxDischargeDepth := 12) [h]
@[simp] theorem sound_seqReply (p : Port) (t : Byte) (l : List Byte) {s : State} (h : s.Sound A B) :
    (seqReply p t l s).Sound A B := by
  unfold seqReply
  try dsimp only
  repeat' split
  all_goals simp (maxDischargeDepth := 12) [h]
@[simp] theorem sound_seqSent (p : Port) {s : State} (h : s.Sound A B) : (seqSent p s).Sound A B := by
  unfold seqSent; split
  · have g := sound_modPort p PortRec.nextSeq nextSeq_line h
    dsimp only; split
    · exact g
    · exact sound_modCtx _ g
  · exact h
@[simp] theorem sound_stepTimer (act : Context → StepKind → State → State)
    (ha : ∀ c k s, s.Sound A B → (act c k s).Sound A B) {s : State} (h : s.Sound A B) : (stepTimer act s).Sound A B :=
    by
  unfold stepTimer; split <;> (try split) <;> (try split) <;> (first | exact h | exact ha _ _ _ (sound_advance _ h))
@[simp] theorem sound_sync {s : State} (h : s.Sound A B) (c) : ({ s with sync := c } : State).Sound A B :=
  h.of rfl rfl rfl rfl rfl rfl
@[simp] theorem sound_fsyncEdge {s : State} (h : s.Sound A B) : (fsyncEdge s).Sound A B := by
  unfold fsyncEdge
  try dsimp only
  repeat' split
  all_goals simp (maxDischargeDepth := 12) [h]
@[simp] theorem sound_delayExpiry {s : State} (h : s.Sound A B) : (delayExpiry s).Sound A B := by
  unfold delayExpiry; split <;> first | exact h | exact sound_stepTimer _ (fun _ _ _ h => by simp (maxDischargeDepth := 12) [h]) h
@[simp] theorem sound_syncTimeout {s : State} (h : s.Sound A B) : (syncTimeout s).Sound A B := by
  unfold syncTimeout; split <;> first | exact h | exact sound_stepTimer _ (fun _ _ _ h => by simp (maxDischargeDepth := 12) [h]) h
@[simp] theorem sound_noticeTimeout {s : State} (h : s.Sound A B) : (noticeTimeout s).Sound A B := by
  unfold noticeTimeout; split <;> first | exact h | exact sound_stepTimer _ (fun _ _ _ h => by simp (maxDischargeDepth := 12) [h]) h
@[simp] theorem sound_claimWaitExpiry {s : State} (h : s.Sound A B) : (claimWaitExpiry s).Sound A B := by
  unfold claimWaitExpiry; split <;> (try split) <;> first | exact h | exact sound_stepTimer _ (fun _ _ _ h => by simp (maxDischargeDepth := 12) [h]) h
@[simp] theorem sound_sendWindowExpiry {s : State} (h : s.Sound A B) : (sendWindowExpiry s).Sound A B := by
  unfold sendWindowExpiry; split
  · refine sound_stepTimer _ (fun c k s h => ?_) h
    repeat' split
    all_goals simp (maxDischargeDepth := 12) [h]
  · exact h
@[simp] theorem sound_committed {s : State} (h : s.Sound A B) (c) :
    ({ s with sched := { s.sched with committed := c } } : State).Sound A B :=
  h.of rfl rfl rfl rfl rfl rfl
@[simp] theorem sound_programEnd (e : ProgramEnd) (b : Bool) {s : State} (h : s.Sound A B) : (programEnd e b s).Sound
    A B := by
  unfold programEnd; split
  · exact h
  · rename_i c _
    have g := sound_later (.raise .programEnd) (sound_setResult (c.result e) (sound_setRunning none (sound_setCtx none h)))
    dsimp only
    revert g
    generalize later (.raise .programEnd) _ = u
    intro g
    have k := sound_later (.zeroEnd c.failed) (sound_committed g false)
    revert k
    generalize later (.zeroEnd c.failed) _ = v
    intro k
    repeat' split
    all_goals simp (maxDischargeDepth := 12) [g, k]
@[simp] theorem sound_startProgramOf (n : ProgNo) (q : Requester) (k : Nat) {s : State} (h : s.Sound A B) :
    (startProgramOf n q k s).Sound A B := by
  unfold startProgramOf
  try dsimp only
  repeat' split
  all_goals simp (maxDischargeDepth := 12) [h]
@[simp] theorem sound_startHead {s : State} (h : s.Sound A B) : (startHead s).Sound A B := by
  unfold startHead; split; exact h; split; exact sound_startProgramOf _ _ _ (sound_setRequests _ h (by simp_all)); exact h
@[simp] theorem sound_abandon (b : Bool) {s : State} (h : s.Sound A B) : (abandon b s).Sound A B := by
  unfold abandon
  try dsimp only
  repeat' split
  all_goals simp (maxDischargeDepth := 12) [h]
@[simp] theorem sound_goTo (n : ProgNo) (i : Nat) {s : State} (h : s.Sound A B) : (goTo n i s).Sound A B := by
  unfold goTo
  try dsimp only
  repeat' split
  all_goals simp (maxDischargeDepth := 12) [h]
@[simp] theorem sound_afterStep (x : Option FailReason) {s : State} (h : s.Sound A B) : (afterStep x s).Sound A B :=
    by
  unfold afterStep
  try dsimp only
  repeat' split
  all_goals simp (maxDischargeDepth := 12) [h]
@[simp] theorem sound_judgeHead {s : State} (h : s.Sound A B) : (judgeHead s).Sound A B := by
  unfold judgeHead
  try dsimp only
  repeat' split
  all_goals simp (maxDischargeDepth := 12) [h]

theorem insertEntry_length (e : Entry) (q : List Entry) : (insertEntry e q).length = q.length + 1 := by
  induction q with
  | nil => rfl
  | cons x l ih => unfold insertEntry; split <;> simp [ih]
@[simp] theorem sound_joinQueue (n : ProgNo) (q : Requester) {s : State} (h : s.Sound A B)
    (l : B → s.sched.queue.length < 4) : (joinQueue n q s).Sound A B := by
  unfold joinQueue; dsimp only; apply sound_judgeHead
  refine ⟨h.attn, fun b => { h.bounds b with requests := ?_ }⟩
  show (insertEntry _ _).length ≤ 4
  have := l b
  rw [insertEntry_length]; omega

@[simp] theorem sound_newEntry (n : ProgNo) (q : Requester) {s : State} (h : s.Sound A B) : (newEntry n q s).Sound A B
    := by
  unfold newEntry; split
  · exact sound_joinQueue _ _ h (fun _ => by simpa [Config.requestPlaces] using ‹_›)
  · split
    · split
      · rename_i e he _
        refine sound_joinQueue _ _ (sound_dropped _ _ (sound_setRequests _ h (by simp))) (fun b => ?_)
        have := (h.bounds b).requests
        have ne : s.sched.queue ≠ [] := by intro z; simp [z] at he
        have := List.length_pos_iff.mpr ne
        have dq : ∀ u : State, (dropped e.program e.requester u).sched.queue = u.sched.queue := by intro u; unfold dropped; dsimp only; split <;> rfl
        rw [dq]; show s.sched.queue.dropLast.length < 4; rw [List.length_dropLast]; omega
      · simp (maxDischargeDepth := 12) [h]
    · simp (maxDischargeDepth := 12) [h]
theorem filter_lt {α : Type} (p : α → Bool) (l : List α) (a : α) (m : a ∈ l) (hp : p a = false) : (l.filter p).length
    < l.length := by
  rcases Nat.lt_or_ge (l.filter p).length l.length with h | h
  · exact h
  · have := List.length_filter_eq_length_iff.mp (Nat.le_antisymm (List.length_filter_le _ _) h) a m
    rw [hp] at this; cases this
@[simp] theorem sound_takeRequest (n : ProgNo) (q : Requester) {s : State} (h : s.Sound A B) :
    (takeRequest n q s).Sound A B := by
  unfold takeRequest; split; exact sound_dropped _ _ h
  split
  · split <;> simp (maxDischargeDepth := 12) [h]
  · split
    · split
      · rename_i hq _
        unfold State.isQueued at hq
        simp at hq
        obtain ⟨x, hx, hp⟩ := hq
        refine sound_joinQueue _ _ (sound_setRequests _ h (List.length_filter_le _ _)) (fun b => ?_)
        have := (h.bounds b).requests
        have := filter_lt (fun e => e.program != n) s.sched.queue x hx (by simp [hp])
        show (List.filter _ _).length < 4; omega
      · exact h
    · exact sound_newEntry _ _ h
@[simp] theorem sound_orderAbandon (b : Bool) {s : State} (h : s.Sound A B) : (orderAbandon b s).Sound A B := by
  unfold orderAbandon
  try dsimp only
  repeat' split
  all_goals simp (maxDischargeDepth := 12) [h]
@[simp] theorem sound_shedAbandon {s : State} (h : s.Sound A B) : (shedAbandon s).Sound A B := by
  unfold shedAbandon
  try dsimp only
  repeat' split
  all_goals simp (maxDischargeDepth := 12) [h]
@[simp] theorem sound_dropLow {s : State} (h : s.Sound A B) : (dropLow s).Sound A B := by
  unfold dropLow; split; exact sound_later _ (sound_dropped _ _ (sound_setRequests _ h (List.length_filter_le _ _))); exact h
@[simp] theorem sound_abandonRestore {s : State} (h : s.Sound A B) : (abandonRestore s).Sound A B := by
  unfold abandonRestore
  try dsimp only
  repeat' split
  all_goals simp (maxDischargeDepth := 12) [h]
@[simp] theorem sound_dropRestore {s : State} (h : s.Sound A B) : (dropRestore s).Sound A B := by
  unfold dropRestore; split; exact (sound_dropped _ _ (sound_setRequests _ h (List.length_filter_le _ _))); exact h
@[simp] theorem sound_commitRequest {s : State} (h : s.Sound A B) : (commitRequest s).Sound A B := by
  unfold commitRequest; exact sound_later _ (sound_later _ (sound_abandon _ (sound_committed h _)))
@[simp] theorem sound_dropAll {s : State} (h : s.Sound A B) : (dropAll s).Sound A B := by
  unfold dropAll; split; exact sound_later _ (sound_dropped _ _ (sound_setRequests _ h (by simp_all))); exact h
@[simp] theorem sound_startZero {s : State} (h : s.Sound A B) : (startZero s).Sound A B := by
  unfold startZero
  try dsimp only
  repeat' split
  all_goals simp (maxDischargeDepth := 12) [h]
@[simp] theorem sound_toForward (c : Cmd) {s : State} (h : s.Sound A B) (l : B → (s.queue c.port).length < 8) :
    (toForward c s).Sound A B := by
  unfold toForward
  refine sound_arbitrate _ ⟨h.attn, fun b => { h.bounds b with forward := ?_ }⟩
  intro r; rw [queue_setQueue]; split
  · have := l b
    simp; omega
  · exact (h.bounds b).forward r
@[simp] theorem sound_toHold (c : Cmd) (x : HoldReason) {s : State} (h : s.Sound A B) : (toHold c x s).Sound A B := by
  unfold toHold; split; exact sound_answer _ _ h
  rename_i z
  refine ⟨h.attn, fun b => { h.bounds b with hold := ?_ }⟩
  simp [Config.holdPlaces] at z; simp; omega
@[simp] theorem sound_decideCmd (c : Cmd) {s : State} (h : s.Sound A B) : (decideCmd c s).Sound A B := by
  unfold decideCmd; split
  · exact sound_toHold _ _ h
  · exact sound_answer _ _ h
  · split
    · exact sound_toHold _ _ h
    · split
      · exact sound_answer _ _ h
      · rename_i z
        exact sound_toForward c h (fun _ => by simp [Config.forwardPlaces] at z; omega)
@[simp] theorem sound_accepted {s : State} (h : s.Sound A B) (c) :
    ({ s with fwd := { s.fwd with accepted := c } } : State).Sound A B :=
  h.of rfl rfl rfl rfl rfl rfl
@[simp] theorem sound_intake (p : Port) (f : Frame) {s : State} (h : s.Sound A B) : (intake p f s).Sound A B := by
  unfold intake
  try dsimp only
  repeat' split
  all_goals simp (maxDischargeDepth := 12) [h]
@[simp] theorem sound_passOver (l : List HoldEntry) : ∀ (b : List Port) (k : List HoldEntry) {s : State}, s.Sound A B
    → l.length + k.length ≤ s.fwd.hold.length →
    (passOver l b k s).Sound A B := by
  induction l with
  | nil => intro b k s h e; unfold passOver; exact sound_setHold _ h (by simpa using e)
  | cons x l ih =>
    intro b k s h e
    simp at e
    unfold passOver; dsimp only
    have st : ∀ x' , (passOver l (x.cmd.port :: b) (x' :: k) s).Sound A B := fun x' => ih _ _ h (by simp; omega)
    split
    · exact st _
    · refine ih _ _ (sound_answer _ _ h) ?_
      simp; omega
    · split
      · exact st _
      · split
        · exact st _
        · refine ih _ _ (sound_toForward _ h (fun _ => by simp [Config.forwardPlaces] at *; omega)) ?_
          unfold toForward; simp; omega
@[simp] theorem sound_rescan {s : State} (h : s.Sound A B) : (rescan s).Sound A B := by
  unfold rescan; exact sound_passOver _ _ _ h (by simp)
@[simp] theorem sound_holdExpiry (p : Port) (t : Byte) {s : State} (h : s.Sound A B) : (holdExpiry p t s).Sound A B :=
    by
  unfold holdExpiry; split; exact sound_later _ (sound_later _ (sound_answer _ _ (sound_setHold _ (sound_advance _ h) (List.length_filter_le _ _)))); exact h
@[simp] theorem sound_takeClaim (c : Cmd) {s : State} (h : s.Sound A B) : (takeClaim c s).1.Sound A B := by
  unfold takeClaim; split <;> (try split) <;> first | exact h | (dsimp only; exact sound_modDyn _ _ h)
@[simp] theorem sound_forwardSent (p : Port) {s : State} (h : s.Sound A B) (l : B → (s.outs p).length < 4)
    (o : (s.port p).owner ≠ some .forward) : (forwardSent p s).Sound A B := by
  unfold forwardSent; split
  · rename_i c rest e
    dsimp only
    apply sound_later
    have g := sound_takeClaim c (sound_setQueue p rest h (by rw [e]; simp))
    have i : (takeClaim c (setQueue p rest s)).1.outs p = s.outs p := by
      unfold takeClaim; split <;> (try split) <;> rfl
    have j : (takeClaim c (setQueue p rest s)).1.port p = s.port p := by
      unfold takeClaim; split <;> (try split) <;> rfl
    revert g i j
    generalize takeClaim c (setQueue p rest s) = u
    intro g i j
    refine ⟨g.attn, fun b => { g.bounds b with outstanding := ?_, granted := ?_ }⟩
    · intro r; rw [outs_setOuts]; split
      · have := l b
        rw [i]; simp; omega
      · exact (g.bounds b).outstanding r
    · intro r z; rw [outs_setOuts]; split
      · next y => subst y; rw [show (setOuts r _ u.1).port r = u.1.port r from rfl, j] at z; exact absurd z o
      · exact (g.bounds b).granted r z
  · exact h
@[simp] theorem sound_releaseOut (p : Port) (e : OutEntry) {s : State} (h : s.Sound A B) : (releaseOut p e s).Sound A
    B := by
  unfold releaseOut
  try dsimp only
  repeat' split
  all_goals simp (maxDischargeDepth := 12) [h]
@[simp] theorem sound_handEffect (e : OutEntry) {s : State} (h : s.Sound A B) : (handEffect e s).Sound A B := by
  unfold handEffect
  try dsimp only
  repeat' split
  all_goals simp (maxDischargeDepth := 12) [h]
@[simp] theorem sound_boardReplyTaken (p : Port) (f : Frame) {s : State} (h : s.Sound A B) :
    (boardReplyTaken p f s).Sound A B := by
  unfold boardReplyTaken
  try dsimp only
  repeat' split
  all_goals simp (maxDischargeDepth := 12) [h]
@[simp] theorem sound_outstandingExpiry (p : Port) (t : Byte) {s : State} (h : s.Sound A B) :
    (outstandingExpiry p t s).Sound A B := by
  unfold outstandingExpiry
  try dsimp only
  repeat' split
  all_goals simp (maxDischargeDepth := 12) [h]
@[simp] theorem sound_answerAll (l : List Cmd) (st : Byte) {s : State} (h : s.Sound A B) : (answerAll l st s).Sound A
    B := by
  unfold answerAll; exact sound_foldl _ (fun s a h => sound_answer _ _ h) _ h
@[simp] theorem sound_flushHold (p : Port) {s : State} (h : s.Sound A B) : (flushHold p s).Sound A B := by
  unfold flushHold; split
  · exact h
  · exact sound_rescan (sound_answerAll _ _ (sound_setHold _ h (List.length_filter_le _ _)))
theorem sound_flushQueue (p : Port) (l : List Cmd) : ∀ {s : State}, s.Sound A B → (B → l.length ≤ 8) →
    (flushQueue p l s).Sound A B := by
  induction l with
  | nil => intro s h _; exact h
  | cons c l ih =>
    intro s h k
    unfold flushQueue
    refine ih (sound_rescan (sound_answer _ _ ?_)) (fun b => by have := k b; simp at this; omega)
    refine ⟨h.attn, fun b => { h.bounds b with forward := ?_ }⟩
    intro r; rw [queue_setQueue]; split
    · have := k b; simp at this; omega
    · exact (h.bounds b).forward r
@[simp] theorem sound_portFlush (p : Port) {s : State} (h : s.Sound A B) : (portFlush p s).Sound A B := by
  unfold portFlush
  have g := sound_flushHold p h
  exact sound_later _ (sound_flushQueue p _ g (fun b => (g.bounds b).forward p))
@[simp] theorem sound_flushOut (p : Port) {s : State} (h : s.Sound A B) : (flushOut p s).Sound A B := by
  unfold flushOut; split
  · next e rest k =>
    exact sound_later _ (sound_releaseOut _ _ (sound_answer _ _ (sound_setOuts _ _ h (by rw [k]; simp))))
  · exact h
@[simp] theorem sound_commitClosure {s : State} (h : s.Sound A B) : (commitClosure s).Sound A B := by
  unfold commitClosure
  exact sound_answerAll _ _
    (sound_foldl _ (fun s a h => sound_setQueue _ _ (sound_withdrawForward _ h) (by simp)) _ (sound_setHold _ h (by simp)))
@[simp] theorem sound_noticeTaken (p : Port) (f : Frame) {s : State} (h : s.Sound A B) : (noticeTaken p f s).Sound A B
    := by
  unfold noticeTaken
  try dsimp only
  repeat' split
  all_goals simp (maxDischargeDepth := 12) [h]
@[simp] theorem sound_groupWriteEnd {s : State} (h : s.Sound A B) : (groupWriteEnd s).Sound A B := by
  unfold groupWriteEnd
  try dsimp only
  repeat' split
  all_goals simp (maxDischargeDepth := 12) [h]
@[simp] theorem sound_recordWriteDone {s : State} (h : s.Sound A B) : (recordWriteDone s).Sound A B := by
  unfold recordWriteDone
  try dsimp only
  repeat' split
  all_goals simp (maxDischargeDepth := 12) [h]
@[simp] theorem sound_lookAtDark {s : State} (h : s.Sound A B) : (lookAtDark s).Sound A B := by
  unfold lookAtDark
  try dsimp only
  repeat' split
  all_goals simp (maxDischargeDepth := 12) [h]
@[simp] theorem sound_enterShed (j : Nat) {s : State} (h : s.Sound A B) : (enterShed j s).Sound A B := by
  unfold enterShed
  try dsimp only
  repeat' split
  all_goals simp (maxDischargeDepth := 12) [h]
@[simp] theorem sound_enterCommit (c : CommitCause) {s : State} (h : s.Sound A B) : (enterCommit c s).Sound A B := by
  unfold enterCommit
  try dsimp only
  repeat' split
  all_goals simp (maxDischargeDepth := 12) [h]
@[simp] theorem sound_commitEvents {s : State} (h : s.Sound A B) : (commitEvents s).Sound A B := by
  unfold commitEvents
  try dsimp only
  repeat' split
  all_goals simp (maxDischargeDepth := 12) [h]
@[simp] theorem sound_look {s : State} (h : s.Sound A B) : (look s).Sound A B := by
  unfold look
  try dsimp only
  repeat' split
  all_goals simp (maxDischargeDepth := 12) [h]
@[simp] theorem sound_triggerMet (i : TriggerId) (b : Bool) {s : State} (h : s.Sound A B) : (triggerMet i b s).Sound A
    B := by
  unfold triggerMet
  try dsimp only
  repeat' split
  all_goals simp (maxDischargeDepth := 12) [h]
@[simp] theorem sound_markReport (i : TriggerId) (b : Bool) {s : State} (h : s.Sound A B) : (markReport i b s).Sound A
    B := by
  unfold markReport
  try dsimp only
  repeat' split
  all_goals simp (maxDischargeDepth := 12) [h]
@[simp] theorem sound_triggerExpiry (i : TriggerId) {s : State} (h : s.Sound A B) : (triggerExpiry i s).Sound A B :=
    by
  unfold triggerExpiry
  try dsimp only
  repeat' split
  all_goals simp (maxDischargeDepth := 12) [h]
@[simp] theorem sound_lineLost {s : State} (h : s.Sound A B) : (lineLost s).Sound A B := by
  unfold lineLost
  try dsimp only
  repeat' split
  all_goals simp (maxDischargeDepth := 12) [h]
@[simp] theorem sound_lineBack {s : State} (h : s.Sound A B) : (lineBack s).Sound A B := by
  unfold lineBack
  try dsimp only
  repeat' split
  all_goals simp (maxDischargeDepth := 12) [h]
@[simp] theorem sound_restoreEnd {s : State} (h : s.Sound A B) : (restoreEnd s).Sound A B := by
  unfold restoreEnd
  try dsimp only
  repeat' split
  all_goals simp (maxDischargeDepth := 12) [h]
@[simp] theorem sound_zeroEnd (n : Nat) {s : State} (h : s.Sound A B) : (zeroEnd n s).Sound A B := by
  unfold zeroEnd
  try dsimp only
  repeat' split
  all_goals simp (maxDischargeDepth := 12) [h]
@[simp] theorem sound_enterDark (n : Nat) {s : State} (h : s.Sound A B) : (enterDark n s).Sound A B := by
  unfold enterDark
  try dsimp only
  repeat' split
  all_goals simp (maxDischargeDepth := 12) [h]
@[simp] theorem sound_resumeExpiry {s : State} (h : s.Sound A B) : (resumeExpiry s).Sound A B := by
  unfold resumeExpiry
  try dsimp only
  repeat' split
  all_goals simp (maxDischargeDepth := 12) [h]
@[simp] theorem sound_refreshAgreed (p : Port) {s : State} (h : s.Sound A B) : (refreshAgreed p s).Sound A B := by
  unfold refreshAgreed
  try dsimp only
  repeat' split
  all_goals simp (maxDischargeDepth := 12) [h]
@[simp] theorem sound_enterUp (p : Port) (c : Capability) {s : State} (h : s.Sound A B) : (enterUp p c s).Sound A B :=
    by
  unfold enterUp
  try dsimp only
  repeat' split
  all_goals simp (maxDischargeDepth := 12) [h]
@[simp] theorem sound_unsolicited (p : Port) (c : Capability) {s : State} (h : s.Sound A B) :
    (unsolicited p c s).Sound A B := by
  unfold unsolicited
  try dsimp only
  repeat' split
  all_goals simp (maxDischargeDepth := 12) [h]
@[simp] theorem sound_leaveUp (p : Port) {s : State} (h : s.Sound A B) : (leaveUp p s).Sound A B := by
  unfold leaveUp
  try dsimp only
  repeat' split
  all_goals simp (maxDischargeDepth := 12) [h]
@[simp] theorem sound_toDown (p : Port) {s : State} (h : s.Sound A B) : (toDown p s).Sound A B := by
  unfold toDown
  try dsimp only
  repeat' split
  all_goals simp (maxDischargeDepth := 12) [h]
@[simp] theorem sound_presentRise (p : Port) {s : State} (h : s.Sound A B) : (presentRise p s).Sound A B := by
  unfold presentRise
  try dsimp only
  repeat' split
  all_goals simp (maxDischargeDepth := 12) [h]
@[simp] theorem sound_presentFall (p : Port) {s : State} (h : s.Sound A B) : (presentFall p s).Sound A B := by
  unfold presentFall
  try dsimp only
  repeat' split
  all_goals simp (maxDischargeDepth := 12) [h]
@[simp] theorem sound_probeExpiry (p : Port) {s : State} (h : s.Sound A B) : (probeExpiry p s).Sound A B := by
  unfold probeExpiry
  try dsimp only
  repeat' split
  all_goals simp (maxDischargeDepth := 12) [h]
@[simp] theorem sound_pulseExpiry (p : Port) {s : State} (h : s.Sound A B) : (pulseExpiry p s).Sound A B := by
  unfold pulseExpiry
  try dsimp only
  repeat' split
  all_goals simp (maxDischargeDepth := 12) [h]
@[simp] theorem sound_capability (l : List Byte) (act : Capability → State → State)
    (ha : ∀ c s, s.Sound A B → (act c s).Sound A B) {s : State} (h : s.Sound A B) : (capability l act s).Sound A B :=
    by
  unfold capability; split; exact ha _ _ h; exact sound_later _ h
@[simp] theorem sound_route (p : Port) (f : Frame) {s : State} (h : s.Sound A B) : (route p f s).Sound A B := by
  unfold route
  repeat' split
  all_goals first | exact sound_capability _ _ (fun _ _ h => sound_unsolicited _ _ h) h | simp (maxDischargeDepth := 12) [h]
@[simp] theorem sound_receiveDown (p : Port) (f : Frame) {s : State} (h : s.Sound A B) : (receiveDown p f s).Sound A B
    := by
  unfold receiveDown
  repeat' split
  all_goals first | exact sound_capability _ _ (fun _ _ h => sound_enterUp _ _ h) h | simp (maxDischargeDepth := 12) [h]
@[simp] theorem sound_receiveDownBytes (p : Port) (b : List Byte) {s : State} (h : s.Sound A B) :
    (receiveDownBytes p b s).Sound A B := by
  unfold receiveDownBytes
  try dsimp only
  repeat' split
  all_goals simp (maxDischargeDepth := 12) [h]
@[simp] theorem sound_probeSent (p : Port) {s : State} (h : s.Sound A B) : (probeSent p s).Sound A B := by
  unfold probeSent
  try dsimp only
  repeat' split
  all_goals simp (maxDischargeDepth := 12) [h]
@[simp] theorem sound_downTxComplete (p : Port) {s : State} (h : s.Sound A B) : (downTxComplete p s).Sound A B := by
  unfold downTxComplete; split
  · rename_i owner f done e
    dsimp only
    have g : (modPort p (fun x => { x with line := .stretch (max s.now done + Config.idleStretch) })
        (advance done s)).Sound A B :=
      sound_portFit p (sound_advance done h) (fun k => by simp [PortRec.owner] at k)
    split
    · exact sound_railFrameSent p _ g
    · exact sound_probeSent p g
    · exact sound_seqSent p g
    · refine sound_forwardSent p g (fun b => ?_) (by rw [port_modPort_self]; simp [PortRec.owner])
      refine (h.bounds b).granted p ?_
      rw [PortRec.owner, e]
    · exact g
  · exact h
theorem bounds_doReset (c : ResetCause) (s : State) : (doReset c s).BoundsInv where
  receive := Nat.zero_le _
  requests := Nat.zero_le _
  hold := Nat.zero_le _
  tag := by show 224 ≤ (0xE0#8).toNat; decide
  forward := fun p => by cases p <;> exact Nat.zero_le _
  outstanding := fun p => by cases p <;> exact Nat.zero_le _
  granted := fun p _ => by cases p <;> exact Nat.zero_lt_succ _
  replies := Nat.zero_le _
  notices := Nat.zero_le _
  attention := Nat.zero_le _
@[simp] theorem sound_doReset (c : ResetCause) {s : State} (_ : s.Sound A B) : (doReset c s).Sound A B :=
  ⟨fun _ => ⟨fun z => by simp [doReset] at z, fun _ => rfl⟩, fun _ => bounds_doReset c s⟩
@[simp] theorem sound_report (r : RailId) (k : ReportKind) {s : State} (h : s.Sound A B) : (report r k s).Sound A B :=
    by
  unfold report
  try dsimp only
  repeat' split
  all_goals simp (maxDischargeDepth := 12) [h]
@[simp] theorem sound_faultAction (r : RailId) {s : State} (h : s.Sound A B) : (faultAction r s).Sound A B := by
  unfold faultAction
  try dsimp only
  repeat' split
  all_goals simp (maxDischargeDepth := 12) [h]
@[simp] theorem sound_handle (w : Work) {s : State} (h : s.Sound A B) : (handle w s).Sound A B := by
  cases w <;> (unfold handle; simp (maxDischargeDepth := 12) [h])

@[simp] theorem sound_clean {s : State} (h : s.Sound A B) (a : List Work) : ({ s with agenda := a } : State).Sound A B
    :=
  h.of rfl rfl rfl rfl rfl rfl
@[simp] theorem sound_runWork (w : Work) (ws : List Work) {s : State} (h : s.Sound A B) : (runWork w ws s).Sound A B
    := by
  unfold runWork; exact sound_clean (sound_handle w (sound_clean h _)) _
@[simp] theorem sound_checked (l : List (Bool × Byte)) (f : Frame) (act : State → State)
    (ha : ∀ s, s.Sound A B → (act s).Sound A B) {s : State} (h : s.Sound A B) : (checked l f act s).Sound A B := by
  unfold checked; split; exact sound_answer _ _ h; exact ha _ h
@[simp] theorem sound_sized (n : Nat) (act : Frame → State → State) (f : Frame)
    (ha : ∀ s, s.Sound A B → (act f s).Sound A B) {s : State} (h : s.Sound A B) : (sized n act f s).Sound A B := by
  unfold sized; split; exact ha _ h; exact sound_answer _ _ h
@[simp] theorem sound_sizedBy (l n : Nat) (act : Frame → State → State) (f : Frame)
    (ha : ∀ s, s.Sound A B → (act f s).Sound A B) {s : State} (h : s.Sound A B) : (sizedBy l n act f s).Sound A B :=
    by
  unfold sizedBy; split; exact ha _ h; exact sound_answer _ _ h

@[simp] theorem sound_reqIdentify (f : Frame) {s : State} (h : s.Sound A B) : (reqIdentify f s).Sound A B := by
  unfold reqIdentify
  repeat' (first | split | (refine sound_checked _ _ _ (fun s h => ?_) h))
  all_goals simp (maxDischargeDepth := 12) [*]
@[simp] theorem sound_reqSnapshot (m : Mode) (f : Frame) {s : State} (h : s.Sound A B) : (reqSnapshot m f s).Sound A B
    := by
  unfold reqSnapshot
  repeat' (first | split | (refine sound_checked _ _ _ (fun s h => ?_) h))
  all_goals simp (maxDischargeDepth := 12) [*]
@[simp] theorem sound_reqReadEvents (f : Frame) {s : State} (h : s.Sound A B) : (reqReadEvents f s).Sound A B := by
  exact sound_changeEvents (fun e => { e with pending := e.pending &&& ~~~s.ev.requesting }) (by intros; rfl) (sound_accept _ _ h)
@[simp] theorem sound_reqSetMask (f : Frame) {s : State} (h : s.Sound A B) : (reqSetMask f s).Sound A B := by
  unfold reqSetMask; exact sound_accept _ _ (sound_changeEvents _ (by intros; rfl) h)
@[simp] theorem sound_reqClearEvents (f : Frame) {s : State} (h : s.Sound A B) : (reqClearEvents f s).Sound A B := by
  unfold reqClearEvents; exact sound_accept _ _ (sound_changeEvents _ (by intros; rfl) h)
@[simp] theorem sound_refreshPath (x : RailStatic) {s : State} (h : s.Sound A B) : (refreshPath x s).Sound A B := by
  unfold refreshPath
  try dsimp only
  repeat' split
  all_goals simp (maxDischargeDepth := 12) [h]
@[simp] theorem sound_loadRailAct (r : RailId) (x : RailStatic) (f : Frame) {s : State} (h : s.Sound A B) :
    (loadRailAct r x f s).Sound A B := by
  unfold loadRailAct
  try dsimp only
  repeat' split
  all_goals simp (maxDischargeDepth := 12) [h]
@[simp] theorem sound_reqLoadRail (f : Frame) {s : State} (h : s.Sound A B) : (reqLoadRail f s).Sound A B := by
  unfold reqLoadRail
  repeat' (first | split | (refine sound_checked _ _ _ (fun s h => ?_) h))
  all_goals simp (maxDischargeDepth := 12) [*]
@[simp] theorem sound_reqReadRail (f : Frame) {s : State} (h : s.Sound A B) : (reqReadRail f s).Sound A B := by
  unfold reqReadRail
  repeat' (first | split | (refine sound_checked _ _ _ (fun s h => ?_) h))
  all_goals simp (maxDischargeDepth := 12) [*]
@[simp] theorem sound_reqClearFault (f : Frame) {s : State} (h : s.Sound A B) : (reqClearFault f s).Sound A B := by
  unfold reqClearFault
  repeat' (first | split | (refine sound_checked _ _ _ (fun s h => ?_) h))
  all_goals simp (maxDischargeDepth := 12) [*]
@[simp] theorem sound_reqLoadChannel (f : Frame) {s : State} (h : s.Sound A B) : (reqLoadChannel f s).Sound A B := by
  unfold reqLoadChannel
  repeat' (first | split | (refine sound_checked _ _ _ (fun s h => ?_) h))
  all_goals simp (maxDischargeDepth := 12) [*]
@[simp] theorem sound_reqReadSense (f : Frame) {s : State} (h : s.Sound A B) : (reqReadSense f s).Sound A B := by
  unfold reqReadSense
  repeat' (first | split | (refine sound_checked _ _ _ (fun s h => ?_) h))
  all_goals simp (maxDischargeDepth := 12) [*]
@[simp] theorem sound_reqLoadAdmit (f : Frame) {s : State} (h : s.Sound A B) : (reqLoadAdmit f s).Sound A B := by
  unfold reqLoadAdmit; split
  · simp (maxDischargeDepth := 12) [h]
  · apply sound_checked _ _ _ _ h; intro s h; dsimp only; split
    · simp (maxDischargeDepth := 12) [h]
    · apply sound_checked _ _ _ _ h; intro s h; exact sound_accept _ _ (sound_modFwd h _ rfl rfl rfl)
@[simp] theorem sound_reqReadAdmit (f : Frame) {s : State} (h : s.Sound A B) : (reqReadAdmit f s).Sound A B := by
  unfold reqReadAdmit
  repeat' (first | split | (refine sound_checked _ _ _ (fun s h => ?_) h))
  all_goals simp (maxDischargeDepth := 12) [*]
@[simp] theorem sound_writeSteps (n : Nat) (l : List Step) {s : State} (h : s.Sound A B) : (writeSteps n l s).Sound A
    B := by
  exact sound_modSeq h _ rfl
@[simp] theorem sound_reqLoadSteps (f : Frame) {s : State} (h : s.Sound A B) : (reqLoadSteps f s).Sound A B := by
  unfold reqLoadSteps
  repeat' (first | split | (refine sound_checked _ _ _ (fun s h => ?_) h))
  all_goals simp (maxDischargeDepth := 12) [*]
@[simp] theorem sound_reqReadSteps (f : Frame) {s : State} (h : s.Sound A B) : (reqReadSteps f s).Sound A B := by
  unfold reqReadSteps
  repeat' (first | split | (refine sound_checked _ _ _ (fun s h => ?_) h))
  all_goals simp (maxDischargeDepth := 12) [*]
@[simp] theorem sound_putHeader (n : ProgNo) (x : Header) {s : State} (h : s.Sound A B) : (putHeader n x s).Sound A B
    := by
  exact sound_modSeq h _ rfl
@[simp] theorem sound_reqLoadProgram (f : Frame) {s : State} (h : s.Sound A B) : (reqLoadProgram f s).Sound A B := by
  unfold reqLoadProgram
  repeat' (first | split | (refine sound_checked _ _ _ (fun s h => ?_) h))
  all_goals simp (maxDischargeDepth := 12) [*]
@[simp] theorem sound_putTemplate (n : Fin 16) (x : Template) {s : State} (h : s.Sound A B) :
    (putTemplate n x s).Sound A B := by
  exact sound_modSeq h _ rfl
@[simp] theorem sound_reqLoadTemplate (f : Frame) {s : State} (h : s.Sound A B) : (reqLoadTemplate f s).Sound A B :=
    by
  unfold reqLoadTemplate
  repeat' (first | split | (refine sound_checked _ _ _ (fun s h => ?_) h))
  all_goals simp (maxDischargeDepth := 12) [*]
@[simp] theorem sound_reqReadProgram (f : Frame) {s : State} (h : s.Sound A B) : (reqReadProgram f s).Sound A B := by
  unfold reqReadProgram
  repeat' (first | split | (refine sound_checked _ _ _ (fun s h => ?_) h))
  all_goals simp (maxDischargeDepth := 12) [*]
@[simp] theorem sound_reqStartProgram (f : Frame) {s : State} (h : s.Sound A B) : (reqStartProgram f s).Sound A B :=
    by
  unfold reqStartProgram; split
  · simp (maxDischargeDepth := 12) [h]
  · unfold checked; split
    · simp (maxDischargeDepth := 12) [h]
    · rename_i z; rw [List.find?_eq_none] at z
      have z := z (decide (Config.requestPlaces ≤ s.sched.queue.length), stQueueFull) (by simp)
      have z : ¬ (4 ≤ s.sched.queue.length) := fun y => z (decide_eq_true y)
      exact sound_acceptLater _ (sound_joinQueue _ _ h (fun _ => by omega))
@[simp] theorem sound_reqAbortProgram (f : Frame) {s : State} (h : s.Sound A B) : (reqAbortProgram f s).Sound A B :=
    by
  unfold reqAbortProgram; split
  · simp (maxDischargeDepth := 12) [h]
  apply sound_checked _ _ _ _ h; intro s h; split
  · exact sound_acceptLater _ (sound_dropped _ _ (sound_setRequests _ h (List.length_filter_le _ _)))
  · split <;> simp (maxDischargeDepth := 12) [h]
@[simp] theorem sound_reqReadResult (f : Frame) {s : State} (h : s.Sound A B) : (reqReadResult f s).Sound A B := by
  unfold reqReadResult
  repeat' (first | split | (refine sound_checked _ _ _ (fun s h => ?_) h))
  all_goals simp (maxDischargeDepth := 12) [*]
@[simp] theorem sound_putPlan (x : Plan) {s : State} (h : s.Sound A B) : (putPlan x s).Sound A B := by
  exact sound_setRtu _ h
@[simp] theorem sound_reqLoadPlan (f : Frame) {s : State} (h : s.Sound A B) : (reqLoadPlan f s).Sound A B := by
  unfold reqLoadPlan
  repeat' (first | split | (refine sound_checked _ _ _ (fun s h => ?_) h))
  all_goals simp (maxDischargeDepth := 12) [*]
@[simp] theorem sound_reqReadPlan (f : Frame) {s : State} (h : s.Sound A B) : (reqReadPlan f s).Sound A B := by
  unfold reqReadPlan
  repeat' (first | split | (refine sound_checked _ _ _ (fun s h => ?_) h))
  all_goals simp (maxDischargeDepth := 12) [*]
@[simp] theorem sound_reqReadRecord (f : Frame) {s : State} (h : s.Sound A B) : (reqReadRecord f s).Sound A B := by
  unfold reqReadRecord
  repeat' (first | split | (refine sound_checked _ _ _ (fun s h => ?_) h))
  all_goals simp (maxDischargeDepth := 12) [*]
@[simp] theorem sound_reqClearRecord (f : Frame) {s : State} (h : s.Sound A B) : (reqClearRecord f s).Sound A B := by
  unfold reqClearRecord
  repeat' (first | split | (refine sound_checked _ _ _ (fun s h => ?_) h))
  all_goals simp (maxDischargeDepth := 12) [*]
@[simp] theorem sound_reqReadPort (f : Frame) {s : State} (h : s.Sound A B) : (reqReadPort f s).Sound A B := by
  unfold reqReadPort
  repeat' (first | split | (refine sound_checked _ _ _ (fun s h => ?_) h))
  all_goals simp (maxDischargeDepth := 12) [*]
@[simp] theorem sound_reqResetBoard (f : Frame) {s : State} (h : s.Sound A B) : (reqResetBoard f s).Sound A B := by
  unfold reqResetBoard
  repeat' (first | split | (refine sound_checked _ _ _ (fun s h => ?_) h))
  all_goals simp (maxDischargeDepth := 12) [*]
theorem grantsFit_settings (x : PortSettings) (s : State) : s.GrantsFit (applyPortSettings x s) := by
  intro p e
  refine .inl ?_
  rw [← e]
  simp [State.port, applyPortSettings, PortRec.owner]
@[simp] theorem sound_applyPortSettings (x : PortSettings) {s : State} (h : s.Sound A B) :
    (applyPortSettings x s).Sound A B :=
  ⟨fun a => ⟨(h.attn a).1, (h.attn a).2⟩,
    fun b => (h.bounds b).of rfl rfl rfl rfl ⟨rfl, rfl, rfl⟩ rfl rfl (grantsFit_settings x s)⟩
@[simp] theorem sound_reqLoadPortSettings (f : Frame) {s : State} (h : s.Sound A B) : (reqLoadPortSettings f s).Sound
    A B := by
  unfold reqLoadPortSettings
  repeat' (first | split | (refine sound_checked _ _ _ (fun s h => ?_) h))
  all_goals simp (maxDischargeDepth := 12) [*]
@[simp] theorem sound_reqSaveSettings (f : Frame) {s : State} (h : s.Sound A B) : (reqSaveSettings f s).Sound A B :=
    by
  unfold reqSaveSettings
  repeat' (first | split | (refine sound_checked _ _ _ (fun s h => ?_) h))
  all_goals simp (maxDischargeDepth := 12) [*]
@[simp] theorem sound_reqReadStoreStatus (f : Frame) {s : State} (h : s.Sound A B) : (reqReadStoreStatus f s).Sound A
    B := by
  unfold reqReadStoreStatus
  repeat' (first | split | (refine sound_checked _ _ _ (fun s h => ?_) h))
  all_goals simp (maxDischargeDepth := 12) [*]
@[simp] theorem sound_reqEnterStandby (f : Frame) {s : State} (h : s.Sound A B) : (reqEnterStandby f s).Sound A B :=
    by
  unfold reqEnterStandby; apply sound_checked _ _ _ _ h; intro s h; apply sound_accept; exact h.of rfl rfl rfl rfl rfl rfl
@[simp] theorem sound_reqResetPart (f : Frame) {s : State} (h : s.Sound A B) : (reqResetPart f s).Sound A B := by
  unfold reqResetPart; apply sound_checked _ _ _ _ h; intro s h; exact sound_placeUp _ rfl (h.of rfl rfl rfl rfl rfl rfl)
@[simp] theorem sound_request (m : Mode) (f : Frame) {s : State} (h : s.Sound A B) : (request m f s).Sound A B := by
  unfold request; split <;> first | (apply sound_sized _ _ _ _ h; intro s h; simp (maxDischargeDepth := 12) [h]) | (apply sound_sizedBy _ _ _ _ _ h; intro s h; simp (maxDischargeDepth := 12) [h]) | simp (maxDischargeDepth := 12) [h]
@[simp] theorem sound_routeUp (m : Mode) (f : Frame) {s : State} (h : s.Sound A B) : (routeUp m f s).Sound A B := by
  unfold routeUp
  try dsimp only
  repeat' split
  all_goals simp (maxDischargeDepth := 12) [h]
@[simp] theorem sound_takeHead {s : State} (h : s.Sound A B) : (takeHead s).Sound A B := by
  unfold takeHead; split
  · exact h
  · split
    · exact h
    · rename_i f rest e z
      dsimp only
      apply sound_routeUp; apply sound_wake
      refine ⟨h.attn, fun b => { h.bounds b with receive := ?_, replies := ?_ }⟩
      · have := (h.bounds b).receive
        rw [e] at this
        simp at this ⊢; omega
      · have := (h.bounds b).replies
        simp only [Config.replyPlaces] at z
        show (if f.kind = kindCommand then s.up.replyTaken + 1 else s.up.replyTaken) ≤ 24
        split
        · rename_i k
          have : ¬ 24 ≤ s.up.replyTaken := fun y => z ⟨k, y⟩
          omega
        · exact this

@[simp] theorem sound_settle (n : Nat) : ∀ {s : State}, s.Sound A B → (settle n s).Sound A B := by
  induction n with
  | zero => intro s h; exact h
  | succ n ih =>
    intro s h
    unfold settle; split
    · exact ih (sound_runWork _ _ h)
    · split
      · exact ih (sound_takeHead (h.of rfl rfl rfl rfl rfl rfl))
      · exact h

@[simp] theorem sound_receiveUp (f : Frame) {s : State} (h : s.Sound A B) : (receiveUp f s).Sound A B := by
  unfold receiveUp; split
  · exact h
  split
  · simp (maxDischargeDepth := 12) [h]
  split
  · simp (maxDischargeDepth := 12) [h]
  rename_i z
  simp [Config.receivePlaces] at z
  exact ⟨h.attn, fun b => { h.bounds b with receive := by simp; omega }⟩
@[simp] theorem sound_receiveUpMalformed (n : Nat) {s : State} (h : s.Sound A B) :
    (receiveUpMalformed n s).Sound A B := by
  unfold receiveUpMalformed; split
  · exact sound_raise _ h
  · exact h
@[simp] theorem sound_receiveUpBytes (b : List Byte) {s : State} (h : s.Sound A B) : (receiveUpBytes b s).Sound A B :=
    by
  unfold receiveUpBytes
  try dsimp only
  repeat' split
  all_goals simp (maxDischargeDepth := 12) [h]
@[simp] theorem sound_receiveRun (l : LaneEnd) (b : List Byte) {s : State} (h : s.Sound A B) :
    (receiveRun l b s).Sound A B := by
  unfold receiveRun
  try dsimp only
  repeat' split
  all_goals simp (maxDischargeDepth := 12) [h]
@[simp] theorem sound_upTxComplete {s : State} (h : s.Sound A B) : (upTxComplete s).Sound A B := by
  unfold upTxComplete; split
  · refine sound_releaseEntry _ (State.Sound.ofUp h rfl rfl rfl rfl rfl rfl id (fun n => Nat.le_trans ?_ n) (fun n => Nat.le_trans ?_ n))
    · exact Nat.add_le_add_left (Nat.zero_le _) _
    · exact Nat.add_le_add_left (Nat.zero_le _) _
  · exact h
/-- The transmitter takes the oldest frame placed: its place stays taken (R123). -/
theorem sound_takeTx {s : State} (h : s.Sound A B) (e : UpEntry) (rest : List UpEntry) (d : Time)
    (k : s.up.tx = e :: rest) : ({ s with up := { s.up with tx := rest, line := .sending e d } } : State).Sound A B := by
  refine h.ofUp rfl rfl rfl rfl rfl rfl id (fun n => Nat.le_trans ?_ n) (fun n => Nat.le_trans ?_ n)
  · unfold State.noticesTaken; rw [k]; dsimp only; rw [List.filter_cons]; split <;> simp <;> omega
  · unfold State.attentionsTaken; rw [k]; dsimp only; rw [List.filter_cons]; split <;> simp <;> omega

theorem sound_idleTx {s : State} (h : s.Sound A B) : ({ s with up := { s.up with line := .idle } } : State).Sound A B :=
  h.ofUp rfl rfl rfl rfl rfl rfl id (fun n => Nat.le_trans (Nat.add_le_add_left (Nat.zero_le _) _) n)
    (fun n => Nat.le_trans (Nat.add_le_add_left (Nat.zero_le _) _) n)
@[simp] theorem sound_upTransmitterFree {s : State} (h : s.Sound A B) : (upTransmitterFree s).Sound A B := by
  unfold upTransmitterFree; dsimp only; split
  · exact h
  · split
    · next k => exact sound_takeTx (sound_advance _ h) _ _ _ k
    · exact sound_idleTx (sound_advance _ h)
  · split
    · next k => exact sound_takeTx h _ _ _ k
    · exact sound_idleTx h
@[simp] theorem sound_uPresentFall {s : State} (h : s.Sound A B) : (uPresentFall s).Sound A B := by
  unfold uPresentFall; dsimp only
  refine sound_foldl _ (fun s a h => sound_releaseEntry _ h) _ (State.Sound.ofUp h rfl rfl rfl rfl rfl rfl id (fun _ => ?_) (fun _ => ?_))
  · unfold State.noticesTaken; dsimp only; cases s.up.line <;> simp
  · unfold State.attentionsTaken; dsimp only; cases s.up.line <;> simp
@[simp] theorem sound_uPresentRise {s : State} (h : s.Sound A B) : (uPresentRise s).Sound A B := by
  exact h.of rfl rfl rfl rfl rfl rfl
@[simp] theorem sound_transmitterFree (p : Port) {s : State} (h : s.Sound A B) : (transmitterFree p s).Sound A B := by
  unfold transmitterFree; split
  · exact sound_arbitrate p (sound_portFit p (sound_advance _ h) (fun k => by simp [PortRec.owner] at k))
  · exact h
@[simp] theorem sound_wakeEdge {s : State} (h : s.Sound A B) : (wakeEdge s).Sound A B := by
  unfold wakeEdge
  try dsimp only
  repeat' split
  all_goals simp (maxDischargeDepth := 12) [h]

theorem load_keeps (g : Fin 5) (b : List Byte) {s t : State} (e : loadGroup g b s = some t) : t.phase = s.phase ∧
    t.ev.attn = s.ev.attn ∧ (s.BoundsInv → t.BoundsInv) := by
  obtain ⟨n, hn⟩ := g
  rcases (by omega : n = 0 ∨ n = 1 ∨ n = 2 ∨ n = 3 ∨ n = 4) with rfl | rfl | rfl | rfl | rfl <;> simp only [loadGroup] at e
  · unfold loadOne at e; split at e
    · dsimp only at e; split at e <;> simp at e
      subst e; exact ⟨rfl, rfl, fun h => h.same rfl rfl rfl rfl rfl rfl rfl⟩
    · simp at e
  · unfold loadTwo at e; split at e
    · split at e <;> simp at e
      subst e; exact ⟨rfl, rfl, fun h => h.same rfl rfl rfl rfl rfl rfl rfl⟩
    · simp at e
  · unfold loadThree at e; split at e
    · dsimp only at e; split at e <;> simp at e
      subst e; exact ⟨rfl, rfl, fun h => h.same rfl rfl rfl rfl rfl rfl rfl⟩
    · simp at e
  · unfold loadFour at e; simp at e
    obtain ⟨a, _, rfl⟩ := e; exact ⟨rfl, rfl, fun h => h.same rfl rfl rfl rfl rfl rfl rfl⟩
  · unfold loadFive at e; simp at e
    obtain ⟨a, _, rfl⟩ := e
    exact ⟨rfl, rfl, fun h => h.of rfl rfl rfl rfl ⟨rfl, rfl, rfl⟩ rfl rfl (grantsFit_settings a s)⟩

/-- Before the outputs are enabled. -/
structure State.Early (A B : Prop) (s : State) : Prop where
  phase : s.phase ≠ .running
  attn : A → s.ev.attn = false
  bounds : B → s.BoundsInv

theorem early_fallback {s : State} (h : s.Early A B) : (fallback s).Early A B :=
    ⟨h.1, h.2, fun b => (h.3 b).same rfl rfl rfl rfl rfl rfl rfl⟩
theorem early_setLoad (g x) {s : State} (h : s.Early A B) : (setLoad g x s).Early A B :=
    ⟨h.1, h.2, fun b => (h.3 b).same rfl rfl rfl rfl rfl rfl rfl⟩
theorem early_judge (g : Fin 5) {s : State} (h : s.Early A B) : (judgeGroup g s).Early A B := by
  unfold judgeGroup; dsimp only; split
  · split; exact early_setLoad _ _ h; exact early_fallback (early_setLoad _ _ h)
  · split; exact early_fallback (early_setLoad _ _ h)
    split
    · rename_i t e
      obtain ⟨a, b, c⟩ := load_keeps _ _ e
      exact early_setLoad _ _ ⟨by rw [a]; exact h.1, by rw [b]; exact h.2, fun z => c (h.3 z)⟩
    · exact early_fallback (early_setLoad _ _ h)
theorem early_of {s t : State} (h : s.Early A B) (a : t.phase = s.phase) (b : t.ev.attn = s.ev.attn)
    (u : t.up = s.up) (d : t.sched.queue = s.sched.queue) (e : t.fwd.hold = s.fwd.hold)
    (f : t.seq.tagCounter = s.seq.tagCounter) (q : t.fwd.queues = s.fwd.queues) (o : t.fwd.outs = s.fwd.outs)
    (p : t.ports = s.ports) : t.Early A B :=
  ⟨by rw [a]; exact h.1, by rw [b]; exact h.2, fun z => (h.3 z).same u d e f q o p⟩
theorem early_startupLoad {s : State} (h : s.Early A B) : (startupLoad s).Early A B := by
  unfold startupLoad; dsimp only
  have g : ∀ (l : List (Fin 5)) {s : State}, s.Early A B → (l.foldl (fun s g => judgeGroup g s) s).Early A B := by
    intro l; induction l with
    | nil => intro s h; exact h
    | cons a l ih => intro s h; exact ih (early_judge a h)
  have g := g (List.finRange 5) h
  revert g; generalize List.foldl _ _ _ = u; intro g
  have g : (crossBulk u).Early A B := by
    unfold crossBulk; split <;> (try split) <;> first | exact g | exact early_fallback (early_setLoad _ _ (early_of g rfl rfl rfl rfl rfl rfl rfl rfl rfl))
  revert g; generalize crossBulk u = u; intro g
  have g : (crossBudget u).Early A B := by
    unfold crossBudget; split
    · exact g
    exact early_fallback (early_setLoad _ _ (early_setLoad _ _ (early_of g rfl rfl rfl rfl rfl rfl rfl rfl rfl)))
  revert g; generalize crossBudget u = u; intro g
  have g : (crossRoles u).Early A B := by
    unfold crossRoles; dsimp only; split
    · exact early_fallback (early_of g rfl rfl rfl rfl rfl rfl rfl rfl rfl)
    · exact early_of g rfl rfl rfl rfl rfl rfl rfl rfl rfl
  revert g; generalize crossRoles u = u; intro g
  exact early_of g (by simp) (by simp) (by simp) (by simp) (by simp) (by simp) (by simp) (by simp) (by simp)

theorem State.Sound.early {s : State} (h : s.Sound A B) (p : s.phase ≠ .running) : s.Early A B :=
    ⟨p, fun a => (h.attn a).2 p, h.bounds⟩

@[simp] theorem sound_startupWaitEnd {s : State} (h : s.Sound A B) : (startupWaitEnd s).Sound A B := by
  unfold startupWaitEnd; split
  · rename_i due e
    have g := early_startupLoad (s := advance due s) (State.Sound.early (sound_advance _ h) (by simp [e]))
    revert g; generalize startupLoad _ = u; intro g
    exact ⟨fun a => ⟨fun z => by simp at z, fun _ => g.2 a⟩, fun b => (g.3 b).same rfl rfl rfl rfl rfl rfl rfl⟩
  · exact h
@[simp] theorem sound_startupLoadComplete {s : State} (h : s.Sound A B) : (startupLoadComplete s).Sound A B := by
  unfold startupLoadComplete; split
  · rename_i e
    have a := fun w => (h.attn w).2 (by simp [e])
    dsimp only
    apply sound_lookAtPorts
    refine ⟨fun w => ⟨fun _ => ?_, fun q => absurd ?_ q⟩, fun b => ?_⟩
    · unfold startEvents followRequesting startRails
      dsimp only
      split
      · rename_i c
        simp [EventUnit.requesting] at c
        split <;> (simp [EventUnit.requesting]; exact c)
      · rename_i c
        simp [EventUnit.requesting] at c
        simp [EventUnit.requesting, a w, c]
    · simp [startEvents, startRails]
    · exact bounds_followRequesting 0 ((h.bounds b).same rfl rfl rfl rfl rfl rfl rfl)
  · exact h

theorem sound_event {f : State → State} (hf : ∀ s, s.Sound A B → (f s).Sound A B) {s t : State}
    (h : s.Sound A B) (e : event f s = .next t) : t.Sound A B := by
  unfold event at e; injection e with e; subst e; exact sound_settle _ (hf _ (sound_settle _ h))

end Sys2Proof.Machine
end

