-- ==== Sys2Proof/Laws/PerInstr.lean ====
section
/-! SUPPORT. For every command: where it is well-formed, the frame it carries is one that a lane can carry. -/

namespace Sys2Proof.Laws.Operands

set_option Elab.async false

open Sys2Proof.Machine

/-- The frame of a well-formed command fits a lane: its payload, its kind and its check (R118 to R120). -/
def Statement (i : Instr) : Prop := i.wf = true → ∀ f, i.frame? = some f → f.ok = true

/-- A command that carries no frame. -/
theorem noFrame {i : Instr} (h : i.frame? = none) : Statement i := fun _ f e => by rw [h] at e; cases e

/-- A command that carries a frame made by its sender. -/
theorem ofMake {i : Instr} (d s k : BitVec 4) (c t : Byte) (p : List Byte) (e : i.frame? = some (mkFrame d s k c t p))
    (l : i.wf = true → p.length ≤ 60) (h : i.wf = true → 1 ≤ k.toNat ∧ k.toNat ≤ 5) : Statement i := by
  intro w f g
  rw [e] at g; injection g with g; subst g
  exact mkFrame_ok d s k c t p (l w) (h w)

/-- A payload that is checked to fit a frame. -/
theorem fits {p : List Byte} (h : payloadFits p = true) : p.length ≤ 60 := of_decide_eq_true h

theorem identify (tag : Byte) : Statement (.identify tag) :=
  ofMake _ _ _ _ _ _ rfl (fun _ => by simp) (fun _ => by decide)
theorem snapshot (tag : Byte) : Statement (.snapshot tag) :=
  ofMake _ _ _ _ _ _ rfl (fun _ => by simp) (fun _ => by decide)
theorem readEvents (tag : Byte) : Statement (.readEvents tag) :=
  ofMake _ _ _ _ _ _ rfl (fun _ => by simp) (fun _ => by decide)
theorem setMask (tag : Byte) (mask : Word16) : Statement (.setMask tag mask) :=
  ofMake _ _ _ _ _ _ rfl (fun _ => by simp [bytes2]) (fun _ => by decide)
theorem clearEvents (tag : Byte) : Statement (.clearEvents tag) :=
  ofMake _ _ _ _ _ _ rfl (fun _ => by simp) (fun _ => by decide)
theorem loadRail (tag : Byte) (payload : List Byte) : Statement (.loadRail tag payload) :=
  ofMake _ _ _ _ _ _ rfl (fun w => by have := eq_of_beq w; omega) (fun _ => by decide)
theorem readRail (tag : Byte) (rail : Byte) : Statement (.readRail tag rail) :=
  ofMake _ _ _ _ _ _ rfl (fun _ => by simp) (fun _ => by decide)
theorem clearFault (tag : Byte) (rail : Byte) : Statement (.clearFault tag rail) :=
  ofMake _ _ _ _ _ _ rfl (fun _ => by simp) (fun _ => by decide)
theorem loadChannel (tag : Byte) (channel : Byte) (low high : Word16) (debounce : Byte) :
    Statement (.loadChannel tag channel low high debounce) :=
  ofMake _ _ _ _ _ _ rfl (fun _ => by simp [bytes2]) (fun _ => by decide)
theorem readSense (tag : Byte) : Statement (.readSense tag) :=
  ofMake _ _ _ _ _ _ rfl (fun _ => by simp) (fun _ => by decide)
theorem loadAdmit (tag : Byte) (payload : List Byte) : Statement (.loadAdmit tag payload) :=
  ofMake _ _ _ _ _ _ rfl (fun w => by have := eq_of_beq w; omega) (fun _ => by decide)
theorem readAdmit (tag : Byte) (index : Byte) : Statement (.readAdmit tag index) :=
  ofMake _ _ _ _ _ _ rfl (fun _ => by simp) (fun _ => by decide)
theorem loadSteps (tag : Byte) (payload : List Byte) : Statement (.loadSteps tag payload) :=
  ofMake _ _ _ _ _ _ rfl (fun w => fits ((Bool.and_eq_true _ _).mp w).1) (fun _ => by decide)
theorem readSteps (tag : Byte) (start count : Byte) : Statement (.readSteps tag start count) :=
  ofMake _ _ _ _ _ _ rfl (fun _ => by simp) (fun _ => by decide)
theorem loadProgram (tag : Byte) (program first count priority : Byte) :
    Statement (.loadProgram tag program first count priority) :=
  ofMake _ _ _ _ _ _ rfl (fun _ => by simp) (fun _ => by decide)
theorem loadTemplate (tag : Byte) (payload : List Byte) : Statement (.loadTemplate tag payload) :=
  ofMake _ _ _ _ _ _ rfl (fun w => fits ((Bool.and_eq_true _ _).mp w).1) (fun _ => by decide)
theorem readProgram (tag : Byte) (program : Byte) : Statement (.readProgram tag program) :=
  ofMake _ _ _ _ _ _ rfl (fun _ => by simp) (fun _ => by decide)
theorem startProgram (tag : Byte) (program : Byte) : Statement (.startProgram tag program) :=
  ofMake _ _ _ _ _ _ rfl (fun _ => by simp) (fun _ => by decide)
theorem abortProgram (tag : Byte) (program : Byte) : Statement (.abortProgram tag program) :=
  ofMake _ _ _ _ _ _ rfl (fun _ => by simp) (fun _ => by decide)
theorem readResult (tag : Byte) : Statement (.readResult tag) :=
  ofMake _ _ _ _ _ _ rfl (fun _ => by simp) (fun _ => by decide)
theorem loadPlan (tag : Byte) (payload : List Byte) : Statement (.loadPlan tag payload) :=
  ofMake _ _ _ _ _ _ rfl (fun w => by have := eq_of_beq w; omega) (fun _ => by decide)
theorem readPlan (tag : Byte) : Statement (.readPlan tag) :=
  ofMake _ _ _ _ _ _ rfl (fun _ => by simp) (fun _ => by decide)
theorem readRecord (tag : Byte) : Statement (.readRecord tag) :=
  ofMake _ _ _ _ _ _ rfl (fun _ => by simp) (fun _ => by decide)
theorem clearRecord (tag : Byte) : Statement (.clearRecord tag) :=
  ofMake _ _ _ _ _ _ rfl (fun _ => by simp) (fun _ => by decide)
theorem readPort (tag : Byte) (port : Byte) : Statement (.readPort tag port) :=
  ofMake _ _ _ _ _ _ rfl (fun _ => by simp) (fun _ => by decide)
theorem resetBoard (tag : Byte) (port : Byte) : Statement (.resetBoard tag port) :=
  ofMake _ _ _ _ _ _ rfl (fun _ => by simp) (fun _ => by decide)
theorem loadPortSettings (tag : Byte) (payload : List Byte) : Statement (.loadPortSettings tag payload) :=
  ofMake _ _ _ _ _ _ rfl (fun w => by have := eq_of_beq w; omega) (fun _ => by decide)
theorem saveSettings (tag : Byte) : Statement (.saveSettings tag) :=
  ofMake _ _ _ _ _ _ rfl (fun _ => by simp) (fun _ => by decide)
theorem readStoreStatus (tag : Byte) : Statement (.readStoreStatus tag) :=
  ofMake _ _ _ _ _ _ rfl (fun _ => by simp) (fun _ => by decide)
theorem enterStandby (tag : Byte) : Statement (.enterStandby tag) :=
  ofMake _ _ _ _ _ _ rfl (fun _ => by simp) (fun _ => by decide)
theorem resetPart (tag : Byte) : Statement (.resetPart tag) :=
  ofMake _ _ _ _ _ _ rfl (fun _ => by simp) (fun _ => by decide)
theorem unknownRequestCode (cls tag : Byte) (payload : List Byte) : Statement (.unknownRequestCode cls tag payload) :=
  ofMake _ _ _ _ _ _ rfl (fun w => fits ((Bool.and_eq_true _ _).mp w).1) (fun _ => by decide)
theorem forwardCommand (port : Port) (cls tag : Byte) (payload : List Byte) :
    Statement (.forwardCommand port cls tag payload) :=
  ofMake _ _ _ _ _ _ rfl (fun w => fits w) (fun _ => by decide)
theorem badAddressCommand (dest src : BitVec 4) (cls tag : Byte) (payload : List Byte) :
    Statement (.badAddressCommand dest src cls tag payload) :=
  ofMake _ _ _ _ _ _ rfl (fun w => fits ((Bool.and_eq_true _ _).mp w).1) (fun _ => by decide)
theorem upstreamFrameReceived (bytes : List Byte) : Statement (.upstreamFrameReceived bytes) := noFrame rfl
theorem malformedFrame (lane : LaneEnd) (bytes : List Byte) : Statement (.malformedFrame lane bytes) := noFrame rfl
theorem upstreamTxComplete : Statement .upstreamTxComplete := noFrame rfl
theorem uPresentFalls : Statement .uPresentFalls := noFrame rfl
theorem uPresentRises : Statement .uPresentRises := noFrame rfl
theorem presentRises (port : Port) : Statement (.presentRises port) := noFrame rfl
theorem presentFalls (port : Port) : Statement (.presentFalls port) := noFrame rfl
theorem probeTimerExpiry (port : Port) : Statement (.probeTimerExpiry port) := noFrame rfl
theorem capabilityInExchange (port : Port) (tag : Byte) (payload : List Byte) :
    Statement (.capabilityInExchange port tag payload) :=
  ofMake _ _ _ _ _ _ rfl (fun w => fits ((Bool.and_eq_true _ _).mp w).1) (fun _ => by decide)
theorem unsolicitedCapability (port : Port) (tag : Byte) (payload : List Byte) :
    Statement (.unsolicitedCapability port tag payload) :=
  ofMake _ _ _ _ _ _ rfl (fun w => fits ((Bool.and_eq_true _ _).mp w).1) (fun _ => by decide)
theorem invalidCapability (port : Port) (tag : Byte) (payload : List Byte) :
    Statement (.invalidCapability port tag payload) :=
  ofMake _ _ _ _ _ _ rfl (fun w => fits ((Bool.and_eq_true _ _).mp w).1) (fun _ => by decide)
theorem resetPulseExpiry (port : Port) : Statement (.resetPulseExpiry port) := noFrame rfl
theorem downstreamFrameDiscarded (port : Port) (dest src kind : BitVec 4) (cls tag : Byte) (payload : List Byte) :
    Statement (.downstreamFrameDiscarded port dest src kind cls tag payload) :=
  ofMake _ _ _ _ _ _ rfl (fun w => fits ((Bool.and_eq_true _ _).mp w).1) (fun w => by simpa using ((Bool.and_eq_true _ _).mp w).2)
theorem transmitterFree (port : Port) : Statement (.transmitterFree port) := noFrame rfl
theorem downstreamTxComplete (port : Port) : Statement (.downstreamTxComplete port) := noFrame rfl
theorem railControlReply (port : Port) (cls : Byte) (rail : RailId) (payload : List Byte) :
    Statement (.railControlReply port cls rail payload) :=
  ofMake _ _ _ _ _ _ rfl (fun w => fits w) (fun _ => by decide)
theorem railFrameDeadline (rail : RailId) : Statement (.railFrameDeadline rail) := noFrame rfl
theorem sequencerReply (port : Port) (cls tag : Byte) (payload : List Byte) :
    Statement (.sequencerReply port cls tag payload) :=
  ofMake _ _ _ _ _ _ rfl (fun w => fits ((Bool.and_eq_true _ _).mp w).1) (fun _ => by decide)
theorem boardReply (port : Port) (cls tag : Byte) (payload : List Byte) :
    Statement (.boardReply port cls tag payload) :=
  ofMake _ _ _ _ _ _ rfl (fun w => fits w) (fun _ => by decide)
theorem boardNotice (port : Port) (cls tag : Byte) (payload : List Byte) :
    Statement (.boardNotice port cls tag payload) :=
  ofMake _ _ _ _ _ _ rfl (fun w => fits w) (fun _ => by decide)
theorem outstandingDeadlineExpiry (port : Port) (tag : Byte) :
    Statement (.outstandingDeadlineExpiry port tag) := noFrame rfl
theorem holdDeadlineExpiry (port : Port) (tag : Byte) : Statement (.holdDeadlineExpiry port tag) := noFrame rfl
theorem senseSample (channel : ChannelId) (millivolts : Nat) :
    Statement (.senseSample channel millivolts) := noFrame rfl
theorem settleExpiry (rail : RailId) : Statement (.settleExpiry rail) := noFrame rfl
theorem riseTimeout (rail : RailId) : Statement (.riseTimeout rail) := noFrame rfl
theorem fallExpiry (rail : RailId) : Statement (.fallExpiry rail) := noFrame rfl
theorem dischargeExpiry (rail : RailId) : Statement (.dischargeExpiry rail) := noFrame rfl
theorem lineEdge : Statement .lineEdge := noFrame rfl
theorem lineGapExpiry : Statement .lineGapExpiry := noFrame rfl
theorem fsyncEdge : Statement .fsyncEdge := noFrame rfl
theorem wakeEdge : Statement .wakeEdge := noFrame rfl
theorem delayExpiry : Statement .delayExpiry := noFrame rfl
theorem syncTimeout : Statement .syncTimeout := noFrame rfl
theorem sendWindowExpiry : Statement .sendWindowExpiry := noFrame rfl
theorem noticeTimeout : Statement .noticeTimeout := noFrame rfl
theorem claimWaitExpiry : Statement .claimWaitExpiry := noFrame rfl
theorem triggerTimerExpiry (trigger : TriggerId) : Statement (.triggerTimerExpiry trigger) := noFrame rfl
theorem resumeDelayExpiry : Statement .resumeDelayExpiry := noFrame rfl
theorem recordWriteComplete : Statement .recordWriteComplete := noFrame rfl
theorem saveGroupWriteEnd : Statement .saveGroupWriteEnd := noFrame rfl
theorem powerOnReset : Statement .powerOnReset := noFrame rfl
theorem supplyLowReset : Statement .supplyLowReset := noFrame rfl
theorem resetPin : Statement .resetPin := noFrame rfl
theorem startupWaitEnd : Statement .startupWaitEnd := noFrame rfl
theorem startupLoadComplete : Statement .startupLoadComplete := noFrame rfl
theorem upstreamTransmitterFree : Statement .upstreamTransmitterFree := noFrame rfl

end Sys2Proof.Laws.Operands
end

