-- ==== Sys2Proof/Laws/RailSteps.lean ====
section
/-! SUPPORT. How a running RAIL_ON or RAIL_OFF step takes its rail's reports and ends (R7, R54, R57, R58). -/

namespace Sys2Proof.Machine

/-! ### The rail that a step lets go -/

@[simp] theorem rail_unclaimed_self (s : State) (r : RailId) :
    (s.unclaimed r).rail r = { s.rail r with dyn := { (s.rail r).dyn with claim := .none } } := by
  unfold State.unclaimed; rw [rail_modDyn_self]

theorem rail_unclaimed_other (s : State) {r q : RailId} (h : q ≠ r) : (s.unclaimed r).rail q = s.rail q := by
  unfold State.unclaimed; rw [rail_modDyn, if_neg h]

/-- Two changes of one rail's dynamic half. -/
theorem modDyn_modDyn (r : RailId) (f g : RailDynamic → RailDynamic) (s : State) :
    modDyn r g (modDyn r f s) = modDyn r (fun d => g (f d)) s := by
  have h : (modDyn r f s).rail r = { s.rail r with dyn := f (s.rail r).dyn } := rail_modDyn_self r f s
  unfold modDyn at *
  rw [h]
  apply State.ext <;> simp [setRail]

/-- A claim takes no part in a change of state. -/
theorem enterState_modDyn (r : RailId) (st : RailState) (f : RailDynamic → RailDynamic) (s : State)
    (hs : ∀ d, (f d).state = d.state)
    (hf : ∀ d t, f { d with state := st, timer := t, heldGood := st == .on, faultCause := none } =
      { f d with state := st, timer := t, heldGood := st == .on, faultCause := none }) :
    enterState r st (modDyn r f s) = modDyn r f (enterState r st s) := by
  have dr : ∀ g (v : State), driveOutputs r st (modDyn r g v) = modDyn r g (driveOutputs r st v) := by
    intro g v
    unfold driveOutputs
    rw [rail_modDyn_self]
    simp only []
    cases (v.rail r).static.path <;> cases (v.rail r).static.discharge <;> rfl
  have fr : ∀ g a b (v : State), followRail r a b (modDyn r g v) = modDyn r g (followRail r a b v) := by
    intro g a b v
    unfold followRail
    rw [rail_modDyn_self]
    simp only []
    cases (v.rail r).static.sense <;> rfl
  unfold enterState
  have e : (modDyn r f s).rail r = { s.rail r with dyn := f (s.rail r).dyn } := rail_modDyn_self r f s
  simp only [e, hs]
  have n : (modDyn r f s).now = s.now := rfl
  rw [n, modDyn_modDyn, ← fr, ← dr, modDyn_modDyn]
  simp only [hf]

theorem enterState_unclaimed (r : RailId) (st : RailState) (s : State) :
    enterState r st (s.unclaimed r) = (enterState r st s).unclaimed r :=
  enterState_modDyn r st _ s (fun _ => rfl) (fun _ _ => rfl)

theorem enterState_unframed (r : RailId) (st : RailState) (s : State) :
    enterState r st (s.unframed r) = (enterState r st s).unframed r :=
  enterState_modDyn r st _ s (fun _ => rfl) (fun _ _ => rfl)

/-- Entering a state moves the rail and nothing else. -/
theorem onlyMovedTo_enterState (r : RailId) (st : RailState) (s : State) {t : Option Time}
    (h : ((s.rail r).static.timerMs st).map (fun t => s.now + Config.ms t) = t) :
    State.OnlyMovedTo r st t none s (enterState r st s) :=
  { toMovedTo := h ▸ movedTo_enterState r st s, rest := enterState_rest r st s }

theorem onlyMovedTo_fault (r : RailId) (ca : FaultCause) (s : State) :
    State.OnlyMovedTo r .fault none (some ca) s
      (modDyn r (fun d => { d with faultCause := some ca }) (enterState r .fault s)) :=
  { toMovedTo := movedTo_fault r ca s _ rfl, rest := fault_rest r ca s }

theorem markThenOff_none {s : State} {r : RailId} (h : (s.rail r).dyn.frame = none) : markThenOff r s = s :=
  modDyn_same r s _ (by simp only [h]; cases hd : (s.rail r).dyn; rw [hd] at h; simp only at h; subst h; rfl)

/-! ### The end of a rail step -/

/-- The state that an ending rail step leaves: an ON frame in flight of a RAIL_ON step gains THEN_OFF, and the claim is
released (R54). -/
def State.released (s : State) (r : RailId) : StepKind → State
  | .railOn _ _ => (markThenOff r s).unclaimed r
  | _ => s.unclaimed r

/-- The tidying up at the end of a rail step that holds its claim. -/
theorem stepEnd_rail {v : State} {c : Context} {r : RailId} {k : StepKind} (fl : Option FailReason)
    (va : v.agenda = []) (vc : v.seq.ctx = some c) (kd : (v.stepAt c.index).kind = k) (kr : k.rail? = some r)
    (cl : (v.rail r).dyn.claim = .step) :
    stepEnd fl v = (modCtx (fun c => { c with timer := none, frame := none, wait := .none }) (v.released r k)).todo
      [.report r .claim, .afterStep fl] := by
  have cur := current_eq vc kd
  have drop : ∀ w : State, w.agenda = [] → (w.rail r).dyn.claim = .step →
      dropStepClaim r w = (w.unclaimed r).todo [.report r .claim] := by
    intro w wa wc
    unfold dropStepClaim; rw [if_pos wc]; unfold dropClaim
    exact later_eq_todo (by exact wa) _
  have mk : ((markThenOff r v).rail r).dyn.claim = .step := by
    unfold markThenOff; rw [rail_modDyn_self]; exact cl
  unfold stepEnd tidyStep
  rw [cur]
  cases k <;> simp only [StepKind.rail?, Option.some.injEq, reduceCtorEq] at kr
  · subst kr; simp only []; rw [drop (markThenOff _ v) (by exact va) mk]; rfl
  · subst kr; simp only []; rw [drop v va cl]; rfl

@[simp] theorem released_seq (s : State) (r : RailId) (k : StepKind) : (s.released r k).seq = s.seq := by cases k <;> rfl
@[simp] theorem released_sched (s : State) (r : RailId) (k : StepKind) : (s.released r k).sched = s.sched := by
  cases k <;> rfl
@[simp] theorem released_fwd (s : State) (r : RailId) (k : StepKind) : (s.released r k).fwd = s.fwd := by cases k <;> rfl
@[simp] theorem released_agenda (s : State) (r : RailId) (k : StepKind) : (s.released r k).agenda = s.agenda := by
  cases k <;> rfl
@[simp] theorem released_takeDue (s : State) (r : RailId) (k : StepKind) : (s.released r k).takeDue = s.takeDue := by
  cases k <;> rfl

/-- With no RAIL_FRAME record an ending rail step releases its claim and no more. -/
theorem released_unframed {s : State} {r : RailId} (k : StepKind) (h : (s.rail r).dyn.frame = none) :
    s.released r k = s.unclaimed r := by
  cases k <;> simp only [State.released]
  rw [markThenOff_none h]

/-- The end of such a rail step ends its program; what waited behind it is taken next. -/
theorem settle_stepEnd (n : Nat) (ws : List Work) {s v : State} {c : Context} {x : Running} {r : RailId} {k : StepKind}
    {a : Option Time} {b : Option SendFrame} {w : Wait} (fl : Option FailReason) (st : s.RailStep c x r k) (va : v.Settled)
    (vq : v.seq = { s.seq with ctx := some { c with timer := a, frame := b, wait := w } }) (vs : v.sched = s.sched)
    (vf : v.fwd.hold = []) (cl : (v.rail r).dyn.claim = .step) :
    settle (n + 6) ((stepEnd fl v).todo ((stepEnd fl v).agenda ++ ws)) =
      settle n (((v.released r k).endedWith c (Context.endOf c fl)).todo ws) := by
  have kd : (v.stepAt c.index).kind = k := by rw [stepAt_congr (s := s) (by rw [vq])]; exact st.kind
  have vc : v.seq.ctx = some { c with timer := a, frame := b, wait := w } := by rw [vq]
  rw [stepEnd_rail fl va.1 vc (by exact kd) st.rail cl]
  obtain ⟨y, hy⟩ : ∃ y, y = modCtx (fun c => { c with timer := none, frame := none, wait := .none }) (v.released r k) :=
    ⟨_, rfl⟩
  have ym : y = { v.released r k with seq := { (v.released r k).seq with
      ctx := some { c with timer := none, frame := none, wait := .none } } } := by
    rw [hy, modCtx_eq _ _ _ (by rw [released_seq]; exact vc)]
  rw [← hy]
  have ya : y.Settled := by rw [ym]; exact ⟨by simp [va.1], by simp [va.2]⟩
  have yc : y.seq.ctx = some { c with timer := none, frame := none, wait := .none } := by rw [ym]
  have quiet : seqRail r .claim y = y := by
    unfold seqRail
    rw [current_eq yc (k := k) (by rw [stepAt_congr (s := v) (by rw [ym]; simp)]; exact kd)]
    have kr := st.rail
    cases k <;> simp only [StepKind.rail?, Option.some.injEq, reduceCtorEq] at kr <;> simp [railOnReport, railOffReport]
  show settle (n + 4 + 2) (y.todo (.report r .claim :: .afterStep fl :: ws)) = _
  rw [settle_report_noHold _ _ _ _ ya.1 (by rw [ym]; simpa using vf),
    settle_plain _ (.seqRail r .claim) _ ya.1 rfl quiet ya.1,
    settle_lastStep_tail n ws st.lastStep ya yc (by rw [ym]; simpa using vs) (by rw [ym]; simp [vq])
      (by rw [ym]; simp [vq]) rfl rfl rfl rfl (fun _ => st.aborts), ym, endedWith_ctx]

/-- A report of the step's rail that ends the step ends its program; what waited behind it is taken next (R7, R57, R58). -/
theorem settle_reportEnds (n : Nat) (ws : List Work) {s v : State} {c : Context} {x : Running} {r : RailId} {k : StepKind}
    {a : Option Time} {b : Option SendFrame} {w : Wait} (q : RailId) (kd : ReportKind) (fl : Option FailReason)
    (st : s.RailStep c x r k) (va : v.Settled)
    (vq : v.seq = { s.seq with ctx := some { c with timer := a, frame := b, wait := w } }) (vs : v.sched = s.sched)
    (vf : v.fwd.hold = []) (cl : (v.rail r).dyn.claim = .step) (sr : seqRail q kd v = stepEnd fl v) :
    settle (n + 9) (v.todo (.report q kd :: ws)) =
      settle n (((v.released r k).endedWith c (Context.endOf c fl)).todo ws) := by
  show settle (n + 7 + 2) _ = _
  rw [settle_report_noHold _ _ _ _ va.1 vf, settle_todo _ _ _ va.1 rfl]
  have : handle (.seqRail q kd) v = stepEnd fl v := sr
  rw [this]
  exact settle_stepEnd n ws fl st va vq vs vf cl

/-- The step under way, as the Sequencer looks at it, and its wait. -/
theorem current_railStep {s v : State} {c : Context} {x : Running} {r : RailId} {k : StepKind} {a : Option Time}
    {b : Option SendFrame} {w : Wait} (st : s.RailStep c x r k)
    (vq : v.seq = { s.seq with ctx := some { c with timer := a, frame := b, wait := w } }) :
    v.current = some ({ c with timer := a, frame := b, wait := w }, k) :=
  current_eq (by rw [vq]) (by
    show (v.stepAt c.index).kind = k
    rw [stepAt_congr (s := s) (by rw [vq])]; exact st.kind)

theorem seq_self {s : State} {c : Context} (h : s.seq.ctx = some c) :
    s.seq = { s.seq with ctx := some { c with timer := c.timer, frame := c.frame, wait := c.wait } } := by
  show s.seq = { s.seq with ctx := some c }
  rw [← h]

/-! ### A sample of a bound channel -/

/-- A sample of a rail's channel hands the alarm entry first, then the level report (R33). -/
theorem senseSample_bound {s : State} {d : ChannelId} {mv : Nat} {r : RailId} {y : Channel} (up : s.Up)
    (sm : s.Samples d mv r y) :
    senseSample d mv s = levelReport y (min 1023 (mv / 4)) (alarmEntry (s.chan d).alarm y (setChan d y (convTurn d s))) := by
  have ch : (convTurn d s).chan d = s.chan d := by unfold State.chan; rw [convTurn_chans]
  have sd : ∀ z n, (convTurn d s).sampled z n = s.sampled z n := by
    intro z n
    have e : ∀ q, (convTurn d s).rail q = s.rail q := by intro q; unfold State.rail; rw [convTurn_rails]
    unfold State.sampled State.lowWorks State.railState
    simp only [e]
  have yr : y.role = .bound r := by
    rw [sm.record, ← sm.role]
    unfold State.sampled
    simp only []
    unfold Channel.counted
    split <;> rfl
  unfold senseSample
  rw [if_neg (by rw [up.running, sm.converts]; simp)]
  simp only [ch, sd]
  have : codeOf mv = min 1023 (mv / 4) := rfl
  rw [this, ← sm.record, yr, if_neg (by simp)]

/-- The state that a sample of a rail's channel leaves before anything is handed on. -/
theorem afterSample_rest (s : State) (d : ChannelId) (y : Channel) (u : State) (hu : u = setChan d y (convTurn d s)) :
    u.rails = s.rails ∧ u.seq = s.seq ∧ u.sched = s.sched ∧ u.fwd = s.fwd ∧ u.agenda = s.agenda ∧ u.takeDue = s.takeDue ∧
      u.phase = s.phase ∧ u.ports = s.ports ∧ u.rtu = s.rtu := by
  subst hu; simp [setChan]

/-! ### A change of the rail's state, taken by its step -/

/-- No dependent up, read off a state whose rail `r` has moved. -/
theorem dependents_down_moved {u v : State} {r : RailId} {st : RailState} {ti : Option Time} {ca : Option FaultCause}
    (mv : State.MovedTo r st ti ca u v) (d : st.isUp = false) (dp : u.NoDependentUp r) :
    ∀ q ∈ v.dependents r, (v.railState q).isUp = false := by
  apply dependents_down; intro q
  by_cases e : q = r
  · subst e; rw [mv.rail]; intro _ _; constructor <;> (intro h; simp at h; subst h; revert d; decide)
  · rw [mv.others q e]; exact dp q

theorem rail_endedWith (s : State) (c : Context) (e : ProgramEnd) (q : RailId) : (s.endedWith c e).rail q = s.rail q := by
  unfold State.rail State.endedWith; rw [raise_rails]

/-- The cascade that a move hands on, where no dependent is up. -/
theorem settle_cascade_down (n : Nat) (r : RailId) (b : Bool) {v : State} (h : v.Settled)
    (d : b = true → ∀ q ∈ v.dependents r, (v.railState q).isUp = false) :
    settle (n + 1) (v.todo (if b then [.cascade r 0] else [])) = v := by
  cases b
  · exact settle_done _ h
  · rw [if_pos rfl, settle_cascade_none _ _ _ _ h.1 (d rfl)]; exact settle_done _ h

/-- A move of the step's rail whose report ends the step: the rail moves with its claim released, and the program ends. -/
theorem settle_moveRail_ends (n : Nat) {s u : State} {c : Context} {x : Running} {r : RailId} {k : StepKind}
    {a : Option Time} {b : Option SendFrame} {w : Wait} (goal : RailState) (fl : Option FailReason) (st : s.RailStep c x r k)
    (ua : u.Settled) (uq : u.seq = { s.seq with ctx := some { c with timer := a, frame := b, wait := w } })
    (us : u.sched = s.sched) (uf : u.fwd.hold = []) (cl : (u.rail r).dyn.claim = .step)
    (fr : k.isRailOn = true → (u.rail r).dyn.frame = none) (high : u.highAlarm r = false ∨ goal ≠ .rising)
    (dp : ((u.rail r).dyn.state.isUp && !goal.isUp) = true → u.NoDependentUp r)
    (sr : seqRail r .state (enterState r goal u) = stepEnd fl (enterState r goal u)) :
    settle (n + 10) (moveRail r goal u) = ((enterState r goal u).unclaimed r).endedWith c (Context.endOf c fl) := by
  have mv := movedTo_enterState r goal u
  have va : (enterState r goal u).Settled := ⟨by simp [ua.1], by simp [ua.2]⟩
  have vr : ((enterState r goal u).rail r).dyn.frame = (u.rail r).dyn.frame := by rw [mv.rail]
  have re : (enterState r goal u).released r k = (enterState r goal u).unclaimed r := by
    cases k with
    | railOn q m =>
      have := fr rfl
      exact released_unframed _ (vr.trans this)
    | _ => rfl
  rw [moveRail_settled r goal ua.1 high]
  show settle (n + 1 + 9) ((enterState r goal u).todo (.report r .state :: _)) = _
  rw [settle_reportEnds (n + 1) _ r .state fl st va (by simpa using uq) (by simpa using us) (by simpa using uf)
    (by rw [mv.rail]; exact cl) sr, re]
  refine settle_cascade_down _ r _ (settled_endedWith _ _ (by exact va)) (fun hb => ?_)
  have down := dependents_down_moved mv (by revert hb; cases goal <;> cases (u.rail r).dyn.state <;> decide) (dp hb)
  have same : ∀ q, ((((enterState r goal u).unclaimed r).endedWith c (Context.endOf c fl)).rail q).static =
      ((enterState r goal u).rail q).static ∧
      ((((enterState r goal u).unclaimed r).endedWith c (Context.endOf c fl)).rail q).dyn.state =
      ((enterState r goal u).rail q).dyn.state := by
    intro q; rw [rail_endedWith]
    by_cases e : q = r
    · subst e; rw [rail_unclaimed_self]; exact ⟨rfl, rfl⟩
    · rw [rail_unclaimed_other _ e]; exact ⟨rfl, rfl⟩
  intro q hq
  rw [mem_dependents, (same q).1] at hq
  have := down q ((mem_dependents _ _ _).mpr hq)
  unfold State.railState at *
  rw [(same q).1, (same q).2]; exact this

/-- A move of the step's rail whose report leaves the step waiting. -/
theorem settle_moveRail_waits (n : Nat) {u : State} {r : RailId} (goal : RailState)
    (ua : u.Settled) (uf : u.fwd.hold = []) (high : u.highAlarm r = false ∨ goal ≠ .rising)
    (dp : ((u.rail r).dyn.state.isUp && !goal.isUp) = true → u.NoDependentUp r)
    (sr : seqRail r .state (enterState r goal u) = enterState r goal u) :
    settle (n + 4) (moveRail r goal u) = enterState r goal u := by
  have mv := movedTo_enterState r goal u
  have va : (enterState r goal u).Settled := ⟨by simp [ua.1], by simp [ua.2]⟩
  rw [moveRail_settled r goal ua.1 high]
  show settle (n + 1 + 1 + 2) ((enterState r goal u).todo (.report r .state :: _)) = _
  rw [settle_report_noHold _ _ _ _ va.1 (by simpa using uf), settle_plain _ (.seqRail r .state) _ va.1 rfl sr va.1]
  exact settle_cascade_down _ r _ va (fun hb =>
    dependents_down_moved mv (by revert hb; cases goal <;> cases (u.rail r).dyn.state <;> decide) (dp hb))

/-- The rail of a move, with its claim released before or after. -/
theorem onlyMovedTo_unclaimed (r : RailId) (st : RailState) (u : State) {t : Option Time}
    (h : ((u.rail r).static.timerMs st).map (fun t => u.now + Config.ms t) = t) :
    State.OnlyMovedTo r st t none (u.unclaimed r) ((enterState r st u).unclaimed r) := by
  rw [← enterState_unclaimed]
  exact onlyMovedTo_enterState r st (u.unclaimed r) (by rw [rail_unclaimed_self]; exact h)

/-! ### What the Sequencer makes of a report -/

/-- A RAIL_ON step takes its rail's report while it waits for its order (R57). -/
theorem seqRail_on {s v : State} {c : Context} {x : Running} {r : RailId} {noWait : Bool} {a : Option Time}
    {b : Option SendFrame} (kd : ReportKind) (st : s.RailStep c x r (.railOn r noWait))
    (vq : v.seq = { s.seq with ctx := some { c with timer := a, frame := b, wait := .order } })
    (vu : (v.rail r).static.used = true) :
    ((v.rail r).dyn.state = .on → seqRail r kd v = stepEnd none v) ∧
    ((v.rail r).dyn.state = .rising → seqRail r kd v = if noWait then stepEnd none v else v) ∧
    ((v.rail r).dyn.state = .fault → seqRail r kd v = stepFail (faultReason (v.rail r).dyn.faultCause) v) ∧
    ((v.rail r).dyn.state = .off ∨ (v.rail r).dyn.state = .falling ∨ (v.rail r).dyn.state = .discharging →
      seqRail r kd v = v) := by
  unfold seqRail
  rw [current_railStep st vq]
  refine ⟨fun h => ?_, fun h => ?_, fun h => ?_, fun h => ?_⟩
  · simp [railOnReport, railState_used vu, h]
  · simp [railOnReport, railState_used vu, h]
  · simp [railOnReport, railState_used vu, h]
  · rcases h with h | h | h <;> simp [railOnReport, railState_used vu, h]

/-- A RAIL_OFF step takes its rail's report while it waits for its order (R58). -/
theorem seqRail_off {s v : State} {c : Context} {x : Running} {r : RailId} {noWait : Bool} {a : Option Time}
    {b : Option SendFrame} (kd : ReportKind) (st : s.RailStep c x r (.railOff r noWait))
    (vq : v.seq = { s.seq with ctx := some { c with timer := a, frame := b, wait := .order } })
    (vu : (v.rail r).static.used = true) :
    ((v.rail r).dyn.state = .off → seqRail r kd v = stepEnd none v) ∧
    ((v.rail r).dyn.state = .falling ∨ (v.rail r).dyn.state = .discharging →
      seqRail r kd v = if noWait = true ∧ kd = .state then stepEnd none v else v) ∧
    ((v.rail r).dyn.state = .fault → seqRail r kd v = stepFail .railFault v) ∧
    ((v.rail r).dyn.state = .rising ∨ (v.rail r).dyn.state = .on → seqRail r kd v = v) := by
  unfold seqRail
  rw [current_railStep st vq]
  refine ⟨fun h => ?_, fun h => ?_, fun h => ?_, fun h => ?_⟩
  · simp [railOffReport, railState_used vu, h]
  · rcases h with h | h <;> simp [railOffReport, railState_used vu, h]
  · simp [railOffReport, railState_used vu, h]
  · rcases h with h | h <;> simp [railOffReport, railState_used vu, h]

/-! ### Entry into FAULT of the step's rail -/

/-- Entry of the step's rail into FAULT: the step fails with its claim released, then RAIL_FAULT (R21, R57, R58; log 41). -/
theorem settle_fault_ends (n : Nat) (ws : List Work) {s u : State} {c : Context} {x : Running} {r : RailId} {k : StepKind} (ca : FaultCause)
    (fl : Option FailReason) (st : s.RailStep c x r k) (ua : u.Settled) (uq : u.seq = s.seq) (us : u.sched = s.sched)
    (uf : u.fwd.hold = []) (cl : (u.rail r).dyn.claim = .step) (fa : u.FaultsAlone r)
    (sr : seqRail r .state (modDyn r (fun d => { d with faultCause := some ca }) (enterState r .fault u)) =
      stepEnd fl (modDyn r (fun d => { d with faultCause := some ca }) (enterState r .fault u))) :
    settle (n + 13) ((enterFault r ca u).todo ((enterFault r ca u).agenda ++ ws)) = settle n ((raise .railFault
      (((modDyn r (fun d => { d with faultCause := some ca }) (enterState r .fault u)).unclaimed r).endedWith c
        (Context.endOf c fl))).todo ws) := by
  obtain ⟨v, hv⟩ : ∃ v, v = modDyn r (fun d => { d with faultCause := some ca }) (enterState r .fault u) := ⟨_, rfl⟩
  rw [← hv] at sr ⊢
  have mv := movedTo_fault r ca u v hv
  have va : v.Settled := by rw [hv]; exact ⟨by simp [modDyn, setRail, ua.1], by simp [modDyn, setRail, ua.2]⟩
  have ps : v.ports = u.ports := by rw [hv]; simp [modDyn, setRail]
  have vq : v.seq = { s.seq with ctx := some { c with timer := c.timer, frame := c.frame, wait := c.wait } } := by
    rw [← seq_self st.lastStep.context, ← uq, hv]; simp [modDyn, setRail]
  have re : v.released r k = v.unclaimed r := released_unframed _ (by rw [mv.rail]; exact fa.noFrame)
  have fo : followOff r v = v := followOff_none mv ps fa.noBoard
  rw [enterFault_todo r ca u v v hv fo va.1]
  show settle (n + 3 + 1 + 9) (v.todo (.report r .state :: _)) = _
  rw [settle_reportEnds _ _ r .state fl st va vq (by rw [hv]; simpa [modDyn, setRail] using us)
    (by rw [hv]; simpa [modDyn, setRail] using uf) (by rw [mv.rail]; exact cl) sr, re]
  obtain ⟨y, hy⟩ : ∃ y, y = (v.unclaimed r).endedWith c (Context.endOf c fl) := ⟨_, rfl⟩
  rw [← hy]
  have ya : y.Settled := by rw [hy]; exact settled_endedWith _ _ (by exact va)
  have yr : ∀ q, (y.rail q).static = (v.rail q).static ∧ (y.rail q).dyn.state = (v.rail q).dyn.state := by
    intro q; rw [hy, rail_endedWith]
    by_cases e : q = r
    · subst e; rw [rail_unclaimed_self]; exact ⟨rfl, rfl⟩
    · rw [rail_unclaimed_other _ e]; exact ⟨rfl, rfl⟩
  have yc : (y.rail r).dyn.claim = .none := by rw [hy, rail_endedWith, rail_unclaimed_self]
  have claim : handle (.faultClaim r) y = y := by
    show faultClaim r y = y
    unfold faultClaim; simp only [yc]
  have dn := dependents_down_fault mv fa.noDependent
  show settle (n + 3 + 1) (y.todo (.faultClaim r :: ([.raise .railFault, .cascade r 0, .faultAction r] ++ ws))) = _
  rw [settle_plain _ (.faultClaim r) _ ya.1 rfl claim ya.1]
  exact settle_fault_tail n ws r ya (by
    intro q hq
    rw [mem_dependents, (yr q).1] at hq
    have := dn q ((mem_dependents _ _ _).mpr hq)
    unfold State.railState at *
    rw [(yr q).1, (yr q).2]; exact this) (by rw [(yr r).1, mv.rail]; exact fa.noAction)

/-- A report of the step's rail in FAULT, while the step waits for its order or for the rail to fall (R57, R58). -/
theorem seqRail_fault {s v : State} {c : Context} {x : Running} {r : RailId} {k : StepKind} {a : Option Time}
    {b : Option SendFrame} {w : Wait} (kd : ReportKind) (st : s.RailStep c x r k)
    (vq : v.seq = { s.seq with ctx := some { c with timer := a, frame := b, wait := w } })
    (hw : w = .order ∨ (w = .fall ∧ k.isRailOn = true)) (vu : (v.rail r).static.used = true)
    (vs : (v.rail r).dyn.state = .fault) (vc : (v.rail r).dyn.faultCause ≠ some .riseTimeout) :
    seqRail r kd v = stepEnd (some .railFault) v := by
  have kr := st.rail
  unfold seqRail
  rw [current_railStep st vq]
  cases k <;> simp only [StepKind.rail?, Option.some.injEq, reduceCtorEq] at kr
  · subst kr
    rcases hw with h | ⟨h, _⟩ <;> subst h <;> simp [railOnReport, railState_used vu, vs, faultReason, vc, stepFail]
  · subst kr
    rcases hw with h | ⟨h, z⟩
    · subst h; simp [railOffReport, railState_used vu, vs, stepFail]
    · cases z

/-! ### The step's frame -/

/-- The step's rail-control frame fails: the step fails with its reason (R6, R57, R58). -/
theorem seqFrameEnd_step {s v : State} {c : Context} {x : Running} {r : RailId} {k : StepKind} {a : Option Time}
    {b : Option SendFrame} (y : FailReason) (st : s.RailStep c x r k)
    (vq : v.seq = { s.seq with ctx := some { c with timer := a, frame := b, wait := .order } })
    (up : k.isRailOn = false → (v.railState r).isUp = true) : seqFrameEnd r y v = stepEnd (some y) v := by
  have kr := st.rail
  unfold seqFrameEnd
  rw [current_railStep st vq]
  cases k <;> simp only [StepKind.rail?, Option.some.injEq, reduceCtorEq] at kr
  · subst kr; simp [stepFail]
  · subst kr; have := up rfl; simp [this, stepFail]

/-- A step that waits for its order waits for its rail's frame (R6). -/
theorem stepWaits_step {s : State} {c : Context} {x : Running} {r : RailId} {k : StepKind} (st : s.RailStep c x r k)
    (w : c.wait = .order) : s.stepWaits r = true := by
  unfold State.stepWaits
  rw [st.lastStep.context]
  simp [w, st.kind, st.rail]

theorem repliesOk_head (payload : List Byte) : repliesOk payload = true ↔ payload.head? = some stOk := by
  unfold repliesOk; cases payload with
  | nil => simp
  | cons b l => simp [stOk]

/-! ### The start of a rail step -/

/-- The end of a DELAY by its timer starts the next step, a rail step on the rail as it stands (R52, R59). -/
theorem event_railStart {s : State} {c : Context} {x : Running} {now : Time} {k : StepKind} {r : RailId}
    (ns : s.NextStep c x now k) (kr : k.rail? = some r) :
    event delayExpiry s = .next (settle 65535 (startRailStep c.program k r (s.startedNext c x now none .none))) := by
  obtain ⟨time, due, kd, ti, hn⟩ := ns.delay
  have cur := current_eq ns.context kd
  obtain ⟨v, hv⟩ : ∃ v : State, v = { s with
      now := now, seq := { s.seq with ctx := some { c with timer := none, frame := none, wait := .none } } } := ⟨_, rfl⟩
  have va : v.Settled := by rw [hv]; exact ns.settled
  have e : delayExpiry s = v.todo [.afterStep none] := by
    unfold delayExpiry; rw [cur]; simp only []
    unfold stepTimer; rw [cur]; simp only [ti]; rw [if_pos ns.toUp.running]
    have ad : advance due s = { s with now := now } := by rw [hn]; rfl
    rw [ad]
    unfold stepEnd tidyStep
    have cur2 : State.current { s with now := now } = some (c, .delay time) := cur
    rw [cur2]; simp only []
    rw [modCtx_eq { s with now := now } _ c ns.context, hv, later_eq_todo (by exact ns.settled.1)]
  rw [event_todo ns.settled e, settle_todo 65535 _ _ va.1 rfl]
  have ac : afterStep none v = startStep (c.index + 1) v := by
    unfold afterStep
    have h1 : v.seq.ctx = some { c with timer := none, frame := none, wait := .none } := by rw [hv]
    have h2 : v.sched.running = some x := by rw [hv]; exact ns.program
    rw [h1, h2]; simp only [ns.unguarded, Bool.false_and, Bool.false_eq_true, if_false]
    unfold goTo
    have h3 : v.inRange c.program (c.index + 1) = true := by rw [hv]; exact ns.range
    rw [if_pos h3]
  have ss : startStep (c.index + 1) v = startRailStep c.program k r (s.startedNext c x now none .none) := by
    have h4 : v.stepAt (c.index + 1) = s.stepAt (c.index + 1) := by rw [hv]; rfl
    have ys : setGuarded (s.stepAt (c.index + 1)).guarded (modCtx (fun d =>
        { d with index := c.index + 1, timer := none, frame := none, wait := .none }) v) =
        s.startedNext c x now none .none := by
      rw [modCtx_eq v _ { c with timer := none, frame := none, wait := .none } (by rw [hv]), hv]
      unfold setGuarded State.startedNext; simp only [ns.program]; rfl
    unfold startStep
    simp only [h4, ys]
    simp only [State.startedNext, ns.next]
    cases k <;> simp only [StepKind.rail?, Option.some.injEq, reduceCtorEq] at kr <;> subst kr <;> rfl
  have hh : handle (.afterStep none) v = startRailStep c.program k r (s.startedNext c x now none .none) :=
    (show afterStep none v = _ from ac.trans ss)
  rw [hh]
  congr 2
  generalize startRailStep c.program k r (s.startedNext c x now none .none) = z
  cases z; simp [State.todo]

/-- The step that starts, as the last step of its program. -/
theorem railStep_started {s : State} {c : Context} {x : Running} {now : Time} {k : StepKind} {r : RailId}
    (ns : s.NextStepLast c x now k) (kr : k.rail? = some r) (us : (s.rail r).static.used = true) :
    (s.startedNext c x now none .none).RailStep
      { c with index := c.index + 1, timer := none, frame := none, wait := .none }
      { x with guarded := (s.stepAt (c.index + 1)).guarded } r k :=
  { settled := ns.settled
    running := ns.toUp.running
    lastStep :=
      { context := rfl, running := rfl, ordinary := ns.ordinary, last := ns.last, unmarked := ns.unmarked,
        noQueue := ns.noQueue }
    kind := ns.next
    rail := kr
    used := us
    aborts := ns.aborts
    noHold := ns.noHold }

end Sys2Proof.Machine
end

