-- ==== Sys2Proof/Tests/Slice0.lean ====
section
/-! SUPPORT. Tests: ill-formed commands that the check refuses, small behaviours, and for each statement of
Certificates/Slice0/Obligations.lean a state and operands that meet its hypotheses. -/

namespace Sys2Proof.Tests

set_option Elab.async false

open Sys2Proof.Machine

/-! ### The states that the tests use -/

/-- Start-up over, the main board present, everything else as power-on leaves it (stage DARK). -/
def base : State := { State.reset with phase := .running, up := { State.reset.up with present := true } }

def inStage (st : Stage) (s : State) : State := { s with rtu := { s.rtu with stage := st } }

def saveRuns (s : State) : State := { s with store := { s.store with save := .running, group := some 0 } }

/-- The stage machine at rest, with the line present. -/
def calm : State := inStage .lineOk base

/-- A port that is UP with no rails agreed. -/
def portUp (p : Port) (s : State) : State :=
  modPort p (fun x => { x with
    present := true, link := .up, latch := true,
    agreed := some { boardKind := 3, limit := 16, notices := true, syncSource := true, ids := [], rails := [],
                     mismatch := [] } }) s

/-- A rail of the part on EN 0, used, unsensed. -/
def plainRail : RailStatic :=
  { RailStatic.unused with used := true, path := .onPart 0, settleMs := 10, riseMs := 10, fallMs := 20 }

/-- Rail r in a state, under a timer. -/
def railIs (r : RailId) (x : RailStatic) (st : RailState) (t : Option Time) (s : State) : State :=
  setRail r { static := x, dyn := { RailDynamic.idle with state := st, timer := t } } s

/-- Step i of the pool. -/
def stepIs (i : Nat) (k : StepKind) (s : State) : State :=
  { s with seq := { s.seq with steps := s.seq.steps.setIfInBounds i { kind := k, onFail := .abort, guarded := false } } }

def headerIs (n : ProgNo) (first count priority : Nat) (s : State) : State :=
  { s with seq := { s.seq with headers := s.seq.headers.set n { first := first, count := count, priority := priority } } }

/-- Program n runs on step i. -/
def runs (n : ProgNo) (i : Nat) (t : Option Time) (w : Wait) (s : State) : State :=
  { s with
    seq := { s.seq with ctx := some { program := n, requester := .main, index := i, timer := t, frame := none,
                                      failed := 0, wait := w } }
    sched := { s.sched with running := some { program := n, requester := .main, priority := 1, guarded := false,
                                              marked := false } } }

/-- What a command leaves, for the tests' eyes. -/
def after (o : Host.Outcome State Fault Refusal) : State :=
  match o with
  | .next t => t
  | _ => State.reset

/-! ### The conditions of the statements, as tests -/

def upB (s : State) : Bool := s.agenda.isEmpty && !s.takeDue && s.phase == .running

theorem isUp {s : State} (h : upB s = true) : s.Up := by
  simp only [upB, Bool.and_eq_true, List.isEmpty_iff, Bool.not_eq_true', beq_iff_eq] at h
  exact ⟨⟨h.1.1, h.1.2⟩, h.2⟩

def readyB (s : State) : Bool :=
  upB s && s.up.present && s.up.rx.isEmpty && decide (s.up.replyTaken < 24) && s.mode == .active && s.up.rise.isNone

theorem isReady {s : State} (h : readyB s = true) : s.Ready := by
  simp only [readyB, Bool.and_eq_true, List.isEmpty_iff, decide_eq_true_eq, beq_iff_eq, Option.isNone_iff_eq_none] at h
  exact { toUp := isUp h.1.1.1.1.1, present := h.1.1.1.1.2, emptyRx := h.1.1.1.2, place := h.1.1.2, noWake := Or.inl h.1.2,
          listens := fun t e => by rw [h.2] at e; cases e }

def quietB (s : State) : Bool :=
  upB s && s.seq.ctx.isNone && s.sched.running.isNone && s.sched.queue.isEmpty && !s.sched.committed && s.fwd.hold.isEmpty

theorem isQuiet {s : State} (h : quietB s = true) : s.Quiet := by
  simp only [quietB, Bool.and_eq_true, List.isEmpty_iff, Bool.not_eq_true', Option.isNone_iff_eq_none] at h
  exact { toUp := isUp h.1.1.1.1.1, noContext := h.1.1.1.1.2, noRunning := h.1.1.1.2, noQueue := h.1.1.2,
          notCommitted := h.1.2, noHold := h.2 }

theorem isCalm {s : State} (h : quietB s = true) : s.Calm :=
  let q := isQuiet h
  { toUp := q.toUp, noHold := q.noHold, noRailStep := fun c e => by rw [q.noContext] at e; cases e }

def attnB (s : State) : Bool := if s.phase = .running then s.ev.attn == (s.ev.requesting != 0) else !s.ev.attn

theorem hasAttn {s : State} (h : attnB s = true) : s.AttnInv := by
  unfold attnB at h
  split at h
  · exact ⟨fun _ => eq_of_beq h, fun n => absurd ‹_› n⟩
  · exact ⟨fun p => absurd p ‹_›, fun _ => by simpa using h⟩

/-! ### Ill-formed commands are refused (Sys2Proof/WellFormed.lean, a term for each check) -/

theorem test_wf_payload_of_a_request : (Instr.loadRail 1 [0]).wf = false ∧ (Instr.loadAdmit 1 []).wf = false ∧
    (Instr.loadPlan 1 [0]).wf = false ∧ (Instr.loadPortSettings 1 [0]).wf = false ∧
    (Instr.loadSteps 1 [0, 1]).wf = false ∧ (Instr.loadSteps 1 []).wf = false ∧
    (Instr.loadTemplate 1 [0, 0, 0, 0, 0, 1]).wf = false := by decide

theorem test_wf_payload_too_long : (Instr.loadSteps 1 ([0, 8] ++ List.replicate 64 0)).wf = false ∧
    (Instr.loadTemplate 1 ([0, 1, 0, 1, 0, 60] ++ List.replicate 60 0)).wf = false ∧
    (Instr.unknownRequestCode 0x7F 1 (List.replicate 61 0)).wf = false ∧
    (Instr.forwardCommand .d1 1 1 (List.replicate 61 0)).wf = false ∧
    (Instr.badAddressCommand 9 7 1 1 (List.replicate 61 0)).wf = false ∧
    (Instr.railControlReply .d1 1 0 (List.replicate 61 0)).wf = false ∧
    (Instr.sequencerReply .d1 1 0xE0 (List.replicate 61 0)).wf = false ∧
    (Instr.boardReply .d1 1 1 (List.replicate 61 0)).wf = false ∧
    (Instr.boardNotice .d1 1 1 (List.replicate 61 0)).wf = false ∧
    (Instr.downstreamFrameDiscarded .d1 0 1 1 1 1 (List.replicate 61 0)).wf = false := by decide

theorem test_wf_known_request_is_not_unknown : (Instr.unknownRequestCode 0x01 1 []).wf = false := by decide

theorem test_wf_good_address_is_not_bad : (Instr.badAddressCommand 5 7 1 1 []).wf = false := by decide

theorem test_wf_run_of_bytes : (Instr.upstreamFrameReceived [0, 0]).wf = false ∧
    (Instr.malformedFrame .u (requestFrame 1 1 []).bytes).wf = false := by decide +kernel

theorem test_wf_capability : (Instr.capabilityInExchange .d1 0 [0, 16, 0, 0]).wf = false ∧
    (Instr.unsolicitedCapability .d1 0 [1, 15, 0, 0]).wf = false ∧
    (Instr.invalidCapability .d1 0 [1, 16, 0, 0]).wf = false := by decide

theorem test_wf_kind_and_tag : (Instr.downstreamFrameDiscarded .d1 0 1 0 1 1 []).wf = false ∧
    (Instr.downstreamFrameDiscarded .d1 0 1 6 1 1 []).wf = false ∧
    (Instr.sequencerReply .d1 1 0xDF []).wf = false := by decide

/-! ### Words from the spec -/

/-- The check of "123456789" is 0x29B1 (R119's parameters). -/
theorem test_crc : crc16 [0x31, 0x32, 0x33, 0x34, 0x35, 0x36, 0x37, 0x38, 0x39] = 0x29B1 := by decide +kernel

/-- The table gives no bits: no word spells a command, and a fetch of one changes nothing. -/
theorem test_no_word_spells_a_command (n w : Nat) (s : State) :
    decodeTableWord n w = none ∧ s.withFetchWord n w = s := ⟨rfl, rfl⟩

theorem test_frame_read_back :
    frameOfBytes (requestFrame 0x11 5 [3]).bytes = some (requestFrame 0x11 5 [3]) ∧
    (requestFrame 0x11 5 [3]).bytes.take 6 = [0x07, 0x10, 0x11, 5, 1, 3] := by decide +kernel


/-! ### States and operands that meet the hypotheses of the statements, a witness for each clause

Every theorem is named after its statement. The conditions `Ready`, `Up`, `Quiet` and `Calm` come with `isReady`,
`isUp`, `isQuiet` and `isCalm`; the rest is computed. -/

theorem witness_StepRunsFrontCommand_IdleStepIsOneTick :
    { base with pending := [.lineEdge, .wakeEdge] }.pending = .lineEdge :: [.wakeEdge] ∧ base.pending = [] := ⟨rfl, rfl⟩

theorem witness_of_every_request : calm.Ready ∧ (inStage .commit base).Ready ∧ (saveRuns calm).Ready :=
  ⟨isReady (by decide +kernel), isReady (by decide +kernel), isReady (by decide +kernel)⟩

/-- ReadAdmitReplies, ReadStepsAndProgramReply, ReadRailAndReadPortReportThenRearm. -/
theorem witness_reads :
    ((63 : Byte).toNat < 64 ∧ 64 ≤ (64 : Byte).toNat) ∧
    (256 < (255 : Byte).toNat + (2 : Byte).toNat) ∧
    ((250 : Byte).toNat + (6 : Byte).toNat ≤ 256 ∧ 1 ≤ (6 : Byte).toNat ∧ (6 : Byte).toNat ≤ 6) ∧
    ((249 : Byte).toNat + (7 : Byte).toNat ≤ 256 ∧ ((0 : Byte).toNat = 0 ∧ 6 < (7 : Byte).toNat)) ∧
    ((11 : Byte).toNat < 12 ∧ 12 ≤ (12 : Byte).toNat) ∧ ((23 : Byte).toNat < 24 ∧ 24 ≤ (24 : Byte).toNat) ∧
    (Port.number .d5 = (5 : Byte).toNat ∧ (0 : Byte).toNat = 0 ∧ 5 < (6 : Byte).toNat) := by decide

theorem witness_ResetsLeaveEveryBlockAtItsResetValues : base.Settled ∧
    (inStage .commit base).rtu.write = .idle := ⟨⟨rfl, rfl⟩, rfl⟩

/-- Area 0 damaged in its accept code, area 1 in its CRC. -/
def damaged : State := { State.reset with store := { State.reset.store with groups :=
  ((State.reset.store.groups.set 0 { code := 0x00, crc := 0, contents := [] }).set 1
    { code := 0xA5, crc := 0, contents := [1] }) } }

theorem witness_StartupWaitAndLoadStartThePart :
    (damaged.Settled ∧ damaged.phase = .waiting Config.startupWait ∧ (damaged.store.groups.get 0).code ≠ 0xA5 ∧
      (damaged.store.groups.get 0).code ≠ 0xFF ∧ (damaged.store.groups.get 1).code = 0xA5 ∧
      crc16 (damaged.store.groups.get 1).contents ≠ (damaged.store.groups.get 1).crc) ∧
    ({ damaged with phase := .loading }.Settled ∧ { damaged with phase := .loading }.ev.attn = false ∧
      ((modPort .d1 (fun x => { x with present := true }) damaged).port .d1).canExchange = true ∧
      ((modPort .d1 (fun x => { x with present := true }) damaged).port .d2).canExchange = false) := by
  refine ⟨⟨⟨rfl, rfl⟩, rfl, ?_⟩, ⟨rfl, rfl⟩, rfl, ?_⟩ <;> decide +kernel

/-- Area 0 damaged, area 1 never written, area 2 with a bad CRC, area 3 unfit and area 4 fit. -/
def stored : State :=
  let a : Byte → List Byte → GroupArea := fun code l => { code := code, crc := crc16 l, contents := l };
  { State.reset with store := { State.reset.store with groups :=
    ((((State.reset.store.groups.set 0 (a 0x00 [])).set 1 (a 0xFF [])).set 2
      { a 0xA5 [1] with crc := 0 }).set 3 (a 0xA5 [])).set 4 (a 0xA5 (State.reset.groupBytes 4)) } }

theorem witness_StartupLoad :
    (stored.Settled ∧ stored.phase = .waiting Config.startupWait ∧ ∀ g, State.reset.GroupAlike g stored) ∧
    ((stored.store.groups.get 2).code = 0xA5 ∧
      crc16 (stored.store.groups.get 2).contents ≠ (stored.store.groups.get 2).crc) ∧
    (loadGroup 3 (stored.store.groups.get 3).contents stored).isNone = true ∧
    (loadGroup 4 (stored.store.groups.get 4).contents stored).isSome = true ∧
    (let t := after (exec .startupWaitEnd stored);
      t.store.loads.toList = [.code, .code, .crc, .unfit, .stored] ∧ t.worstCase 0 ≤ t.rtu.plan.reserveMs ∧
      t.ev.pending = EventKind.configFallback.bit) := by
  refine ⟨⟨⟨rfl, rfl⟩, rfl, fun g => ?_⟩, by decide +kernel, by decide +kernel, by decide +kernel, by decide +kernel⟩
  match g with
  | 0 => exact ⟨fun _ => rfl, fun _ => ⟨rfl, rfl, rfl⟩⟩
  | 1 => rfl
  | 2 => exact ⟨rfl, rfl, rfl⟩
  | 3 => rfl
  | 4 => exact ⟨fun _ => ⟨rfl, rfl⟩, rfl, rfl⟩

/-- Every kind enabled, none pending. -/
def masked : State := { calm with ev := { calm.ev with mask := 0xFFFF } }

theorem witness_events : (masked.Ready ∧ masked.AttnInv ∧ masked.phase = .running) ∧
    (masked.ev.requesting = 0 ∧ (raise .lineLost masked).ev.requesting ≠ 0 ∧ masked.up.present = true ∧
      masked.attentionHeld = false) ∧
    ((raise .lineLost calm).Ready ∧ (raise .lineLost calm).AttnInv ∧ (raise .lineLost calm).ev.requesting = 0 ∧
      (raise .lineLost calm).ev.pending &&& 0xFFFF ≠ 0 ∧ (raise .lineLost calm).ev.pending &&& 0 = 0 ∧
      (raise .lineLost calm).attentionHeld = false) ∧
    (let s := { raise .lineLost calm with up := { calm.up with line := .sending (attentionNotice 1) 9 } };
      s.Ready ∧ s.AttnInv ∧ s.ev.requesting = 0 ∧ s.attentionHeld = true) ∧
    ((raise .lineLost masked).ev.pending &&& 0xFFFF ≠ 0 ∧ (raise .lineLost masked).ev.pending &&& 0 = 0) ∧
    (calm.AttnInv ∧ (raise .lineLost calm).ev.requesting = 0) ∧
    ((raise .lineLost masked).Ready ∧ (raise .lineLost masked).AttnInv ∧ (raise .lineLost masked).ev.requesting ≠ 0) :=
  ⟨⟨isReady (by decide +kernel), hasAttn (by decide +kernel), rfl⟩, by decide +kernel,
   ⟨isReady (by decide +kernel), hasAttn (by decide +kernel), by decide +kernel⟩,
   ⟨isReady (by decide +kernel), hasAttn (by decide +kernel), by decide +kernel⟩, by decide +kernel,
   ⟨hasAttn (by decide +kernel), by decide +kernel⟩,
   isReady (by decide +kernel), hasAttn (by decide +kernel), by decide +kernel⟩

theorem witness_LoadChannelChecksAndReplaces : ((7 : Byte).toNat < 8 ∧ 8 ≤ (8 : Byte).toNat) ∧
    (saveRuns calm).saving = true ∧ calm.saving = false ∧ thresholdsFit 5 5 1 = false ∧ thresholdsFit 0 1023 17 = false ∧
    thresholdsFit 0 1023 16 = true := by decide +kernel

def admitPayload (i shed : Byte) : List Byte := [i, 1, 1, 0x21, 0, 0, 0, 0, shed, 0, 100, 0, 0]

def admitEntry : AdmitEntry :=
  { port := .d1, cls := some 0x21, action := .pass, prereqs := 0, shedClass := 4, holdMs := 100, effect := none }

theorem witness_LoadAdmitChecksAndReplaces :
    (admitPayload 63 4).length = 13 ∧ 64 ≤ at1 (admitPayload 64 4) 0 ∧ at1 (admitPayload 63 4) 0 < 64 ∧
    decAdmit (admitPayload 63 5) 1 = none ∧ decAdmit (admitPayload 63 4) 1 = some (some admitEntry) ∧
    decAdmit (List.replicate 13 0) 1 = some none ∧ calm.keyTaken 63 admitEntry = false ∧
    ({ calm with fwd := { calm.fwd with admission := calm.fwd.admission.set 0 (some admitEntry) } }.keyTaken 63 admitEntry = true) := by
  decide +kernel

/-- Steps of DELAY 5. -/
def stepsPayload (start count : Byte) : List Byte :=
  [start, count] ++ (List.replicate count.toNat [3, 0, 0, 0, 5, 0, 0, 0]).flatten

def delayStep : Step := { kind := .delay 5, onFail := .abort, guarded := false }
def onStep : Step := { kind := .railOn 0 false, onFail := .abort, guarded := false }

theorem witness_LoadStepsChecksAndWritesThePool :
    (256 < at1 (stepsPayload 251 6) 0 + 6 ∧ (stepsPayload 251 6).length = 2 + 8 * 6) ∧
    (at1 (stepsPayload 250 6) 0 + 6 ≤ 256 ∧ (stepsPayload 250 6).length = 2 + 8 * 6) ∧
    (stepsPayload 0 0).length = 2 + 8 * 0 ∧ ((stepsPayload 0 7).length = 2 + 8 * 7 ∧ (stepsPayload 0 7).length ≤ 60) ∧
    decStep [250, 1, 9, 0, 0, 0, 0, 0, 0, 0] 2 = none ∧
    (∀ k, k < 6 → decStep (stepsPayload 250 6) (2 + 8 * k) = (List.replicate 6 delayStep)[k]?) ∧
    (decStep [250, 1, 1, 0, 0, 0, 0, 0, 0, 0] 2 = some onStep ∧ onStep.kind.isRailOn = true) ∧
    ((runs 2 250 none .none (headerIs 2 250 6 1 calm)).inRange 2 255 = true ∧
      (runs 2 250 none .none (headerIs 2 250 6 1 calm)).isBusyProg 2 = true) ∧
    ((headerIs 0 250 1 3 calm).inRange 0 250 = true ∧
      (writeSteps 250 [delayStep] (headerIs 0 250 1 3 calm)).budgetOk = false) ∧
    (∀ n k, k < 6 → calm.isBusyProg n = false ∧ calm.inRange 0 (250 + k) = false) := by
  decide +kernel

theorem witness_LoadProgramChecksAndReplaces :
    ((11 : ProgNo).val = (11 : Byte).toNat ∧ 12 ≤ (12 : Byte).toNat) ∧
    headerFits 11 { first := 193, count := 64, priority := 1 } = false ∧
    headerFits 11 { first := 192, count := 64, priority := 1 } = true ∧
    (runs 11 0 none .none calm).isBusyProg 11 = true ∧ calm.isBusyProg 11 = false ∧
    { calm with rtu := { calm.rtu with plan := { calm.rtu.plan with resume := .auto 100 11 } } }.roleConflict 11
      { first := 0, count := 1, priority := 0 } = true ∧
    calm.roleConflict 11 { first := 192, count := 64, priority := 1 } = false ∧
    (headerFits 0 { first := 0, count := 1, priority := 3 } = true ∧
      calm.roleConflict 0 { first := 0, count := 1, priority := 3 } = false ∧
      (putHeader 0 { first := 0, count := 1, priority := 3 } calm).budgetOk = false ∧
      (putHeader 0 { first := 0, count := 0, priority := 3 } calm).budgetOk = true) := by
  decide +kernel

def templatePayload (n window : Byte) : List Byte := [n, 1, 9, window, 3, 0]

def plainTemplate : Template := { port := .d1, cls := 9, payload := [], windowMs := 250, retries := 3 }

theorem witness_LoadTemplateChecksAndReplaces :
    (templatePayload 15 250).length = 6 + at1 (templatePayload 15 250) 5 ∧ 16 ≤ at1 (templatePayload 16 250) 0 ∧
    (15 : Fin 16).val = at1 (templatePayload 15 250) 0 ∧ decTemplate (templatePayload 15 0) 1 = none ∧
    decTemplate (templatePayload 15 250) 1 = some plainTemplate ∧
    (runs 2 0 none .none (headerIs 2 0 1 1 (stepIs 0 (.send 15) calm))).isBusyProg 2 = true ∧
    (headerIs 2 0 1 1 (stepIs 0 (.send 15) calm)).rangeOf 2 = [0] ∧
    ((stepIs 0 (.send 15) calm).stepAt 0).kind.namesTemplate 15 = true ∧
    (∀ p, calm.isBusyProg p = false) ∧ calm.rangeOf 0 = [] ∧ (headerIs 0 0 1 3 (stepIs 0 (.send 15) calm)).rangeOf 0 = [0] ∧
    ((stepIs 0 (.send 15) calm).stepAt 0).kind = .send 15 ∧
    (putTemplate 15 plainTemplate (headerIs 0 0 1 3 (stepIs 0 (.send 15) calm))).budgetOk = false := by
  decide +kernel

/-- A plan with one level of the given program by bulk channel 7, and RESERVE_MS. -/
def planPayload (program reserve : Byte) : List Byte :=
  [7, 1, 0, 100, 0, 10, program] ++ List.replicate 15 0 ++ [0, 50, 0, 0, 0, reserve, 0, 0, 0, 0, 40, 32]

def onePlan (n : Option ProgNo) (reserve : Nat) : Plan :=
  { bulk := some 7, levels := [{ bulkBelow := 100, afterMs := 10, program := n }], commitBelow := 50, commitAfterMs := 0,
    reserveMs := reserve, resume := .wait, lossWindow := 40, returnCount := 32 }

theorem witness_LoadPlanChecksAndReplaces :
    (planPayload 0xFF 0).length = 34 ∧ (inStage (.shed 4) base).rtu.stage.inEpisode = true ∧
    calm.rtu.stage.inEpisode = false ∧ decPlan (planPayload 1 0) = none ∧
    decPlan (planPayload 0xFF 0) = some (onePlan none 0) ∧ decPlan (planPayload 11 0) = some (onePlan (some 11) 0) ∧
    decPlan (planPayload 0xFF 1) = some (onePlan none 1) ∧
    (railIs 23 { plainRail with sense := some 7 } .off none calm).bulkBound (onePlan none 0) = true ∧
    (calm.bulkBound (onePlan none 0) = false ∧ calm.planRoleConflict (onePlan (some 11) 0) = true ∧
      calm.planRoleConflict (onePlan none 0) = false) ∧
    ((onePlan none 0).reserveMs = calm.rtu.plan.reserveMs ∧ calm.worstCase 0 ≤ (onePlan none 1).reserveMs ∧
      (onePlan none 1).reserveMs ≠ calm.rtu.plan.reserveMs ∧
      (onePlan none 1).reserveMs < (stepIs 0 (.delay 5) (headerIs 0 0 1 3 calm)).worstCase 0) := by
  decide +kernel

def portPayload (window : Byte) : List Byte := [window, 20, 20, 20, 20, 15, 4, 4, 4, 4, 1, 0xF4, 0xFF, 0xFF]

def portValues (window : Nat) : PortSettings :=
  { windows := [window, 20, 20, 20, 20], fairs := [15, 4, 4, 4, 4], orderHoldMs := 500, defaultMask := 0xFFFF }

/-- Program 0 switches off a rail behind D1, in no time at all by the reserve. -/
def offByD1 : State := headerIs 0 0 1 3 (stepIs 0 (.railOff 0 false)
  (railIs 0 { plainRail with path := .board .d1 31 1 2 } .off none calm))

theorem witness_LoadPortSettingsChecksAndReplaces : (portPayload 250).length = 14 ∧
    decPortSettings (portPayload 251) = none ∧ decPortSettings (portPayload 250) = some (portValues 250) ∧
    (offByD1.windowMatters (portValues 250) = true ∧ (applyPortSettings (portValues 250) offByD1).budgetOk = false) ∧
    calm.windowMatters (portValues 250) = false ∧
    { offByD1 with rtu := { offByD1.rtu with plan := { offByD1.rtu.plan with reserveMs := 2000 } } }.windowMatters
      (portValues 250) = true ∧
    (applyPortSettings (portValues 250)
      { offByD1 with rtu := { offByD1.rtu with plan := { offByD1.rtu.plan with reserveMs := 2000 } } }).budgetOk = true := by
  decide +kernel

def railPayload (n : Byte) (x : RailStatic) : List Byte := n :: encRail x

theorem witness_LoadRailChecksAndReplaces :
    (railPayload 23 plainRail).length = 25 ∧ 24 ≤ at1 (railPayload 24 plainRail) 0 ∧
    (23 : RailId).val = at1 (railPayload 23 plainRail) 0 ∧
    decRail (railPayload 23 plainRail) 1 = some plainRail ∧
    decRail (railPayload 23 { plainRail with faultAction := some 0 }) 1 = none ∧
    (railFits 23 { plainRail with settleMs := 11 } = false ∧ railFits 23 plainRail = true) ∧
    ((railIs 0 plainRail .off none calm).railConflicts 23 plainRail = true ∧ calm.railConflicts 23 plainRail = false) ∧
    ((railIs 23 plainRail .on none calm).railInUse 23 plainRail = true ∧ calm.railInUse 23 plainRail = false) ∧
    (headerIs 0 0 1 3 (stepIs 0 (.railOff 23 false) calm)).zeroHas (fun k => k.rail? == some 23) = true ∧
    (putRail 23 plainRail (headerIs 0 0 1 3 (stepIs 0 (.railOff 23 false) calm))).budgetOk = false ∧
    calm.zeroHas (fun k => k.rail? == some 23) = false ∧ plainRail.port? = none ∧
    (calm.rail 23).static.port? = none := by
  decide +kernel

/-- D1 is UP and its board lists these rails. -/
def lists (ids : List (Fin 32)) : State :=
  modPort .d1 (fun x => { x with agreed := x.agreed.map (fun a => { a with ids := ids }) }) (portUp .d1 calm)

theorem witness_LoadRailOfAPortInUp :
    (let x : RailStatic := { plainRail with path := .board .d1 31 1 2 };
      decRail (railPayload 23 x) 1 = some x ∧ railFits 23 x = true ∧ x.port? = some .d1 ∧
      (∀ l, l = [31] ∨ l = [] → (lists l).railConflicts 23 x = false ∧ (lists l).railInUse 23 x = false ∧
        ((lists l).rail 23).static.port? = none ∧ ((lists l).port .d1).link = .up ∧
        ((lists l).port .d1).agreed.map Agreed.rails = some []) ∧
      (((lists [31]).port .d1).agreed.map (fun a => (((putRail 23 x (lists [31])).reagree .d1 a).rails,
        ((putRail 23 x (lists [31])).reagree .d1 a).mismatch)) = some ([23], [])) ∧
      (((lists []).port .d1).agreed.map (fun a => ((putRail 23 x (lists [])).reagree .d1 a).mismatch) = some [23])) ∧
    ∀ l, (lists l).Ready := by
  refine ⟨⟨by decide +kernel, by decide +kernel, rfl, ?_, by decide +kernel, by decide +kernel⟩, fun l => isReady rfl⟩
  rintro l (rfl | rfl) <;> decide +kernel

/-- A queue of requests for programs 3, 4, … -/
def queued (n : Nat) (s : State) : State :=
  { s with sched := { s.sched with queue := (List.range n).map (fun k =>
      { program := Fin.ofNat 12 (3 + k), requester := .main, priority := 1,
        arrival := k }) } }

/-- Program 2 is the one step 0, a DELAY of 5 ms. -/
def delayProgram : State := headerIs 2 0 1 1 (stepIs 0 (.delay 5) calm)

theorem witness_StartProgramChecksStartsAndQueues :
    ((11 : ProgNo).val = (11 : Byte).toNat ∧ 12 ≤ (12 : Byte).toNat) ∧
    (2 ≤ (calm.header 1).priority ∧ (calm.header 11).priority ≤ 1) ∧
    ((inStage .commit base).rtu.stage = .commit ∧ (inStage .dip base).rtu.stage ≠ .commit ∧
      (inStage .dip base).rtu.stage ≠ .lineOk) ∧
    (calm.rtu.stage = .lineOk ∧ (runs 11 0 none .none calm).isRunning 11 = true ∧ (queued 4 calm).isQueued 3 = true ∧
      (queued 4 calm).isQueued 11 = false ∧ 4 ≤ (queued 4 calm).sched.queue.length) ∧
    (delayProgram.Ready ∧ delayProgram.Quiet ∧ delayProgram.AttnInv ∧ (delayProgram.header 3).count = 0 ∧
      (delayProgram.header 2).count ≠ 0 ∧ (delayProgram.stepAt (delayProgram.header 2).first).kind = .delay 5) ∧
    ((runs 2 0 none .none (queued 3 delayProgram)).Ready ∧
      (∀ e ∈ (queued 3 delayProgram).sched.queue, e.priority ≤ 1) ∧ (queued 3 delayProgram).sched.queue.length < 4 ∧
      (queued 3 delayProgram).isQueued 11 = false) :=
  ⟨by decide, by decide +kernel, by decide, by decide +kernel,
   ⟨isReady (by decide +kernel), isQuiet (by decide +kernel), hasAttn (by decide +kernel), by decide +kernel⟩,
   isReady (by decide +kernel), by decide +kernel⟩

theorem witness_QueueKeepsPriorityThenArrival :
    (queued 3 calm).sched.queue.Pairwise (fun a b => b.priority ≤ a.priority) := by decide +kernel

/-- Program 2 runs on its DELAY, guarded or not. -/
def delayRuns (guarded : Bool) : State :=
  let s := runs 2 0 (some 10000) .none delayProgram
  { s with sched := { s.sched with running := s.sched.running.map (fun x => { x with guarded := guarded }) } }

theorem witness_StartProgramPreempts :
    (let s := headerIs 3 0 1 1 (headerIs 2 0 1 0 (runs 2 0 (some 10000) .none delayProgram));
      let low := { s with sched := { s.sched with running := s.sched.running.map (fun x : Running => { x with priority := 0 }) } };
      low.Ready ∧ low.rtu.stage = .lineOk ∧ low.sched.queue = [] ∧ low.sched.committed = false ∧
      low.sched.running.map (fun x => (x.guarded, x.priority)) = some (false, 0) ∧ (low.header 3).priority = 1 ∧
      (low.header 3).count ≠ 0 ∧ (low.stepAt (low.header 3).first).kind = .delay 5) ∧
    ((delayRuns true).sched.queue.length < 4 ∧ (delayRuns true).isQueued 3 = false) ∧
    (let e : Entry := { program := 3, requester := .main, priority := 2, arrival := 0 };
      let s := headerIs 3 0 1 2 { delayRuns true with sched := { (delayRuns true).sched with queue := [e] } };
      s.Up ∧ s.mode = .active ∧ s.sched.committed = false ∧
      s.sched.running = some { program := 2, requester := .main, priority := 1, guarded := true, marked := false } ∧
      s.sched.queue = [e] ∧ 1 < e.priority ∧ s.inRange 2 1 = false ∧
      (headerIs 2 0 2 1 s).inRange 2 1 = true ∧ (s.header 3).count ≠ 0 ∧
      (s.stepAt (s.header 3).first).kind = .delay 5) :=
  ⟨⟨isReady (by decide +kernel), by decide +kernel⟩, by decide +kernel, isUp (by decide +kernel), by decide +kernel⟩

theorem witness_AbortProgramRemovesOrAbandons :
    (delayRuns false).Ready ∧ (delayRuns true).Ready ∧ (queued 4 calm).Ready ∧
    (2 ≤ (calm.header 0).priority ∧ (calm.header 2).priority ≤ 1 ∧ calm.isQueued 2 = false ∧ calm.isRunning 2 = false) ∧
    ((queued 4 calm).sched.queue.find? (fun e => e.program == 3) =
      some { program := 3, requester := .main, priority := 1, arrival := 0 }) ∧
    ((delayRuns true).sched.running = some { program := 2, requester := .main, priority := 1, guarded := true, marked := false }) ∧
    ((delayRuns false).sched.running = some { program := 2, requester := .main, priority := 1, guarded := false, marked := false } ∧
      (delayRuns false).seq.ctx = some { program := 2, requester := .main, index := 0, timer := some 10000, frame := none,
                                         failed := 0, wait := .none } ∧
      ((delayRuns false).stepAt 0).kind = .delay 5 ∧ (delayRuns false).sched.queue = []) :=
  ⟨isReady (by decide +kernel), isReady (by decide +kernel), isReady (by decide +kernel), by decide +kernel⟩

def writing (next : Option Record) : State :=
  { calm with rtu := { calm.rtu with write := .writing (Record.blank .empty) 0 next } }

theorem witness_ClearRecordAndTheEndOfARecordWrite :
    (writing none).Ready ∧ (writing none).Settled ∧ (writing (some (Record.blank .damaged))).Settled ∧
    (writing none).rtu.write ≠ .idle ∧ calm.rtu.write = .idle ∧
    (writing none).rtu.write = .writing (Record.blank .empty) 0 none :=
  ⟨isReady (by decide +kernel), ⟨rfl, rfl⟩, ⟨rfl, rfl⟩, by decide +kernel⟩

def saveAt (g : Fin 5) : State := { calm with store := { calm.store with save := .running, group := some g } }

theorem witness_saves : ((saveAt 0).store.save = .running ∧ calm.store.save ≠ .running ∧ base.rtu.stage ≠ .lineOk ∧
      calm.rtu.stage = .lineOk ∧ (runs 2 0 none .none calm).sched.running ≠ none ∧ (queued 1 calm).sched.queue ≠ [] ∧
      calm.sched.running = none ∧ calm.sched.queue = []) ∧
    ((saveAt 0).Up ∧ (saveAt 4).Up ∧ (saveAt 0).store.group = some 0 ∧ (saveAt 4).store.group = some 4) :=
  ⟨by decide +kernel, isUp (by decide +kernel), isUp (by decide +kernel), rfl, rfl⟩

theorem witness_StandbyAndWakeChangeTheMode : calm.standbyReady = true ∧ base.standbyReady = false ∧
    (base.Settled ∧ base.phase = .running ∧ base.mode = .active ∧ ∀ p, (base.port p).canExchange = false) ∧
    (State.reset.Settled ∧ State.reset.phase ≠ .running) :=
  ⟨by decide +kernel, by decide +kernel, ⟨⟨rfl, rfl⟩, rfl, rfl, fun p => by cases p <;> decide +kernel⟩, ⟨rfl, rfl⟩,
   by decide⟩

def oneRequest : Frame := requestFrame 0x01 5 []
def oneReply : UpEntry := replyEntry (replyFrame oneRequest stOk [])
def resetReply : UpEntry := { frame := replyFrame (requestFrame 0x43 0 []) stOk [], group := .reply, reset := true }

theorem witness_ResetPartFollowsItsReply : { calm with resetWaiting := true }.resetWaiting = true ∧
    (railIs 23 plainRail .on none calm).railState 23 ≠ .off ∧ (∀ r, calm.railState r = .off) ∧ resetReply.reset = true ∧
    { calm with up := { calm.up with line := .sending resetReply 40 } }.up.line = .sending resetReply 40 ∧
    (let s := { calm with up := { calm.up with tx := [resetReply] } }; s.agenda = [] ∧ resetReply ∈ s.up.tx) ∧
    (let s := { calm with up := { calm.up with rx := [requestFrame 0x43 9 []], replyTaken := 24, tx := [oneReply] } };
      s.agenda = [] ∧ s.takeDue = false ∧ s.phase = .running ∧ s.mode = .active ∧ s.resetWaiting = false ∧
      oneReply.group = .reply ∧ oneReply.reset = false ∧ s.up.line = .idle) := by
  decide +kernel

/-- A port changed. -/
def withPort (p : Port) (f : PortRec → PortRec) : State := modPort p f calm

theorem witness_ResetBoardPulseStartsAndEnds :
    ((0 : Byte).toNat = 0 ∧ 5 < (6 : Byte).toNat ∧ Port.number .d5 = (5 : Byte).toNat) ∧
    ((withPort .d5 (fun x => { x with pulse := some 9 })).Ready ∧
      ((withPort .d5 (fun x => { x with pulse := some 9 })).port .d5).pulse = some 9) ∧
    ((withPort .d5 (fun x => { x with link := .exchange })).Ready ∧ (calm.port .d5).pulse = none ∧
      ((withPort .d5 (fun x => { x with link := .exchange })).port .d5).link = .exchange) ∧
    ((calm.port .d5).present = false ∧ (withPort .d5 (fun x => { x with pulse := some 9, present := true })).Settled ∧
      ((withPort .d5 (fun x => { x with pulse := some 9, present := true })).port .d5).link = .down ∧
      ((withPort .d5 (fun x => { x with pulse := some 9, present := true })).port .d5).present = true) :=
  ⟨by decide, ⟨isReady (by decide +kernel), by decide +kernel⟩, ⟨isReady (by decide +kernel), by decide +kernel⟩,
   by decide +kernel, ⟨rfl, rfl⟩, by decide +kernel⟩

theorem witness_ClearFaultReturnsARailToOff :
    ((23 : RailId).val = (23 : Byte).toNat ∧ 24 ≤ (24 : Byte).toNat) ∧ calm.railState 23 ≠ .fault ∧
    ((railIs 23 { plainRail with sense := some 7 } .fault none calm).railState 23 = .fault ∧
      (railIs 23 { plainRail with sense := some 7 } .fault none calm).safeNow 23 = false) ∧
    ((railIs 23 plainRail .fault none calm).Ready ∧ (railIs 23 plainRail .fault none calm).Quiet ∧
      (railIs 23 plainRail .fault none calm).safeNow 23 = true) :=
  ⟨by decide, by decide +kernel, by decide +kernel, isReady (by decide +kernel), isQuiet (by decide +kernel),
   by decide +kernel⟩

theorem witness_WrongRequestsAreAnswered : requestSized 0x7F [] = false ∧ requestSized 0x01 (List.replicate 60 0) = false ∧
    (List.replicate 60 (0 : Byte)).length ≤ 60 ∧ ((6 : BitVec 4) ≠ 7 ∧ 6 ≤ (6 : BitVec 4).toNat) := by decide

def rxFull (n : Nat) (f : Frame) (s : State) : State := { s with up := { s.up with rx := List.replicate n f } }
def repliesFull (s : State) : State := { s with up := { s.up with replyTaken := 24 } }
def oneNotice : Frame := mkFrame 0 7 kindNotice 0 0 []

/-- U_PRESENT rose at the start, and it is so many half microseconds later. -/
def risen (now : Time) : State := { calm with now := now, up := { calm.up with rise := some 0 } }

theorem witness_ReceivedFramesAreTakenQueuedOrLost :
    (oneRequest.payload.length + 7 = 7 ∧ (risen 34).now < 0 + 5 * 7 ∧ 0 + 5 * 7 ≤ (risen 35).now ∧
      (risen 34).up.rise = some 0 ∧ (risen 34).up.present = true) ∧
    (oneRequest.ok = true ∧ oneNotice.ok = true ∧ (requestFrame 0x7F 5 []).ok = true) ∧
    (State.reset.phase ≠ .running ∧ State.reset.up.present = false) ∧
    (4 ≤ (rxFull 4 oneRequest calm).up.rx.length ∧
      (rxFull 3 oneRequest calm).up.rx = oneRequest :: List.replicate 2 oneRequest ∧
      (rxFull 3 oneRequest calm).up.rx.length < 4 ∧ 24 ≤ (repliesFull (rxFull 3 oneRequest calm)).up.replyTaken ∧
      (repliesFull calm).up.rx = [] ∧ oneRequest.kind = kindCommand ∧ oneNotice.kind ≠ kindCommand) ∧
    ((requestFrame 0x7F 5 []).src = 7 ∧ (requestFrame 0x7F 5 []).dest = 0 ∧ requestSized 0x7F [] = false) ∧
    (frameOfBytes [] = none ∧ frameOfBytes (List.replicate 68 0) = none ∧
      ((withPort .d5 (fun x => { x with link := .exchange })).port .d5).link = .exchange ∧
      ((portUp .d5 calm).port .d5).link = .up ∧ (calm.port .d5).link = .down ∧
      ((withPort .d5 (fun x => { x with link := .failed })).port .d5).link = .failed) := by
  decide +kernel

def oneUpNotice : UpEntry := { frame := oneNotice, group := .notice, reset := false }
def upLine (l : UpLine) (q : List UpEntry) : State := { calm with up := { calm.up with line := l, tx := q, replyTaken := 1 } }

theorem witness_upstream : (upLine .idle [oneReply]).Settled ∧ (upLine .idle [oneReply]).up.tx = [oneReply] ∧
    (upLine (.stretch 9) [oneReply]).up.line = .stretch 9 ∧ (upLine (.stretch 9) []).up.tx = [] ∧
    ((upLine (.sending oneReply 40) []).up.line = .sending oneReply 40 ∧ oneReply.group = .reply ∧ oneReply.reset = false ∧
      (upLine (.sending oneReply 40) []).up.rx = []) ∧
    (oneUpNotice.group ≠ .reply ∧ oneUpNotice.reset = false) ∧
    ((∀ e ∈ (upLine (.sending oneReply 40) [oneReply]).up.tx, e.reset = false) ∧
      ∀ e done, (upLine (.stretch 9) []).up.line ≠ .sending e done) :=
  ⟨⟨rfl, rfl⟩, rfl, rfl, rfl, ⟨rfl, rfl, rfl, rfl⟩, ⟨by decide, rfl⟩, by decide +kernel, fun e done h => by cases h⟩

def cmdFrame (tag : Byte) (payload : List Byte) : Frame := mkFrame 1 7 kindCommand 0x21 tag payload

/-- A command for D1 with its admission values. -/
def cmdOf (a : Action) (shed : Nat) (e : Option (RailId × Bool)) : Cmd :=
  { frame := cmdFrame 5 [], port := .d1, order := 0, action := a, prereqs := 0, shedClass := shed, holdMs := 100, effect := e,
    entry := none }

def plainCmd : Cmd := cmdOf .pass 0 none

def held (n : Nat) (s : State) : State :=
  setHold (List.replicate n { cmd := plainCmd, reason := .order, deadline := 200000 }) s

def admitOne (a : Action) (s : State) : State :=
  { s with fwd := { s.fwd with shedLevel := 4, admission := s.fwd.admission.set 63 (some { admitEntry with action := a }) } }

theorem witness_ForwardCommandIntakeAndDecision :
    (calm.isUp .d1 = false ∧ (portUp .d1 (inStage .commit base)).Ready ∧ (portUp .d1 base).rtu.stage = .dark) ∧
    ((portUp .d1 calm).Ready ∧ (portUp .d1 calm).isUp .d1 = true ∧ (portUp .d1 calm).limit .d1 = 16 ∧
      (portUp .d1 calm).tagTaken .d1 5 = false) ∧
    (setQueue .d1 [plainCmd] (portUp .d1 calm)).tagTaken .d1 5 = true ∧
    (let s := admitOne .hold (portUp .d1 calm);
      s.verdict (s.recordOf .d1 (cmdFrame 5 (List.replicate 16 0))) = .keep .shed) ∧
    (let s := admitOne .refuse (portUp .d1 calm);
      s.verdict (s.recordOf .d1 (cmdFrame 5 [])) = .refuse stRefusedShed) ∧
    (let s := held 16 (portUp .d1 calm);
      s.verdict (s.recordOf .d1 (cmdFrame 6 [])) = .ready ∧ s.fwd.hold.any (fun e => e.cmd.port == .d1) = true ∧
      16 ≤ s.fwd.hold.length ∧ s.tagTaken .d1 6 = false ∧ (held 15 s).fwd.hold.length < 16) ∧
    (let s := portUp .d1 calm;
      s.verdict (s.recordOf .d1 (cmdFrame 6 [])) = .ready ∧ s.fwd.hold.any (fun e => e.cmd.port == .d1) = false ∧
      8 ≤ ((setQueue .d1 (List.replicate 8 plainCmd) s).queue .d1).length ∧
      ((setQueue .d1 (List.replicate 7 plainCmd) s).queue .d1).length < 8 ∧ s.queue .d1 = [] ∧ (s.outs .d1).length < 4 ∧
      (s.port .d1).line = .free ∧ (s.port .d1).railPlaces = [] ∧ (s.port .d1).probeWaiting = false ∧
      (s.port .d1).seqOffer = none) :=
  ⟨⟨by decide +kernel, isReady (by decide +kernel), rfl⟩, ⟨isReady (by decide +kernel), by decide +kernel⟩,
   by decide +kernel⟩

theorem witness_VerdictFollowsShedThenCondition :
    (1 ≤ (cmdOf .hold 4 none).shedClass ∧ (cmdOf .hold 4 none).shedClass ≤ (admitOne .hold calm).fwd.shedLevel) ∧
    calm.fwd.shedLevel < (cmdOf .hold 1 none).shedClass ∧
    (railIs 0 plainRail .fault none calm).unmet (cmdOf .hold 0 (some (0, true))) = some .prereq ∧
    (railIs 0 plainRail .fault none calm).unmet (cmdOf .refuse 0 (some (0, true))) = some .prereq ∧
    calm.unmet (cmdOf .hold 0 (some (0, true))) = none ∧ calm.lookup .d5 0xFF = none := by
  decide +kernel

def probing (n : Nat) : PortRec → PortRec :=
  fun x => { x with present := true, link := .exchange, probeCount := n, probeTimer := some 9 }

theorem witness_PresentRiseAndProbesExchange :
    (calm.Settled ∧ calm.phase = .running ∧ (calm.port .d5).link = .down ∧ (calm.port .d5).pulse = none ∧
      (calm.port .d5).line = .free ∧ calm.queue .d5 = [] ∧ (calm.port .d5).railPlaces = []) ∧
    ({ calm with mode := .standby }.Settled ∧ (withPort .d5 (probing 4)).Up ∧
      ((withPort .d5 (probing 4)).port .d5).probeTimer = some 9 ∧ 4 ≤ ((withPort .d5 (probing 4)).port .d5).probeCount ∧
      ((withPort .d5 (probing 4)).port .d5).owner ≠ some .probe ∧
      ((withPort .d5 (probing 3)).port .d5).probeCount < 4 ∧ ((withPort .d5 (probing 3)).port .d5).line = .free) :=
  ⟨⟨⟨rfl, rfl⟩, by decide +kernel⟩, ⟨rfl, rfl⟩, isUp (by decide +kernel), by decide +kernel⟩

/-- Capability records that list no rail, and rail 31. -/
def record0 : List Byte := [3, 16, 3, 0]
def record31 : List Byte := [6, 60, 1, 1, 31]
def capability31 : Capability := { boardKind := 6, maxPayload := 60, notices := true, syncSource := false, ids := [31] }

/-- D1 in EXCHANGE, and D1 UP, with rail 23 behind it as board rail 31. -/
def boardRail : RailStatic := { plainRail with path := .board .d1 31 1 2 }
def exchanging : State := railIs 23 boardRail .off none (withPort .d1 (probing 1))
def upWithRail : State := railIs 23 boardRail .off none (portUp .d1 calm)

theorem witness_CapabilityRecordsBringUpAndReplace :
    (exchanging.Up ∧ (exchanging.port .d1).link = .exchange ∧ decCapability record31 = some capability31 ∧
      (exchanging.agree .d1 capability31).mismatch = [] ∧
      (exchanging.agree .d1 { capability31 with ids := [] }).mismatch ≠ [] ∧
      decCapability [6, 60, 1, 0] = some { capability31 with ids := [] }) ∧
    (upWithRail.Up ∧ ((portUp .d1 calm).port .d1).agreed = some ((portUp .d1 calm).agree .d1
        { boardKind := 3, maxPayload := 16, notices := true, syncSource := true, ids := [] }) ∧
      decCapability record0 = some { boardKind := 3, maxPayload := 16, notices := true, syncSource := true, ids := [] } ∧
      some (upWithRail.agree .d1 capability31) ≠ (upWithRail.port .d1).agreed ∧
      (upWithRail.agree .d1 capability31).mismatch = [] ∧ capability31.notices = true ∧
      23 ∈ (upWithRail.agree .d1 { capability31 with ids := [] }).mismatch ∧
      ((upWithRail.port .d1).agreed.map Agreed.mismatch) = some [] ∧ ((upWithRail.port .d1).agreed.map Agreed.rails) = some []) :=
  ⟨⟨isUp (by decide +kernel), by decide +kernel⟩, isUp (by decide +kernel), by decide +kernel⟩

theorem witness_StrayFramesAreDiscardedAndNoticesForwarded_stray :
    decCapability [] = none ∧ decCapability [1, 15, 0, 0] = none ∧ (calm.port .d1).link = .down ∧
    (exchanging.port .d1).link = .exchange ∧ (upWithRail.port .d1).link = .up ∧ kindReply ≠ kindCapability ∧
    (1 ≤ (5 : BitVec 4).toNat ∧ (5 : BitVec 4).toNat ≤ 5) ∧
    ((0xBF : Byte).toNat < 0xC0 ∧ 0xD8 ≤ (0xD8 : Byte).toNat ∧ (0xDF : Byte).toNat < 0xE0) := by
  decide +kernel

def railFrameOn (attempt : Nat) (mark : FrameMark) (isOn : Bool) : RailFrame :=
  { isOn := isOn, attempt := attempt, mark := mark, forStep := true, thenOff := false }

/-- Rail 23 is agreed on D1. -/
def agreed23 (st : RailState) (x : Option RailFrame) : State :=
  modDyn 23 (fun d => { d with frame := x }) (railIs 23 boardRail st none (modPort .d1 (fun y => { y with
    agreed := y.agreed.map (fun a => { a with ids := [31], rails := [23] }) }) (portUp .d1 calm)))

theorem witness_PresentFallTakesThePortDown :
    (calm.Up ∧ exchanging.Up) ∧ ((portUp .d1 calm).Quiet ∧ (portUp .d1 calm).up.present = true ∧
      (portUp .d1 calm).agreedRails .d1 = [] ∧ (portUp .d1 calm).outs .d1 = [] ∧ (portUp .d1 calm).seq.cancel = none) ∧
    (∀ st, (agreed23 st none).Quiet) ∧
    (let s := agreed23 .on none;
      (s.port .d1).link = .up ∧ s.outs .d1 = [] ∧ s.seq.cancel = none ∧ s.up.present = true ∧ s.agreedRails .d1 = [23] ∧
      (s.rail 23).static.used = true ∧ (s.rail 23).static.port? = some .d1 ∧ (s.rail 23).dyn.state = .on ∧
      (s.rail 23).dyn.frame = none ∧ ∀ d, inSet (s.rail d).static.prereqs 23 = false) ∧
    (let s := agreed23 .off (some (railFrameOn 1 .waiting true));
      s.Quiet ∧ (s.rail 23).dyn.state = .off ∧ ∀ q, q ≠ 23 → (s.rail q).dyn.frame = none) :=
  ⟨⟨isUp (by decide +kernel), isUp (by decide +kernel)⟩, ⟨isQuiet (by decide +kernel), by decide +kernel⟩,
   fun _ => isQuiet rfl, by decide +kernel, isQuiet (by decide +kernel), by decide +kernel⟩

def seqFrame1 : SeqFrame := { frame := mkFrame 1 0 kindCommand 9 0xE0 [], isCancel := false }

/-- D1 after a frame, with what waits for its transmitter. -/
def resting (f : PortRec → PortRec) (q : List Cmd) : State :=
  setQueue .d1 q (modPort .d1 (fun x => f { x with line := .stretch 10 }) (portUp .d1 calm))

theorem witness_TransmitterGrantsByPriority :
    ((resting id []).Settled ∧ ((resting id []).port .d1).line = .stretch 10 ∧ ((resting id []).port .d1).link = .up ∧
      (resting id []).queue .d1 = [] ∧ ((resting id []).port .d1).railPlaces = [] ∧
      ((resting id []).port .d1).probeWaiting = false ∧ ((resting id []).port .d1).seqOffer = none) ∧
    ((resting (fun x => { x with fairCount := 4 }) [plainCmd]).queue .d1 = [plainCmd] ∧
      ((resting (fun x => { x with fairCount := 4 }) [plainCmd]).port .d1).fair ≤ 4) ∧
    (((resting (fun x => { x with fairCount := 3, railPlaces := [23] }) [plainCmd]).port .d1).fairCount < 4 ∧
      ((resting (fun x => { x with fairCount := 3, railPlaces := [23] }) [plainCmd]).port .d1).railPlaces = [23]) ∧
    ((resting (fun x => { x with probeWaiting := true }) []).port .d1).probeWaiting = true ∧
    ((resting (fun x => { x with seqOffer := some seqFrame1 }) []).port .d1).seqOffer = some seqFrame1 ∧
    ((resting id [plainCmd]).outs .d1).length < 4 :=
  ⟨⟨⟨rfl, rfl⟩, by decide +kernel⟩, by decide +kernel⟩

/-- D1 sends a frame for a claimant. -/
def sends (o : Option Claimant) (s : State) : State :=
  modPort .d1 (fun x => { x with line := .sending o seqFrame1.frame 40 }) s

def withFrame (x : RailFrame) (s : State) : State := modDyn 23 (fun d => { d with frame := some x }) s

/-- A SEND step of program 2 on step 0, its frame waiting or sent. -/
def sendRuns (attempt retries : Nat) (mark : FrameMark) : State :=
  let s := runs 2 0 (some 9) .none (headerIs 2 0 1 1 (stepIs 0 (.send 15) (portUp .d1 calm)))
  let f : SendFrame :=
    { port := .d1, frame := seqFrame1.frame, attempt := attempt, mark := mark, windowMs := 20, retries := retries }
  { s with seq := { s.seq with ctx := s.seq.ctx.map (fun c => { c with frame := some f }) } }

theorem witness_TransmissionEndTellsTheClaimant :
    (∀ o, (sends o (portUp .d1 calm)).Up ∧ (sends o (portUp .d1 calm)).fwd.hold = [] ∧
      ((sends o (portUp .d1 calm)).port .d1).line = .sending o seqFrame1.frame 40) ∧
    ((withFrame (railFrameOn 1 .waiting true) upWithRail).rail 23).dyn.frame = some (railFrameOn 1 .waiting true) ∧
    (exchanging.port .d1).link = .exchange ∧
    (((modPort .d1 (fun x => { x with seqOffer := some seqFrame1 }) (sendRuns 1 0 .waiting)).port .d1).seqOffer =
        some seqFrame1 ∧ seqFrame1.isCancel = false ∧ (sendRuns 1 0 .waiting).seq.ctx.isSome = true ∧
      ((sendRuns 1 0 .waiting).seq.ctx.bind Context.frame).isSome = true) ∧
    ((setQueue .d1 [cmdOf .pass 0 (some (23, true))] upWithRail).queue .d1 = [cmdOf .pass 0 (some (23, true))] ∧
      (upWithRail.rail 23).static.used = true ∧ upWithRail.railHeld 23 = false ∧
      (withFrame (railFrameOn 1 .waiting true) upWithRail).railHeld 23 = true ∧ (upWithRail.rail 22).static.used = false ∧
      plainCmd.effect = none) :=
  ⟨fun o => ⟨⟨⟨rfl, rfl⟩, rfl⟩, rfl, rfl⟩, by decide +kernel⟩

theorem witness_RailFramesEndByReplyOrDeadline :
    ((upWithRail.rail 23).dyn.frame = none ∧ (agreed23 .off (some (railFrameOn 1 .waiting true))).Up) ∧
    (let x := railFrameOn 1 (.sent 9) true;
      let s := agreed23 .off (some x);
      s.Calm ∧ (s.rail 23).dyn.frame = some x ∧ x.isOn = true ∧ x.thenOff = false ∧ (s.rail 23).dyn.state = .off ∧
      s.allOn (s.rail 23).static.prereqs = true ∧ s.pathAvailable 23 = true ∧ s.highAlarm 23 = false) ∧
    (let x := railFrameOn 2 (.sent 9) false;
      let s := agreed23 .rising (some x);
      s.Calm ∧ (s.rail 23).dyn.frame = some x ∧ x.isOn = false ∧ x.forStep = true ∧ x.attempt ≠ 1 ∧
      (s.rail 23).dyn.state = .rising ∧ ∀ d, inSet (s.rail d).static.prereqs 23 = false) :=
  ⟨⟨by decide +kernel, isUp (by decide +kernel)⟩, ⟨isCalm (by decide +kernel), by decide +kernel⟩,
   isCalm (by decide +kernel), by decide +kernel⟩

def sensed : RailStatic := { plainRail with sense := some 7 }
def forced : RailStatic := { plainRail with discharge := .force 7 2000 }

theorem witness_RailTimersMoveOrFaultTheRail :
    (∀ x st, (railIs 23 x st (some 9) calm).Calm ∧ ((railIs 23 x st (some 9) calm).rail 23).static = x ∧
      ((railIs 23 x st (some 9) calm).rail 23).dyn.state = st ∧ ((railIs 23 x st (some 9) calm).rail 23).dyn.timer = some 9 ∧
      ((railIs 23 x st (some 9) calm).rail 23).dyn.claim = .none) ∧
    (plainRail.used = true ∧ plainRail.sense = none ∧ plainRail.discharge.isForce = false ∧
      plainRail.faultAction = none ∧ plainRail.path = .onPart 0) ∧
    (sensed.used = true ∧ sensed.sense = some 7 ∧ sensed.discharge.isForce = false) ∧
    (forced.used = true ∧ forced.sense = none ∧ forced.discharge = .force 7 2000) ∧
    (∀ st d, inSet ((railIs 23 sensed st (some 9) calm).rail d).static.prereqs 23 = false) :=
  ⟨fun x st => ⟨isCalm rfl, by unfold railIs State.rail setRail; exact ⟨rfl, rfl, rfl, rfl⟩⟩,
   by decide +kernel, by decide +kernel, by decide +kernel, fun st => by cases st <;> decide +kernel⟩

def converting (x : Channel) (s : State) : State :=
  setChan 7 x { s with conv := { s.conv with running := true, next := 7 } }

theorem witness_SamplesMoveAlarmsAndRails :
    ((converting Channel.initial calm).Up ∧ (converting Channel.initial calm).conv.running = true ∧
      ((converting Channel.initial calm).chan 7).role = .free ∧ (converting Channel.initial calm).conv.next = 7) ∧
    (let m : BulkMark := { id := .commit, threshold := 50, below := false, count := 1 };
      let s := inStage .lineOk { converting { Channel.initial with role := .bulk } calm with marks := List.replicate 5 m };
      s.Up ∧ (s.chan 7).role = .bulk ∧ s.rtu.stage = .lineOk ∧ s.marks.length ≤ 5 ∧
      (∀ x ∈ s.marks, x.id = .commit → x.below = false → (x.judged 3 49).2 = false) ∧
      m.judged 3 50 = ({ m with count := 0 }, false) ∧ m.judged 3 49 = ({ m with count := 2 }, false) ∧
      m.judged 2 49 = ({ m with below := true, count := 0 }, true) ∧
      { m with below := true }.judged 3 49 = ({ m with below := true, count := 0 }, false) ∧
      { m with below := true }.judged 3 50 = ({ m with below := true, count := 2 }, false) ∧
      { m with below := true }.judged 2 50 = ({ m with count := 0 }, true)) ∧
    (min 1023 (4096 / 4) = 1023 ∧ min 1023 (3 / 4) < 1 ∧ 1022 < min 1023 (4092 / 4)) ∧
    (let x : Channel := { Channel.initial with role := .bound 23, goodCount := 3 }
      let s := converting x (railIs 23 { sensed with goodLevel := 1023 } .rising (some 9) calm);
      s.Calm ∧ (s.chan 7) = x ∧ x.alarm = .none ∧ (s.rail 23).static.goodLevel ≤ min 1023 (4092 / 4) ∧
      min 1023 (4092 / 4) ≤ x.high ∧ x.debounce ≤ x.goodCount + 1 ∧ (s.rail 23).dyn.state = .rising) :=
  ⟨⟨isUp (by decide +kernel), by decide +kernel⟩, ⟨isUp (by decide +kernel), by decide +kernel⟩, by decide, isCalm (by decide +kernel), by decide +kernel⟩

/-- Program 2's last step is step 255, of the given kind, and it runs. -/
def lastOn (k : StepKind) (t : Option Time) (w : Wait) (s : State) : State :=
  runs 2 255 t w (headerIs 2 254 2 1 (stepIs 255 k s))

def ctx2 (i : Nat) (t : Option Time) (w : Wait) : Context :=
  { program := 2, requester := .main, index := i, timer := t, frame := none, failed := 0, wait := w }

def running2 : Running := { program := 2, requester := .main, priority := 1, guarded := false, marked := false }

/-- The SEND step in flight, sent with the last tag. -/
def sendCtx (attempt : Nat) (m : FrameMark) : Context :=
  { ctx2 255 (some 9) .none with frame := some { port := .d1, frame := mkFrame 1 0 kindCommand 9 0xFF [], attempt := attempt,
                                                 mark := m, windowMs := 20, retries := 3 } }

def sending (attempt : Nat) (m : FrameMark) : State :=
  setCtx (some (sendCtx attempt m)) (lastOn (.send 15) none .none (portUp .d1 calm))

theorem isLast (k : StepKind) (t : Option Time) (w : Wait) :
    (lastOn k t w calm).Up ∧ (lastOn k t w calm).LastStep (ctx2 255 t w) running2 :=
  ⟨isUp (by cases k <;> rfl), ⟨rfl, rfl, Nat.le_refl 2, rfl, rfl, rfl⟩⟩

theorem isLastUp (k : StepKind) (t : Option Time) (w : Wait) :
    (lastOn k t w (portUp .d1 calm)).Up ∧ (lastOn k t w (portUp .d1 calm)).LastStep (ctx2 255 t w) running2 :=
  ⟨isUp (by cases k <;> rfl), ⟨rfl, rfl, Nat.le_refl 2, rfl, rfl, rfl⟩⟩

/-- StepsCompleteOrGoOn and StepTimersFailTheProgram; `isLast` and `isLastUp` give the rest. -/
theorem witness_steps :
    ((lastOn (.delay 60000) (some 9) .none calm).stepAt 255 = { kind := .delay 60000, onFail := .abort, guarded := false }) ∧
    (let s := { lastOn (.awaitSync 60000 1) none .sync calm with sync := { armed := true, target := some 1, count := 0 } };
      (s.stepAt 255).kind = .awaitSync 60000 1 ∧ s.sync.target = some (s.sync.count + 1) ∧
      some 2 ≠ some (s.sync.count + 1) ∧ calm.sync.armed = false) ∧
    ((sending 1 (.sent 9)).LastStep (sendCtx 1 (.sent 9)) running2 ∧ ((sending 1 (.sent 9)).stepAt 255).kind = .send 15 ∧
      (sendCtx 1 (.sent 9)).frame.map (fun f => (f.mark, f.frame.tag, f.port)) = some (.sent 9, 0xFF, .d1) ∧
      ((sending 1 (.sent 9)).port .d1).link = .up ∧ 3 ≤ 3 ∧ 3 < 4) ∧
    (let s := lastOn (.awaitNotice 60000 .d1 7 (some 15)) (some 9) .notice (portUp .d1 calm);
      (s.stepAt 255).kind = .awaitNotice 60000 .d1 7 (some 15) ∧ (s.port .d1).link = .up ∧
      (putTemplate 15 plainTemplate s).template 15 = some plainTemplate) ∧
    (let s := runs 2 254 (some 9) .none (stepIs 254 (.delay 1) (headerIs 2 254 2 1 (stepIs 255 (.delay 60000) calm)));
      s.Up ∧ s.seq.ctx = some (ctx2 254 (some 9) .none) ∧ s.sched.running = some running2 ∧ s.inRange 2 255 = true ∧
      (s.stepAt 254).kind = .delay 1 ∧ (s.stepAt 255).kind = .delay 60000) ∧
    (let s := railIs 23 { plainRail with path := .onPart 11 } .on none (lastOn (.railOn 23 false) (some 9) .claim calm);
      (s.stepAt 255).kind = .railOn 23 false ∧ (s.rail 23).dyn.claim ≠ .step ∧ (s.rail 23).dyn.frame = none) ∧
    ((lastOn (.railOff 23 true) (some 9) .claim calm).stepAt 255).kind = .railOff 23 true ∧
    ((lastOn (.awaitNotice 1 .d1 7 none) (some 9) .notice calm).stepAt 255).kind = .awaitNotice 1 .d1 7 none :=
  ⟨by decide +kernel, by decide +kernel,
   ⟨⟨rfl, rfl, by decide, rfl, rfl, rfl⟩, by decide +kernel⟩, by decide +kernel,
   ⟨isUp (by decide +kernel), by decide +kernel⟩, by decide +kernel⟩

/-- Rail 23 rises, sensed, on a path, with a claim, and rail 0 depends on it or not. -/
def rising23 (x : RailStatic) (claim : Claim) (dep : RailState) (s : State) : State :=
  modDyn 23 (fun d => { d with claim := claim }) (railIs 23 { sensed with path := x.path, faultAction := x.faultAction } .rising (some 9)
    (railIs 0 { plainRail with path := .onPart 1, prereqs := 0x800000 } dep none s))

theorem witness_RailFaults :
    (∀ claim dep, (rising23 plainRail claim dep calm).Calm ∧
      ((rising23 plainRail claim dep calm).rail 23).dyn.state = .rising ∧
      ((rising23 plainRail claim dep calm).rail 23).dyn.timer = some 9 ∧
      ((rising23 plainRail claim dep calm).rail 23).dyn.claim = claim ∧
      ((rising23 plainRail claim dep calm).rail 0).dyn.state = dep) ∧
    (let s := rising23 plainRail .none .on calm;
      (s.rail 23).static.used = true ∧ (s.rail 23).static.sense = some 7 ∧ (s.rail 23).static.faultAction = none ∧
      s.dependents 23 = [0] ∧ s.dependents 0 = []) ∧
    (∀ f, (withFrame f (rising23 boardRail .none .off (agreed23 .off none))).Calm) ∧
    (let s := rising23 boardRail .none .off (agreed23 .off none);
      s.pathAvailable 23 = true ∧ (s.rail 23).dyn.frame = none ∧
      ((withFrame (railFrameOn 1 .waiting true) s).rail 23).dyn.frame = some (railFrameOn 1 .waiting true) ∧
      (rising23 boardRail .none .off calm).pathAvailable 23 = false) ∧
    (let s := rising23 plainRail .step .off (lastOn (.railOn 23 false) none .order calm);
      s.Up ∧ s.LastStep (ctx2 255 none .order) running2 ∧ (s.stepAt 255).kind = .railOn 23 false ∧
      (s.stepAt 255).onFail = .abort ∧ (s.rail 23).dyn.claim = .step) ∧
    (let s := rising23 { plainRail with faultAction := some 2 } .none .off delayProgram;
      s.Quiet ∧ s.mode = .active ∧ (s.rail 23).static.faultAction = some 2 ∧ (s.header 2).count ≠ 0 ∧
      (s.stepAt (s.header 2).first).kind = .delay 5) :=
  ⟨fun _ _ => ⟨isCalm rfl, rfl, rfl, rfl, rfl⟩, by decide +kernel, fun _ => isCalm rfl, by decide +kernel,
   ⟨isUp (by decide +kernel), ⟨rfl, rfl, Nat.le_refl 2, by decide +kernel, rfl, rfl⟩, by decide +kernel⟩,
   isQuiet (by decide +kernel), by decide +kernel⟩

/-- Program 2 is step 254, a DELAY, and step 255 of a kind; step 254 runs. -/
def twoSteps (k : StepKind) (s : State) : State :=
  runs 2 254 (some 9) .none (stepIs 254 (.delay 1) (headerIs 2 254 2 1 (stepIs 255 k s)))

theorem witness_of_every_next_step : (∀ k, (twoSteps k calm).Up ∧ (twoSteps k (portUp .d1 calm)).Up) ∧
    ∀ k ∈ [StepKind.delay 60000, .awaitSync 60000 255, .awaitNotice 60000 .d1 7 (some 15), .send 15, .setOutput 3 true,
        .railOn 23 false, .railOff 23 false],
      (twoSteps k calm).seq.ctx = some (ctx2 254 (some 9) .none) ∧ (twoSteps k calm).sched.running = some running2 ∧
      (twoSteps k calm).inRange 2 255 = true ∧ (twoSteps k calm).inRange 2 256 = false ∧
      ((twoSteps k calm).stepAt 254).kind = .delay 1 ∧ ((twoSteps k calm).stepAt 255).kind = k ∧
      ((twoSteps k calm).stepAt 255).onFail = .abort ∧ (twoSteps k calm).sched.queue = [] :=
  ⟨fun k => ⟨isUp (by cases k <;> rfl), isUp (by cases k <;> rfl)⟩, by decide +kernel⟩

theorem witness_next_steps :
    (calm.syncSource = false ∧ calm.noticesOn .d1 = false ∧ calm.template 15 = none ∧
      calm.sync = { armed := false, target := none, count := 0 }) ∧
    ((portUp .d1 calm).syncSource = true ∧ (portUp .d1 calm).noticesOn .d1 = true ∧
      (putTemplate 15 plainTemplate (portUp .d1 calm)).template 15 = some plainTemplate ∧
      ((putTemplate 15 plainTemplate (portUp .d1 calm)).port plainTemplate.port).link = .up ∧
      ((putTemplate 15 plainTemplate calm).port plainTemplate.port).link ≠ .up) ∧
    (∀ st, st = .off ∨ st = .on → ((agreed23 st none).rail 23).dyn.state = st ∧
      (agreed23 st none).allOn ((agreed23 st none).rail 23).static.prereqs = true ∧
      (agreed23 st none).dependents 23 = [] ∧ (agreed23 st none).pathAvailable 23 = true ∧
      ((agreed23 st none).rail 23).dyn.claim = .none ∧ ((agreed23 st none).rail 23).dyn.frame = none ∧
      (railIs 23 plainRail st none calm).fwd.hold = [] ∧ ((railIs 23 plainRail st none calm).rail 23).static.path = .onPart 0 ∧
      ((railIs 23 plainRail st none calm).rail 23).dyn.state = st ∧ (railIs 23 plainRail st none calm).highAlarm 23 = false) ∧
    (resting id []).queue .d1 = [] ∧ ((resting id []).port .d1).line ≠ .free ∧ ((resting id []).port .d1).seqOffer = none ∧
    ((portUp .d1 calm).port .d1).line = .free ∧
    (((resting (fun x => { x with seqOffer := some seqFrame1 }) []).port .d1).seqOffer = some seqFrame1 ∧
      seqFrame1.isCancel = false ∧ ((resting (fun x => { x with seqOffer := some seqFrame1 }) []).port .d1).seqBehind = []) := by
  refine ⟨by decide +kernel, by decide +kernel, ?_, by decide +kernel⟩
  rintro st (rfl | rfl) <;> decide +kernel

def outEntry (m : Bool) (e : Option (RailId × Bool)) : OutEntry :=
  { cmd := cmdOf .pass 0 e, deadline := 9, claimMark := m }

/-- An outstanding command of D1, and rail 23 claimed by it. -/
def waiting (m : Bool) (e : Option (RailId × Bool)) (x : RailStatic) (st : RailState) : State :=
  setOuts .d1 [outEntry m e] (modDyn 23 (fun d => { d with claim := .frame .d1 5 }) (railIs 23 x st none (portUp .d1 calm)))

theorem witness_BoardAndSequencerRepliesFindTheirCommand :
    ((portUp .d1 calm).Up ∧ (portUp .d1 calm).awaitsReply .d1 0xE0 = false ∧ (portUp .d1 calm).seq.cancel ≠ some (.d1, 0xE0) ∧
      { portUp .d1 calm with seq := { calm.seq with cancel := some (.d1, 0xFF) } }.awaitsReply .d1 0xFF = false) ∧
    (calm.outOf .d1 5 = none ∧ (waiting false none plainRail .off).outOf .d1 5 = some (outEntry false none) ∧
      (waiting false none plainRail .off).up.present = true) ∧
    (let s := waiting true (some (23, true)) plainRail .off;
      s.Calm ∧ s.outOf .d1 5 = some (outEntry true (some (23, true))) ∧ (s.rail 23).dyn.claim = .frame .d1 5 ∧
      s.closed = false ∧ (s.rail 23).static.used = true ∧ (s.rail 23).dyn.state = .off ∧
      s.allOn (s.rail 23).static.prereqs = true ∧ s.pathAvailable 23 = true ∧ s.highAlarm 23 = false) ∧
    (let s := waiting true (some (23, false)) plainRail .on;
      s.Calm ∧ s.outOf .d1 5 = some (outEntry true (some (23, false))) ∧ (s.rail 23).dyn.state = .on ∧
      ∀ d, inSet (s.rail d).static.prereqs 23 = false) :=
  ⟨⟨isUp (by decide +kernel), by decide +kernel⟩, by decide +kernel, ⟨isCalm (by decide +kernel), by decide +kernel⟩,
   isCalm (by decide +kernel), by decide +kernel⟩

theorem witness_CheckStepComparesTheState :
    (lastOn (.check 23 .off) none .none calm).seq.ctx = some (ctx2 255 none .none) ∧
    ((lastOn (.check 23 .off) none .none calm).stepAt 255).kind = .check 23 .off ∧
    ((lastOn (.check 23 .fault) none .none calm).stepAt 255).kind = .check 23 .fault := by
  decide +kernel

def notices (n : Nat) (s : State) : State := { s with up := { s.up with tx := List.replicate n oneUpNotice } }

theorem witness_StrayFramesAreDiscardedAndNoticesForwarded_notice : (portUp .d1 calm).Up ∧ (portUp .d1 calm).seq.ctx = none ∧
    (notices 6 (portUp .d1 calm)).noticesTaken < 7 ∧ 7 ≤ (notices 7 (portUp .d1 calm)).noticesTaken ∧
    ((portUp .d1 { calm with up := State.reset.up }).Up ∧ (portUp .d1 { calm with up := State.reset.up }).up.present = false) :=
  ⟨isUp (by decide +kernel), by decide +kernel, by decide +kernel, by decide +kernel, isUp (by decide +kernel),
   by decide +kernel⟩

theorem witness_ForwardDeadlinesAnswerTheCommand :
    (waiting false none plainRail .off).Up ∧ (held 1 calm).Up ∧
    (held 1 calm).fwd.hold = [{ cmd := plainCmd, reason := .order, deadline := 200000 }] ∧
    (let e : Nat → Byte → Action → HoldEntry := fun shed tag a =>
        { cmd := { cmdOf a shed none with frame := cmdFrame tag [] }, reason := .order, deadline := 9 };
      let s := admitOne .hold (setHold [e 0 1 .hold, e 4 2 .hold, e 0 3 .hold] (portUp .d1 calm));
      s.Up ∧ s.up.present = true ∧ s.verdict (e 0 1 .hold).cmd = .ready ∧ s.verdict (e 4 2 .hold).cmd = .keep .shed ∧
      s.verdict (e 4 2 .refuse).cmd = .refuse stRefusedShed ∧ (s.queue .d1).length < 8 ∧
      8 ≤ ((setQueue .d1 (List.replicate 8 plainCmd) s).queue .d1).length ∧
      ((rescan s).fwd.hold.map (fun x => (x.cmd.frame.tag, x.reason))) = [(2, .shed), (3, .order)] ∧
      ((rescan s).queue .d1).map (fun c => c.frame.tag) = [1]) :=
  ⟨isUp (by decide +kernel), isUp (by decide +kernel), rfl, isUp (by decide +kernel), by decide +kernel⟩

/-- The line in a state, with the count and the moment of the last edge, at the moment given. -/
def lineIs (st : LineState) (count : Nat) (p : Option Time) (now : Time) (s : State) : State :=
  { s with now := now, line := { state := st, count := count, prev := p, gap := some 50000 } }

/-- The built-in window is 25 ms, 50000 half microseconds; the line is back at the fourth edge. -/
theorem witness_LineEdgesAndGapsMoveTheLine_edge :
    calm.Up ∧ 2000 * calm.rtu.plan.lossWindow = 50000 ∧ calm.rtu.plan.returnCount = 4 ∧
    (let s := lineIs .lost 3 (some 0) 50000 (inStage .dip base);
      s.Up ∧ s.line.prev = some 0 ∧ s.now - 0 ≤ 50000 ∧ s.line.state ≠ .present ∧ 4 ≤ s.line.count + 1 ∧
      s.rtu.stage = .dip ∧ s.rtu.shedLevel = 0) ∧
    (let s := lineIs .lost 3 (some 0) 50001 (inStage .dark base);
      50000 < s.now - 0 ∧ 1 < s.rtu.plan.returnCount ∧ s.rtu.armed = false) ∧
    (lineIs .unqualified 0 none 0 base).line.prev = none ∧
    (let s := { inStage .dark base with rtu := { base.rtu with armed := true, plan := { base.rtu.plan with
        resume := .auto 100 2, returnCount := 2 } } };
      s.Up ∧ s.rtu.armed = true ∧ s.rtu.plan.resume = .auto 100 2 ∧ s.rtu.plan.resume ≠ .wait) ∧
    (lineIs .present 4 (some 0) 9 calm).line.state = .present :=
  ⟨isUp (by decide +kernel), by decide, by decide, ⟨isUp (by decide +kernel), by decide +kernel⟩, by decide +kernel, rfl,
   ⟨isUp (by decide +kernel), by decide +kernel⟩, rfl⟩

theorem witness_LineEdgesAndGapsMoveTheLine_loss :
    (let s := lineIs .present 4 (some 0) 9 calm;
      s.Up ∧ s.line.gap = some 50000 ∧ (∀ m ∈ s.marks, m.below = false) ∧ s.rtu.stage = .lineOk ∧ s.rtu.shedLevel = 0 ∧
      s.store.save ≠ .running ∧ (saveRuns s).store.save = .running) ∧
    ((lineIs .present 4 (some 0) 9 base).Up ∧ (lineIs .present 4 (some 0) 9 base).rtu.stage = .dark) :=
  ⟨⟨isUp (by decide +kernel), by decide +kernel⟩, isUp (by decide +kernel), rfl⟩

/-- RESTORE, or program 2, is one DELAY. -/
def restoreReady (s : State) : State := headerIs 1 0 1 2 (headerIs 2 0 1 1 (stepIs 0 (.delay 5) s))

/-- RESTORE runs on step 0, its last, in RECOVER at the deepest level, and the line is present. -/
def recovering (k : StepKind) : State :=
  runs 1 0 (some 9) .none (stepIs 0 k (restoreReady { lineIs .present 4 (some 0) 9 base with
    rtu := { base.rtu with stage := .recover, shedLevel := 4, deepest := 4 } }))

theorem witness_ReturnAndResumeRequestTheirPrograms :
    (let s := restoreReady { lineIs .lost 3 (some 0) 50000 (inStage (.shed 4) base) with
        rtu := { base.rtu with stage := .shed 4, shedLevel := 4, deepest := 4 } };
      s.Quiet ∧ s.mode = .active ∧ s.rtu.stage = .shed 4 ∧ s.rtu.shedLevel = s.rtu.deepest ∧ s.line.state = .lost ∧
      s.rtu.plan.returnCount = s.line.count + 1 ∧ (s.header 1).count ≠ 0 ∧ (s.stepAt (s.header 1).first).kind = .delay 5) ∧
    (let s := restoreReady (putPlan { base.rtu.plan with resume := .auto 100 2 }
        { base with rtu := { base.rtu with resumeDelay := some 9 } });
      s.Quiet ∧ s.rtu.stage = .dark ∧ s.rtu.resumeDelay = some 9 ∧ s.rtu.plan.resume = .auto 100 2 ∧
      (s.header 2).count ≠ 0 ∧ (s.stepAt (s.header 2).first).kind = .delay 5) ∧
    (∀ k, (recovering k).Up) ∧ (∀ k ∈ [StepKind.delay 5, .awaitSync 9 1], ((recovering k).stepAt 0).kind = k) ∧
    (let s := recovering (.delay 5);
      s.seq.ctx.map (fun c => (c.program, c.timer)) = some (1, some 9) ∧ s.inRange 1 1 = false ∧ s.rtu.stage = .recover ∧
      s.rtu.shedLevel = 4 ∧ s.rtu.deepest = 4 ∧ s.sched.queue = [] ∧ s.fwd.hold = [] ∧ s.sched.committed = false ∧
      s.sched.running.map (fun x => (x.program, x.guarded, x.marked)) = some (1, false, false) ∧ s.line.state = .present ∧
      s.line.gap = some 50000 ∧ s.marks = [] ∧ s.rtu.plan.levelProgram 3 = none ∧
      (putPlan { s.rtu.plan with levels := List.replicate 4 { bulkBelow := 0, afterMs := 10, program := some 2 } } s).rtu.plan.levelProgram 3 =
        some 2 ∧ (s.header 2).count ≠ 0 ∧ (s.stepAt (s.header 2).first).kind = .delay 5) :=
  ⟨⟨isQuiet (by decide +kernel), by decide +kernel⟩, ⟨isQuiet (by decide +kernel), by decide +kernel⟩,
   fun k => isUp (by cases k <;> rfl), by decide +kernel⟩

def triggered (st : Stage) : State :=
  let r := base.rtu
  { base with rtu :=
    { r with stage := st, lossTime := some 0, levelTimers := r.levelTimers.set 3 (some 9), commitTimer := some 9 } }

theorem witness_LevelTriggerEntersShed_CommitTriggerEntersCommit :
    (∀ st, (triggered st).Quiet) ∧ (triggered .dip).rtu.levelTimers.get 3 = some 9 ∧
    ((triggered .dip).rtu.shedLevel = 0 ∧ (triggered .dip).rtu.plan.levelProgram 3 = none) ∧
    ((triggered (.shed 4)).rtu.stage = .shed 4 ∧ (3 : Fin 4).val + 1 ≤ 4) ∧
    (let s := headerIs 0 0 1 3 (stepIs 0 (.delay 5) (triggered .dip));
      s.Quiet ∧ s.AttnInv ∧ s.up.present = true ∧ s.rtu.commitTimer = some 9 ∧ s.store.save ≠ .running ∧
      s.rtu.write = .idle ∧ (s.header 0).count ≠ 0 ∧ (s.stepAt (s.header 0).first).kind = .delay 5) :=
  ⟨fun st => isQuiet rfl, rfl, by decide +kernel, ⟨rfl, by decide⟩, isQuiet (by decide +kernel),
   hasAttn (by decide +kernel), by decide +kernel⟩

/-- The bulk channel's sample of 49 steps trips the one mark. -/
def dropping (t : TriggerId) (st : Stage) : State :=
  let x : Channel := { Channel.initial with role := .bulk, debounce := 1 }
  { inStage st (converting x (headerIs 0 0 1 3 (stepIs 0 (.delay 5) base))) with
    marks := [{ id := t, threshold := 50, below := false, count := 0 }] }

theorem witness_bulk_triggers :
    (let s := dropping (.level 3) .dip;
      s.Quiet ∧ s.rtu.stage = .dip ∧ (s.chan 7).role = .bulk ∧ (s.chan 7).low ≤ 49 ∧ 49 ≤ (s.chan 7).high ∧ (s.chan 7).debounce ≤ 1 ∧
      s.conv.running = true ∧ s.rtu.plan.levelProgram 3 = none ∧ s.rtu.shedLevel = 0) ∧
    (let s := putPlan { base.rtu.plan with bulk := some 7 } (dropping .commit .lineOk);
      s.Quiet ∧ s.AttnInv ∧ s.up.present = true ∧ s.rtu.stage = .lineOk ∧
      s.rtu.plan.bulk = some 7 ∧ s.rtu.lossTime = none ∧ s.store.save ≠ .running ∧ s.rtu.write = .idle ∧
      (s.header 0).count ≠ 0 ∧ (s.stepAt (s.header 0).first).kind = .delay 5) :=
  ⟨⟨isQuiet (by decide +kernel), by decide +kernel⟩, isQuiet (by decide +kernel), hasAttn (by decide +kernel),
   by decide +kernel⟩

/-- A program of the given priority runs in SHED 3, and the fourth level names program 11. -/
def shedding (n : Nat) : State :=
  let s := runs 2 0 none .none (queued n (headerIs 11 0 1 2 (triggered (.shed 3))))
  { putPlan { s.rtu.plan with levels := List.replicate 4 { bulkBelow := 0, afterMs := 10, program := some 11 } } s with
    sched := { s.sched with running := s.sched.running.map (fun x => { x with priority := 2 }) } }

theorem witness_displacement : (∀ n, (shedding n).Up ∧ (shedding n).rtu.stage = .shed 3) ∧
    (let s := shedding 4;
      s.rtu.levelTimers.get 3 = some 9 ∧ s.rtu.shedLevel ≠ 4 ∧ s.rtu.plan.levelProgram 3 = some 11 ∧
      s.sched.committed = false ∧ s.isQueued 11 = false ∧ (s.header 11).priority = 2 ∧
      s.sched.running.map (fun x => (x.program, x.priority)) = some (2, 2) ∧ (∀ y ∈ s.sched.queue, y.priority ≤ 2) ∧
      s.sched.queue.length = 4 ∧ (shedding 3).sched.queue.length < 4 ∧
      s.sched.queue.getLast?.map (fun y => (y.priority, y.program)) = some (1, 6) ∧
      (headerIs 11 0 1 1 s).sched.queue.getLast?.map (fun y => decide (((headerIs 11 0 1 1 s).header 11).priority ≤ y.priority)) =
        some true) :=
  ⟨fun _ => ⟨isUp rfl, rfl⟩, by decide +kernel⟩

/-- Program 0 runs on its last step in COMMIT, with rail 23 in a state. -/
def committing (st : RailState) (x : Option RailFrame) : State :=
  let s := runs 0 0 (some 9) .none (headerIs 0 0 1 3 (stepIs 0 (.delay 5) (railIs 23 plainRail st none (inStage .commit base))))
  modDyn 23 (fun d => { d with frame := x }) { s with sched := { s.sched with committed := true } }

theorem witness_EndOfTheShutdown : (∀ st x, (committing st x).Up ∧ (committing st x).fwd.hold = [] ∧
      (committing st x).sched.queue = [] ∧ (committing st x).inRange 0 1 = false ∧ (committing st x).line.state ≠ .present) ∧
    (∀ q, (committing .off none).dropNeeded q = false) ∧
    ((committing .on none).dropNeeded 23 = true ∧ (∀ d, d ≠ 23 → (committing .on none).dropNeeded d = false) ∧
      ((committing .on none).rail 23).static.path = .onPart 0) ∧
    (let s := committing .off (some (railFrameOn 1 .waiting true));
      s.dropNeeded 23 = true ∧ ∀ d, d ≠ 23 → s.dropNeeded d = false) :=
  ⟨fun _ _ => ⟨isUp rfl, rfl, rfl, rfl, nofun⟩, by decide +kernel⟩

theorem witness_FramesAreReadBack : (mkFrame 15 15 5 0xFF 0xFF (List.replicate 60 0xFF)).ok = true ∧
    (requestFrame 0 0 []).ok = true := by decide +kernel

/-- Every queue, list and place full. -/
def full : State :=
  let s := setOuts .d1 (List.replicate 4 (outEntry false none)) (setQueue .d1 (List.replicate 8 plainCmd) (held 16 (queued 4 calm)))
  { s with up := { s.up with rx := List.replicate 4 oneRequest, replyTaken := 24,
                             tx := attentionNotice 1 :: List.replicate 7 oneUpNotice } }

theorem witness_invariants : State.reset.AttnInv ∧ masked.AttnInv ∧
    full.BoundsInv ∧ (∃ t, step full = .next t) :=
  ⟨hasAttn (by decide +kernel), hasAttn (by decide +kernel),
   ⟨by decide +kernel, by decide +kernel, by decide +kernel, by decide +kernel, fun p => by cases p <;> decide +kernel,
    fun p => by cases p <;> decide +kernel, fun p h => (by cases p <;> cases h), by decide +kernel, by decide +kernel,
    by decide +kernel⟩, _, rfl⟩

/-! ### Witnesses of what a departure, a fault, a failed step and the first SHED bring -/

theorem witness_ResetBoardOfAPortInUp :
    (let s := portUp .d5 calm;
      s.Ready ∧ s.Quiet ∧ s.rtu.stage ≠ .commit ∧ (s.port .d5).pulse = none ∧ (s.port .d5).link = .up ∧ s.outs .d5 = [] ∧
      s.agreedRails .d5 = []) ∧
    (let s := agreed23 .on none;
      s.Ready ∧ s.Quiet ∧ s.rtu.stage ≠ .commit ∧ (s.port .d1).pulse = none ∧ (s.port .d1).link = .up ∧ s.outs .d1 = [] ∧
      s.agreedRails .d1 = [23]) :=
  ⟨⟨isReady (by decide +kernel), isQuiet (by decide +kernel), by decide +kernel⟩,
   isReady (by decide +kernel), isQuiet (by decide +kernel), by decide +kernel⟩

/-- A command for an address that no board has. -/
def astray : Frame := mkFrame 6 7 kindCommand 0x21 5 []

theorem witness_ReceiveQueueAsUPresentFalls :
    (let s := rxFull 4 astray (upLine (.sending oneReply 40) [oneReply]);
      (∃ e ∈ oneReply :: s.up.tx, e.group = .reply) ∧ s.mode = .active ∧ s.up.replyTaken ≤ 24 ∧ s.up.rx.length ≤ 4 ∧
      ∀ f ∈ s.up.rx, f.kind = kindCommand ∧ (f.src ≠ 7 ∨ 6 ≤ f.dest.toNat)) ∧
    (let s := rxFull 4 oneRequest (upLine .idle [oneUpNotice]);
      s.up.rx ≠ [] ∧ ∀ e ∈ s.up.tx, e.group ≠ .reply ∧ e.reset = false) := by
  decide +kernel

theorem witness_LookupAndReasons :
    (let s := admitOne .hold calm;
      s.lookup .d1 0x21 = some 63 ∧ s.fwd.admission.get 63 = some { admitEntry with action := .hold } ∧
      s.lookup .d1 0x22 = none) ∧
    { calm with fwd := { calm.fwd with admission := calm.fwd.admission.set 9 (some { admitEntry with cls := none }) } }.lookup
      .d1 0x22 = some 9 ∧
    (railIs 0 plainRail .fault none calm).effectReady (some (0, true)) = false ∧
    (let s := modDyn 0 (fun d => { d with claim := .step }) (railIs 0 plainRail .off none calm);
      s.effectReady (some (0, true)) = true ∧ s.railHeld 0 = true) := by
  decide +kernel

theorem witness_CapabilityLosesARailOrNotices :
    (∀ st x, (agreed23 st x).Calm) ∧
    (let s := agreed23 .on none;
      let c : Capability := { boardKind := 3, maxPayload := 16, notices := true, syncSource := true, ids := [] };
      decCapability record0 = some c ∧ (s.port .d1).agreed.map (fun a => (a.rails, a.mismatch)) = some ([23], []) ∧
      [23].filter (fun q => q ∉ (s.agree .d1 c).rails) = [23] ∧ (s.rail 23).static.port? = some .d1) ∧
    (decCapability [3, 16, 2, 0] = some { boardKind := 3, maxPayload := 16, notices := false, syncSource := true, ids := [] } ∧
      ((lastOn (.awaitNotice 60000 .d1 9 none) none .notice (portUp .d1 calm)).stepAt 255) =
        { kind := .awaitNotice 60000 .d1 9 none, onFail := .abort, guarded := false } ∧
      ((portUp .d1 calm).port .d1).agreed.map (fun a => (a.rails, a.notices)) = some ([], true)) :=
  ⟨fun _ _ => isCalm rfl, by decide +kernel, by decide +kernel⟩

theorem witness_PresentFallOfABusyPort :
    (let s := waiting true (some (23, true)) plainRail .off;
      s.Up ∧ s.fwd.hold = [] ∧ (s.port .d1).link = .up ∧ (s.outs .d1).length ≤ 4 ∧ s.seq.ctx = none ∧ s.agreedRails .d1 = [] ∧
      ∃ e ∈ s.outs .d1, ∃ on, e.claimMark = true ∧ e.cmd.effect = some (23, on) ∧
        (s.rail 23).dyn.claim = .frame .d1 e.cmd.frame.tag) ∧
    (((portUp .d1 calm).port .d1).cancelWaits 0xFF = false ∧
      (let f : SeqFrame := { frame := mkFrame 1 0 kindCommand 9 0xFF [], isCancel := true };
        ((modPort .d1 (fun x => { x with seqOffer := some f }) (portUp .d1 calm)).port .d1).cancelWaits 0xFF = true)) ∧
    ((sending 1 (.sent 9)).Up ∧ ((sending 1 (.sent 9)).port .d1).link = .up ∧ (sending 1 (.sent 9)).outs .d1 = [] ∧
      (sending 1 (.sent 9)).agreedRails .d1 = [] ∧ ((sending 1 (.sent 9)).stepAt 255).onFail = .abort) ∧
    (let s := setQueue .d1 [plainCmd] (held 2 (portUp .d1 calm));
      s.Up ∧ (∃ e ∈ s.fwd.hold, e.cmd.port = .d1) ∧ s.queue .d1 = [plainCmd] ∧ s.outs .d1 = [] ∧ s.seq.cancel = none) :=
  ⟨⟨isUp (by decide +kernel), by decide +kernel⟩, by decide +kernel, ⟨isUp (by decide +kernel), by decide +kernel⟩,
   isUp (by decide +kernel), by decide +kernel⟩

theorem witness_ThenOffAndTheOffFrame :
    (let s := agreed23 .off (some { railFrameOn 1 (.sent 9) true with thenOff := true });
      s.Calm ∧ (s.rail 23).dyn.frame.map RailFrame.thenOff = some true ∧ s.pathAvailable 23 = true ∧
      (s.rail 23).static.port? ≠ none) ∧
    (let s := withFrame (railFrameOn 1 (.sent 9) true) (railIs 23 plainRail .on none (portUp .d1 calm));
      s.Calm ∧ (s.rail 23).static.port? = none ∧ (s.rail 23).dyn.state ≠ .off) ∧
    (let s := agreed23 .off (some (railFrameOn 1 (.sent 9) false));
      s.Calm ∧ (s.rail 23).dyn.frame = some (railFrameOn 1 (.sent 9) false) ∧ (s.rail 23).dyn.state = .off) :=
  ⟨⟨isCalm (by decide +kernel), by decide +kernel⟩, ⟨isCalm (by decide +kernel), by decide +kernel⟩,
   isCalm (by decide +kernel), by decide +kernel⟩

/-- Rail 23's channel, one reading from each alarm. -/
def boundChannel : Channel := { Channel.initial with role := .bound 23, debounce := 1, low := 1, high := 1022 }
def bound23 (st : RailState) : State := converting boundChannel (railIs 23 { sensed with goodLevel := 500 } st (some 9) calm)

theorem witness_BoundSamples :
    (∀ st, (bound23 st).Calm) ∧
    (let s := bound23 .on;
      s.conv.running = true ∧ s.chan 7 = boundChannel ∧ (s.rail 23).static.sense = some 7 ∧ (s.rail 23).static.used = true ∧
      (s.rail 23).dyn.claim = .none ∧ (s.rail 23).static.faultAction = none ∧ (s.rail 23).static.path = .onPart 0) ∧
    (∀ st ∈ [RailState.off, .fault, .rising], ((bound23 st).sampled boundChannel 1023).alarm = .high) ∧
    ((bound23 .on).sampled boundChannel 0).alarm = .low ∧ ((bound23 .on).sampled boundChannel 499).alarm = .none ∧
    (((bound23 .falling).sampled boundChannel 0).alarm = .none ∧ ((bound23 .falling).rail 23).static.safeLevel = 0) ∧
    (((bound23 .rising).sampled boundChannel 500).goodCount = 1 ∧ ((bound23 .rising).sampled boundChannel 499).goodCount = 0) ∧
    (calm.conv.next = 0 ∧ (bound23 .on).conv.next = 7 ∧ calm.mode = .active) :=
  ⟨fun st => isCalm rfl, by decide +kernel⟩

theorem witness_ChannelFollowsRail :
    (∀ st ∈ [RailState.off, .falling, .fault], ∀ al ∈ [Alarm.none, .high],
      ({ boundChannel with alarm := al, lowCount := 15, insideCount := 1 }.followRail .on st) =
        { boundChannel with alarm := al, insideCount := 1 }) ∧
    ({ boundChannel with alarm := .low, lowCount := 1 }.followRail .on .off) = boundChannel ∧
    ({ boundChannel with goodCount := 1 }.followRail .rising .on) = boundChannel ∧
    ({ boundChannel with lowCount := 1 }.followRail .off .rising) = { boundChannel with lowCount := 1 } := by
  decide +kernel

/-- An AWAIT_SYNC step 0 with this ON_FAIL, of program n, whose range goes to step 1 or further. -/
def failing (n : ProgNo) (count : Nat) (x : OnFail) : State :=
  let s := runs n 0 (some 9) .sync (headerIs n 0 count 1 (stepIs 1 (.delay 5) calm))
  let y : Step := { kind := .awaitSync 60000 1, onFail := x, guarded := false }
  { s with seq := { s.seq with steps := s.seq.steps.setIfInBounds 0 y } }

theorem witness_OnFailGoesOn :
    (∀ n k x, (failing n k x).Up ∧ (failing n k x).sched.queue = []) ∧
    ((failing 2 2 .proceed).seq.ctx.map (fun c => (c.program, c.index, c.timer)) = some (2, 0, some 9) ∧
      (failing 2 2 .proceed).stepAt 0 = { kind := .awaitSync 60000 1, onFail := .proceed, guarded := false } ∧
      (failing 2 2 .proceed).inRange 2 1 = true ∧ ((failing 2 2 .proceed).stepAt 1).kind = .delay 5) ∧
    ((failing 2 2 (.skip 2)).inRange 2 2 = false ∧ (failing 2 1 .proceed).inRange 2 1 = false) ∧
    ((failing 0 2 .abort).inRange 0 1 = true ∧ ((failing 0 2 .abort).stepAt 0).onFail = .abort) :=
  ⟨fun _ _ _ => ⟨isUp rfl, rfl⟩, by decide +kernel⟩

theorem witness_EffectThatCannotBeApplied :
    (let s := waiting true (some (23, true)) plainRail .on;
      s.Calm ∧ s.outOf .d1 5 = some (outEntry true (some (23, true))) ∧ (s.rail 23).dyn.state = .on ∧
      (s.rail 23).dyn.claim = .frame .d1 5) ∧
    (let s := setOuts .d1 [outEntry true (some (23, true))]
        (modDyn 23 (fun d => { d with claim := .frame .d1 5 }) (inStage .commit (agreed23 .off none)));
      s.Calm ∧ s.closed = true ∧ s.pathAvailable 23 = true ∧ (s.rail 23).static.port? ≠ none ∧
      (s.rail 23).dyn.frame = none ∧ s.outOf .d1 5 = some (outEntry true (some (23, true)))) :=
  ⟨⟨isCalm (by decide +kernel), by decide +kernel⟩, isCalm (by decide +kernel), by decide +kernel⟩

/-- The timer of the fourth level expires in DIP while program 2 runs its DELAY, with priority-1 entries queued. -/
def firstShed (n : Nat) (x : Running) : State :=
  let s := runs 2 0 (some 10000) .none (queued n (headerIs 2 0 1 1 (stepIs 0 (.delay 5) (triggered .dip))))
  { s with sched := { s.sched with running := some x } }

theorem witness_FirstShedAbandonsAndDrops :
    (∀ n x, (firstShed n x).Up ∧ (firstShed n x).fwd.hold = []) ∧
    (let s := firstShed 4 running2;
      s.rtu.levelTimers.get 3 = some 9 ∧ s.rtu.stage = .dip ∧ s.rtu.shedLevel = 0 ∧ s.rtu.plan.levelProgram 3 = none ∧
      s.sched.queue.length ≤ 4 ∧ running2.priority ≤ 1 ∧ running2.guarded = false ∧
      s.seq.ctx.map (fun c => (c.program, c.index)) = some (2, 0) ∧ (s.stepAt 0).kind = .delay 5 ∧
      (∀ y ∈ s.sched.queue, y.priority ≤ 1) ∧
      ∃ e ∈ s.sched.queue, ∀ y ∈ s.sched.queue, y = e ∨ y.arrival < e.arrival) ∧
    (∀ y ∈ (firstShed 0 running2).sched.queue, 2 ≤ y.priority) ∧
    ({ running2 with guarded := true }.guarded = true ∧ 2 ≤ { running2 with priority := 2 }.priority) :=
  ⟨fun _ _ => ⟨isUp rfl, rfl⟩, by decide +kernel⟩

/-! ### Witnesses of how rail steps start, wait and end, and of the passes -/

theorem isRailStep {s : State} {c : Context} {x : Running} {r : RailId} {k : StepKind} (u : upB s = true)
    (l : s.seq.ctx = some c ∧ s.sched.running = some x ∧ 2 ≤ c.program.val ∧ s.inRange c.program (c.index + 1) = false ∧
      x.marked = false ∧ s.sched.queue = [])
    (h : (s.stepAt c.index).kind = k ∧ k.rail? = some r ∧ (s.rail r).static.used = true ∧
      (s.stepAt c.index).onFail = .abort ∧ s.fwd.hold = []) : s.RailStep c x r k :=
  { toUp := isUp u, lastStep := ⟨l.1, l.2.1, l.2.2.1, l.2.2.2.1, l.2.2.2.2.1, l.2.2.2.2.2⟩, kind := h.1, rail := h.2.1,
    used := h.2.2.1, aborts := h.2.2.2.1, noHold := h.2.2.2.2 }

theorem isNextStep {s : State} {c : Context} {x : Running} {k : StepKind} {time : Nat} {due : Time} (u : upB s = true)
    (h : s.seq.ctx = some c ∧ s.sched.running = some x ∧ x.guarded = false ∧ (s.stepAt c.index).kind = .delay time ∧
      c.timer = some due ∧ s.inRange c.program (c.index + 1) = true ∧ (s.stepAt (c.index + 1)).kind = k) :
    s.NextStep c x (max s.now due) k :=
  { toUp := isUp u, context := h.1, program := h.2.1, unguarded := h.2.2.1,
    delay := ⟨time, due, h.2.2.2.1, h.2.2.2.2.1, rfl⟩, range := h.2.2.2.2.2.1, next := h.2.2.2.2.2.2 }

theorem isNextStepLast {s : State} {c : Context} {x : Running} {now : Time} {k : StepKind} (n : s.NextStep c x now k)
    (h : 2 ≤ c.program.val ∧ s.inRange c.program (c.index + 2) = false ∧ (s.stepAt (c.index + 1)).onFail = .abort ∧
      x.marked = false ∧ s.sched.queue = [] ∧ s.fwd.hold = []) : s.NextStepLast c x now k :=
  { toNextStep := n, ordinary := h.1, last := h.2.1, aborts := h.2.2.1, unmarked := h.2.2.2.1, noQueue := h.2.2.2.2.1,
    noHold := h.2.2.2.2.2 }

/-- No dependent up, where no rail names rail 23 a prerequisite. -/
theorem noDependent {s : State} {r : RailId} (h : ∀ d, inSet (s.rail d).static.prereqs r = false) : s.NoDependentUp r :=
  fun d _ i => absurd (h d) (by rw [i]; decide)

theorem faultsAlone {s : State} {r : RailId} (h : ∀ d, inSet (s.rail d).static.prereqs r = false)
    (a : (s.rail r).dyn.frame = none ∧ (s.rail r).static.path = .onPart 0 ∧ (s.rail r).static.faultAction = none) :
    s.FaultsAlone r :=
  { noFrame := a.1, noBoard := (fun _ _ _ _ e => by rw [a.2.1] at e; cases e), noAction := a.2.2,
    noDependent := noDependent h }

/-- A RAIL_ON or RAIL_OFF step of rail 23 runs as program 2's last step and waits; the rail stands so, D1 agrees on it, and
channel 7 may be bound to it. -/
def stepping (k : StepKind) (w : Wait) (cl : Claim) (f : Option RailFrame) (x : RailStatic) (st : RailState) : State :=
  converting boundChannel (modDyn 23 (fun d => { d with claim := cl, frame := f })
    (railIs 23 x st (some 9) (lastOn k none w (agreed23 .off none))))

theorem stepAt_stepIs {i : Nat} (h : i < 256) (k : StepKind) (s : State) :
    (stepIs i k s).stepAt i = { kind := k, onFail := .abort, guarded := false } := by
  unfold stepIs State.stepAt
  simp [h]

theorem stepAt_stepIs_other {i j : Nat} (h : i ≠ j) (k : StepKind) (s : State) : (stepIs i k s).stepAt j = s.stepAt j := by
  unfold stepIs State.stepAt
  simp [h]

theorem isStepping (k : StepKind) (w : Wait) (cl : Claim) (f : Option RailFrame) (x : RailStatic) (st : RailState)
    (kr : k.rail? = some 23) (u : x.used = true) : (stepping k w cl f x st).RailStep (ctx2 255 none w) running2 23 k := by
  have e : (stepping k w cl f x st).stepAt 255 = { kind := k, onFail := .abort, guarded := false } := stepAt_stepIs (by decide) k _
  refine isRailStep rfl ⟨rfl, rfl, Nat.le_refl 2, rfl, rfl, rfl⟩
    ⟨congrArg Step.kind e, kr, ?_, congrArg Step.onFail e, rfl⟩
  show (((stepping k w cl f x st).rail 23).static).used = true
  unfold stepping converting
  exact u

/-- A sample of channel 7 at that state. -/
theorem isSample (k : StepKind) (w : Wait) (cl : Claim) (f : Option RailFrame) (x : RailStatic) (st : RailState) (mv : Nat)
    (h : x.sense = some 7) : (stepping k w cl f x st).Samples 7 mv 23
      ((stepping k w cl f x st).sampled ((stepping k w cl f x st).chan 7) (min 1023 (mv / 4))) :=
  { converts := rfl, role := rfl, sense := h, record := rfl }

def senses : RailStatic := { plainRail with sense := some 7, goodLevel := 500 }

/-- The record that a sample makes. -/
def onSample (s : State) (mv : Nat) : Channel := s.sampled (s.chan 7) (min 1023 (mv / 4))

theorem witness_RailReportsEndTheStep :
    (∀ k w cl f st, k.rail? = some 23 → ∀ x ∈ [plainRail, senses, forced, boardRail],
      (stepping k w cl f x st).RailStep (ctx2 255 none w) running2 23 k) ∧
    (let s := stepping (.railOn 23 true) .order .step none plainRail .rising;
      (s.rail 23).dyn.claim = .step ∧ (s.rail 23).dyn.frame = none ∧ (s.rail 23).dyn.state = .rising ∧
      (s.rail 23).dyn.timer = some 9 ∧ (s.rail 23).static.sense = none) ∧
    (let s := stepping (.railOn 23 false) .order .step none senses .rising;
      s.Samples 7 2000 23 (onSample s 2000) ∧ s.NoNewAlarm 7 (onSample s 2000) ∧
      (onSample s 2000).goodCount = (onSample s 2000).debounce) ∧
    (let s := stepping (.railOff 23 false) .order .step none senses .falling;
      s.Samples 7 3 23 (onSample s 3) ∧ s.NoNewAlarm 7 (onSample s 3) ∧ min 1023 (3 / 4) ≤ (s.rail 23).static.safeLevel ∧
      (s.rail 23).dyn.state = .falling ∧ (s.rail 23).static.sense ≠ none ∧ (s.rail 23).static.discharge.isForce = false) ∧
    (((stepping (.railOff 23 true) .order .step none forced .falling).rail 23).static.discharge = .force 7 2000 ∧
      ((stepping (.railOff 23 false) .order .step none forced .discharging).rail 23).dyn.state = .discharging) ∧
    (let s := stepping (.railOn 23 false) .fall .step none senses .falling;
      s.FaultsAlone 23 ∧ s.AlarmFaults 7 23 (onSample s 4092) .high ∧ (StepKind.railOn 23 false).isRailOn = true) ∧
    (let s := stepping (.railOff 23 false) .order .step none senses .on; s.FaultsAlone 23 ∧ s.AlarmFaults 7 23 (onSample s 0) .low) ∧
    (let s := stepping (.railOn 23 true) .order .step (some (railFrameOn 2 (.sent 9) true)) boardRail .off;
      (s.rail 23).dyn.frame = some (railFrameOn 2 (.sent 9) true) ∧ (s.rail 23).dyn.state = .off ∧ (s.port .d1).link = .up ∧
      s.allOn (s.rail 23).static.prereqs = true ∧ s.pathAvailable 23 = true ∧ s.highAlarm 23 = false) ∧
    (let s := stepping (.railOff 23 true) .order .step (some (railFrameOn 2 (.sent 9) false)) boardRail .rising;
      (s.rail 23).dyn.frame = some (railFrameOn 2 (.sent 9) false) ∧ (s.rail 23).dyn.state = .rising ∧ s.NoDependentUp 23) :=
  ⟨fun k w cl f st kr x hx => isStepping k w cl f x st kr (by revert x; decide),
   by decide +kernel, ⟨isSample _ _ _ _ _ _ _ rfl, by unfold State.NoNewAlarm; decide +kernel⟩,
   ⟨isSample _ _ _ _ _ _ _ rfl, by unfold State.NoNewAlarm; decide +kernel⟩, by decide +kernel,
   ⟨faultsAlone (by decide +kernel) ⟨rfl, rfl, rfl⟩, by unfold State.AlarmFaults; decide +kernel⟩,
   ⟨faultsAlone (by decide +kernel) ⟨rfl, rfl, rfl⟩, by unfold State.AlarmFaults; decide +kernel⟩, by decide +kernel,
   by decide +kernel, by decide +kernel, noDependent (by decide +kernel)⟩

def endsAtOnceDec (s : State) (r : RailId) (i : Nat) (k : StepKind) (e : ProgramEnd) : Decidable (s.EndsAtOnce r i k e) := by
  unfold State.EndsAtOnce; infer_instance

def endsB (s : State) (r : RailId) (i : Nat) (k : StepKind) (e : ProgramEnd) : Bool := @decide _ (endsAtOnceDec s r i k e)

theorem endsOf {s : State} {r : RailId} {i : Nat} {k : StepKind} {e : ProgramEnd} (h : endsB s r i k e = true) :
    s.EndsAtOnce r i k e :=
  @of_decide_eq_true _ (endsAtOnceDec s r i k e) h

/-- The DELAY before a RAIL_ON or RAIL_OFF step of rail 23 runs, program 2's last but one; the rail stands so, D1 agrees on it,
and rail 0 depends on it. -/
def starting (k : StepKind) (cl : Claim) (f : Option RailFrame) (x : RailStatic) (st dep : RailState) : State :=
  modDyn 23 (fun d => { d with claim := cl, frame := f }) (railIs 0 { plainRail with path := .onPart 1, prereqs := 0x800000 } dep none
    (railIs 23 x st none (twoSteps k (agreed23 .off none))))

/-- So before program 0's RAIL_OFF step, with a DELAY behind it. -/
def shuttingDown (cl : Claim) (f : Option RailFrame) (x : RailStatic) (st : RailState) : State :=
  modDyn 23 (fun d => { d with claim := cl, frame := f }) (railIs 23 x st none (runs 0 253 (some 9) .none
    (headerIs 0 253 3 3 (stepIs 253 (.delay 1) (stepIs 254 (.railOff 23 false) (stepIs 255 (.delay 5) (agreed23 .off none)))))))

def zeroCtx : Context := { ctx2 253 (some 9) .none with program := 0 }
def running0 : Running := { running2 with program := 0 }

theorem witness_RailStepsStart :
    (∀ cl f x st dep, ∀ k ∈ [StepKind.railOn 23 true, .railOff 23 true, .railOn 23 false, .railOff 23 false],
      (starting k cl f x st dep).NextStepLast (ctx2 254 (some 9) .none) running2 9 k) ∧
    (let on := StepKind.railOn 23 false;
      let off := StepKind.railOff 23 false;
      let at1 := fun k x st dep => (starting k .none none x st dep).EndsAtOnce 23 255 k;
      at1 on { plainRail with used := false } .off .off (.failed 255 .noPath) ∧
      at1 off plainRail .fault .off (.failed 255 .railFault) ∧ at1 on plainRail .on .off .done ∧
      at1 on { plainRail with prereqs := 1 } .off .off (.failed 255 .prereq) ∧
      at1 on { boardRail with path := .board .d2 1 1 2 } .off .off (.failed 255 .noPath) ∧ at1 off plainRail .off .off .done ∧
      at1 off plainRail .on .falling (.failed 255 .order) ∧
      at1 off { boardRail with path := .board .d2 1 1 2 } .rising .off (.failed 255 .noPath)) ∧
    (let s := starting (.railOn 23 true) .none none plainRail .off .off;
      (s.rail 23).static.path = .onPart 0 ∧ s.allOn (s.rail 23).static.prereqs = true ∧ s.highAlarm 23 = false) ∧
    (let s := starting (.railOff 23 true) .none none plainRail .on .off; ∀ d ∈ s.dependents 23, s.railState d = .off) ∧
    ((starting (.railOn 23 true) .none none plainRail .discharging .off).rail 23).dyn.state = .discharging ∧
    ((starting (.railOn 23 true) (.frame .d1 5) none plainRail .off .off).rail 23).dyn.claim = .frame .d1 5 ∧
    (let x := ((starting (.railOn 23 true) .none (some (railFrameOn 1 .waiting false)) boardRail .off .off).rail 23);
      x.dyn.frame ≠ none ∧ x.static.port? = some .d1) ∧
    (∀ cl f x st, (shuttingDown cl f x st).NextStep zeroCtx running0 9 (.railOff 23 false) ∧
      (shuttingDown cl f x st).fwd.hold = []) ∧
    (∀ st ∈ [RailState.falling, .on, .off], let s := shuttingDown (.frame .d1 5) none plainRail st;
      (s.rail 23).dyn.state = st ∧ (s.rail 23).dyn.claim = .frame .d1 5 ∧ (s.rail 23).static.path = .onPart 0 ∧
      s.dependents 23 = [] ∧ s.inRange 0 255 = true ∧ (s.stepAt 255).kind = .delay 5) ∧
    (let s := shuttingDown .none (some (railFrameOn 1 (.sent 9) false)) boardRail .on;
      (s.rail 23).static.path = .board .d1 31 1 2 ∧ s.pathAvailable 23 = true ∧ s.dependents 23 = []) ∧
    (let s := shuttingDown .none (some (railFrameOn 1 (.sent 9) true)) boardRail .off;
      (s.rail 23).dyn.frame = some (railFrameOn 1 (.sent 9) true) ∧ (s.rail 23).dyn.state = .off) := by
  refine ⟨fun cl f x st dep k hk => ?_, ?_, by decide +kernel, by decide +kernel, rfl, rfl, by decide +kernel,
    fun cl f x st => ⟨?_, rfl⟩, by decide +kernel, by decide +kernel, by decide +kernel⟩
  · have e : (starting k cl f x st dep).stepAt 255 = { kind := k, onFail := .abort, guarded := false } ∧
        (starting k cl f x st dep).stepAt 254 = { kind := .delay 1, onFail := .abort, guarded := false } :=
      ⟨(stepAt_stepIs_other (i := 254) (j := 255) (by decide) (.delay 1) _).trans
        (stepAt_stepIs (i := 255) (by decide) k (agreed23 .off none)),
       stepAt_stepIs (i := 254) (by decide) (.delay 1) _⟩
    exact isNextStepLast (isNextStep (time := 1) (due := 9) rfl
      ⟨rfl, rfl, rfl, congrArg Step.kind e.2, rfl, rfl, congrArg Step.kind e.1⟩)
      ⟨Nat.le_refl 2, rfl, congrArg Step.onFail e.1, rfl, rfl, rfl⟩
  · refine ⟨endsOf ?_, endsOf ?_, endsOf ?_, endsOf ?_, endsOf ?_, endsOf ?_, endsOf ?_, endsOf ?_⟩ <;> decide +kernel
  · have e : (shuttingDown cl f x st).stepAt 253 = { kind := .delay 1, onFail := .abort, guarded := false } ∧
        (shuttingDown cl f x st).stepAt 254 = { kind := .railOff 23 false, onFail := .abort, guarded := false } :=
      ⟨stepAt_stepIs (i := 253) (by decide) (.delay 1) _,
       (stepAt_stepIs_other (i := 253) (j := 254) (by decide) (.delay 1) _).trans
        (stepAt_stepIs (i := 254) (by decide) (.railOff 23 false) _)⟩
    exact isNextStep (time := 1) (due := 9) rfl ⟨rfl, rfl, rfl, congrArg Step.kind e.1, rfl, rfl, congrArg Step.kind e.2⟩

/-- Program 2's RAIL_ON step waits for the claim of the command outstanding on D1. -/
def awaitingClaim (st : RailState) : State :=
  setOuts .d1 [outEntry true (some (23, true))] (stepping (.railOn 23 false) .claim (.frame .d1 5) none plainRail st)

/-- It waits for the record of the board's command. -/
def awaitingRecord (st : RailState) : State :=
  stepping (.railOn 23 false) .claim .none (some (railFrameOn 2 (.sent 9) false)) boardRail st

/-- What the expiry of a command's reply deadline leaves, but for the freed place. -/
def deadlineOf5 (s : State) : State :=
  let e := outEntry true (some (23, true))
  State.unclaimed (setOuts .d1 ((s.outs .d1).filter (fun z => z ≠ e))
    (State.answered { s with now := max s.now e.deadline } e.cmd.frame stNoReply [])) 23

/-- Rail 23's one prerequisite, rail 0, is ON with channel 7 bound to it. -/
def needing (f : Option RailFrame) (st : RailState) : State :=
  converting { boundChannel with role := .bound 0 } (railIs 0 { plainRail with path := .onPart 1, sense := some 7 } .on none
    (stepping (.railOn 23 false) .order .step f { plainRail with prereqs := 1 } st))

theorem witness_RailStepsWaitAndGoOn :
    (∀ st ∈ [RailState.on, .falling], let s := awaitingClaim st;
      s.up.present = true ∧ s.outOf .d1 5 = some (outEntry true (some (23, true))) ∧ (s.rail 23).dyn.claim = .frame .d1 5 ∧
      (s.rail 23).dyn.frame = none ∧ (s.rail 23).dyn.state = st) ∧
    (deadlineOf5 (awaitingClaim .on)).EndsAtOnce 23 255 (.railOn 23 false) .done ∧
    (∀ st ∈ [RailState.on, .discharging, .off], let s := awaitingRecord st;
      (s.rail 23).dyn.claim = .none ∧ (s.rail 23).dyn.frame = some (railFrameOn 2 (.sent 9) false) ∧
      (s.rail 23).dyn.state = st ∧ s.allOn (s.rail 23).static.prereqs = true ∧ s.isBoard 23 = true ∧
      s.pathAvailable 23 = true) ∧
    (State.unframed (stepping (.railOff 23 false) .claim .none (some (railFrameOn 2 (.sent 9) false)) plainRail .off) 23).EndsAtOnce
      23 255 (.railOff 23 false) .done ∧
    (∀ x ∈ [plainRail, boardRail, { plainRail with prereqs := 1 }],
      let s := stepping (.railOn 23 false) .fall .step none x .falling;
      (s.rail 23).dyn.state = .falling ∧ (s.rail 23).dyn.timer = some 9 ∧ x.discharge.isForce = false ∧ x.sense = none ∧
      s.pathAvailable 23 = true ∧ s.isBoard 23 = (x == boardRail) ∧ s.allOn x.prereqs = (x.prereqs == 0)) ∧
    (∀ f st, (needing f st).RailStep (ctx2 255 none .order) running2 23 (.railOn 23 false)) ∧
    (let s := needing (some (railFrameOn 1 (.sent 9) true)) .off;
      s.Samples 7 4092 0 (onSample s 4092) ∧ s.AlarmFaults 7 0 (onSample s 4092) .high ∧ (s.rail 0).dyn.claim = .none ∧
      (s.rail 0).dyn.frame = none ∧ (s.rail 0).static.path = .onPart 1 ∧ (s.rail 0).static.faultAction = none ∧
      s.dependents 0 = [23] ∧ (s.rail 23).dyn.frame = some (railFrameOn 1 (.sent 9) true)) ∧
    (let s := needing none .rising;
      (s.rail 23).dyn.state = .rising ∧ (s.rail 23).static.path = .onPart 0 ∧ s.NoDependentUp 23 ∧
      s.Samples 7 0 0 (onSample s 0) ∧ s.AlarmFaults 7 0 (onSample s 0) .low) ∧
    (∀ k ∈ [StepKind.railOn 23 false, .railOff 23 true], ∀ f ∈ [none, some (railFrameOn 1 .waiting true)],
      ∀ st ∈ [RailState.rising, .off, .on], let s := stepping k .order .step f boardRail st;
      let a : Capability := { boardKind := 3, maxPayload := 16, notices := true, syncSource := true, ids := [] };
      decCapability record0 = some a ∧ (s.port .d1).link = .up ∧
      (s.port .d1).agreed.map (fun y => (y.rails, y.mismatch)) = some ([23], []) ∧
      [23].filter (fun q => q ∉ (s.agree .d1 a).rails) = [23] ∧ (s.rail 23).static.port? = some .d1 ∧
      (s.rail 23).dyn.frame = f ∧ (s.rail 23).dyn.state = st) := by
  refine ⟨by decide +kernel, ?_, by decide +kernel, ?_, by decide +kernel, fun f st => ?_, ⟨⟨rfl, rfl, rfl, rfl⟩, ?_, by decide +kernel⟩,
    ⟨rfl, rfl, noDependent (by decide +kernel), ⟨rfl, rfl, rfl, rfl⟩, ?_⟩, by decide +kernel⟩
  · exact endsOf (by decide +kernel)
  · exact endsOf (by decide +kernel)
  · have e : (needing f st).stepAt 255 = { kind := .railOn 23 false, onFail := .abort, guarded := false } := stepAt_stepIs (by decide) _ _
    exact isRailStep rfl ⟨rfl, rfl, Nat.le_refl 2, rfl, rfl, rfl⟩ ⟨congrArg Step.kind e, rfl, rfl, congrArg Step.onFail e, rfl⟩
  · unfold State.AlarmFaults; decide +kernel
  · unfold State.AlarmFaults; decide +kernel

theorem isPassing {s : State} (u : upB s = true) (p : s.up.present = true)
    (c : ∀ c ∈ s.seq.ctx, (s.stepAt c.index).kind.rail? = none) : s.Passing :=
  { toUp := isUp u, present := p, noRailStep := fun d e => c d e }

theorem witness_PassesFollowTheirOccasions :
    (∀ st f, (held 2 (withFrame f (railIs 23 plainRail st (some 9) calm))).Passing) ∧
    (let s := held 1 (railIs 23 plainRail .rising (some 9) (lastOn (.delay 5) (some 9) .none calm));
      s.Passing ∧ s.fwd.hold ≠ [] ∧ s.seq.ctx ≠ none) ∧
    (∀ st ∈ [RailState.rising, .falling], let s := held 2 (railIs 23 plainRail st (some 9) calm);
      (s.rail 23).dyn.state = st ∧ (s.rail 23).dyn.timer = some 9 ∧ plainRail.sense = none ∧ plainRail.discharge.isForce = false) ∧
    ((held 2 (withFrame (railFrameOn 2 (.sent 9) true) (portUp .d1 calm))).rail 23).dyn.frame = some (railFrameOn 2 (.sent 9) true) ∧
    (let s := held 2 (waiting true (some (23, true)) plainRail .off);
      s.Passing ∧ s.outOf .d1 5 = some (outEntry true (some (23, true))) ∧ (s.rail 23).dyn.claim = .frame .d1 5 ∧
      (s.port .d1).link = .up) ∧
    (let s := held 2 (triggered .dip);
      s.Passing ∧ s.sched.running = none ∧ s.sched.queue = [] ∧ s.rtu.levelTimers.get 3 = some 9 ∧ s.rtu.stage = .dip ∧
      s.rtu.shedLevel = 0 ∧ s.rtu.plan.levelProgram 3 = none) ∧
    (let s := held 2 (recovering (.delay 5));
      s.Up ∧ s.up.present = true ∧ s.fwd.hold ≠ [] ∧ s.sched.queue = [] ∧ s.rtu.stage = .recover ∧ s.rtu.shedLevel ≠ 0 ∧
      s.seq.ctx.map (fun c => (c.program, c.index, c.timer)) = some (1, 0, some 9) ∧ (s.stepAt 0).kind = .delay 5 ∧
      s.inRange 1 1 = false ∧ s.sched.running.map Running.marked = some false) :=
  ⟨fun st f => isPassing rfl rfl nofun, ⟨isPassing rfl rfl (by decide +kernel), by decide +kernel⟩, by decide +kernel,
   rfl, ⟨isPassing rfl rfl nofun, by decide +kernel⟩, ⟨isPassing rfl rfl nofun, by decide +kernel⟩,
   isUp (by decide +kernel), by decide +kernel⟩

/-- TransmitterGrantsByPriority in EXCHANGE, and TransmissionEndTellsTheClaimant with commands held. -/
theorem witness_TransmittersInExchangeAndWithCommandsHeld :
    (let s := withPort .d1 (fun x => { probing 1 x with line := .stretch 10, probeWaiting := true });
      s.Settled ∧ (s.port .d1).line = .stretch 10 ∧ (s.port .d1).link = .exchange ∧ (s.port .d1).railPlaces = [] ∧
      (s.port .d1).probeWaiting = true) ∧
    (let s := held 2 (setQueue .d1 [plainCmd] (sends (some .forward) (portUp .d1 calm)));
      s.Up ∧ s.fwd.hold ≠ [] ∧ s.up.present = true ∧ s.queue .d1 = [plainCmd] ∧
      (s.port .d1).line = .sending (some .forward) seqFrame1.frame 40) :=
  ⟨⟨⟨rfl, rfl⟩, by decide +kernel⟩, isUp (by decide +kernel), by decide +kernel⟩

/-! ### Small behaviours -/

/-- The groups together: a bulk channel that a rail senses, program 0 beyond the reserve, and a role of another priority. -/
theorem test_groups_together :
    (let s := putPlan (onePlan none 0) (railIs 23 { plainRail with sense := some 7, faultAction := some 2 } .off none calm);
      (crossBulk s).rtu.plan = Plan.initial ∧ (crossBulk s).store.loads.get 3 = .unfit ∧
      ((crossRoles s).rail 23).static.faultAction = none ∧ (crossRoles s).ev.pending = EventKind.configFallback.bit) ∧
    (let s := crossBudget (headerIs 0 250 1 3 (stepIs 250 (.delay 5) calm));
      s.store.loads.get 2 = .budget ∧ s.store.loads.get 3 = .budget ∧ s.seq.headers = Sequencer.initial.headers) := by
  decide +kernel

/-- A part that has never been saved starts with the built-in values: the load changes no table (log 3). -/
theorem test_first_power_on :
    (let t := after (exec .startupWaitEnd State.reset);
      (t.phase, t.now, t.ev, t.rtu) = (.loading, Config.startupWait, State.reset.ev, State.reset.rtu) ∧
      t.seq.steps.toList = List.replicate 256 Step.initial ∧ t.rails.toList = State.reset.rails.toList ∧
      t.store.loads.toList = List.replicate 5 .code) := by
  decide +kernel

/-- IDENTIFY to a part that is up: one reply of 18 data bytes waits for the upstream transmitter. -/
theorem test_identify :
    ((after (exec (.identify 9) base)).up.tx.map (fun e => (e.frame.tag, e.frame.src, e.frame.payload.length))) =
      [(9, 0, 19)] := by decide +kernel

/-- Rail 1 depends on rail 0, which is late to rise: rail 0 faults and the cascade brings rail 1 down. -/
def pair : State :=
  railIs 1 { plainRail with path := .onPart 1, prereqs := 1 } .on none (railIs 0 { plainRail with sense := some 0 } .rising
    (some 9) calm)

theorem test_rise_timeout_brings_the_dependent_down :
    (let t := after (exec (.riseTimeout 0) pair);
      (t.railState 0, t.railState 1, t.en.get 0, t.en.get 1, t.ev.pending) =
        (.fault, .falling, false, false, EventKind.railFault.bit)) := by decide +kernel

/-- A rail switched on into a standing HIGH alarm faults, also where the program's next step has switched it off again. -/
theorem test_rise_into_high_alarm :
    (let t := after (exec .delayExpiry (setChan 7 { Channel.initial with role := .bound 23, alarm := .high }
        (railIs 23 sensed .off none (runs 2 253 (some 9) .none (stepIs 253 (.delay 1) (stepIs 254 (.railOn 23 true)
          (stepIs 255 (.railOff 23 true) (headerIs 2 253 3 1 calm))))))));
      ((t.rail 23).dyn.state, (t.rail 23).dyn.faultCause, (t.rail 23).dyn.claim, t.en.get 0, t.ev.pending) =
        (.fault, some .high, .none, false, EventKind.railFault.bit ||| EventKind.programEnd.bit)) := by
  decide +kernel

/-- A commit timer in DIP with program 0 empty: the shutdown is over within the event, and the record says so. -/
theorem test_commit_with_an_empty_program :
    (let t := after (exec (.triggerTimerExpiry .commit) (triggered .dip));
      (t.rtu.stage, t.rtu.armed, t.rtu.record.outcome, t.sched.committed) = (.dark, true, some .complete, false)) := by
  decide +kernel

/-- The line edge that makes the line PRESENT in DARK after power-on leaves DARK. -/
theorem test_line_back_leaves_dark :
    (after (exec .lineEdge (lineIs .unqualified 3 (some 0) 9 base))).rtu.stage = .lineOk := by decide +kernel
end Sys2Proof.Tests
end

section
/-! What READ_STEPS and READ_PROGRAM reply, and the worst case that READ_PROGRAM reports (R70, R75, R172). -/

namespace Sys2Proof.Machine

/-! ### The two requests as they reach the Management Unit -/

/-- READ_STEPS is taken at once and goes to its request (R122, R172). -/
theorem exec_readSteps {s : State} (h : s.Ready) (tag start count : Byte) :
    exec (.readSteps tag start count) s =
      .next (settle 65535 (reqReadSteps (requestFrame 0x21 tag [start, count]) s.taken)) :=
  event_request 0x21 tag [start, count] h (by simp)

/-- READ_PROGRAM is taken at once and goes to its request (R122, R172). -/
theorem exec_readProgram {s : State} (h : s.Ready) (tag program : Byte) :
    exec (.readProgram tag program) s =
      .next (settle 65535 (reqReadProgram (requestFrame 0x24 tag [program]) s.taken)) :=
  event_request 0x24 tag [program] h (by simp)

/-! ### READ_STEPS (R75) -/

/-- The two numbers that a READ_STEPS frame carries. -/
theorem arg_readSteps (tag start count : Byte) : (requestFrame 0x21 tag [start, count]).arg 0 = start.toNat ∧
    (requestFrame 0x21 tag [start, count]).arg 1 = count.toNat := ⟨rfl, rfl⟩

/-- The first check: an index range past the end of the pool. -/
theorem reqReadSteps_pastPool (s : State) (tag : Byte) {start count : Byte} (h : 256 < start.toNat + count.toNat) :
    reqReadSteps (requestFrame 0x21 tag [start, count]) s =
      answer (requestFrame 0x21 tag [start, count]) stBadIndex s :=
  checked_fails _ _ _ _ _ _ (decide_eq_true h)

/-- The second check: a count outside 1 to 6. -/
theorem reqReadSteps_badCount (s : State) (tag : Byte) {start count : Byte} (inPool : start.toNat + count.toNat ≤ 256)
    (h : count.toNat = 0 ∨ 6 < count.toNat) : reqReadSteps (requestFrame 0x21 tag [start, count]) s =
      answer (requestFrame 0x21 tag [start, count]) stBadRequest s := by
  obtain ⟨first, second⟩ := arg_readSteps tag start count
  unfold reqReadSteps
  simp only [first, second]
  rw [checked_passes _ _ _ _ _ _ (decide_eq_false (Nat.not_lt.mpr inPool))]
  exact checked_fails _ _ _ _ _ _ (by simpa using h)

/-- With both checks passed the reply holds the two numbers and the records they name. -/
theorem reqReadSteps_accepts (s : State) (tag : Byte) {start count : Byte} (inPool : start.toNat + count.toNat ≤ 256)
    (least : 1 ≤ count.toNat) (most : count.toNat ≤ 6) : reqReadSteps (requestFrame 0x21 tag [start, count]) s =
      accept (requestFrame 0x21 tag [start, count]) ([start, count] ++
        (List.range count.toNat).flatMap (fun k => encStep (s.stepAt (start.toNat + k)))) s := by
  obtain ⟨first, second⟩ := arg_readSteps tag start count
  have number : (count.toNat == 0 || decide (6 < count.toNat)) = false := by simp; omega
  unfold reqReadSteps
  simp only [first, second]
  rw [checked_passes _ _ _ _ _ _ (decide_eq_false (Nat.not_lt.mpr inPool)), checked_passes _ _ _ _ _ _ number,
    checked_nil, byteOf_toNat, byteOf_toNat]

/-! ### READ_PROGRAM (R75) -/

theorem progOf?_lt {n : Nat} (h : n < 12) : progOf? n = some ⟨n, h⟩ := dif_pos h

theorem progOf?_ge {n : Nat} (h : 12 ≤ n) : progOf? n = none := dif_neg (Nat.not_lt.mpr h)

theorem arg_readProgram (tag program : Byte) : (requestFrame 0x24 tag [program]).arg 0 = program.toNat := rfl

theorem reqReadProgram_badIndex (s : State) (tag : Byte) {program : Byte} (h : 12 ≤ program.toNat) :
    reqReadProgram (requestFrame 0x24 tag [program]) s = answer (requestFrame 0x24 tag [program]) stBadIndex s := by
  unfold reqReadProgram; rw [arg_readProgram, progOf?_ge h]

theorem reqReadProgram_accepts (s : State) (tag : Byte) {program : Byte} (h : program.toNat < 12) :
    reqReadProgram (requestFrame 0x24 tag [program]) s = accept (requestFrame 0x24 tag [program])
      ([program] ++ encHeader (s.header ⟨program.toNat, h⟩) ++ bytes4 (s.worstCase ⟨program.toNat, h⟩)) s := by
  unfold reqReadProgram
  rw [arg_readProgram, progOf?_lt h]
  simp only [byteOf_toNat]

/-- The taking of a frame changes nothing that the worst case rests on. -/
@[simp] theorem worstCase_taken (s : State) (n : ProgNo) : s.taken.worstCase n = s.worstCase n := rfl

/-! ### The worst case (R70) -/

/-- The worst case is the sum of the bounds of the range's steps. -/
theorem worstCase_eq_sum (s : State) (n : ProgNo) : s.worstCase n =
    ((List.range (s.header n).count).map (fun k => s.stepWorst (s.stepAt ((s.header n).first + k)).kind)).sum := by
  unfold State.worstCase State.rangeOf
  rw [List.map_map]; rfl

theorem railWindows_onPart (s : State) {x : RailStatic} {e : Fin 12} (h : x.path = .onPart e) : s.railWindows x = 0 := by
  unfold State.railWindows RailStatic.port?; rw [h]

theorem railWindows_board (s : State) {x : RailStatic} {p : Port} {i : Fin 32} {on off : Byte}
    (h : x.path = .board p i on off) : s.railWindows x = 2 * (s.port p).windowMs := by
  unfold State.railWindows RailStatic.port?; rw [h]

theorem stepWorst_unusedRail (s : State) {r : RailId} (noWait : Bool) (h : (s.rail r).static.used = false) :
    s.stepWorst (.railOff r noWait) = 0 ∧ s.stepWorst (.railOn r noWait) = 0 := by
  simp [State.stepWorst, h]

theorem stepWorst_usedRail (s : State) {r : RailId} (noWait : Bool) (h : (s.rail r).static.used = true) :
    s.stepWorst (.railOff r noWait) =
      s.railWindows (s.rail r).static + (s.rail r).static.fallMs + (s.rail r).static.dischargeMs ∧
    s.stepWorst (.railOn r noWait) = s.railWindows (s.rail r).static + (s.rail r).static.riseMs := by
  simp [State.stepWorst, h]

theorem stepWorst_send (s : State) {n : Fin 16} {y : Template} (h : s.template n = some y) :
    s.stepWorst (.send n) = y.windowMs * (y.retries + 1) := by
  simp [State.stepWorst, h]

theorem stepWorst_sendEmpty (s : State) {n : Fin 16} (h : s.template n = none) : s.stepWorst (.send n) = 0 := by
  simp [State.stepWorst, h]

/-! ### The statement -/

/-- Settles O5: each reply from its request's checks in order, and the worst case from R70's row of each step kind. -/
theorem readStepsAndProgramReply : Obligations.ReadStepsAndProgramReply := by
  refine ⟨fun s tag start count program ready => ⟨fun past => ?_, fun inPool bad => ?_, fun inPool least most => ?_,
    fun lt => ?_, fun ge => ?_⟩, worstCase_eq_sum, fun s r noWait x d hx hd => ?_,
    fun s time count p cls cancel r st o active n => ⟨rfl, rfl, rfl, fun _ => stepWorst_send s,
      stepWorst_sendEmpty s, rfl, rfl⟩⟩
  · rw [exec_readSteps ready, reqReadSteps_pastPool _ tag past, settle_answer _ ready]
  · rw [exec_readSteps ready, reqReadSteps_badCount _ tag inPool bad, settle_answer _ ready]
  · rw [exec_readSteps ready, reqReadSteps_accepts _ tag inPool least most, settle_accept _ ready]
    simp only [stepAt_taken]
  · rw [exec_readProgram ready, reqReadProgram_accepts _ tag lt, settle_accept _ ready, header_taken, worstCase_taken]
  · rw [exec_readProgram ready, reqReadProgram_badIndex _ tag ge, settle_answer _ ready]
  · have discharge : d = x.dischargeMs := hd
    subst hx discharge
    refine ⟨stepWorst_unusedRail s noWait, fun e used path => ?_, fun p i on off used path => ?_⟩
    · simp [stepWorst_usedRail s noWait used, railWindows_onPart s path]
    · simp [stepWorst_usedRail s noWait used, railWindows_board s path]

end Sys2Proof.Machine
end

section
/-! The start of a CHECK step: it holds nothing and ends in the state in which it starts (R52, R65, R67). -/

namespace Sys2Proof.Machine

/-- The step at index `i` has started in the context `c`: its position, nothing waited for, and the guarded flag that it
reports (R52, R67). -/
def State.startedAt (s : State) (c : Context) (i : Nat) : State :=
  { s with
    seq := { s.seq with ctx := some { c with index := i, timer := none, frame := none, wait := .none } }
    sched := { s.sched with running := s.sched.running.map (fun x => { x with guarded := (s.stepAt i).guarded }) } }

@[simp] theorem startedAt_ctx (s : State) (c : Context) (i : Nat) :
    (s.startedAt c i).seq.ctx = some { c with index := i, timer := none, frame := none, wait := .none } := rfl
@[simp] theorem stepAt_startedAt (s : State) (c : Context) (i k : Nat) : (s.startedAt c i).stepAt k = s.stepAt k := rfl
@[simp] theorem railState_startedAt (s : State) (c : Context) (i : Nat) (r : RailId) :
    (s.startedAt c i).railState r = s.railState r := rfl

/-- What every step does first as it starts: it takes the context and reports its guarded flag (R52, R67). -/
theorem setGuarded_modCtx {s : State} {c : Context} (h : s.seq.ctx = some c) (i : Nat) :
    setGuarded (s.stepAt i).guarded
      (modCtx (fun c => { c with index := i, timer := none, frame := none, wait := .none }) s) = s.startedAt c i := by
  rw [modCtx_eq s _ c h]; rfl

/-- A CHECK step holds no claim, no frame and no capture: nothing is tidied up as it ends where it starts (R54). -/
theorem tidyStep_check (cut : Bool) {s : State} {c : Context} {i : Nat} {r : RailId} {st : RailState}
    (kind : (s.stepAt i).kind = .check r st) : tidyStep cut (s.startedAt c i) = s.startedAt c i := by
  unfold tidyStep
  rw [current_eq (startedAt_ctx s c i) kind]
  exact modCtx_eq _ _ _ (startedAt_ctx s c i)

theorem stepEnd_check (failure : Option FailReason) {s : State} {c : Context} {i : Nat} {r : RailId} {st : RailState}
    (kind : (s.stepAt i).kind = .check r st) :
    stepEnd failure (s.startedAt c i) = later (.afterStep failure) (s.startedAt c i) := by
  unfold stepEnd; rw [tidyStep_check _ kind]

/-- A CHECK step that starts compares its rail's STATE and ends at once (R65). -/
theorem startStep_check {s : State} {c : Context} {i : Nat} {r : RailId} {st : RailState} (ctx : s.seq.ctx = some c)
    (kind : (s.stepAt i).kind = .check r st) : startStep i s =
      if s.railState r = st then stepEnd none (s.startedAt c i) else stepFail .checkFailed (s.startedAt c i) := by
  unfold startStep
  simp only [setGuarded_modCtx ctx, startedAt_ctx, kind, railState_startedAt]

/-- Settles O50: the step is compared as it starts, and with nothing to tidy up its end only hands on what follows. -/
theorem checkStepComparesTheState : Obligations.CheckStepComparesTheState := by
  intro s i r st c ctx kind
  rw [startStep_check ctx kind]
  by_cases equal : s.railState r = st
  · rw [if_pos equal, if_pos equal]; exact stepEnd_check none kind
  · rw [if_neg equal, if_neg equal]; exact stepEnd_check (some .checkFailed) kind

end Sys2Proof.Machine
end

section
/-! What READ_ADMIT replies: the entry, its empty mark, or BAD_INDEX (R146, R172). -/

namespace Sys2Proof.Machine

theorem admitOf?_lt {n : Nat} (h : n < 64) : admitOf? n = some ⟨n, h⟩ := dif_pos h

theorem admitOf?_ge {n : Nat} (h : 64 ≤ n) : admitOf? n = none := dif_neg (Nat.not_lt.mpr h)

/-- The taking of a frame leaves the Admission Table as it is. -/
@[simp] theorem admission_taken (s : State) : s.taken.fwd.admission = s.fwd.admission := rfl

/-- READ_ADMIT is taken at once and goes to its request (R122, R172). -/
theorem exec_readAdmit {s : State} (h : s.Ready) (tag index : Byte) :
    exec (.readAdmit tag index) s =
      .next (settle 65535 (reqReadAdmit (requestFrame 0x19 tag [index]) s.taken)) :=
  event_request 0x19 tag [index] h (by simp)

/-- The index that a READ_ADMIT frame carries. -/
theorem arg_readAdmit (tag index : Byte) : (requestFrame 0x19 tag [index]).arg 0 = index.toNat := rfl

/-- The one check of READ_ADMIT: an index past the end of the table. -/
theorem reqReadAdmit_badIndex (s : State) (tag : Byte) {index : Byte} (h : 64 ≤ index.toNat) :
    reqReadAdmit (requestFrame 0x19 tag [index]) s = answer (requestFrame 0x19 tag [index]) stBadIndex s := by
  unfold reqReadAdmit
  rw [arg_readAdmit, admitOf?_ge h]

/-- With the index in the table the reply holds the index and the entry, or the entry's empty mark. -/
theorem reqReadAdmit_accepts (s : State) (tag : Byte) {index : Byte} (h : index.toNat < 64) :
    reqReadAdmit (requestFrame 0x19 tag [index]) s = accept (requestFrame 0x19 tag [index])
      (index :: encAdmit (s.fwd.admission.get ⟨index.toNat, h⟩)) s := by
  unfold reqReadAdmit
  rw [arg_readAdmit, admitOf?_lt h]
  simp only [byteOf_toNat, List.singleton_append]

/-- Settles O4: the request is taken, its one check decides between entry and refusal, and the reply is all that is left. -/
theorem readAdmitReplies : Obligations.ReadAdmitReplies := by
  intro s tag index ready
  refine ⟨fun inTable => ?_, fun pastTable => ?_⟩
  · rw [exec_readAdmit ready, reqReadAdmit_accepts _ tag inTable, settle_accept _ ready, admission_taken]
  · rw [exec_readAdmit ready, reqReadAdmit_badIndex _ tag pastTable, settle_answer _ ready]

end Sys2Proof.Machine
end

section
/-! CLEAR_EVENTS: the pending set emptied, ATTN released, a waiting attention notice withdrawn (R170, R172). -/

namespace Sys2Proof.Machine

/-! ### The request as it reaches the Management Unit -/

/-- CLEAR_EVENTS is taken at once and goes to its request (R122, R172). -/
theorem exec_clearEvents {s : State} (h : s.Ready) (tag : Byte) :
    exec (.clearEvents tag) s = .next (settle 65535 (reqClearEvents (requestFrame 0x0A tag []) s.taken)) :=
  event_request 0x0A tag [] h (by simp)

/-- The layout of CLEAR_EVENTS is empty (R181): any payload has the wrong size. -/
theorem clearEvents_unsized {payload : List Byte} (h : payload ≠ []) : requestSized 0x0A payload = false := by
  have wrongLength : 0 ≠ payload.length := fun c => h (List.length_eq_zero_iff.mp c.symm)
  exact beq_false_of_ne (fun c => wrongLength (Option.some.inj c))

/-- With a payload the frame reaches no request and is answered BAD_REQUEST (R170, R172). -/
theorem exec_clearEvents_payload {s : State} (h : s.Ready) (tag : Byte) {payload : List Byte} (carried : payload ≠ [])
    (fits : payload.length ≤ 60) : exec (.unknownRequestCode 0x0A tag payload) s =
      .next (s.replied (requestFrame 0x0A tag payload) stBadRequest []) := by
  have received : exec (.unknownRequestCode 0x0A tag payload) s =
      .next (settle 65535 (request s.mode (requestFrame 0x0A tag payload) s.taken)) :=
    event_request 0x0A tag payload h fits
  rw [received, request_unsized _ _ _ (clearEvents_unsized carried), settle_answer _ h]

/-! ### The emptied pending set -/

/-- The Event Unit with no kind pending. -/
def EventUnit.emptied (e : EventUnit) : EventUnit := { e with pending := 0 }

/-- With no kind pending none is requesting, whatever the mask (R167). -/
@[simp] theorem requesting_emptied (e : EventUnit) : e.emptied.requesting = 0 := BitVec.zero_and

/-- The pending set emptied, with what follows for ATTN and the attention place (R167, R168). -/
def State.eventsCleared (s : State) : State := changeEvents EventUnit.emptied s

theorem reqClearEvents_eq (f : Frame) (s : State) : reqClearEvents f s = accept f [] s.eventsCleared := rfl

/-- ATTN is released and the mask stays. -/
theorem eventsCleared_ev {s : State} (running : s.phase = .running) (inv : s.AttnInv) :
    s.eventsCleared.ev = { s.ev with pending := 0, attn := false } := by
  unfold State.eventsCleared
  rw [changeEvents_ev _ s running inv rfl, requesting_emptied]; rfl

/-- Where a kind was requesting, the waiting attention notice is withdrawn. -/
theorem eventsCleared_up {s : State} (running : s.phase = .running) (requesting : s.ev.requesting ≠ 0) :
    s.eventsCleared.up = { s.up with tx := s.up.tx.filter (fun e => !e.isAttention) } := by
  unfold State.eventsCleared
  rw [changeEvents_up _ s running, if_neg (fun notice => requesting notice.1),
    if_pos ⟨requesting, requesting_emptied s.ev⟩]

/-- The Event Unit and port U apart, all stays as it was. -/
theorem eventsCleared_rest (s : State) : { s.eventsCleared with ev := s.ev, up := s.up } = s := by
  unfold State.eventsCleared; apply State.ext <;> simp

theorem eventsCleared_present (s : State) : s.eventsCleared.up.present = s.up.present := changeEvents_up_present _ s

theorem eventsCleared_settled {s : State} (h : s.Settled) : s.eventsCleared.Settled :=
  ⟨(changeEvents_agenda _ s).trans h.1, (changeEvents_takeDue _ s).trans h.2⟩

/-- An entry that the filter of R168 leaves on the transmit queue is no attention notice. -/
theorem group_of_mem_withdrawn {l : List UpEntry} {e : UpEntry} (h : e ∈ l.filter (fun e => !e.isAttention)) :
    e.group ≠ .attention := by
  have kept := (List.mem_filter.mp h).2
  simpa [UpEntry.isAttention] using kept

/-! ### The accepted request -/

/-- What an accepted CLEAR_EVENTS leaves: the sets cleared, then the OK reply behind what waits (R170). -/
def State.clearReplied (s : State) (tag : Byte) : State :=
  s.taken.eventsCleared.placed (replyEntry (replyFrame (requestFrame 0x0A tag []) stOk []))

theorem exec_clearEvents_replied {s : State} (h : s.Ready) (tag : Byte) :
    exec (.clearEvents tag) s = .next (s.clearReplied tag) := by
  have present : s.taken.eventsCleared.up.present = true := (eventsCleared_present _).trans h.present
  have settled : s.taken.eventsCleared.Settled := eventsCleared_settled h.settled
  rw [exec_clearEvents h, reqClearEvents_eq, settle_accept_of _ _ _ present settled]; rfl

/-- The reply is the last entry of the transmit queue. -/
theorem clearReplied_tx (s : State) (tag : Byte) : (s.clearReplied tag).up.tx = s.taken.eventsCleared.up.tx ++
    [replyEntry (replyFrame (requestFrame 0x0A tag []) stOk [])] := rfl

/-- No attention notice waits any more where a kind was requesting: those that waited are withdrawn, and the reply is
none. -/
theorem clearReplied_noAttention {s : State} (running : s.phase = .running) (requesting : s.ev.requesting ≠ 0)
    (tag : Byte) : ∀ e ∈ (s.clearReplied tag).up.tx, e.group ≠ .attention := by
  intro e mem
  rw [clearReplied_tx, eventsCleared_up (s := s.taken) running requesting] at mem
  rcases List.mem_append.mp mem with waiting | reply
  · exact group_of_mem_withdrawn waiting
  · rw [List.mem_singleton.mp reply]; exact nofun

/-- The Event Unit, port U and the mode apart, all stays as it was. -/
theorem clearReplied_rest (s : State) (tag : Byte) :
    { s.clearReplied tag with ev := s.ev, up := s.up, mode := s.mode } = s := by
  have kept := eventsCleared_rest s.taken
  exact congrArg (fun t : State => { t with ev := s.ev, up := s.up, mode := s.mode }) kept

/-- Settles O11: an accepted request leaves the cleared sets and its reply, and a payload never reaches the request. -/
theorem clearEventsEmptiesThePendingSet : Obligations.ClearEventsEmptiesThePendingSet := by
  intro s tag payload ready inv
  refine ⟨⟨s.clearReplied tag, exec_clearEvents_replied ready tag, ?_, ?_, ?_, clearReplied_rest s tag⟩, ?_⟩
  · exact eventsCleared_ev (s := s.taken) ready.running inv
  · rw [clearReplied_tx]; exact List.mem_append_right _ (List.mem_singleton_self _)
  · exact fun requesting => clearReplied_noAttention ready.running requesting tag
  · exact exec_clearEvents_payload ready tag

end Sys2Proof.Machine
end

section
/-! What every step keeps: ATTN follows the requesting set, and queues, lists and places stay within their sizes; the step
itself, and the state after power-on. -/

namespace Sys2Proof.Machine

/-! ### The step -/

/-- Settles O1: the front command is executed on the rest of the queue. -/
theorem stepRunsFrontCommand : Obligations.StepRunsFrontCommand := by
  intro c rest s front
  unfold step; rw [front]

/-- Settles O2: with no command waiting only the clock moves. -/
theorem idleStepIsOneTick : Obligations.IdleStepIsOneTick := by
  intro s idle
  unfold step; rw [idle]

/-! ### Every command keeps the invariants -/

/-- A command taken whole keeps both invariants: its own effect keeps them, and so does all that follows in its event. -/
theorem sound_exec {A B : Prop} (i : Instr) {s t : State} (h : s.Sound A B) (e : exec i s = .next t) : t.Sound A B := by
  cases i <;> refine sound_event (fun s h => ?_) h e
  case upstreamFrameReceived bytes => exact sound_receiveUpBytes bytes h
  case malformedFrame lane bytes => exact sound_receiveRun lane bytes h
  all_goals simp [h]

/-- A tick of the clock touches nothing that the invariants speak of. -/
theorem sound_tick {A B : Prop} {s : State} (h : s.Sound A B) : State.Sound A B { s with now := s.now + 1 } :=
  h.of rfl rfl rfl rfl rfl rfl ⟨rfl, rfl, rfl⟩ rfl rfl (grantsFit_of rfl)

/-- The taking of a command from the queue touches nothing that the invariants speak of. -/
theorem sound_fetch {A B : Prop} {s : State} (rest : List Instr) (h : s.Sound A B) :
    State.Sound A B { s with pending := rest } :=
  h.of rfl rfl rfl rfl rfl rfl ⟨rfl, rfl, rfl⟩ rfl rfl (grantsFit_of rfl)

theorem sound_step {A B : Prop} {s t : State} (h : s.Sound A B) (e : step s = .next t) : t.Sound A B := by
  unfold step at e
  split at e
  · exact sound_exec _ (sound_fetch _ h) e
  · injection e with e; subst e; exact sound_tick h

/-- Settles O58: of the two invariants that a step keeps, the first alone is asked for. -/
theorem everyStepKeepsAttn : Obligations.EveryStepKeepsAttn := by
  intro s t inv e
  have kept : t.Sound True False := sound_step ⟨fun _ => inv, False.elim⟩ e
  exact kept.attn trivial

/-- Settles O59: of the two invariants that a step keeps, the second alone is asked for. -/
theorem everyStepKeepsTheBounds : Obligations.EveryStepKeepsTheBounds := by
  intro s t inv e
  have kept : t.Sound False True := sound_step ⟨False.elim, fun _ => inv⟩ e
  exact kept.bounds trivial

/-! ### After power-on -/

theorem port_reset (p : Port) : State.reset.port p = PortRec.initial false := by cases p <;> rfl

theorem queue_reset (p : Port) : State.reset.queue p = [] := by cases p <;> rfl

theorem outs_reset (p : Port) : State.reset.outs p = [] := by cases p <;> rfl

/-- Nothing is queued, listed or transmitted after power-on. -/
theorem bounds_reset : State.reset.BoundsInv where
  receive := Nat.zero_le 4
  requests := Nat.zero_le 4
  hold := Nat.zero_le 16
  tag := Nat.le_refl 0xE0
  forward p := by rw [queue_reset]; exact Nat.zero_le 8
  outstanding p := by rw [outs_reset]; exact Nat.zero_le 4
  granted p sending := by rw [port_reset] at sending; cases sending
  replies := Nat.zero_le 24
  notices := Nat.zero_le 7
  attention := Nat.zero_le 1

/-- Settles O60: the part is not running yet with ATTN released, and every queue, list and place is empty. -/
theorem resetMeetsTheInvariants : Obligations.ResetMeetsTheInvariants :=
  ⟨⟨nofun, fun _ => rfl⟩, bounds_reset⟩

end Sys2Proof.Machine
end

section
/-! The requests that report: what each replies, and the lengths of R181's table (R172 to R183). -/

namespace Sys2Proof.Machine

/-! ### A request that comes to its reply -/

/-- A request with the length of its layout acts (R172 item 2). -/
theorem sized_fits {n : Nat} {act : Frame → State → State} {f : Frame} (s : State) (h : f.payload.length = n) :
    sized n act f s = act f s := if_pos h

theorem sizedBy_fits {least n : Nat} {act : Frame → State → State} {f : Frame} (s : State) (l : least ≤ f.payload.length)
    (h : f.payload.length = n) : sizedBy least n act f s = act f s := if_pos ⟨l, h⟩

/-- A request that does no more than reply with its data (R173). -/
theorem event_accepts {s : State} (h : s.Ready) {cls tag : Byte} {payload data : List Byte} (l : payload.length ≤ 60)
    (e : request s.mode (requestFrame cls tag payload) s.taken = accept (requestFrame cls tag payload) data s.taken) :
    event (receiveUp (requestFrame cls tag payload)) s =
      .next (s.replied (requestFrame cls tag payload) stOk data) := by
  rw [event_request cls tag payload h l, e, settle_accept _ h]

/-! ### The lengths of the reply data (R181, R182) -/

@[simp] theorem length_bytes2 (n : Nat) : (bytes2 n).length = 2 := rfl
@[simp] theorem length_bytes3 (n : Nat) : (bytes3 n).length = 3 := rfl
@[simp] theorem length_orFFFF (x : Option Nat) : (orFFFF x).length = 2 := rfl
@[simp] theorem length_saveBytes (x : Store) : x.saveBytes.length = 2 := rfl
@[simp] theorem length_claimBytes (c : Claim) : c.bytes.length = 3 := by cases c <;> rfl
@[simp] theorem length_channelBytes (c : Channel) : c.bytes.length = 6 := rfl

/-- A list that is cut or filled with zeros to a length has it. -/
theorem length_filled (l : List Byte) (n : Nat) : ((l ++ List.replicate n 0).take n).length = n := by
  rw [List.length_take, List.length_append, List.length_replicate]; omega

theorem length_encRail (x : RailStatic) : (encRail x).length = 24 := by
  unfold encRail
  cases x.path <;> cases x.discharge <;> rfl

theorem length_encPlan (p : Plan) : (encPlan p).length = 34 := by
  unfold encPlan
  cases p.resume <;> simp only [List.length_append, length_filled, length_bytes2, List.length_cons, List.length_nil]

theorem length_railLive (s : State) (r : RailId) : (s.railLive r).length = 12 := by
  unfold State.railLive
  dsimp only
  cases (s.rail r).dyn.frame <;> simp [RailFrame.bytes]

theorem length_snapshot (s : State) (m : Mode) : (s.snapshot m).length = 40 := by
  unfold State.snapshot
  cases s.seq.ctx <;> simp [Port.all]

theorem length_agreedBytes (x : Option Agreed) : (agreedBytes x).length = 18 := by
  cases x
  · rfl
  · simp only [agreedBytes, List.length_append, length_filled, length_bytes3, List.length_cons, List.length_nil]

theorem length_portBytes (s : State) (p : Port) : (s.portBytes p).length = 25 := by
  unfold State.portBytes
  rw [List.length_append, length_agreedBytes]; rfl

theorem length_resultBytes (x : Option Result) : (resultBytes x).length = 1 ∨ (resultBytes x).length = 8 := by
  cases x
  · exact .inl rfl
  · exact .inr rfl

theorem length_senseBytes (s : State) : (s.chans.toList.flatMap Channel.bytes ++ [byteOf s.marks.length] ++
    (s.marks.flatMap BulkMark.bytes ++ List.replicate 10 0).take 10).length = 59 := by
  have channels : (s.chans.toList.flatMap Channel.bytes).length = 48 := by
    have six : s.chans.toList.map (fun c => (Channel.bytes c).length) = List.replicate s.chans.toList.length 6 :=
      (List.map_congr_left fun c _ => length_channelBytes c).trans List.map_const'
    exact (List.length_flatMap.trans (congrArg List.sum six)).trans
      (List.sum_replicate_nat.trans (congrArg (· * 6) Vector.length_toList))
  simp only [List.length_append, channels, length_filled, List.length_cons, List.length_nil]

/-! ### The statement -/

/-- Settles O3: each request replies with its data from the state it finds, and each layout has its length. -/
theorem statusReadsReplyAndChangeNothing : Obligations.StatusReadsReplyAndChangeNothing := by
  refine ⟨fun s tag ready => ⟨?_, ?_, ?_, ?_, ?_, ?_, ?_⟩, fun s m r p => ⟨rfl, length_snapshot s m, rfl, ?_,
    length_senseBytes s, ?_, ?_, rfl, length_portBytes s p, length_resultBytes _⟩⟩
  · exact event_accepts ready (Nat.zero_le 60) rfl
  · exact event_accepts ready (Nat.zero_le 60) rfl
  · exact event_accepts ready (Nat.zero_le 60) rfl
  · exact event_accepts ready (Nat.zero_le 60) rfl
  · exact event_accepts ready (Nat.zero_le 60) rfl
  · exact event_accepts ready (Nat.zero_le 60) rfl
  · exact event_accepts ready (Nat.zero_le 60) rfl
  · rw [List.length_append, List.length_append, length_encRail, length_railLive]; rfl
  · simp
  · rw [List.length_append, length_encPlan]; rfl

end Sys2Proof.Machine
end

section
/-! READ_RAIL and READ_PORT: the held latch reported, then re-armed (R14, R135, R176, R177). -/

namespace Sys2Proof.Machine

theorem railOf?_lt {n : Nat} (h : n < 24) : railOf? n = some ⟨n, h⟩ := dif_pos h

theorem railOf?_ge {n : Nat} (h : 24 ≤ n) : railOf? n = none := dif_neg (Nat.not_lt.mpr h)

/-- Port numbers name their ports (R180). -/
theorem portOf?_number (p : Port) : Port.ofNat? p.number = some p := by cases p <;> rfl

theorem portOf?_none {n : Nat} (h : n = 0 ∨ 5 < n) : Port.ofNat? n = none := by
  unfold Port.ofNat?
  split <;> first | omega | rfl

/-! ### READ_RAIL -/

theorem exec_readRail {s : State} (h : s.Ready) (tag rail : Byte) :
    exec (.readRail tag rail) s = .next (settle 65535 (reqReadRail (requestFrame 0x11 tag [rail]) s.taken)) :=
  event_request 0x11 tag [rail] h (by simp)

theorem arg_readRail (tag rail : Byte) : (requestFrame 0x11 tag [rail]).arg 0 = rail.toNat := rfl

theorem reqReadRail_badIndex (s : State) (tag : Byte) {rail : Byte} (h : 24 ≤ rail.toNat) :
    reqReadRail (requestFrame 0x11 tag [rail]) s = answer (requestFrame 0x11 tag [rail]) stBadIndex s := by
  unfold reqReadRail; rw [arg_readRail, railOf?_ge h]

/-- The reply is made from the rail as it stands; the latch is re-armed behind it. -/
theorem reqReadRail_accepts (s : State) (tag : Byte) {rail : Byte} (h : rail.toNat < 24) :
    reqReadRail (requestFrame 0x11 tag [rail]) s =
      modDyn ⟨rail.toNat, h⟩ (fun d => { d with heldGood := s.goodNow ⟨rail.toNat, h⟩ })
        (accept (requestFrame 0x11 tag [rail])
          ([rail] ++ encRail (s.rail ⟨rail.toNat, h⟩).static ++ s.railLive ⟨rail.toNat, h⟩) s) := by
  unfold reqReadRail
  rw [arg_readRail, railOf?_lt h]
  simp only [byteOf_toNat]

/-! ### READ_PORT -/

theorem exec_readPort {s : State} (h : s.Ready) (tag port : Byte) :
    exec (.readPort tag port) s = .next (settle 65535 (reqReadPort (requestFrame 0x38 tag [port]) s.taken)) :=
  event_request 0x38 tag [port] h (by simp)

theorem arg_readPort (tag port : Byte) : (requestFrame 0x38 tag [port]).arg 0 = port.toNat := rfl

theorem reqReadPort_badIndex (s : State) (tag : Byte) {port : Byte} (h : port.toNat = 0 ∨ 5 < port.toNat) :
    reqReadPort (requestFrame 0x38 tag [port]) s = answer (requestFrame 0x38 tag [port]) stBadIndex s := by
  unfold reqReadPort; rw [arg_readPort, portOf?_none h]

theorem reqReadPort_accepts (s : State) (tag : Byte) {port : Byte} {p : Port} (h : p.number = port.toNat) :
    reqReadPort (requestFrame 0x38 tag [port]) s = modPort p (fun x => { x with latch := x.link == .up })
      (accept (requestFrame 0x38 tag [port]) (s.portBytes p) s) := by
  unfold reqReadPort; rw [arg_readPort, ← h, portOf?_number]

/-- Settles O6: the reply holds the latch as it stood, and its re-arming is the one change behind the reply. -/
theorem readRailAndReadPortReportThenRearm : Obligations.ReadRailAndReadPortReportThenRearm := by
  refine ⟨fun s tag rail ready => ⟨fun lt => ?_, fun ge => ?_⟩, fun s tag port ready => ⟨fun p number => ?_, fun out => ?_⟩⟩
  · rw [exec_readRail ready, reqReadRail_accepts _ tag lt, accept_taken ready]
    refine congrArg Host.Outcome.next (settle_settled 65535 ?_)
    exact ready.settled
  · rw [exec_readRail ready, reqReadRail_badIndex _ tag ge, settle_answer _ ready]
  · rw [exec_readPort ready, reqReadPort_accepts _ tag number, accept_taken ready]
    refine congrArg Host.Outcome.next (settle_settled 65535 ?_)
    exact ready.settled
  · rw [exec_readPort ready, reqReadPort_badIndex _ tag out, settle_answer _ ready]

end Sys2Proof.Machine
end

section
/-! The event sets: a raised kind, SET_MASK and READ_EVENTS (R165 to R169). -/

namespace Sys2Proof.Machine

/-- Settles O9: `raise` grows the pending set, so it can only bring a notice, never withdraw one. -/
theorem raisedKindSetsPendingAndAttention : Obligations.RaisedKindSetsPendingAndAttention := by
  intro s k running inv
  have notice := raise_up k s running
  rw [raise_requesting k s running inv]
  refine ⟨raise_ev k s running inv, fun h => ?_, fun h => ?_, raise_rest k s⟩
  · rw [notice, if_pos h]
  · rw [notice, if_neg h]

/-! ### SET_MASK (R166) -/

/-- The Event Unit with a new mask. -/
def EventUnit.masked (mask : Word16) (e : EventUnit) : EventUnit := { e with mask := mask }

/-- The mask replaced, with what follows for ATTN and the attention place. -/
def State.maskSet (s : State) (mask : Word16) : State := changeEvents (EventUnit.masked mask) s

theorem at2_bytes2 (m : Word16) : BitVec.ofNat 16 (at2 (bytes2 m.toNat) 0) = m := by
  apply BitVec.eq_of_toNat_eq
  have small := m.isLt
  simp [at2, at1, bytes2, byteOf]
  omega

theorem exec_setMask {s : State} (h : s.Ready) (tag : Byte) (mask : Word16) :
    exec (.setMask tag mask) s = .next ((s.taken.maskSet mask).placed
      (replyEntry (replyFrame (requestFrame 0x09 tag (bytes2 mask.toNat)) stOk []))) := by
  have received : exec (.setMask tag mask) s = .next (settle 65535
      (reqSetMask (requestFrame 0x09 tag (bytes2 mask.toNat)) s.taken)) := event_request 0x09 tag _ h (by simp)
  have acts : reqSetMask (requestFrame 0x09 tag (bytes2 mask.toNat)) s.taken =
      accept (requestFrame 0x09 tag (bytes2 mask.toNat)) [] (s.taken.maskSet mask) := by
    unfold reqSetMask State.maskSet EventUnit.masked
    rw [show (requestFrame 0x09 tag (bytes2 mask.toNat)).payload = bytes2 mask.toNat from rfl, at2_bytes2]
  have settled : (s.taken.maskSet mask).Settled :=
    ⟨(changeEvents_agenda _ _).trans h.settled.1, (changeEvents_takeDue _ _).trans h.settled.2⟩
  rw [received, acts, settle_accept_of _ _ _ ?_ settled]
  exact (changeEvents_up_present _ _).trans h.present

theorem maskSet_ev {s : State} (mask : Word16) (running : s.phase = .running) (inv : s.AttnInv) :
    (s.maskSet mask).ev = { s.ev with mask := mask, attn := (s.ev.pending &&& mask) != 0 } :=
  changeEvents_ev _ s running inv rfl

theorem maskSet_up {s : State} (mask : Word16) (running : s.phase = .running) : (s.maskSet mask).up =
    if s.ev.requesting = 0 ∧ s.ev.pending &&& mask ≠ 0 ∧ s.up.present = true ∧ s.attentionHeld = false then
      { s.up with tx := s.up.tx ++ [attentionNotice (s.ev.pending &&& mask)] }
    else if s.ev.requesting ≠ 0 ∧ s.ev.pending &&& mask = 0 then
      { s.up with tx := s.up.tx.filter (fun e => !e.isAttention) }
    else s.up := changeEvents_up _ s running

/-- A change of the event sets leaves all but the Event Unit and port U as it was. -/
theorem changeEvents_rest (f : EventUnit → EventUnit) (s : State) : { changeEvents f s with ev := s.ev, up := s.up } = s := by
  apply State.ext <;> simp

/-! ### READ_EVENTS (R169) -/

/-- The Event Unit with these kinds collected. -/
def EventUnit.collected (kinds : Word16) (e : EventUnit) : EventUnit := { e with pending := e.pending &&& ~~~kinds }

theorem requesting_collected (e : EventUnit) : (e.collected e.requesting).requesting = 0 := by
  unfold EventUnit.collected EventUnit.requesting
  ext i hi
  simp
  intro pending kept
  exact kept.resolve_left (by simp [pending])

/-- The reply to READ_EVENTS as it is placed, ahead of the collection. -/
def State.eventsReplied (s : State) (tag : Byte) : State :=
  s.replied (requestFrame 0x08 tag []) stOk (bytes2 s.ev.pending.toNat ++ bytes2 s.ev.requesting.toNat)

theorem exec_readEvents {s : State} (h : s.Ready) (tag : Byte) : exec (.readEvents tag) s =
    .next (changeEvents (EventUnit.collected s.ev.requesting) (s.eventsReplied tag)) := by
  have received : exec (.readEvents tag) s = .next (settle 65535
      (reqReadEvents (requestFrame 0x08 tag []) s.taken)) := event_request 0x08 tag [] h (by simp)
  have acts : reqReadEvents (requestFrame 0x08 tag []) s.taken =
      changeEvents (EventUnit.collected s.ev.requesting) (s.eventsReplied tag) := by
    unfold reqReadEvents
    simp only [accept_taken h]; rfl
  have settled : (changeEvents (EventUnit.collected s.ev.requesting) (s.eventsReplied tag)).Settled :=
    ⟨(changeEvents_agenda _ _).trans h.settled.1, (changeEvents_takeDue _ _).trans h.settled.2⟩
  rw [received, acts, settle_settled _ settled]

/-- The collection withdraws a waiting attention notice, and never the reply before it. -/
theorem collected_up {s : State} (h : s.Ready) (tag : Byte) :
    (changeEvents (EventUnit.collected s.ev.requesting) (s.eventsReplied tag)).up =
      if s.ev.requesting ≠ 0 then { s.taken.up with tx := s.up.tx.filter (fun e => !e.isAttention) ++
        [replyEntry (replyFrame (requestFrame 0x08 tag []) stOk
          (bytes2 s.ev.pending.toNat ++ bytes2 s.ev.requesting.toNat))] }
      else (s.eventsReplied tag).up := by
  have none : (EventUnit.collected s.ev.requesting (s.eventsReplied tag).ev).requesting = 0 := requesting_collected s.ev
  rw [changeEvents_up _ (s.eventsReplied tag) h.running, if_neg (fun notice => notice.2.1 none)]
  by_cases requesting : s.ev.requesting = 0
  · rw [if_neg (not_not_intro requesting), if_neg (fun withdrawn => withdrawn.1 requesting)]
  · rw [if_pos requesting, if_pos ⟨requesting, none⟩]
    simp [State.eventsReplied, State.replied, State.answered, State.placed, UpEntry.isAttention, replyEntry]

/-- Settles O10: each request's change of the sets, and its reply behind or before what follows from them. -/
theorem setMaskAndReadEventsActOnTheSets : Obligations.SetMaskAndReadEventsActOnTheSets := by
  rintro s tag mask r q ready inv rfl rfl
  refine ⟨⟨_, exec_setMask ready tag mask, maskSet_ev mask ready.running inv, ?_, ?_, ?_, ?_⟩,
    ⟨_, exec_readEvents ready tag, ?_, ?_, ?_, ?_⟩⟩
  · intro quiet now free
    rw [placed_up, maskSet_up (s := s.taken) mask ready.running, if_pos ⟨quiet, now, ready.present, free⟩]
    simp
  · intro was gone
    rw [placed_up, maskSet_up (s := s.taken) mask ready.running, if_neg (fun notice => was notice.1), if_pos ⟨was, gone⟩]; rfl
  · intro same
    have noNotice : ¬ (s.ev.requesting = 0 ∧ s.ev.pending &&& mask ≠ 0 ∧ s.up.present = true ∧ s.attentionHeld = false) := by
      rintro ⟨quiet, now, -, free⟩
      rcases same with iff | held
      · exact now (iff.mp quiet)
      · rw [held.2] at free; cases free
    have noWithdrawal : ¬ (s.ev.requesting ≠ 0 ∧ s.ev.pending &&& mask = 0) := by
      rintro ⟨was, gone⟩
      rcases same with iff | held
      · exact was (iff.mpr gone)
      · exact was held.1
    have kept : (s.taken.maskSet mask).up = s.taken.up :=
      (maskSet_up (s := s.taken) mask ready.running).trans ((if_neg noNotice).trans (if_neg noWithdrawal))
    rw [placed_up, kept]; rfl
  · exact congrArg (fun t : State => { t with mode := s.mode, up := s.up }) (changeEvents_rest (EventUnit.masked mask) s.taken)
  · rw [changeEvents_ev _ (s.eventsReplied tag) ready.running inv rfl,
      show (EventUnit.collected s.ev.requesting (s.eventsReplied tag).ev).requesting = 0 from requesting_collected s.ev]
    rfl
  · intro requesting
    rw [collected_up ready tag, if_pos requesting]
  · intro quiet
    rw [collected_up ready tag, if_neg (not_not_intro quiet)]; rfl
  · exact congrArg (fun t : State => { t with mode := s.mode, up := s.up })
      (changeEvents_rest (EventUnit.collected s.ev.requesting) (s.eventsReplied tag))

end Sys2Proof.Machine
end

section
/-! The loads of the channels, the Admission Table, the headers, the templates, the plan and the port settings: their checks
in order and what they replace (R39, R73, R74, R91, R145, R178). -/

namespace Sys2Proof.Machine

/-! ### What the taking of a frame leaves as it is -/

@[simp] theorem saving_taken (s : State) : s.taken.saving = s.saving := rfl
@[simp] theorem isBusyProg_taken (s : State) (n : ProgNo) : s.taken.isBusyProg n = s.isBusyProg n := rfl
@[simp] theorem inRange_taken (s : State) (n : ProgNo) (i : Nat) : s.taken.inRange n i = s.inRange n i := rfl
@[simp] theorem zeroHas_taken (s : State) (p : StepKind → Bool) : s.taken.zeroHas p = s.zeroHas p := rfl
@[simp] theorem keyTaken_taken (s : State) (i : Fin 64) (e : AdmitEntry) : s.taken.keyTaken i e = s.keyTaken i e := rfl
@[simp] theorem roleConflict_taken (s : State) (n : ProgNo) (h : Header) :
    s.taken.roleConflict n h = s.roleConflict n h := rfl
@[simp] theorem bulkBound_taken (s : State) (p : Plan) : s.taken.bulkBound p = s.bulkBound p := rfl
@[simp] theorem planRoleConflict_taken (s : State) (p : Plan) : s.taken.planRoleConflict p = s.planRoleConflict p := rfl
@[simp] theorem windowMatters_taken (s : State) (x : PortSettings) : s.taken.windowMatters x = s.windowMatters x := rfl
@[simp] theorem budgetOk_putHeader_taken (s : State) (n : ProgNo) (h : Header) :
    (putHeader n h s.taken).budgetOk = (putHeader n h s).budgetOk := rfl
@[simp] theorem budgetOk_putTemplate_taken (s : State) (n : Fin 16) (x : Template) :
    (putTemplate n x s.taken).budgetOk = (putTemplate n x s).budgetOk := rfl
@[simp] theorem budgetOk_settings_taken (s : State) (x : PortSettings) :
    (applyPortSettings x s.taken).budgetOk = (applyPortSettings x s).budgetOk := rfl

/-- The budget of a new plan is its own reserve (R71). -/
@[simp] theorem budgetOk_putPlan (s : State) (p : Plan) : (putPlan p s).budgetOk = decide (s.worstCase 0 ≤ p.reserveMs) := rfl

@[simp] theorem payload_request (cls tag : Byte) (payload : List Byte) : (requestFrame cls tag payload).payload = payload :=
  rfl

/-! ### LOAD_CHANNEL -/

theorem channelOf?_lt {n : Nat} (h : n < 8) : channelOf? n = some ⟨n, h⟩ := dif_pos h

theorem channelOf?_ge {n : Nat} (h : 8 ≤ n) : channelOf? n = none := dif_neg (Nat.not_lt.mpr h)

/-- A 16-bit number is read back from its two bytes (R180). -/
theorem two_bytes (n : Word16) : 256 * (byteOf (n.toNat / 256)).toNat + (byteOf n.toNat).toNat = n.toNat := by
  have small := n.isLt
  simp [byteOf]
  omega

/-- The frame of a LOAD_CHANNEL. -/
def channelFrame (tag channel : Byte) (low high : Word16) (debounce : Byte) : Frame :=
  requestFrame 0x13 tag ([channel] ++ bytes2 low.toNat ++ bytes2 high.toNat ++ [debounce])

theorem exec_loadChannel {s : State} (h : s.Ready) (tag channel : Byte) (low high : Word16) (debounce : Byte) :
    exec (.loadChannel tag channel low high debounce) s =
      .next (settle 65535 (reqLoadChannel (channelFrame tag channel low high debounce) s.taken)) :=
  event_request 0x13 tag _ h (by simp [bytes2])

theorem args_loadChannel (tag channel : Byte) (low high : Word16) (debounce : Byte) :
    (channelFrame tag channel low high debounce).arg 0 = channel.toNat ∧
    at2 (channelFrame tag channel low high debounce).payload 1 = low.toNat ∧
    at2 (channelFrame tag channel low high debounce).payload 3 = high.toNat ∧
    (channelFrame tag channel low high debounce).arg 5 = debounce.toNat :=
  ⟨rfl, two_bytes low, two_bytes high, rfl⟩

theorem reqLoadChannel_badIndex (s : State) {tag channel : Byte} {low high : Word16} {debounce : Byte}
    (h : 8 ≤ channel.toNat) : reqLoadChannel (channelFrame tag channel low high debounce) s =
      answer (channelFrame tag channel low high debounce) stBadIndex s := by
  unfold reqLoadChannel
  rw [(args_loadChannel ..).1, channelOf?_ge h]

/-- The thresholds replaced, with the marks' counts where the channel is the bulk channel (R38, R39). -/
def State.channelLoaded (s : State) (c : ChannelId) (low high debounce : Nat) : State :=
  zeroMarks c (setChan c ((s.chan c).reload low high debounce) s)

theorem reqLoadChannel_eq (s : State) {tag channel : Byte} {low high : Word16} {debounce : Byte}
    (h : channel.toNat < 8) : reqLoadChannel (channelFrame tag channel low high debounce) s =
      checked [(s.saving, stBusy), (!thresholdsFit low.toNat high.toNat debounce.toNat, stBadRequest)]
        (channelFrame tag channel low high debounce)
        (fun s => accept (channelFrame tag channel low high debounce) []
          (s.channelLoaded ⟨channel.toNat, h⟩ low.toNat high.toNat debounce.toNat)) s := by
  obtain ⟨index, lowAt, highAt, debounceAt⟩ := args_loadChannel tag channel low high debounce
  unfold reqLoadChannel
  rw [index, channelOf?_lt h]
  simp only [lowAt, highAt, debounceAt, State.channelLoaded]

/-- A load keeps the channel's role, so the role found decides about the marks. -/
theorem channelLoaded_eq (s : State) (c : ChannelId) (low high debounce : Nat) :
    s.channelLoaded c low high debounce = { s with
      chans := s.chans.set c ((s.chan c).reload low high debounce)
      marks := if (s.chan c).role = .bulk then s.marks.map (fun m => { m with count := 0 }) else s.marks } := by
  have role : ((setChan c ((s.chan c).reload low high debounce) s).chan c).role = (s.chan c).role := by
    rw [chan_setChan_self]; rfl
  unfold State.channelLoaded zeroMarks
  rw [role]
  split <;> rfl

/-- Settles O12: the checks of R39 in order, and the load behind them. -/
theorem loadChannelChecksAndReplaces : Obligations.LoadChannelChecksAndReplaces := by
  rintro s tag channel low high debounce _ ready rfl
  rw [exec_loadChannel ready]
  refine ⟨fun out => ?_, fun lt => ?_⟩
  · rw [reqLoadChannel_badIndex _ out, settle_answer _ ready]; rfl
  · rw [reqLoadChannel_eq _ lt, saving_taken]
    refine ⟨fun saving => ?_, fun idle unfit => ?_, fun idle fit => ?_⟩
    · rw [checked_fails _ _ _ _ _ _ saving, settle_answer _ ready]; rfl
    · rw [checked_passes _ _ _ _ _ _ idle, checked_fails _ _ _ _ _ _ (by rw [unfit]; rfl), settle_answer _ ready]; rfl
    · rw [checked_passes _ _ _ _ _ _ idle, checked_passes _ _ _ _ _ _ (by rw [fit]; rfl), checked_nil, channelLoaded_eq]
      exact congrArg _ (settle_accept_of _ _ _ (u := { s.taken with chans := _, marks := _ }) ready.present ready.settled)

/-! ### LOAD_ADMIT -/

theorem exec_loadAdmit {s : State} (h : s.Ready) (tag : Byte) {payload : List Byte} (length : payload.length = 13) :
    exec (.loadAdmit tag payload) s = .next (settle 65535 (reqLoadAdmit (requestFrame 0x18 tag payload) s.taken)) := by
  have received : exec (.loadAdmit tag payload) s =
      .next (settle 65535 (sized 13 reqLoadAdmit (requestFrame 0x18 tag payload) s.taken)) :=
    event_request 0x18 tag payload h (by omega)
  rw [received, sized_fits _ length]

theorem arg_loadAdmit (tag : Byte) (payload : List Byte) : (requestFrame 0x18 tag payload).arg 0 = at1 payload 0 := rfl

/-- The last check of an entry that is decoded, and its writing behind it (R145). -/
theorem reqLoadAdmit_eq (s : State) (tag : Byte) {payload : List Byte} {e : Option AdmitEntry} (h : at1 payload 0 < 64)
    (idle : s.saving = false) (good : decAdmit payload 1 = some e) : reqLoadAdmit (requestFrame 0x18 tag payload) s =
      checked [(e.any (s.keyTaken ⟨at1 payload 0, h⟩), stBadRequest)] (requestFrame 0x18 tag payload)
        (fun s => accept (requestFrame 0x18 tag payload) []
          { s with fwd := { s.fwd with admission := s.fwd.admission.set (at1 payload 0) e } }) s := by
  unfold reqLoadAdmit
  rw [arg_loadAdmit, admitOf?_lt h]
  dsimp only
  rw [checked_passes _ _ _ _ _ _ idle, checked_nil, payload_request, good]
  cases e <;> rfl

/-- Settles O13: the checks of R145 in order, and the entry behind them. -/
theorem loadAdmitChecksAndReplaces : Obligations.LoadAdmitChecksAndReplaces := by
  intro s tag payload ready length
  rw [exec_loadAdmit ready tag length]
  refine ⟨fun out => ?_, fun lt => ⟨fun saving => ?_, fun idle bad => ?_, fun e idle good taken => ?_,
    fun e idle good free => ?_⟩⟩
  · simp only [reqLoadAdmit, arg_loadAdmit, admitOf?_ge out, settle_answer _ ready]
  · simp only [reqLoadAdmit, arg_loadAdmit, admitOf?_lt lt, saving_taken, checked_fails, saving, settle_answer _ ready]
  · simp only [reqLoadAdmit, arg_loadAdmit, admitOf?_lt lt, saving_taken, checked_passes, idle, checked_nil, payload_request, bad,
      settle_answer _ ready]
  · rw [reqLoadAdmit_eq s.taken tag lt idle good, checked_fails _ _ _ _ _ _ (show (some e).any (s.taken.keyTaken _) = true from taken),
      settle_answer _ ready]
  · have passes : e.any (s.taken.keyTaken ⟨at1 payload 0, lt⟩) = false := by
      cases e with
      | none => rfl
      | some x => exact free x rfl
    rw [reqLoadAdmit_eq s.taken tag lt idle good, checked_passes _ _ _ _ _ _ passes, checked_nil]
    exact congrArg _ (settle_accept_of _ _ _ (u := { s.taken with fwd := _ }) ready.present ready.settled)

/-! ### LOAD_PROGRAM -/

theorem exec_loadProgram {s : State} (h : s.Ready) (tag program first count priority : Byte) :
    exec (.loadProgram tag program first count priority) s =
      .next (settle 65535 (reqLoadProgram (requestFrame 0x22 tag [program, first, count, priority]) s.taken)) :=
  event_request 0x22 tag _ h (by simp)

/-- The header that a LOAD_PROGRAM frame carries. -/
def loadedHeader (first count priority : Byte) : Header :=
  { first := first.toNat, count := count.toNat, priority := priority.toNat }

/-- The checks that follow the program number, and the header written behind them. -/
theorem reqLoadProgram_eq (s : State) (tag : Byte) {program first count priority : Byte} {n : ProgNo} {f : Frame} {x : Header}
    (h : n.val = program.toNat) (hf : f = requestFrame 0x22 tag [program, first, count, priority])
    (hx : x = { first := first.toNat, count := count.toNat, priority := priority.toNat }) : reqLoadProgram f s =
      checked [(s.rtu.stage == .commit, stCommitted), (s.saving, stBusy), (!headerFits n.val x, stBadRequest),
        (s.isBusyProg n, stInUse), (s.roleConflict n x, stRole), (n == 0 && !(putHeader n x s).budgetOk, stBudget)] f
        (fun s => accept f [] (putHeader n x s)) s := by
  subst hf hx
  unfold reqLoadProgram
  rw [show (requestFrame 0x22 tag [program, first, count, priority]).arg 0 = program.toNat from rfl, ← h, progOf?_lt n.isLt]
  rfl

/-- Settles O15: the checks of R73 in order, and the header behind them. -/
theorem loadProgramChecksAndReplaces : Obligations.LoadProgramChecksAndReplaces := by
  intro s tag program first count priority f x ready hf hx
  refine ⟨fun out => ?_, fun n number => ?_⟩
  · rw [exec_loadProgram ready, ← hf]
    unfold reqLoadProgram
    rw [show f.arg 0 = program.toNat by rw [hf]; rfl, progOf?_ge out]
    exact congrArg _ (settle_answer _ ready _ _)
  · have request := reqLoadProgram_eq s.taken tag number hf hx
    rw [exec_loadProgram ready, ← hf, request]
    refine ⟨fun commit => ?_, fun stage saving => ?_, fun stage idle => ⟨fun unfit => ?_, fun fit busy => ?_,
      fun fit free conflict => ?_, fun fit free role zero exceeds => ?_, fun fit free role within => ?_⟩⟩
    · simp [checked_fails, commit, settle_answer _ ready]
    · simp [checked_fails, checked_passes, stage, saving, settle_answer _ ready]
    · simp [checked_fails, checked_passes, stage, idle, unfit, settle_answer _ ready]
    · simp [checked_fails, checked_passes, stage, idle, fit, busy, settle_answer _ ready]
    · simp [checked_fails, checked_passes, stage, idle, fit, free, conflict, settle_answer _ ready]
    · have budget : (n == 0 && !(putHeader n x s).budgetOk) = true := by simp [zero] at exceeds ⊢; exact exceeds
      simp only [checked_passes, checked_fails, taken_rtu, beq_eq_false_iff_ne, stage, ne_eq, not_false_eq_true,
        saving_taken, idle, fit, Bool.not_true, isBusyProg_taken, free, roleConflict_taken, role,
        budgetOk_putHeader_taken, budget, settle_answer _ ready]
    · have budget : (n == 0 && !(putHeader n x s).budgetOk) = false := by
        rcases within with other | ok
        · simp [other]
        · simp [ok]
      simp only [checked_passes, taken_rtu, beq_eq_false_iff_ne, stage, ne_eq, not_false_eq_true, saving_taken, idle, fit,
        Bool.not_true, isBusyProg_taken, free, roleConflict_taken, role, budgetOk_putHeader_taken, budget, checked_nil]
      rw [settle_accept_of _ _ _ (u := putHeader n x s.taken) ready.present ready.settled]
      rfl

/-! ### LOAD_PLAN -/

theorem exec_loadPlan {s : State} (h : s.Ready) (tag : Byte) {payload : List Byte} (length : payload.length = 34) :
    exec (.loadPlan tag payload) s = .next (settle 65535 (reqLoadPlan (requestFrame 0x30 tag payload) s.taken)) := by
  have received : exec (.loadPlan tag payload) s =
      .next (settle 65535 (sized 34 reqLoadPlan (requestFrame 0x30 tag payload) s.taken)) :=
    event_request 0x30 tag payload h (by omega)
  rw [received, sized_fits _ length]

/-- The plan replaced, the roles and the marks with it (R38, R92). -/
def State.planLoaded (s : State) (p : Plan) : State := rebuildMarks (refreshRoles (putPlan p s))

theorem planLoaded_eq (s : State) (p : Plan) : s.planLoaded p = { s with
    rtu := { s.rtu with plan := p }
    marks := p.marks
    chans := Vector.ofFn (fun c => (s.chan c).withRole ((putPlan p s).roleOf c)) } := by
  unfold State.planLoaded refreshRoles
  dsimp only
  split <;> rfl

/-- The checks on a plan that is decoded, and the load behind them (R91). -/
theorem reqLoadPlan_eq (s : State) (tag : Byte) {payload : List Byte} {p : Plan} (h : decPlan payload = some p)
    (stage : s.rtu.stage ≠ .commit) (idle : s.saving = false) (episode : s.rtu.stage.inEpisode = false) :
    reqLoadPlan (requestFrame 0x30 tag payload) s =
      checked [(s.bulkBound p, stBadRequest), (s.planRoleConflict p, stRole),
        (p.reserveMs != s.rtu.plan.reserveMs && !(putPlan p s).budgetOk, stBudget)] (requestFrame 0x30 tag payload)
        (fun s => accept (requestFrame 0x30 tag payload) [] (s.planLoaded p)) s := by
  unfold reqLoadPlan
  rw [checked_passes _ _ _ _ _ _ (by simp [stage]), checked_passes _ _ _ _ _ _ idle, checked_passes _ _ _ _ _ _ episode,
    checked_nil, payload_request, h]
  rfl

/-- Settles O17: the checks of R91 in order, and the plan behind them. -/
theorem loadPlanChecksAndReplaces : Obligations.LoadPlanChecksAndReplaces := by
  rintro s tag payload _ ready length rfl
  rw [exec_loadPlan ready tag length]
  refine ⟨fun commit => ?_, fun stage saving => ?_, fun stage idle episode => ?_, fun stage idle episode =>
    ⟨fun bad => ?_, fun p good => ?_⟩⟩
  · simp [reqLoadPlan, checked_fails, commit, settle_answer _ ready]
  · simp [reqLoadPlan, checked_fails, checked_passes, stage, saving, settle_answer _ ready]
  · simp [reqLoadPlan, checked_fails, checked_passes, stage, idle, episode, settle_answer _ ready]
  · simp [reqLoadPlan, checked_passes, stage, idle, episode, payload_request, bad, settle_answer _ ready]
  · rw [reqLoadPlan_eq s.taken tag good stage idle episode]
    refine ⟨fun bound => ?_, fun free conflict => ?_, fun free role differs exceeds => ?_, fun free role within => ?_⟩
    · simp [checked_fails, bound, settle_answer _ ready]
    · simp [checked_fails, checked_passes, free, conflict, settle_answer _ ready]
    · have budget : (p.reserveMs != s.taken.rtu.plan.reserveMs && !(putPlan p s.taken).budgetOk) = true := by
        simp [differs, Nat.not_le.mpr exceeds]
      simp only [checked_fails, checked_passes, bulkBound_taken, free, planRoleConflict_taken, role, budget,
        settle_answer _ ready]
    · have budget : (p.reserveMs != s.taken.rtu.plan.reserveMs && !(putPlan p s.taken).budgetOk) = false := by
        rcases within with same | fits
        · simp [same]
        · simp [show s.taken.worstCase 0 = s.worstCase 0 from rfl, fits]
      simp only [checked_passes, bulkBound_taken, free, planRoleConflict_taken, role, budget, checked_nil, planLoaded_eq]
      exact congrArg _ (settle_accept_of _ _ _ (u := { s.taken with rtu := _, marks := _, chans := _ }) ready.present
        ready.settled)

/-! ### LOAD_PORT_SETTINGS -/

theorem exec_loadPortSettings {s : State} (h : s.Ready) (tag : Byte) {payload : List Byte} (length : payload.length = 14) :
    exec (.loadPortSettings tag payload) s =
      .next (settle 65535 (reqLoadPortSettings (requestFrame 0x3A tag payload) s.taken)) := by
  have received : exec (.loadPortSettings tag payload) s =
      .next (settle 65535 (sized 14 reqLoadPortSettings (requestFrame 0x3A tag payload) s.taken)) :=
    event_request 0x3A tag payload h (by omega)
  rw [received, sized_fits _ length]

/-- The settings that a payload carries stand at their places in it (R182). -/
theorem decPortSettings_some {b : List Byte} {x : PortSettings} (h : decPortSettings b = some x) :
    x = { windows := (List.range 5).map (at1 b), fairs := (List.range 5).map (fun i => at1 b (5 + i)),
          orderHoldMs := at2 b 10, defaultMask := BitVec.ofNat 16 (at2 b 12) } := by
  unfold decPortSettings at h
  dsimp only at h
  split at h
  · exact (Option.some.inj h).symm
  · cases h

theorem port_applyPortSettings (x : PortSettings) (s : State) (p : Port) : (applyPortSettings x s).port p =
    { s.port p with windowMs := x.windows.getD p.idx.val 20, fair := x.fairs.getD p.idx.val 4 } := by
  unfold applyPortSettings State.port
  rw [get_ofFn]

theorem getD_rangeMap (f : Nat → Nat) (d : Nat) (i : Fin 5) : ((List.range 5).map f).getD i.val d = f i.val := by
  simp [List.getD]

/-- Settles O18: the checks of R178 in order, and every setting behind them. -/
theorem loadPortSettingsChecksAndReplaces : Obligations.LoadPortSettingsChecksAndReplaces := by
  rintro s tag payload _ ready length rfl
  rw [exec_loadPortSettings ready tag length]
  refine ⟨fun saving => ?_, fun idle bad => ?_, fun x idle good => ⟨fun matters exceeds => ?_, fun within => ?_⟩⟩
  · simp [reqLoadPortSettings, checked_fails, saving, settle_answer _ ready]
  · simp [reqLoadPortSettings, checked_passes, idle, payload_request, bad, settle_answer _ ready]
  · simp [reqLoadPortSettings, checked_passes, checked_fails, idle, payload_request, good, matters, exceeds, settle_answer _ ready]
  · have budget : (s.windowMatters x && !(applyPortSettings x s).budgetOk) = false := by
      rcases within with no | ok
      · simp [no]
      · simp [ok]
    have acts : settle 65535 (reqLoadPortSettings (requestFrame 0x3A tag payload) s.taken) =
        (applyPortSettings x s.taken).placed (replyEntry (replyFrame (requestFrame 0x3A tag payload) stOk [])) := by
      simp only [reqLoadPortSettings, checked_passes, saving_taken, idle, payload_request, good, windowMatters_taken,
        budgetOk_settings_taken, budget, checked_nil]
      exact settle_accept_of _ _ _ (u := applyPortSettings x s.taken) ready.present ready.settled
    rw [acts]
    refine ⟨_, rfl, fun p => ?_, ?_, ?_, rfl⟩
    · rw [port_placed, port_applyPortSettings, decPortSettings_some good]
      simp only [getD_rangeMap, port_taken]
    · rw [decPortSettings_some good]; rfl
    · rw [decPortSettings_some good]; rfl

end Sys2Proof.Machine
end

section
/-! LOAD_STEPS and LOAD_TEMPLATE: their checks in order and what they write (R72, R74). -/

namespace Sys2Proof.Machine

/-! ### Lists of decoded records -/

/-- A list of records decodes to its items where each of them decodes. -/
theorem allSome_eq_some {α : Type} {l : List (Option α)} {m : List α} (h : l = m.map some) : allSome l = some m := by
  subst h
  induction m with
  | nil => rfl
  | cons x m ih => simp [allSome, ih]

/-- A list with a record that does not decode does not decode. -/
theorem allSome_eq_none {α : Type} {l : List (Option α)} (h : none ∈ l) : allSome l = none := by
  induction l with
  | nil => cases h
  | cons x l ih =>
    cases x with
    | none => rfl
    | some x => simp [allSome, ih (by simpa using h)]

/-! ### The pool after a write (R72) -/

/-- A pool record after a list has been written from an index on. -/
theorem foldl_setIfInBounds (l : List Step) (start : Nat) (v : Vector Step 256) (fits : start + l.length ≤ 256) (i : Nat) :
    ((l.zipIdx start).foldl (fun v x => v.setIfInBounds x.2 x.1) v).toList[i]? =
      if start ≤ i ∧ i < start + l.length then l[i - start]? else v.toList[i]? := by
  induction l generalizing start v with
  | nil => simp only [List.zipIdx_nil, List.foldl_nil, List.length_nil]; rw [if_neg (by omega)]
  | cons x l ih =>
    rw [List.length_cons] at fits
    rw [List.zipIdx_cons, List.foldl_cons, ih (start + 1) _ (by omega)]
    have written : (v.setIfInBounds start x).toList[i]? = if i = start then some x else v.toList[i]? := by
      rw [Vector.toList_setIfInBounds, List.getElem?_set]
      by_cases here : start = i
      · subst here; simp; omega
      · rw [if_neg here, if_neg (fun h => here h.symm)]
    rw [written]
    rcases Nat.lt_trichotomy i start with before | here | behind
    · rw [if_neg (by omega), if_neg (by omega), if_neg (by omega)]
    · subst here
      rw [if_neg (by omega), if_pos rfl, if_pos (by simp)]; simp
    · obtain ⟨k, rfl⟩ : ∃ k, i = start + 1 + k := ⟨i - (start + 1), by omega⟩
      by_cases inside : k < l.length
      · rw [if_pos (by omega), if_pos (by rw [List.length_cons]; omega), show start + 1 + k - start = k + 1 by omega,
          List.getElem?_cons_succ, show start + 1 + k - (start + 1) = k by omega]
      · rw [if_neg (by omega), if_neg (by omega), if_neg (by rw [List.length_cons]; omega)]

theorem steps_writeSteps (s : State) {start : Nat} {l : List Step} (fits : start + l.length ≤ 256) (i : Nat) :
    (writeSteps start l s).seq.steps.toList[i]? =
      if start ≤ i ∧ i < start + l.length then l[i - start]? else s.seq.steps.toList[i]? :=
  foldl_setIfInBounds l start s.seq.steps fits i

@[simp] theorem budgetOk_writeSteps_taken (s : State) (start : Nat) (l : List Step) :
    (writeSteps start l s.taken).budgetOk = (writeSteps start l s).budgetOk := rfl

/-! ### LOAD_STEPS -/

theorem exec_loadSteps {s : State} (h : s.Ready) (tag : Byte) {payload : List Byte} (fits : payload.length ≤ 60)
    (length : payload.length = 2 + 8 * at1 payload 1) :
    exec (.loadSteps tag payload) s = .next (settle 65535 (reqLoadSteps (requestFrame 0x20 tag payload) s.taken)) := by
  have received : exec (.loadSteps tag payload) s = .next (settle 65535
      (sizedBy 2 (2 + 8 * at1 payload 1) reqLoadSteps (requestFrame 0x20 tag payload) s.taken)) :=
    event_request 0x20 tag payload h fits
  have least : 2 ≤ payload.length := by omega
  rw [received, sizedBy_fits _ least length]

theorem args_loadSteps (tag : Byte) (payload : List Byte) : (requestFrame 0x20 tag payload).arg 0 = at1 payload 0 ∧
    (requestFrame 0x20 tag payload).arg 1 = at1 payload 1 := ⟨rfl, rfl⟩

/-- A written index in a program's range. -/
theorem any_written (s : State) (n : ProgNo) (start count : Nat) :
    ((List.range count).map (fun k => start + k)).any (s.inRange n) = true ↔
      ∃ k, k < count ∧ s.inRange n (start + k) = true := by
  simp

/-- A program that runs or is queued and has a written index in its range (R72). -/
theorem any_busy (s : State) (start count : Nat) :
    (List.finRange 12).any (fun n => s.isBusyProg n &&
        ((List.range count).map (fun k => start + k)).any (s.inRange n)) = true ↔
      ∃ n k, k < count ∧ s.inRange n (start + k) = true ∧ s.isBusyProg n = true := by
  simp
  constructor
  · rintro ⟨n, busy, k, lt, inside⟩; exact ⟨n, k, lt, inside, busy⟩
  · rintro ⟨n, k, lt, inside, busy⟩; exact ⟨n, busy, k, lt, inside⟩

/-- A RAIL_ON record that would stand in program 0's range (R72). -/
theorem any_railOn (s : State) (start : Nat) (l : List Step) :
    (l.zipIdx start).any (fun x => x.1.kind.isRailOn && s.inRange 0 x.2) = true ↔
      ∃ k x, l[k]? = some x ∧ x.kind.isRailOn = true ∧ s.inRange 0 (start + k) = true := by
  simp only [List.any_eq_true, Bool.and_eq_true, Prod.exists, List.mk_mem_zipIdx_iff_le_and_getElem?_sub]
  constructor
  · rintro ⟨x, i, ⟨le, here⟩, on, inside⟩
    exact ⟨i - start, x, here, on, by rwa [Nat.add_sub_cancel' le]⟩
  · rintro ⟨k, x, here, on, inside⟩
    exact ⟨x, start + k, ⟨Nat.le_add_right _ _, by rwa [Nat.add_sub_cancel_left]⟩, on, inside⟩

/-- The checks on records that are decoded, and their writing behind them (R72). -/
theorem reqLoadSteps_eq (s : State) {tag : Byte} {payload : List Byte} {f : Frame} {l : List Step} {start count : Nat}
    (hf : f = requestFrame 0x20 tag payload) (hs : start = at1 payload 0) (hc : count = at1 payload 1) (inPool : start + count ≤ 256)
    (stage : s.rtu.stage ≠ .commit) (idle : s.saving = false) (least : 1 ≤ count) (most : count ≤ 6)
    (length : l.length = count) (decoded : ∀ k, k < count → decStep payload (2 + 8 * k) = l[k]?) :
    reqLoadSteps f s = checked [
      ((List.finRange 12).any (fun n => s.isBusyProg n &&
        ((List.range count).map (fun k => start + k)).any (s.inRange n)), stInUse),
      ((l.zipIdx start).any (fun x => x.1.kind.isRailOn && s.inRange 0 x.2), stRole),
      (((List.range count).map (fun k => start + k)).any (s.inRange 0) && !(writeSteps start l s).budgetOk, stBudget)] f
      (fun s => accept f [] (writeSteps start l s)) s := by
  subst hf
  have items : allSome ((List.range count).map (fun k => decStep payload (2 + 8 * k))) = some l := by
    apply allSome_eq_some
    apply List.ext_getElem?
    intro k
    by_cases lt : k < count
    · simp [lt, decoded k lt, length]
    · simp [lt, length]
  have number : (count == 0 || decide (6 < count)) = false := by simp; omega
  obtain ⟨first, second⟩ := args_loadSteps tag payload
  unfold reqLoadSteps
  simp only [first, second, ← hs, ← hc]
  rw [checked_passes _ _ _ _ _ _ (decide_eq_false (Nat.not_lt.mpr inPool)), checked_passes _ _ _ _ _ _ (by simp [stage]),
    checked_passes _ _ _ _ _ _ idle, checked_passes _ _ _ _ _ _ number, checked_nil, payload_request, items]

/-- Settles O14: the checks of R72 in order, and the records written behind them. -/
theorem loadStepsChecksAndWritesThePool : Obligations.LoadStepsChecksAndWritesThePool := by
  intro s tag payload f start count ready fits length hs hc hf
  have first : f.arg 0 = start := by rw [hf, hs]; rfl
  have second : f.arg 1 = count := by rw [hf, hc]; rfl
  have payloadOf : f.payload = payload := by rw [hf]; rfl
  rw [exec_loadSteps ready tag fits (hc ▸ length), ← hf]
  refine ⟨fun past => ?_, fun inPool commit => ?_, fun inPool stage => ⟨fun saving => ?_, fun idle => ⟨fun bad => ?_,
    fun k lt bad => ?_, fun l least most long decoded => ?_⟩⟩⟩
  · simp [reqLoadSteps, first, second, checked_fails, past, settle_answer _ ready]
  · simp [reqLoadSteps, first, second, checked_passes, checked_fails, inPool, commit, settle_answer _ ready]
  · simp [reqLoadSteps, first, second, checked_passes, checked_fails, inPool, stage, saving, settle_answer _ ready]
  · simp [reqLoadSteps, first, second, checked_passes, checked_fails, inPool, stage, idle, bad, settle_answer _ ready]
  · have undecoded : allSome ((List.range count).map (fun k => decStep payload (2 + 8 * k))) = none :=
      allSome_eq_none (List.mem_map.mpr ⟨k, List.mem_range.mpr lt, bad⟩)
    by_cases number : count = 0 ∨ 6 < count
    · simp [reqLoadSteps, first, second, checked_passes, checked_fails, inPool, stage, idle, number, settle_answer _ ready]
    · obtain ⟨some, few⟩ := not_or.mp number
      simp [reqLoadSteps, first, second, checked_passes, inPool, stage, idle, some, Nat.not_lt.mp few, payloadOf,
        undecoded, settle_answer _ ready]
  · rw [reqLoadSteps_eq s.taken hf hs hc inPool stage idle least most long decoded]
    refine ⟨fun n k lt inside busy => ?_, fun free => ?_⟩
    · rw [checked_fails _ _ _ _ _ _ ((any_busy s.taken start count).mpr ⟨n, k, lt, inside, busy⟩), settle_answer _ ready]
    have unused := Bool.eq_false_iff.mpr (fun used => by
      obtain ⟨n, k, lt, inside, busy⟩ := (any_busy s.taken start count).mp used
      exact Bool.false_ne_true ((free n k lt inside).symm.trans busy))
    rw [checked_passes _ _ _ _ _ _ unused]
    refine ⟨fun k x here on inside => ?_, fun role => ?_⟩
    · rw [checked_fails _ _ _ _ _ _ ((any_railOn s.taken start l).mpr ⟨k, x, here, on, inside⟩), settle_answer _ ready]
    have noRailOn := Bool.eq_false_iff.mpr (fun conflict => by
      obtain ⟨k, x, here, on, inside⟩ := (any_railOn s.taken start l).mp conflict
      exact Bool.false_ne_true ((role k x here on).symm.trans inside))
    rw [checked_passes _ _ _ _ _ _ noRailOn]
    refine ⟨fun k lt inside exceeds => ?_, fun within => ?_⟩
    · have touched := (any_written s.taken 0 start count).mpr ⟨k, lt, inside⟩
      rw [checked_fails _ _ _ _ _ _ (by rw [touched, budgetOk_writeSteps_taken, exceeds]; rfl), settle_answer _ ready]
    · have budget : (((List.range count).map (fun k => start + k)).any (s.taken.inRange 0) &&
          !(writeSteps start l s.taken).budgetOk) = false := by
        rcases within with outside | ok
        · have untouched := Bool.eq_false_iff.mpr (fun touched => by
            obtain ⟨k, lt, inside⟩ := (any_written s.taken 0 start count).mp touched
            exact Bool.false_ne_true ((outside k lt).symm.trans inside))
          rw [untouched]; rfl
        · rw [budgetOk_writeSteps_taken, ok]; simp
      rw [checked_passes _ _ _ _ _ _ budget, checked_nil,
        settle_accept_of _ _ _ (u := writeSteps start l s.taken) ready.present ready.settled]
      have pool := steps_writeSteps s.taken (start := start) (l := l) (by omega)
      refine ⟨_, rfl, fun k lt => ?_, fun i out => ?_, rfl⟩
      · rw [placed_seq, pool, if_pos (by omega), Nat.add_sub_cancel_left]
      · rw [placed_seq, pool, if_neg (by omega)]; rfl

/-! ### LOAD_TEMPLATE -/

theorem templateOf?_lt {n : Nat} (h : n < 16) : templateOf? n = some ⟨n, h⟩ := dif_pos h

theorem templateOf?_ge {n : Nat} (h : 16 ≤ n) : templateOf? n = none := dif_neg (Nat.not_lt.mpr h)

theorem exec_loadTemplate {s : State} (h : s.Ready) (tag : Byte) {payload : List Byte} (fits : payload.length ≤ 60)
    (least : 6 ≤ payload.length) (length : payload.length = 6 + at1 payload 5) :
    exec (.loadTemplate tag payload) s = .next (settle 65535 (reqLoadTemplate (requestFrame 0x23 tag payload) s.taken)) := by
  have received : exec (.loadTemplate tag payload) s = .next (settle 65535
      (sizedBy 6 (6 + at1 payload 5) reqLoadTemplate (requestFrame 0x23 tag payload) s.taken)) :=
    event_request 0x23 tag payload h fits
  rw [received, sizedBy_fits _ least length]

/-- A program that runs or is queued names the template in its range (R74). -/
theorem any_names (s : State) (n : Fin 16) :
    (List.finRange 12).any (fun p => s.isBusyProg p &&
        (s.rangeOf p).any (fun i => (s.stepAt i).kind.namesTemplate n)) = true ↔
      ∃ p i, s.isBusyProg p = true ∧ i ∈ s.rangeOf p ∧ (s.stepAt i).kind.namesTemplate n = true := by
  simp

/-- Program 0 sends the template (R74). -/
theorem zeroHas_send (s : State) (n : Fin 16) : s.zeroHas (fun k => k == .send n) = true ↔
    ∃ i, i ∈ s.rangeOf 0 ∧ (s.stepAt i).kind = .send n := by
  simp [State.zeroHas]

/-- The checks on a template that is decoded, and its writing behind them (R74). -/
theorem reqLoadTemplate_eq (s : State) {tag : Byte} {payload : List Byte} {f : Frame} {n : Fin 16} {x : Template}
    (hf : f = requestFrame 0x23 tag payload) (hn : n.val = at1 payload 0) (stage : s.rtu.stage ≠ .commit) (idle : s.saving = false)
    (good : decTemplate payload 1 = some x) : reqLoadTemplate f s = checked [
      ((List.finRange 12).any (fun p => s.isBusyProg p &&
        (s.rangeOf p).any (fun i => (s.stepAt i).kind.namesTemplate n)), stInUse),
      (s.zeroHas (fun k => k == .send n) && !(putTemplate n x s).budgetOk, stBudget)] f
      (fun s => accept f [] (putTemplate n x s)) s := by
  subst hf
  unfold reqLoadTemplate
  rw [show (requestFrame 0x23 tag payload).arg 0 = at1 payload 0 from rfl, ← hn, templateOf?_lt n.isLt]
  dsimp only
  rw [checked_passes _ _ _ _ _ _ (by simp [stage]), checked_passes _ _ _ _ _ _ idle, checked_nil, payload_request, good]

/-- Settles O16: the checks of R74 in order, and the template behind them. -/
theorem loadTemplateChecksAndReplaces : Obligations.LoadTemplateChecksAndReplaces := by
  intro s tag payload f ready fits least length hf
  have arg : f.arg 0 = at1 payload 0 := by rw [hf]; rfl
  have payloadOf : f.payload = payload := by rw [hf]; rfl
  rw [exec_loadTemplate ready tag fits least length, ← hf]
  refine ⟨fun out => ?_, fun n number => ⟨fun commit => ?_, fun stage saving => ?_, fun stage idle => ⟨fun bad => ?_,
    fun x good => ?_⟩⟩⟩
  · simp only [reqLoadTemplate, arg, templateOf?_ge out, settle_answer _ ready]
  · simp [reqLoadTemplate, arg, ← number, templateOf?_lt n.isLt, checked_fails, commit, settle_answer _ ready]
  · simp [reqLoadTemplate, arg, ← number, templateOf?_lt n.isLt, checked_fails, checked_passes, stage, saving,
      settle_answer _ ready]
  · simp [reqLoadTemplate, arg, ← number, templateOf?_lt n.isLt, checked_passes, stage, idle, payloadOf, bad,
      settle_answer _ ready]
  · rw [reqLoadTemplate_eq s.taken hf number stage idle good]
    refine ⟨fun p i busy inside names => ?_, fun free => ?_⟩
    · rw [checked_fails _ _ _ _ _ _ ((any_names s.taken n).mpr ⟨p, i, busy, inside, names⟩), settle_answer _ ready]
    have unused := Bool.eq_false_iff.mpr (fun used => by
      obtain ⟨p, i, busy, inside, names⟩ := (any_names s.taken n).mp used
      exact Bool.false_ne_true ((free p i busy inside).symm.trans names))
    rw [checked_passes _ _ _ _ _ _ unused]
    refine ⟨fun i inside sends exceeds => ?_, fun within => ?_⟩
    · have sent := (zeroHas_send s n).mpr ⟨i, inside, sends⟩
      rw [checked_fails _ _ _ _ _ _ (by rw [zeroHas_taken, sent, budgetOk_putTemplate_taken, exceeds]; rfl),
        settle_answer _ ready]
    · have budget : (s.taken.zeroHas (fun k => k == .send n) && !(putTemplate n x s.taken).budgetOk) = false := by
        rcases within with unsent | ok
        · have unsent := Bool.eq_false_iff.mpr (fun sent => by
            obtain ⟨i, inside, sends⟩ := (zeroHas_send s n).mp sent
            exact unsent i inside sends)
          rw [zeroHas_taken, unsent]; rfl
        · rw [budgetOk_putTemplate_taken, ok]; simp
      rw [checked_passes _ _ _ _ _ _ budget, checked_nil]
      exact congrArg _ (settle_accept_of _ _ _ (u := putTemplate n x s.taken) ready.present ready.settled)

end Sys2Proof.Machine
end

section
/-! Frames as bytes: what a lane carries is read back (R118 to R120). -/

namespace Sys2Proof.Machine

theorem length_frameBytes (f : Frame) : f.bytes.length = f.payload.length + 7 := by
  simp [Frame.bytes, Frame.body]

/-- The bytes of a frame, one after the other. -/
theorem frameBytes_eq (f : Frame) : f.bytes = [f.dest ++ f.src, f.kind ++ (0 : BitVec 4), f.cls, f.tag,
    byteOf f.payload.length] ++ (f.payload ++ bytes2 f.check.toNat) := by
  rw [Frame.bytes, Frame.body, List.append_assoc]

/-- A byte of two halves gives each of them back. -/
theorem halves (a b : BitVec 4) : BitVec.ofNat 4 ((a ++ b).toNat / 16) = a ∧ BitVec.ofNat 4 (a ++ b).toNat = b ∧
    (a ++ b).toNat % 16 = b.toNat := by
  have small := b.isLt
  have whole : (a ++ b).toNat = 16 * a.toNat + b.toNat := by
    rw [BitVec.toNat_append, ← Nat.shiftLeft_add_eq_or_of_lt small, Nat.shiftLeft_eq]; omega
  refine ⟨?_, ?_, by omega⟩ <;> apply BitVec.eq_of_toNat_eq <;> rw [BitVec.toNat_ofNat, whole]
  · have := a.isLt; omega
  · omega

/-- The check stands in the last two bytes. -/
theorem check_at (f : Frame) : BitVec.ofNat 16 (at2 f.bytes (5 + f.payload.length)) = f.check := by
  have first : f.bytes.getD (5 + f.payload.length) 0 = byteOf (f.check.toNat / 256) := by
    rw [frameBytes_eq, Nat.add_comm 5]; simp [bytes2]
  have second : f.bytes.getD (5 + f.payload.length + 1) 0 = byteOf f.check.toNat := by
    rw [frameBytes_eq, show 5 + f.payload.length + 1 = f.payload.length + 1 + 5 by omega]; simp [bytes2]
  rw [at2, at1, at1, first, second, two_bytes, BitVec.ofNat_toNat, BitVec.setWidth_eq]

/-- Settles O57: each field stands at its place in the bytes, and the frame found there is the one that was sent. -/
theorem framesAreReadBack : Obligations.FramesAreReadBack := by
  intro f ok
  have short := ok_length ok
  have length := length_frameBytes f
  obtain ⟨dest, src, -⟩ := halves f.dest f.src
  obtain ⟨kind, -, low⟩ := halves f.kind 0
  have len : at1 f.bytes 4 = f.payload.length := by
    rw [frameBytes_eq]; simp [at1, byteOf]; omega
  have first : at1 f.bytes 0 = (f.dest ++ f.src).toNat := by rw [frameBytes_eq]; rfl
  have second : at1 f.bytes 1 = (f.kind ++ (0 : BitVec 4)).toNat := by rw [frameBytes_eq]; rfl
  have cls : f.bytes.getD 2 0 = f.cls := by rw [frameBytes_eq]; rfl
  have tag : f.bytes.getD 3 0 = f.tag := by rw [frameBytes_eq]; rfl
  have payload : (f.bytes.drop 5).take f.payload.length = f.payload := by rw [frameBytes_eq]; simp
  have read : (⟨BitVec.ofNat 4 (at1 f.bytes 0 / 16), BitVec.ofNat 4 (at1 f.bytes 0), BitVec.ofNat 4 (at1 f.bytes 1 / 16),
      f.bytes.getD 2 0, f.bytes.getD 3 0, (f.bytes.drop 5).take f.payload.length,
      BitVec.ofNat 16 (at2 f.bytes (5 + f.payload.length))⟩ : Frame) = f := by
    rw [first, second, dest, src, kind, cls, tag, payload, check_at]
  have wellFormed : (f.bytes.length < 7 || 67 < f.bytes.length || 60 < f.payload.length ||
      f.bytes.length != f.payload.length + 7 || at1 f.bytes 1 % 16 != 0) = false := by
    rw [length, second, low]; simp; omega
  unfold frameOfBytes
  simp only [len, read, wellFormed, ok, if_true, Bool.false_eq_true, if_false]

/-! ### Requests and commands that are wrong (R122, R172) -/

/-- A command with a source that is not the main board, or for no board, is answered BAD_ADDRESS (R122). -/
theorem routeUp_badAddress (m : Mode) {f : Frame} (s : State) (command : f.kind = kindCommand)
    (wrong : f.src ≠ 7 ∨ 6 ≤ f.dest.toNat) : routeUp m f s = answer f stBadAddress s := by
  unfold routeUp
  rw [if_neg (not_not_intro command)]
  by_cases src : f.src = 7
  · have far := wrong.resolve_left (not_not_intro src)
    have noPart : f.dest ≠ 0 := fun zero => by rw [zero] at far; exact absurd far (by decide)
    have noPort : Port.ofNat? f.dest.toNat = none := portOf?_none (Or.inr (by omega))
    rw [if_neg (not_not_intro src), if_neg noPart, noPort]
  · rw [if_pos src]

/-- Settles O29: neither frame comes past its first check. -/
theorem wrongRequestsAreAnswered : Obligations.WrongRequestsAreAnswered := by
  refine ⟨fun s cls tag payload ready fits unsized => ?_, fun s dest src cls tag payload ready fits wrong => ?_⟩
  · have received : exec (.unknownRequestCode cls tag payload) s =
        .next (settle 65535 (request s.mode (requestFrame cls tag payload) s.taken)) :=
      event_request cls tag payload ready fits
    rw [received, request_unsized _ _ _ unsized, settle_answer _ ready]
  · have received : exec (.badAddressCommand dest src cls tag payload) s =
        .next (settle 65535 (routeUp s.mode (mkFrame dest src kindCommand cls tag payload) s.taken)) :=
      event_receive ready (mkFrame_ok _ _ _ _ _ _ fits (by decide)) rfl
    rw [received, routeUp_badAddress _ _ rfl wrong, settle_answer _ ready]

end Sys2Proof.Machine
end

section
/-! The resets, the record and group writes, the modes, the request queue's order and the upstream transmitter
(R77, R114, R117, R123, R187 to R195). -/

namespace Sys2Proof.Machine

/-! ### Resets (R190) -/

theorem get_set_self {α : Type} {n : Nat} (v : Vector α n) (i : Fin n) (x : α) : (v.set i x).get i = x := by
  rw [get_set, if_pos rfl]

theorem get_set_other {α : Type} {n : Nat} (v : Vector α n) {i j : Fin n} (x : α) (h : j ≠ i) :
    (v.set i x).get j = v.get j := by
  rw [get_set, if_neg h]

theorem get_replicate {α : Type} {n : Nat} (x : α) (i : Fin n) : (Vector.replicate n x).get i = x :=
  Vector.getElem_replicate i.isLt

/-- A reset leaves every block at its reset value, the clock and the inputs as they were (R190). -/
theorem resetTo_doReset (c : ResetCause) (s : State) : State.ResetTo c s (doReset c s) where
  cause := rfl
  wait := rfl
  mode := rfl
  noReset := rfl
  rails r := by
    have blank : (doReset c s).rail r = { static := RailStatic.unused, dyn := RailDynamic.idle } := get_replicate _ r
    rw [blank]; exact ⟨rfl, rfl⟩
  enables i := get_replicate _ i
  discharges i := get_replicate _ i
  controls i := get_replicate _ i
  channels d := get_replicate _ d
  marks := rfl
  converter := rfl
  line := rfl
  sync := rfl
  steps i := by
    have pool : (doReset c s).seq.steps.toList = List.replicate 256 Step.initial := Vector.toList_replicate
    unfold State.stepAt
    rw [pool, List.getElem?_replicate]
    split <;> rfl
  headers n := get_ofFn _ n
  templates n := get_replicate _ n
  context := ⟨rfl, rfl, rfl⟩
  scheduler := ⟨rfl, rfl, rfl, rfl⟩
  plan := rfl
  stage := ⟨rfl, rfl, rfl⟩
  episode := ⟨rfl, rfl, rfl, rfl⟩
  triggers i := get_replicate _ i
  write := rfl
  ports p := get_ofFn _ p.idx
  upstream := rfl
  admission i := get_replicate _ i
  forward := ⟨rfl, rfl, rfl⟩
  queues p := ⟨get_replicate _ p.idx, get_replicate _ p.idx⟩
  events := rfl
  groups := rfl
  save := ⟨rfl, rfl, rfl⟩
  results g := get_replicate _ g
  outside := ⟨rfl, rfl⟩
  slotKept idle := by
    have slot : (doReset c s).store.slot = s.slotAfterReset := rfl
    rw [slot, State.slotAfterReset, idle]
  slotCut writing := by
    have slot : (doReset c s).store.slot = s.slotAfterReset := rfl
    rw [slot, State.slotAfterReset]
    cases write : s.rtu.write with
    | idle => exact absurd write writing
    | writing => rfl

theorem settled_doReset (c : ResetCause) (s : State) : (doReset c s).Settled := ⟨rfl, rfl⟩

/-- Settles O7: each reset is taken whole and hands nothing on. -/
theorem resetsLeaveEveryBlockAtItsResetValues : Obligations.ResetsLeaveEveryBlockAtItsResetValues := fun s settled =>
  ⟨⟨_, event_plain settled (settled_doReset _ s), resetTo_doReset _ s⟩,
    ⟨_, event_plain settled (settled_doReset _ s), resetTo_doReset _ s⟩,
    ⟨_, event_plain settled (settled_doReset _ s), resetTo_doReset _ s⟩⟩

/-! ### The order of the request queue (R77) -/

/-- Settles O21, by induction on the queue. -/
theorem queueKeepsPriorityThenArrival : Obligations.QueueKeepsPriorityThenArrival := by
  intro e q
  have perm : ∀ l, (insertEntry e l).Perm (e :: l) := by
    intro l
    induction l with
    | nil => exact List.Perm.refl _
    | cons x l ih =>
      unfold insertEntry
      split
      · exact List.Perm.refl _
      · exact (ih.cons x).trans (List.Perm.swap e x l)
  refine ⟨perm q, fun ordered => ?_, fun ordered => ?_⟩
  · induction q with
    | nil => exact List.pairwise_singleton _ _
    | cons x l ih =>
      obtain ⟨head, tail⟩ := List.pairwise_cons.mp ordered
      unfold insertEntry
      split
      · rename_i lower
        refine List.pairwise_cons.mpr ⟨fun y mem => ?_, ordered⟩
        rcases List.mem_cons.mp mem with rfl | mem
        · exact Nat.le_of_lt lower
        · exact Nat.le_trans (head y mem) (Nat.le_of_lt lower)
      · rename_i higher
        refine List.pairwise_cons.mpr ⟨fun y mem => ?_, ih tail⟩
        rcases List.mem_cons.mp ((perm l).mem_iff.mp mem) with rfl | mem
        · exact Nat.not_lt.mp higher
        · exact head y mem
  · induction q with
    | nil => rfl
    | cons x l ih =>
      obtain ⟨head, tail⟩ := List.pairwise_cons.mp ordered
      unfold insertEntry
      split
      · rename_i lower
        have below : ∀ y ∈ x :: l, y.priority < e.priority := by
          intro y mem
          rcases List.mem_cons.mp mem with rfl | mem
          · exact lower
          · exact Nat.lt_of_le_of_lt (head y mem) lower
        rw [List.filter_eq_nil_iff.mpr (fun y mem => by simpa using below y mem),
          List.filter_eq_self.mpr (fun y mem => by simpa using below y mem), List.nil_append]
      · rename_i higher
        rw [ih tail, List.filter_cons_of_pos (by simpa using higher), List.filter_cons_of_neg (by simpa using higher),
          List.cons_append]

/-! ### The record (R114, R117) -/

theorem exec_clearRecord {s : State} (h : s.Ready) (tag : Byte) :
    exec (.clearRecord tag) s = .next (settle 65535 (reqClearRecord (requestFrame 0x33 tag []) s.taken)) :=
  event_request 0x33 tag [] h (by simp)

/-- The end of a write: the slot holds the copy, and the write asked for meanwhile begins (R114). -/
theorem recordWriteDone_writing {s : State} {r : Record} {begun : Time} {next : Option Record}
    (h : s.rtu.write = .writing r begun next) : recordWriteDone s = { s with
      now := max s.now (begun + 4000)
      store := { s.store with slot := .holds r }
      rtu := { s.rtu with write :=
        (next.map (fun m => RecordWrite.writing m (max s.now (begun + 4000)) none)).getD .idle } } := by
  unfold recordWriteDone
  split
  · rename_i idle; rw [h] at idle; cases idle
  · rename_i writing; rw [h] at writing; cases writing
    cases next <;> rfl

theorem settled_recordWriteDone {s : State} (h : s.Settled) : (recordWriteDone s).Settled := by
  unfold recordWriteDone
  split <;> exact h

/-- Settles O23: the checks of R117 in order, and the two ends of a record write. -/
theorem clearRecordAndTheEndOfARecordWrite : Obligations.ClearRecordAndTheEndOfARecordWrite := by
  refine ⟨fun s tag f ready hf => ?_, fun s r begun next settled writing => ?_⟩
  · rw [exec_clearRecord ready, ← hf]
    refine ⟨fun commit => ?_, fun stage busy => ?_, fun stage idle => ?_⟩
    · simp [reqClearRecord, checked_fails, commit, settle_answer _ ready]
    · simp [reqClearRecord, checked_fails, checked_passes, stage, busy, settle_answer _ ready]
    · have asked : ∀ x, askWrite (setRtu { s.taken.rtu with record := x } s.taken) = { s.taken with
          rtu := { s.rtu with record := x, write := .writing x s.now none } } := by
        intro x
        simp [askWrite, setRtu, idle, State.taken]
      have acts : reqClearRecord f s.taken = accept f [] { s.taken with
          rtu := { s.rtu with record := Record.blank .empty, write := .writing (Record.blank .empty) s.now none } } := by
        unfold reqClearRecord
        rw [checked_passes _ _ _ _ _ _ (by simp [stage]), checked_passes _ _ _ _ _ _ (by simp [idle]), checked_nil, asked]
      rw [acts]
      exact congrArg _ (settle_accept_of _ _ _ (u := { s.taken with rtu := _ }) ready.present ready.settled)
  · have plain : exec .recordWriteComplete s = .next (recordWriteDone s) :=
      event_plain settled (settled_recordWriteDone settled)
    rw [plain, recordWriteDone_writing writing]
    cases next <;> rfl

/-! ### Saves (R187, R188) -/

theorem exec_saveSettings {s : State} (h : s.Ready) (tag : Byte) :
    exec (.saveSettings tag) s = .next (settle 65535 (reqSaveSettings (requestFrame 0x40 tag []) s.taken)) :=
  event_request 0x40 tag [] h (by simp)

theorem isLineOk_iff (x : Stage) : x.isLineOk = true ↔ x = .lineOk := by cases x <;> simp [Stage.isLineOk]

/-- No program runs and none is queued (R187). -/
theorem noProgram_iff (s : State) : s.noProgram = true ↔ s.sched.running = none ∧ s.sched.queue = [] := by
  simp [State.noProgram]

theorem saving_iff (s : State) : s.saving = true ↔ s.store.save = .running := by simp [State.saving]

@[simp] theorem noProgram_taken (s : State) : s.taken.noProgram = s.noProgram := rfl

/-- The end of a group's write but for what follows it: the group's area and its result, at the clock of the write's end. -/
def State.groupWritten (s : State) (g : Fin 5) : State :=
  { s with
    now := max s.now (s.store.begun + Config.groupWriteLeast)
    store := { s.store with
      groups := s.store.groups.set g { code := 0xA5, crc := crc16 (s.groupBytes g), contents := s.groupBytes g }
      results := s.store.results.set g .applied } }

/-- After the write of G1 to G4 the next group's begins; after G5's the save has ended (R188). -/
theorem groupWriteEnd_eq {s : State} {g : Fin 5} (saving : s.store.save = .running) (group : s.store.group = some g) :
    groupWriteEnd s = if h : g.val + 1 < 5 then beginGroup ⟨g.val + 1, h⟩ (s.groupWritten g)
      else later (.raise .saveEnd) (setStore { (s.groupWritten g).store with save := .finished, group := none }
        (s.groupWritten g)) := by
  unfold groupWriteEnd
  rw [group]
  dsimp only
  rw [if_pos saving]; rfl

/-- A group write ends and hands on, at most, SAVE_END. -/
theorem exec_groupWriteEnd_next {s : State} {g : Fin 5} (up : s.Up) (saving : s.store.save = .running)
    (group : s.store.group = some g) (h : g.val + 1 < 5) :
    exec .saveGroupWriteEnd s = .next (beginGroup ⟨g.val + 1, h⟩ (s.groupWritten g)) := by
  have acts : groupWriteEnd s = beginGroup ⟨g.val + 1, h⟩ (s.groupWritten g) := by
    rw [groupWriteEnd_eq saving group, dif_pos h]
  have plain : exec .saveGroupWriteEnd s = .next (groupWriteEnd s) :=
    event_plain up.settled (by rw [acts]; exact up.settled)
  rw [plain, acts]

theorem exec_groupWriteEnd_last {s : State} (up : s.Up) (saving : s.store.save = .running) (group : s.store.group = some 4) :
    exec .saveGroupWriteEnd s = .next (raise .saveEnd
      (setStore { (s.groupWritten 4).store with save := .finished, group := none } (s.groupWritten 4))) := by
  have settled : (setStore { (s.groupWritten 4).store with save := .finished, group := none } (s.groupWritten 4)).Settled :=
    up.settled
  exact event_raise up.settled (by rw [groupWriteEnd_eq saving group, dif_neg (by decide)]) settled (settled_raise _ settled)

/-- The pending set after a kind is raised, in every phase (R165). -/
theorem raise_ev_pending (k : EventKind) (s : State) : (raise k s).ev.pending = s.ev.pending ||| k.bit := by
  unfold raise changeEvents followRequesting
  dsimp only
  repeat' split
  all_goals rfl

/-- Settles O24: the checks of R187 in order, the start of a save, and the two ways in which a group's write ends. -/
theorem savesBeginAndApplyGroupByGroup : Obligations.SavesBeginAndApplyGroupByGroup := by
  refine ⟨fun s tag f ready hf => ?_, fun s g up saving group => ?_⟩
  · rw [exec_saveSettings ready, ← hf]
    refine ⟨fun running => ?_, fun idle stage => ?_, fun idle stage busy => ?_, fun idle stage none empty => ?_⟩
    · simp [reqSaveSettings, checked_fails, (saving_iff s).mpr running, settle_answer _ ready]
    all_goals have idle : s.saving = false := Bool.eq_false_iff.mpr (fun saves => idle ((saving_iff s).mp saves))
    · have away : s.rtu.stage.isLineOk = false := Bool.eq_false_iff.mpr (fun ok => stage ((isLineOk_iff _).mp ok))
      simp [reqSaveSettings, checked_fails, checked_passes, idle, away, settle_answer _ ready]
    · have program : s.noProgram = false := Bool.eq_false_iff.mpr (fun no => by
        obtain ⟨none, empty⟩ := (noProgram_iff s).mp no
        exact busy.elim (fun h => h none) (fun h => h empty))
      simp [reqSaveSettings, checked_fails, checked_passes, idle, (isLineOk_iff _).mpr stage, program, settle_answer _ ready]
    · have program : s.noProgram = true := (noProgram_iff s).mpr ⟨none, empty⟩
      simp only [reqSaveSettings, checked_passes, saving_taken, idle, taken_rtu, (isLineOk_iff _).mpr stage, noProgram_taken,
        program, Bool.not_true, checked_nil]
      rw [settle_accept_of _ _ _ (u := beginSave s.taken) ready.present ready.settled]
      refine ⟨_, rfl, rfl, rfl, rfl, get_set_self _ _ _, fun g other => ?_, get_set_self _ _ _, fun g other => ?_, rfl, rfl, rfl⟩
      · exact (get_set_other _ _ other).trans (get_replicate _ g)
      · exact get_set_other _ _ other
  · by_cases h : g.val + 1 < 5
    · have next : (⟨g.val + 1, h⟩ : Fin 5) ≠ g := fun same => by have := congrArg Fin.val same; simp at this
      refine ⟨_, exec_groupWriteEnd_next up saving group h, ?_, ?_, fun n hn => ?_, fun last => ?_, fun n own other => ?_, rfl⟩
      · exact (get_set_other _ _ next.symm).trans (get_set_self _ _ _)
      · exact (get_set_other _ _ next.symm).trans (get_set_self _ _ _)
      · obtain rfl : n = ⟨g.val + 1, h⟩ := Fin.ext hn
        exact ⟨saving, rfl, congrArg GroupArea.code (get_set_self _ _ _), get_set_self _ _ _, rfl⟩
      · subst last; exact absurd h (by decide)
      · exact (get_set_other _ _ (fun same => other (congrArg Fin.val same))).trans (get_set_other _ _ own)
    · obtain rfl : g = 4 := Fin.ext (by have := g.isLt; omega)
      refine ⟨_, exec_groupWriteEnd_last up saving group, ?_, ?_, fun n hn => ?_, fun _ => ⟨?_, ?_, ?_⟩, fun n own _ => ?_, ?_⟩
      · rw [raise_store]; exact get_set_self _ _ _
      · rw [raise_store]; exact get_set_self _ _ _
      · exact absurd n.isLt (by rw [hn]; decide)
      · rw [raise_store]; rfl
      · rw [raise_store]; rfl
      · rw [raise_ev_pending]; rfl
      · rw [raise_store]; exact get_set_other _ _ own
      · exact congrArg (fun t : State => { t with now := s.now, store := s.store }) (raise_rest .saveEnd (setStore _ _))

end Sys2Proof.Machine
end

section
/-! Port U and the modes: the transmitter, the presence input, the frames received, STANDBY and the requested reset
(R120 to R125, R191 to R195). -/

namespace Sys2Proof.Machine

/-! ### STANDBY and WAKE (R193, R195) -/

theorem exec_enterStandby {s : State} (h : s.Ready) (tag : Byte) :
    exec (.enterStandby tag) s = .next (settle 65535 (reqEnterStandby (requestFrame 0x42 tag []) s.taken)) :=
  event_request 0x42 tag [] h (by simp)

@[simp] theorem standbyReady_taken (s : State) : s.taken.standbyReady = s.standbyReady := rfl

/-- A rail's state permits STANDBY (R193). -/
theorem standbyFit_iff (s : State) (r : RailId) : s.standbyFit r = true ↔ ((s.rail r).static.used = true →
    (s.rail r).dyn.state = .off ∨ ((s.rail r).dyn.state = .on ∧ (s.rail r).static.standbyKeep = true)) := by
  unfold State.standbyFit
  cases (s.rail r).static.used <;> simp

theorem standbyReady_iff (s : State) : s.standbyReady = true ↔ s.rtu.stage = .lineOk ∧ s.sched.running = none ∧
    s.sched.queue = [] ∧ s.fwd.hold = [] ∧ (∀ p, s.queue p = []) ∧ ∀ r, (s.rail r).static.used = true →
      (s.rail r).dyn.state = .off ∨ ((s.rail r).dyn.state = .on ∧ (s.rail r).static.standbyKeep = true) := by
  unfold State.standbyReady
  simp only [Bool.and_eq_true, isLineOk_iff, noProgram_iff, all_ports_iff, all_rails_iff, standbyFit_iff,
    List.isEmpty_iff, and_assoc]

/-- Settles O25: the one check of R193, and a wake that raises its event first. -/
theorem standbyAndWakeChangeTheMode : Obligations.StandbyAndWakeChangeTheMode := by
  refine ⟨fun s tag f ready hf => ⟨fun unfit => ?_, fun fit => ?_, standbyReady_iff s⟩, fun s settled =>
    ⟨fun running quiet => ?_, fun early => ?_⟩⟩
  · rw [exec_enterStandby ready, ← hf]
    simp [reqEnterStandby, checked_fails, unfit, settle_answer _ ready]
  · rw [exec_enterStandby ready, ← hf]
    simp only [reqEnterStandby, checked_passes, standbyReady_taken, fit, Bool.not_true, checked_nil]
    exact congrArg _ (settle_accept_of _ _ _ (u := { s.taken with mode := .standby }) ready.present ready.settled)
  · have woken : wakeEdge s = later (.raise .wake) { s with mode := .active } := by
      unfold wakeEdge
      rw [if_pos running, wake_quiet (s := later (.raise .wake) s) quiet]; rfl
    exact event_raise settled woken settled (settled_raise _ settled)
  · have ignored : wakeEdge s = s := if_neg early
    have plain : exec .wakeEdge s = .next (wakeEdge s) := event_plain settled (by rw [ignored]; exact settled)
    rw [plain, ignored]

/-! ### The upstream transmitter (R123) -/

/-- The receive queue's head is looked at and there is none. -/
theorem settle_takeEmpty (n : Nat) {s : State} (h : s.agenda = []) (due : s.takeDue = true) (empty : s.up.rx = []) :
    settle (n + 1) s = { s with takeDue := false } := by
  have head : takeHead { s with takeDue := false } = { s with takeDue := false } := by
    unfold takeHead
    dsimp only
    rw [empty]
  rw [settle_take n h due, head]
  exact settle_settled n ⟨h, rfl⟩

theorem releaseEntry_reply {e : UpEntry} (s : State) (group : e.group = .reply) (reset : e.reset = false) :
    releaseEntry e s = { s with up := { s.up with replyTaken := s.up.replyTaken - 1 }, takeDue := true } := by
  unfold releaseEntry
  rw [group, reset]; rfl

theorem releaseEntry_other {e : UpEntry} (s : State) (group : e.group ≠ .reply) (reset : e.reset = false) :
    releaseEntry e s = s := by
  unfold releaseEntry
  rw [reset]
  cases h : e.group with
  | reply => exact absurd h group
  | notice => rfl
  | attention => rfl

/-- The frame's end is reached and the lane rests (R123). -/
def State.frameEnded (s : State) (done : Time) : State :=
  { s with now := max s.now done, up := { s.up with line := .stretch (max s.now done + 10) } }

theorem upTxComplete_sending {s : State} {e : UpEntry} {done : Time} (h : s.up.line = .sending e done) :
    upTxComplete s = releaseEntry e (s.frameEnded done) := by
  unfold upTxComplete
  rw [h]; rfl

theorem upTransmitterFree_plain {s : State} (h : s.Settled) : exec .upstreamTransmitterFree s = .next (upTransmitterFree s) := by
  refine event_plain h ?_
  unfold upTransmitterFree
  dsimp only
  repeat' split
  all_goals exact h

/-- Settles O31: the oldest frame is sent, and a completed frame's place is freed. -/
theorem upstreamTransmitterSendsInOrder : Obligations.UpstreamTransmitterSendsInOrder := by
  intro s settled
  refine ⟨fun e l line tx => ?_, fun e l due line tx => ?_, fun due line tx => ?_, fun e done line group reset empty => ?_,
    fun e done line group reset => ?_⟩
  · rw [upTransmitterFree_plain settled]; simp only [upTransmitterFree, line, tx]; rfl
  · rw [upTransmitterFree_plain settled]; simp only [upTransmitterFree, line, tx, advance_up]; rfl
  · rw [upTransmitterFree_plain settled]; simp only [upTransmitterFree, line, tx, advance_up]; rfl
  · have ended : exec .upstreamTxComplete s = .next (settle Config.settleFuel (upTxComplete s)) := event_settled settled
    rw [ended, upTxComplete_sending line, releaseEntry_reply _ group reset]
    refine congrArg _ ((settle_takeEmpty 65535 ?_ rfl ?_).trans ?_)
    · exact settled.1
    · exact empty
    · simp only [State.frameEnded, ← settled.2]
  · have ended : upTxComplete s = s.frameEnded done := by
      rw [upTxComplete_sending line, releaseEntry_other _ group reset]
    have plain : exec .upstreamTxComplete s = .next (upTxComplete s) := event_plain settled (by rw [ended]; exact settled)
    rw [plain, ended]; rfl

/-! ### The requested reset (R191) -/

theorem exec_resetPart {s : State} (h : s.Ready) (tag : Byte) :
    exec (.resetPart tag) s = .next (settle 65535 (reqResetPart (requestFrame 0x43 tag []) s.taken)) :=
  event_request 0x43 tag [] h (by simp)

/-- A rail that is not OFF (R191). -/
theorem any_rails_iff (p : RailId → Bool) : allRails.any p = true ↔ ∃ r, p r = true := by
  simp [allRails]

/-- A reset at the front of what is to be done: it is taken, and nothing is left (R191). -/
theorem settle_reset (n : Nat) (c : ResetCause) (ws : List Work) {s : State} (h : s.agenda = .reset c :: ws) :
    settle (n + 1) s = doReset c s := by
  rw [settle_work n h]
  exact settle_settled n (settled_doReset c s)

/-- What a reset leaves depends on the commands outside, the clock, the input pins, the store and the record write. -/
theorem doReset_congr (c : ResetCause) {s t : State} (pending : t.pending = s.pending) (now : t.now = s.now)
    (choices : t.choices = s.choices) (ports : t.ports = s.ports) (present : t.up.present = s.up.present)
    (store : t.store = s.store) (rtu : t.rtu = s.rtu) : doReset c t = doReset c s := by
  unfold doReset State.storeAfterReset State.slotAfterReset
  simp only [pending, now, choices, ports, present, store, rtu]

/-- The release of a list of frames: a reset is handed on for each marked one, and nothing but the reply places changes. -/
structure State.Releases (l : List UpEntry) (s t : State) : Prop where
  agenda : t.agenda = s.agenda ++ (l.filter UpEntry.reset).map (fun _ => Work.reset .requested)
  pending : t.pending = s.pending
  now : t.now = s.now
  choices : t.choices = s.choices
  ports : t.ports = s.ports
  present : t.up.present = s.up.present
  store : t.store = s.store
  rtu : t.rtu = s.rtu

theorem releases_entry (e : UpEntry) (s : State) : State.Releases [e] s (releaseEntry e s) := by
  cases e with
  | mk frame group reset => cases group <;> cases reset <;> constructor <;> simp [releaseEntry, later]

theorem releases_foldl (l : List UpEntry) (s : State) :
    State.Releases l s (l.foldl (fun s e => releaseEntry e s) s) := by
  induction l generalizing s with
  | nil => constructor <;> simp
  | cons e l ih =>
    have first := releases_entry e s
    have others := ih (releaseEntry e s)
    refine ⟨?_, others.pending.trans first.pending, others.now.trans first.now, others.choices.trans first.choices,
      others.ports.trans first.ports, others.present.trans first.present, others.store.trans first.store,
      others.rtu.trans first.rtu⟩
    rw [List.foldl_cons, others.agenda, first.agenda, List.append_assoc, ← List.map_append, ← List.filter_append]; rfl

/-- With a marked frame among those released the event ends in the reset. -/
theorem settle_releases (n : Nat) {l : List UpEntry} {s t : State} (h : State.Releases l s t) (empty : s.agenda = [])
    (marked : ∃ e ∈ l, e.reset = true) : settle (n + 1) t = doReset .requested s := by
  obtain ⟨e, mem, reset⟩ := marked
  obtain ⟨x, rest, cons⟩ : ∃ x rest, l.filter UpEntry.reset = x :: rest :=
    List.exists_cons_of_ne_nil (List.ne_nil_of_mem (List.mem_filter.mpr ⟨mem, reset⟩))
  have front : t.agenda = .reset .requested :: rest.map (fun _ => .reset .requested) := by
    rw [h.agenda, empty, cons]; rfl
  rw [settle_reset n _ _ front]
  exact doReset_congr _ h.pending h.now h.choices h.ports h.present h.store h.rtu

/-- The frames on port U, the one under transmission first (R123). -/
def State.upFrames (s : State) : List UpEntry :=
  match s.up.line with
  | .sending e _ => e :: s.up.tx
  | _ => s.up.tx

/-- The lane of port U after its transmission was cut off at `now` (R125; log 30). -/
def UpLine.cutAt (now : Time) : UpLine → UpLine
  | .sending _ _ => .stretch (now + 10)
  | l => l

/-- U_PRESENT low, with no frame waiting or under transmission (R125). -/
def State.upEmptied (s : State) : State :=
  { s with up := { s.up with present := false, tx := [], line := s.up.line.cutAt s.now } }

theorem uPresentFall_eq (s : State) : uPresentFall s = s.upFrames.foldl (fun s e => releaseEntry e s) s.upEmptied := by
  unfold uPresentFall State.upFrames State.upEmptied UpLine.cutAt
  cases line : s.up.line with
  | idle => simp only [line]; rfl
  | sending e done => simp only [line]; rfl
  | stretch due => simp only [line]; rfl

theorem exec_uPresentFalls {s : State} (h : s.Settled) : exec .uPresentFalls s =
    .next (settle 65536 (s.upFrames.foldl (fun s e => releaseEntry e s) s.upEmptied)) := by
  have settles : exec .uPresentFalls s = .next (settle 65536 (uPresentFall s)) := event_settled h
  rw [settles, uPresentFall_eq]

theorem mem_upFrames {s : State} {e : UpEntry} (h : e ∈ s.up.tx ∨ ∃ done, s.up.line = .sending e done) : e ∈ s.upFrames := by
  unfold State.upFrames
  rcases h with waiting | ⟨done, sending⟩
  · cases s.up.line with
    | sending x done => exact List.mem_cons_of_mem _ waiting
    | idle => exact waiting
    | stretch due => exact waiting
  · rw [sending]; exact List.mem_cons_self

/-- What a reset leaves does not tell of port U's queues and lane. -/
theorem resetTo_upEmptied (c : ResetCause) (s : State) :
    State.ResetTo c { s with up := { s.up with present := false } } (doReset c s.upEmptied) := by
  have same : doReset c s.upEmptied = doReset c { s with up := { s.up with present := false } } :=
    doReset_congr c rfl rfl rfl rfl rfl rfl rfl
  rw [same]; exact resetTo_doReset c _

/-- A RESET_PART that passes its checks, once it is placed or discarded (R191). -/
theorem reqResetPart_accepts {s : State} (f : Frame) (waiting : s.resetWaiting = false) (off : ∀ r, s.railState r = .off) :
    reqResetPart f s = placeUp { frame := replyFrame f stOk [], group := .reply, reset := true }
      { s with resetWaiting := true } := by
  have safe : allRails.any (fun r => s.railState r != .off) = false := Bool.eq_false_iff.mpr (fun any => by
    obtain ⟨r, on⟩ := (any_rails_iff _).mp any
    rw [off r] at on; cases on)
  unfold reqResetPart
  rw [checked_passes _ _ _ _ _ _ waiting, checked_passes _ _ _ _ _ _ safe]; rfl

/-- Settles O26: the checks of R191 in order, and the three ways in which the marked reply ends. -/
theorem resetPartFollowsItsReply : Obligations.ResetPartFollowsItsReply := by
  refine ⟨fun s tag f ready hf => ?_, fun s e done settled reset line => ?_, fun s e settled reset place => ?_,
    fun s tag e up active waiting off rx full tx group unmarked noLine => ?_⟩
  · rw [exec_resetPart ready, ← hf]
    refine ⟨fun waiting => ?_, fun waiting on => ?_, fun waiting off => ?_⟩
    · simp [reqResetPart, checked_fails, waiting, settle_answer _ ready]
    · have unsafeNow : allRails.any (fun r => s.taken.railState r != .off) = true :=
        (any_rails_iff _).mpr (on.imp (fun r h => bne_iff_ne.mpr h))
      simp only [reqResetPart, checked_passes, checked_fails, taken_resetWaiting, waiting, unsafeNow, settle_answer _ ready]
    · rw [reqResetPart_accepts (s := s.taken) f waiting off, placeUp_present (s := { s.taken with resetWaiting := true }) _ ready.present]
      exact congrArg _ (settle_settled _ ready.settled)
  · have ended : exec .upstreamTxComplete s = .next (settle 65536 (upTxComplete s)) := event_settled settled
    have resets : settle 65536 (releaseEntry e (s.frameEnded done)) = doReset .requested (s.frameEnded done) :=
      settle_releases 65535 (releases_entry e _) settled.1 ⟨e, List.mem_singleton_self e, reset⟩
    refine ⟨_, by rw [ended, upTxComplete_sending line, resets], ?_⟩
    have same : doReset .requested (s.frameEnded done) = doReset .requested { s with now := max s.now done } :=
      doReset_congr _ rfl rfl rfl rfl rfl rfl rfl
    rw [same]; exact resetTo_doReset _ _
  · have resets := settle_releases 65535 (releases_foldl s.upFrames s.upEmptied) settled.1 ⟨e, mem_upFrames place, reset⟩
    exact ⟨_, by rw [exec_uPresentFalls settled, resets], resetTo_upEmptied _ s⟩
  · have frames : s.upFrames = [e] := by
      unfold State.upFrames
      cases line : s.up.line with
      | sending x done => exact absurd line (noLine x done)
      | idle => exact tx
      | stretch due => exact tx
    have freed : s.upFrames.foldl (fun s e => releaseEntry e s) s.upEmptied = { s.upEmptied with
        up := { s.upEmptied.up with replyTaken := 23 }, takeDue := true } := by
      rw [frames, List.foldl_cons, List.foldl_nil, releaseEntry_reply _ group unmarked,
        show s.upEmptied.up.replyTaken = 24 from full]
    have head : takeHead { s.upEmptied with up := { s.upEmptied.up with replyTaken := 23 }, takeDue := false } =
        releaseEntry { frame := replyFrame (requestFrame 0x43 tag []) stOk [], group := .reply, reset := true }
          { s.upEmptied with up := { s.upEmptied.up with rx := [], replyTaken := 24 }, takeDue := false,
                             resetWaiting := true } := by
      have command : (requestFrame 0x43 tag []).kind = kindCommand := rfl
      unfold takeHead
      rw [show s.upEmptied.up.rx = [requestFrame 0x43 tag []] from rx]
      dsimp only
      rw [if_neg (by rintro ⟨-, le⟩; exact absurd le (by decide)), if_pos command, wake_active (by exact active)]
      exact reqResetPart_accepts (s := { s.upEmptied with
        up := { s.upEmptied.up with rx := [], replyTaken := 24 }, takeDue := false }) _ waiting off
    have resets := settle_releases 65534 (releases_entry
      { frame := replyFrame (requestFrame 0x43 tag []) stOk [], group := .reply, reset := true }
      { s.upEmptied with up := { s.upEmptied.up with rx := [], replyTaken := 24 }, takeDue := false, resetWaiting := true })
      up.settled.1 ⟨_, List.mem_singleton_self _, rfl⟩
    refine ⟨_, ?_, resetTo_upEmptied _ s⟩
    rw [exec_uPresentFalls up.settled, freed, settle_take 65535 (by exact up.settled.1) rfl, head, resets]
    exact congrArg _ (doReset_congr _ rfl rfl rfl rfl rfl rfl rfl)

end Sys2Proof.Machine
end

section
/-! Frames received on port U and its presence (R120 to R125). -/

namespace Sys2Proof.Machine

/-! ### What the receiver does with a frame (R120, R121) -/

/-- A run of n bytes is received if it began after U_PRESENT last rose (R121, R125; log 48). -/
theorem hears_iff (s : State) (n : Nat) : s.hears n = true ↔
    s.phase = .running ∧ s.up.present = true ∧ ∀ r, s.up.rise = some r → r + 5 * n ≤ s.now := by
  unfold State.hears
  cases s.up.rise with
  | none => simp
  | some t =>
    simp only [Bool.and_eq_true, beq_iff_eq, Option.some.injEq, forall_eq', and_assoc]
    exact and_congr_right (fun _ => and_congr_right (fun _ => decide_eq_true_iff))

theorem hears_false {s : State} {n : Nat}
    (h : s.phase ≠ .running ∨ s.up.present = false ∨ ∃ r, s.up.rise = some r ∧ s.now < r + 5 * n) : s.hears n = false := by
  refine Bool.eq_false_iff.mpr (fun hears => ?_)
  obtain ⟨running, present, began⟩ := (hears_iff s n).mp hears
  rcases h with off | low | ⟨r, rise, early⟩
  · exact off running
  · rw [present] at low; cases low
  · exact absurd (began r rise) (Nat.not_le.mpr early)

theorem receiveUpBytes_frame {f : Frame} (ok : f.ok = true) : receiveUpBytes f.bytes = receiveUp f := by
  funext s
  unfold receiveUpBytes
  rw [framesAreReadBack f ok]

theorem receiveUp_deaf {f : Frame} {s : State} (h : s.hears (f.payload.length + 7) = false) : receiveUp f s = s := by
  unfold receiveUp
  rw [h]; rfl

theorem receiveUp_full {f : Frame} {s : State} (h : s.hears (f.payload.length + 7) = true) (ok : f.ok = true)
    (full : 4 ≤ s.up.rx.length) : receiveUp f s = raise .linkError s := by
  unfold receiveUp
  rw [h, ok]; exact if_pos full

theorem receiveUp_joins {f : Frame} {s : State} (h : s.hears (f.payload.length + 7) = true) (ok : f.ok = true)
    (place : s.up.rx.length < 4) :
    receiveUp f s = { s with up := { s.up with rx := s.up.rx ++ [f] }, takeDue := true } := by
  unfold receiveUp
  rw [h, ok]; exact if_neg (Nat.not_le.mpr place)

/-! ### The receive queue's head (R122) -/

/-- A command waits at the head while no reply place is free. -/
theorem settle_takeWaits (n : Nat) {s : State} {f : Frame} {l : List Frame} (h : s.agenda = []) (due : s.takeDue = true)
    (rx : s.up.rx = f :: l) (command : f.kind = kindCommand) (full : 24 ≤ s.up.replyTaken) :
    settle (n + 1) s = { s with takeDue := false } := by
  have waits : takeHead { s with takeDue := false } = { s with takeDue := false } := by
    unfold takeHead
    dsimp only
    rw [rx]
    exact if_pos ⟨command, full⟩
  rw [settle_take n h due, waits]
  exact settle_settled n ⟨h, rfl⟩

/-- A command at the head takes a reply place and goes where it is addressed. -/
theorem takeHead_command {s : State} {f : Frame} {l : List Frame} (rx : s.up.rx = f :: l) (command : f.kind = kindCommand)
    (place : s.up.replyTaken < 24) :
    takeHead s = routeUp s.mode f (wake { s with
      up := { s.up with rx := l, replyTaken := s.up.replyTaken + 1 }, takeDue := !l.isEmpty }) := by
  unfold takeHead
  rw [rx]
  dsimp only
  rw [if_neg (fun h => absurd h.2 (Nat.not_le.mpr place)), if_pos command]

/-- A frame of another kind is discarded. -/
theorem takeHead_other {s : State} {f : Frame} {l : List Frame} (rx : s.up.rx = f :: l) (other : f.kind ≠ kindCommand) :
    takeHead s = later (.raise .linkError) (wake { s with up := { s.up with rx := l }, takeDue := !l.isEmpty }) := by
  unfold takeHead
  rw [rx]
  dsimp only
  rw [if_neg (fun h => other h.1), if_neg other]
  exact if_pos other

theorem routeUp_request (m : Mode) {f : Frame} (s : State) (command : f.kind = kindCommand) (src : f.src = 7)
    (dest : f.dest = 0) : routeUp m f s = request m f s := by
  unfold routeUp
  rw [if_neg (not_not_intro command), if_neg (not_not_intro src), if_pos dest]

theorem frame_of_length {f : Frame} (ok : f.ok = true) : f.payload.length + 7 ≤ 67 := by
  have := ok_length ok
  omega

/-! ### O30 -/

theorem exec_upstreamFrameReceived {f : Frame} (ok : f.ok = true) (s : State) :
    exec (.upstreamFrameReceived f.bytes) s = event (receiveUp f) s := by
  show event (receiveUpBytes f.bytes) s = _
  rw [receiveUpBytes_frame ok]

theorem receiveUpMalformed_plain {s : State} (h : s.Settled) (bytes : List Byte) (bad : frameOfBytes bytes = none) :
    exec (.malformedFrame .u bytes) s = .next (receiveUpMalformed bytes.length s) := by
  have runs : receiveRun .u bytes s = receiveUpMalformed bytes.length s := by
    show receiveUpBytes bytes s = _
    unfold receiveUpBytes
    rw [bad]
  rw [← runs]
  refine event_plain h ?_
  rw [runs]
  unfold receiveUpMalformed
  split
  · exact settled_raise _ h
  · exact h

theorem receiveRun_down (p : Port) {s : State} {bytes : List Byte} (bad : frameOfBytes bytes = none) :
    receiveRun (.d p) bytes s = if s.phase = .running ∧ ((s.port p).link = .exchange ∨ (s.port p).link = .up)
      then later (.raise .linkError) s else s := by
  show receiveDownBytes p bytes s = _
  unfold receiveDownBytes
  rw [bad]

/-- Settles O30: what the receiver and then the queue's head do with a frame, case by case. -/
theorem receivedFramesAreTakenQueuedOrLost : Obligations.ReceivedFramesAreTakenQueuedOrLost := by
  refine ⟨fun s f n settled ok hn => ⟨fun deaf => ?_, fun running present began => ?_, fun ready other => ?_,
    fun ready command src dest unsized => ?_⟩, fun s bytes settled running bad => ⟨fun present began => ?_, fun deaf => ?_,
    fun p listens => ?_, fun p deaf => ?_⟩⟩
  · subst hn
    have same := receiveUp_deaf (hears_false deaf)
    rw [exec_upstreamFrameReceived ok, event_plain settled (by rw [same]; exact settled), same]
  · subst hn
    have hears := (hears_iff s _).mpr ⟨running, present, began⟩
    rw [exec_upstreamFrameReceived ok]
    refine ⟨fun full => ?_, fun g l rx place command full => ?_, fun rx command full => ?_⟩
    · have lost := receiveUp_full hears ok full
      rw [event_plain settled (by rw [lost]; exact settled_raise _ settled), lost]
    · have front : s.up.rx ++ [f] = g :: (l ++ [f]) := by rw [rx]; rfl
      rw [event_settled settled, receiveUp_joins hears ok place]
      refine congrArg _ ((settle_takeWaits 65535 ?_ rfl front command ?_).trans ?_)
      · exact settled.1
      · exact full
      · simp only [← settled.2]
    · have front : s.up.rx ++ [f] = [f] := by rw [rx]; rfl
      rw [event_settled settled, receiveUp_joins hears ok (by rw [rx]; exact Nat.zero_lt_succ _)]
      refine congrArg _ ((settle_takeWaits 65535 ?_ rfl front command ?_).trans ?_)
      · exact settled.1
      · exact full
      · simp only [← settled.2, front]
  · have joins := receiveUp_joins (hears_ready ready _ (frame_of_length ok)) ok (by rw [ready.emptyRx]; exact Nat.zero_lt_succ _)
    have front : s.up.rx ++ [f] = [f] := by rw [ready.emptyRx]; rfl
    have discarded : takeHead { s with up := { s.up with rx := s.up.rx ++ [f] }, takeDue := false } =
        later (.raise .linkError) { s with mode := .active } := by
      rw [takeHead_other front other, wake_quiet (by exact ready.noWake)]
      simp only [List.isEmpty_nil, Bool.not_true, ← ready.settled.2]
      rw [← ready.emptyRx]
    rw [exec_upstreamFrameReceived ok, event_settled ready.settled, joins]
    refine congrArg _ ((settle_take 65535 (by exact ready.settled.1) (by rfl)).trans ?_)
    rw [discarded]
    exact settle_one 65534 _ (by exact ready.settled) rfl (settled_raise _ (by exact ready.settled))
  · rw [exec_upstreamFrameReceived ok, event_receive ready ok command, routeUp_request _ _ command src dest,
      request_unsized _ _ _ unsized, settle_answer _ ready]
  · rw [receiveUpMalformed_plain settled bytes bad, receiveUpMalformed,
      if_pos ((hears_iff s _).mpr ⟨running, present, began⟩)]
  · rw [receiveUpMalformed_plain settled bytes bad, receiveUpMalformed, hears_false (Or.inr deaf)]; rfl
  · have discards : receiveRun (.d p) bytes s = later (.raise .linkError) s := by
      rw [receiveRun_down p bad, if_pos ⟨running, listens⟩]
    exact event_raise settled discards settled (settled_raise _ settled)
  · have ignored : receiveRun (.d p) bytes s = s := by
      rw [receiveRun_down p bad, if_neg]
      rintro ⟨-, exchange | up⟩
      · rcases deaf with down | failed
        · rw [down] at exchange; cases exchange
        · rw [failed] at exchange; cases exchange
      · rcases deaf with down | failed
        · rw [down] at up; cases up
        · rw [failed] at up; cases up
    have plain : exec (.malformedFrame (.d p) bytes) s = .next (receiveRun (.d p) bytes s) :=
      event_plain settled (by rw [ignored]; exact settled)
    rw [plain, ignored]

/-! ### U_PRESENT (R125) -/

/-- U_PRESENT low, with every frame discarded and `n` reply places freed (R125). -/
def State.upFallen (s : State) (n : Nat) : State :=
  { s.upEmptied with up := { s.upEmptied.up with replyTaken := s.up.replyTaken - n } }

theorem exec_uPresentFalls_unmarked {s : State} (h : s.Settled) (unmarked : ∀ e ∈ s.upFrames, e.reset = false) :
    exec .uPresentFalls s = .next (settle 65536
      { s.upFallen (s.upFrames.filter (fun x => x.group == .reply)).length with
        takeDue := s.upFrames.any (fun x => x.group == .reply) }) := by
  rw [exec_uPresentFalls h, foldl_releaseEntry _ _ unmarked]
  show Host.Outcome.next (settle 65536 { s.upFallen _ with takeDue := s.takeDue || _ }) = _
  rw [h.2, Bool.false_or]

/-- While U_PRESENT is low a reply is discarded as it is made, and its place is free again (R123, R125). -/
theorem answer_absent {s : State} (f : Frame) (st : Byte) (absent : s.up.present = false) :
    answer f st s = { s with up := { s.up with replyTaken := s.up.replyTaken - 1 }, takeDue := true } := by
  unfold answer placeUp
  rw [absent]
  exact releaseEntry_reply (e := replyEntry (replyFrame f st [])) s rfl rfl

/-- A command for no board at the head: taken, and its reply discarded (R122, R125). -/
theorem takeHead_absent {s : State} {f : Frame} {l : List Frame} (rx : s.up.rx = f :: l) (command : f.kind = kindCommand)
    (wrong : f.src ≠ 7 ∨ 6 ≤ f.dest.toNat) (active : s.mode = .active) (absent : s.up.present = false)
    (place : s.up.replyTaken < 24) : takeHead s = { s with up := { s.up with rx := l }, takeDue := true } := by
  rw [takeHead_command rx command place, wake_active (by exact active), routeUp_badAddress _ _ command wrong,
    answer_absent _ _ (by exact absent)]
  rfl

/-- A receive queue of such commands is emptied, one by one. -/
theorem settle_takeAllAbsent (n : Nat) (l : List Frame) : ∀ {s : State}, s.up.rx = l → s.agenda = [] → s.takeDue = true →
    (∀ f ∈ l, f.kind = kindCommand ∧ (f.src ≠ 7 ∨ 6 ≤ f.dest.toNat)) → s.mode = .active → s.up.present = false →
    s.up.replyTaken < 24 → settle (n + l.length + 1) s = { s with up := { s.up with rx := [] }, takeDue := false } := by
  induction l with
  | nil =>
    intro s rx h due _ _ _ _
    rw [settle_takeEmpty _ h due rx]
    rw [← rx]
  | cons f l ih =>
    intro s rx h due wrong active absent place
    obtain ⟨command, wrongHead⟩ := wrong f List.mem_cons_self
    have taken := takeHead_absent (s := { s with takeDue := false }) rx command wrongHead active absent place
    rw [settle_take _ h due, taken]
    exact ih (s := { s with up := { s.up with rx := l }, takeDue := true }) rfl h rfl
      (fun g mem => wrong g (List.mem_cons_of_mem f mem)) active absent place

theorem uPresentRise_eq (s : State) : uPresentRise s = { s with up := { s.up with
    present := true, rise := if s.up.present then s.up.rise else some s.now } } := rfl

/-- Settles O32: the discarded frames' places, and the queue's head taken behind a freed one. -/
theorem upstreamPresenceEmptiesAndListens : Obligations.UpstreamPresenceEmptiesAndListens := by
  refine ⟨fun s l settled hl unmarked => ?_, fun s settled => ?_⟩
  · obtain rfl : l = s.upFrames := hl.trans (by unfold State.upFrames; cases s.up.line <;> rfl)
    have falls := exec_uPresentFalls_unmarked settled unmarked
    generalize freed : (s.upFrames.filter (fun x => x.group == .reply)).length = n at falls ⊢
    refine ⟨s.upFallen n, rfl, rfl, rfl, rfl, rfl, fun e done line => ?_, fun free => ?_, rfl, falls, fun nothing => ?_,
      fun reply active places length wrong => ?_⟩
    · show s.up.line.cutAt s.now = _
      rw [line]; rfl
    · show s.up.line.cutAt s.now = _
      cases line : s.up.line with
      | idle => rfl
      | sending e done => exact absurd line (free e done)
      | stretch due => rfl
    · rw [falls]
      cases any : s.upFrames.any (fun x => x.group == .reply) with
      | false => exact congrArg _ ((settle_settled (s := { s.upFallen n with takeDue := false }) _ ⟨settled.1, rfl⟩).trans
          (by rw [← settled.2]; rfl))
      | true =>
        have empty : s.up.rx = [] := nothing.resolve_right (fun others => by
          obtain ⟨e, mem, group⟩ := List.any_eq_true.mp any
          exact others e mem (beq_iff_eq.mp group))
        refine congrArg _ ((settle_takeEmpty 65535 (by exact settled.1) rfl (by exact empty)).trans ?_)
        rw [← settled.2]; rfl
    · obtain ⟨e, mem, group⟩ := reply
      have any : s.upFrames.any (fun x => x.group == .reply) = true := List.any_eq_true.mpr ⟨e, mem, beq_iff_eq.mpr group⟩
      have some : 0 < n := freed ▸ List.length_pos_of_mem (List.mem_filter.mpr ⟨mem, beq_iff_eq.mpr group⟩)
      have fuel : 65536 = (65535 - s.up.rx.length) + s.up.rx.length + 1 := by omega
      rw [falls, any, fuel]
      refine congrArg _ ((settle_takeAllAbsent (s := { s.upFallen n with takeDue := true }) _ s.up.rx ?_ ?_ rfl wrong
        active rfl ?_).trans ?_)
      · rfl
      · exact settled.1
      · show s.up.replyTaken - n < 24
        omega
      · rw [← settled.2]; rfl
  · have plain : exec .uPresentRises s = .next (uPresentRise s) := event_plain settled settled
    rw [plain, uPresentRise_eq]
    refine ⟨fun low => ?_, fun high => ?_⟩
    · rw [low]; rfl
    · rw [if_pos high, ← high]

end Sys2Proof.Machine
end

section
/-! The transmit arbiter's grants, the commands forwarded through it and what decides them (R138 to R149). -/

namespace Sys2Proof.Machine

/-! ### One grant (R138, R139) -/

theorem owner_free {x : PortRec} (h : x.line = .free) : x.owner = none := by
  unfold PortRec.owner
  rw [h]

theorem headEligible_iff (s : State) (p : Port) : s.headEligible p = true ↔
    s.queue p ≠ [] ∧ (s.outs p).length < 4 ∧ (s.port p).owner ≠ some .forward := by
  unfold State.headEligible
  simp only [Bool.and_eq_true, Bool.not_eq_true', List.isEmpty_eq_false_iff, bne_iff_ne, and_assoc]
  exact and_congr_right (fun _ => and_congr_left (fun _ => decide_eq_true_iff))

theorem headEligible_empty {s : State} {p : Port} (empty : s.queue p = []) : s.headEligible p = false :=
  Bool.eq_false_iff.mpr (fun h => ((headEligible_iff s p).mp h).1 empty)

/-- The forward head has waited for its fair turn (R139). -/
theorem nextClaimant_due {s : State} {p : Port} (head : s.headEligible p = true)
    (due : (s.port p).fair ≤ (s.port p).fairCount) : s.nextClaimant p = some .forward := by
  unfold State.nextClaimant
  rw [if_pos (by rw [head, decide_eq_true due]; rfl)]

/-- The claimant by kind where the forward head is not due (R138). -/
theorem nextClaimant_undue {s : State} {p : Port}
    (undue : s.headEligible p = false ∨ (s.port p).fairCount < (s.port p).fair) :
    s.nextClaimant p = match (s.port p).railPlaces with
      | r :: _ => some (.rail r)
      | [] => if (s.port p).probeWaiting then some .probe else if (s.port p).seqOffer.isSome then some .sequencer
          else if s.headEligible p then some .forward else none := by
  have notDue : ¬ (s.headEligible p && decide ((s.port p).fair ≤ (s.port p).fairCount)) = true := by
    intro h
    obtain ⟨head, due⟩ := Bool.and_eq_true_iff.mp h
    rcases undue with none | early
    · rw [none] at head; cases head
    · exact absurd (of_decide_eq_true due) (Nat.not_le.mpr early)
  unfold State.nextClaimant
  exact if_neg notDue

theorem arbitrate_grants {s : State} {p : Port} {c : Claimant} (free : (s.port p).line = .free)
    (link : (s.port p).link = .up ∨ (s.port p).link = .exchange) (next : s.nextClaimant p = some c) :
    arbitrate p s = grant p c s := by
  have listens : ((s.port p).link == .up || (s.port p).link == .exchange) = true := by
    rcases link with up | exchange
    · rw [up]; rfl
    · rw [exchange]; rfl
  unfold arbitrate
  dsimp only
  rw [listens, free, next]; rfl

theorem arbitrate_busy {s : State} {p : Port} (busy : (s.port p).line ≠ .free) : arbitrate p s = s := by
  unfold arbitrate
  dsimp only
  rw [decide_eq_false busy]; rfl

theorem arbitrate_rests {s : State} {p : Port} (next : s.nextClaimant p = none) : arbitrate p s = s := by
  unfold arbitrate
  dsimp only
  rw [next]; exact ite_self s

/-- The transmitter starts on the claimant's frame at once (R138). -/
theorem grant_port_line {s : State} {p : Port} {c : Claimant} {f : Frame} (claimed : s.claimedFrame p c = some f) :
    ((grant p c s).port p).line = .sending (some c) f (s.now + f.time) := by
  unfold grant refillPlaces
  rw [claimed]
  simp

theorem grant_port_fairCount {s : State} {p : Port} {c : Claimant} {f : Frame} (claimed : s.claimedFrame p c = some f) :
    ((grant p c s).port p).fairCount = fairAfter c (s.headEligible p) (s.port p).fairCount := by
  unfold grant refillPlaces
  rw [claimed]
  simp

/-- A grant changes the port's record alone. -/
theorem arbitrate_rest (p : Port) (s : State) : { arbitrate p s with ports := s.ports } = s := by
  ext <;> simp

theorem Frame.time_eq (f : Frame) : f.time = 5 * (f.payload.length + 7) := rfl

/-! ### TRANSMITTER_FREE -/

/-- The lane of port `p` is free at `now`. -/
def State.laneFree (s : State) (p : Port) (now : Time) : State :=
  modPort p (fun x => { x with line := .free }) { s with now := now }

theorem transmitterFree_eq {s : State} {p : Port} {due : Time} (rests : (s.port p).line = .stretch due) :
    transmitterFree p s = arbitrate p (s.laneFree p (max s.now due)) := by
  unfold transmitterFree
  rw [rests]; rfl

theorem laneFree_port (s : State) (p : Port) (now : Time) :
    (s.laneFree p now).port p = { s.port p with line := .free } := by
  unfold State.laneFree
  rw [port_modPort_self]; rfl

/-- Settles O39: the claimant that the grant goes to, and its frame. -/
theorem transmitterGrantsByPriority : Obligations.TransmitterGrantsByPriority := by
  intro s p due x n settled hx rests link hn
  subst hx
  have free : exec (.transmitterFree p) s = .next (transmitterFree p s) :=
    event_plain settled (by rw [transmitterFree_eq rests]; exact ⟨by simp [State.laneFree, settled.1], by simp [State.laneFree, settled.2]⟩)
  generalize hv : s.laneFree p (max s.now due) = v
  have port : v.port p = { s.port p with line := .free } := by rw [← hv, laneFree_port]
  have queue : v.queue p = s.queue p := by rw [← hv]; rfl
  have outs : v.outs p = s.outs p := by rw [← hv]; rfl
  have rail : ∀ r, v.rail r = s.rail r := fun r => by rw [← hv]; rfl
  have now : v.now = max s.now due := by rw [← hv]; rfl
  have head : v.headEligible p = true ↔ n = 1 := by
    rw [headEligible_iff, queue, outs, port, hn]
    have owner : ({ s.port p with line := .free } : PortRec).owner = none := rfl
    rw [owner]
    by_cases waits : s.queue p ≠ [] ∧ (s.outs p).length < 4
    · simp [waits]
    · rw [if_neg waits]
      exact ⟨fun h => absurd ⟨h.1, h.2.1⟩ waits, fun h => absurd h (by decide)⟩
  have zeroOrOne : n = 0 ∨ n = 1 := by rw [hn]; split <;> simp
  have fair : ∀ c k, fairAfter c (v.headEligible p) k = n * fairAfter c true k := fun c k => by
    cases eligible : v.headEligible p with
    | true => rw [head.mp eligible, Nat.one_mul]
    | false =>
      have none : n = 0 := (zeroOrOne.resolve_right (fun one => by rw [head.mpr one] at eligible; cases eligible))
      rw [none, Nat.zero_mul]; rfl
  have starts : ∀ c f, v.nextClaimant p = some c → v.claimedFrame p c = some f →
      ((arbitrate p v).port p).line = .sending (some c) f (max s.now due + f.time) ∧
      ((arbitrate p v).port p).fairCount = n * fairAfter c true (s.port p).fairCount := fun c f next claimed => by
    rw [arbitrate_grants (by rw [port]) (by rw [port]; exact link) next, grant_port_line claimed, grant_port_fairCount claimed,
      fair, now, port]
    exact ⟨rfl, rfl⟩
  have undueNext : (n = 0 ∨ (s.port p).fairCount < (s.port p).fair) → v.nextClaimant p = match (s.port p).railPlaces with
      | r :: _ => some (.rail r)
      | [] => if (s.port p).probeWaiting then some .probe else if (s.port p).seqOffer.isSome then some .sequencer
          else if v.headEligible p then some .forward else none := fun undue => by
    rw [nextClaimant_undue, port]
    rw [port]
    exact undue.imp_left (fun none => Bool.eq_false_iff.mpr (fun h => by rw [head.mp h] at none; cases none))
  refine ⟨arbitrate p v, by rw [free, transmitterFree_eq rests, hv], fun q other => ?_, ?_, ?_, fun c l waits eligible due => ?_,
    fun undue => ⟨fun r l places => ?_, fun places probe => ?_, fun f places probe offer => ?_,
      fun c l places probe offer waits eligible => ?_, fun places probe offer none => ?_⟩⟩
  · rw [arbitrate_other other, ← hv]; exact modPort_other _ other _
  · rw [arbitrate_now, now]
  · obtain ⟨ps, only⟩ := arbitrate_ports p v
    rw [only, ← hv]; rfl
  · have next := nextClaimant_due (head.mpr eligible) (by rw [port]; exact due)
    exact starts .forward c.frame next (by unfold State.claimedFrame; rw [queue, waits]; rfl)
  · exact starts (.rail r) _ (by rw [undueNext undue, places]) (by show some (railFrameOf p r (v.rail r)) = _; rw [rail])
  · exact (starts .probe _ (by rw [undueNext undue, places]; exact if_pos probe)
      (by unfold State.claimedFrame; rw [port])).1
  · exact starts .sequencer f.frame (by rw [undueNext undue, places, offer, probe]; rfl)
      (by unfold State.claimedFrame; rw [port]; show (s.port p).seqOffer.map _ = _; rw [offer]; rfl)
  · exact starts .forward c.frame (by rw [undueNext undue, places, offer, probe, head.mpr eligible]; rfl)
      (by unfold State.claimedFrame; rw [queue, waits]; rfl)
  · have ineligible : v.headEligible p = false :=
      Bool.eq_false_iff.mpr (fun h => by rw [head.mp h] at none; cases none)
    rw [arbitrate_rests (by rw [undueNext undue, places, offer, probe, ineligible]; rfl), port]

end Sys2Proof.Machine
end

section
/-! Commands for the boards: what decides them, and FORWARD_COMMAND (R141 to R149). CLEAR_FAULT (R23). -/

namespace Sys2Proof.Machine

/-! ### The parts of a condition (R148) -/

theorem allOn_iff (s : State) (b : BitVec 24) :
    s.allOn b = true ↔ ∀ q, inSet b q = true → s.railState q = .on := by
  unfold State.allOn railsOf
  simp only [allRails, List.all_eq_true, List.mem_filter, List.mem_finRange, true_and, beq_iff_eq]

theorem effectReady_on (s : State) (r : RailId) : s.effectReady (some (r, true)) = true ↔
    s.railState r ≠ .fault ∧ ∀ q, inSet (s.rail r).static.prereqs q = true → s.railState q = .on := by
  show (s.railState r != .fault && s.allOn (s.rail r).static.prereqs) = true ↔ _
  rw [Bool.and_eq_true, bne_iff_ne, allOn_iff]

theorem effectReady_off (s : State) (r : RailId) : s.effectReady (some (r, false)) = true ↔
    ∀ d, (s.rail d).static.used = true → inSet (s.rail d).static.prereqs r = true → (s.rail d).dyn.state = .off := by
  show (s.dependents r).all (fun d => s.railState d == .off) = true ↔ _
  rw [List.all_eq_true]
  refine forall_congr' (fun d => ?_)
  rw [mem_dependents, beq_iff_eq, and_imp]
  exact forall_congr' (fun used => by rw [railState_used used])

theorem railHeld_iff (s : State) (r : RailId) : s.railHeld r = true ↔
    (s.rail r).static.used = true ∧ ((s.rail r).dyn.claim ≠ .none ∨ (s.rail r).dyn.frame ≠ none) := by
  unfold State.railHeld
  rw [Bool.and_eq_true, Bool.or_eq_true, bne_iff_ne, Option.isSome_iff_ne_none]

/-- The condition of a command that asks for one (R148). -/
theorem unmet_of {s : State} {c : Cmd} (asks : c.action ≠ .pass) : s.unmet c =
    if s.allOn c.prereqs = true ∧ s.effectReady c.effect = true then
      match c.effect with
      | some (r, _) => if s.railHeld r then some .claimed else none
      | none => none
    else some .prereq := by
  unfold State.unmet
  rw [if_neg asks]
  cases s.allOn c.prereqs <;> cases s.effectReady c.effect <;> rfl

theorem unmet_eq_prereq {s : State} {c : Cmd} (asks : c.action ≠ .pass)
    (fails : s.allOn c.prereqs = false ∨ s.effectReady c.effect = false) : s.unmet c = some .prereq := by
  rw [unmet_of asks, if_neg]
  rintro ⟨on, ready⟩
  rcases fails with off | unready
  · rw [on] at off; cases off
  · rw [ready] at unready; cases unready

theorem unmet_eq_none {s : State} {c : Cmd} (asks : c.action ≠ .pass) : s.unmet c = none ↔
    (∀ q, inSet c.prereqs q = true → s.railState q = .on) ∧
      ∀ r on, c.effect = some (r, on) → s.railHeld r = false ∧ s.effectReady (some (r, on)) = true := by
  rw [← allOn_iff]
  cases on : s.allOn c.prereqs with
  | false => simp [unmet_eq_prereq asks (Or.inl on)]
  | true =>
    rw [unmet_of asks, on]
    cases effect : c.effect with
    | none => simp [State.effectReady]
    | some x =>
      obtain ⟨r, isOn⟩ := x
      cases ready : s.effectReady (some (r, isOn)) with
      | false =>
        refine iff_of_false (by simp) (fun h => ?_)
        rw [(h.2 r isOn rfl).2] at ready; cases ready
      | true =>
        cases held : s.railHeld r with
        | false =>
          refine iff_of_true (by simp [held]) ⟨rfl, fun q o eq => ?_⟩
          cases eq; exact ⟨held, ready⟩
        | true =>
          refine iff_of_false (by simp [held]) (fun h => ?_)
          rw [(h.2 r isOn rfl).1] at held; cases held

/-! ### The verdict -/

theorem shedBlocked_iff (s : State) (c : Cmd) :
    s.shedBlocked c = true ↔ 1 ≤ c.shedClass ∧ c.shedClass ≤ s.fwd.shedLevel := by
  unfold State.shedBlocked
  rw [Bool.and_eq_true, decide_eq_true_iff, decide_eq_true_iff]

theorem verdict_shed {s : State} {c : Cmd} (h : s.shedBlocked c = true) :
    s.verdict c = if c.action = .hold then .keep .shed else .refuse stRefusedShed := by
  unfold State.verdict
  rw [if_pos h]

theorem verdict_unshed {s : State} {c : Cmd} (h : s.shedBlocked c = false) :
    s.verdict c = match s.unmet c with
      | some x => if c.action = .hold then .keep x else .refuse stRefusedRail
      | none => .ready := by
  unfold State.verdict
  rw [h]
  cases s.unmet c <;> rfl

theorem unmet_pass {s : State} {c : Cmd} (pass : c.action = .pass) : s.unmet c = none := if_pos pass

/-! ### The admission entry of a command (R143, R144) -/

theorem findAdmit_some {s : State} {p : Port} {k : Option Byte} {i : Fin 64} (h : s.findAdmit p k = some i) :
    ∃ e, s.fwd.admission.get i = some e ∧ e.port = p ∧ e.cls = k := by
  have found := List.find?_some h
  cases entry : s.fwd.admission.get i with
  | none => rw [entry] at found; cases found
  | some e =>
    rw [entry, Bool.and_eq_true, beq_iff_eq, beq_iff_eq] at found
    exact ⟨e, rfl, found⟩

theorem findAdmit_none {s : State} {p : Port} {k : Option Byte} : s.findAdmit p k = none ↔
    ∀ j x, s.fwd.admission.get j = some x → x.port = p → x.cls ≠ k := by
  unfold State.findAdmit
  rw [List.find?_eq_none]
  refine ⟨fun h j x entry port cls => ?_, fun h j _ => ?_⟩
  · refine h j (List.mem_finRange j) ?_
    rw [entry, Bool.and_eq_true, beq_iff_eq, beq_iff_eq]
    exact ⟨port, cls⟩
  · cases entry : s.fwd.admission.get j with
    | none => exact Bool.false_ne_true
    | some x =>
      rw [Bool.and_eq_true, beq_iff_eq, beq_iff_eq]
      exact fun ⟨port, cls⟩ => h j x entry port cls

theorem lookup_some {s : State} {p : Port} {c : Byte} {i : Fin 64} (h : s.lookup p c = some i) :
    s.findAdmit p (some c) = some i ∨ (s.findAdmit p (some c) = none ∧ s.findAdmit p none = some i) := by
  unfold State.lookup at h
  cases own : s.findAdmit p (some c) with
  | some j => rw [own] at h; exact Or.inl h
  | none => rw [own] at h; exact Or.inr ⟨rfl, h⟩

theorem lookup_none {s : State} {p : Port} {c : Byte} :
    s.lookup p c = none ↔ s.findAdmit p (some c) = none ∧ s.findAdmit p none = none := by
  unfold State.lookup
  cases s.findAdmit p (some c) <;> simp

/-- The record of a command with no entry (R144). -/
theorem recordOf_none {s : State} {p : Port} {f : Frame} (h : s.lookup p f.cls = none) : s.recordOf p f =
    { frame := f, port := p, order := s.fwd.accepted, action := .pass, prereqs := 0, shedClass := 0,
      holdMs := s.fwd.orderHoldMs, effect := none, entry := none } := by
  unfold State.recordOf
  rw [h]; rfl

theorem recordOf_some {s : State} {p : Port} {f : Frame} {i : Fin 64} {e : AdmitEntry} (h : s.lookup p f.cls = some i)
    (entry : s.fwd.admission.get i = some e) : s.recordOf p f =
    { frame := f, port := p, order := s.fwd.accepted, action := e.action, prereqs := e.prereqs, shedClass := e.shedClass,
      holdMs := e.holdMs, effect := e.effect, entry := some i } := by
  unfold State.recordOf
  rw [h]
  dsimp only [Option.bind]
  rw [entry]

theorem recordOf_frame (s : State) (p : Port) (f : Frame) : (s.recordOf p f).frame = f := by
  unfold State.recordOf
  dsimp only
  split <;> rfl

theorem recordOf_port (s : State) (p : Port) (f : Frame) : (s.recordOf p f).port = p := by
  unfold State.recordOf
  dsimp only
  split <;> rfl

/-- Settles O34: the shed check, the condition's parts, and the entry that a command's record is made of. -/
theorem verdictFollowsShedThenCondition : Obligations.VerdictFollowsShedThenCondition := by
  refine ⟨fun s c => ⟨fun one le => verdict_shed ((shedBlocked_iff s c).mpr ⟨one, le⟩), fun open_ => ?_⟩,
    fun s p f noEntry => ?_, fun s p f => ⟨fun i e h entry => recordOf_some h entry, fun i h => ?_, ?_⟩,
    fun s r c => ⟨effectReady_on s r, effectReady_off s r, railHeld_iff s r, fun asks fails => ?_,
      fun on asks prereqs effect ready held => ?_⟩⟩
  · have unshed : s.shedBlocked c = false := Bool.eq_false_iff.mpr (fun h => by
      obtain ⟨one, le⟩ := (shedBlocked_iff s c).mp h
      omega)
    rw [verdict_unshed unshed]
    refine ⟨fun pass => by rw [unmet_pass pass], fun x unmet hold => by rw [unmet]; exact if_pos hold,
      fun x unmet refuse => by rw [unmet, refuse]; rfl, fun met => by rw [met], fun asks => unmet_eq_none asks⟩
  · rw [recordOf_none noEntry]
    refine ⟨rfl, ?_⟩
    rw [verdict_unshed (by rfl), unmet_pass rfl]
  · rcases lookup_some h with own | ⟨noOwn, any⟩
    · obtain ⟨e, entry, port, cls⟩ := findAdmit_some own
      exact ⟨e, entry, port, Or.inl cls⟩
    · obtain ⟨e, entry, port, cls⟩ := findAdmit_some any
      exact ⟨e, entry, port, Or.inr ⟨cls, findAdmit_none.mp noOwn⟩⟩
  · rw [lookup_none, findAdmit_none, findAdmit_none]
    exact ⟨fun h j x entry port => ⟨h.1 j x entry port, h.2 j x entry port⟩,
      fun h => ⟨fun j x entry port => (h j x entry port).1, fun j x entry port => (h j x entry port).2⟩⟩
  · refine unmet_eq_prereq asks (fails.imp_left (fun ⟨q, mem, off⟩ => ?_))
    exact Bool.eq_false_iff.mpr (fun h => off ((allOn_iff s _).mp h q mem))
  · rw [unmet_of asks, effect, if_pos ⟨(allOn_iff s _).mpr prereqs, ready⟩]
    exact if_pos held

/-! ### Intake (R147) -/

/-- The acceptance counter after one more command (R141). -/
def State.accepting (s : State) : State := { s with fwd := { s.fwd with accepted := s.fwd.accepted + 1 } }

theorem ready_accepting {s : State} (h : s.Ready) : s.accepting.Ready :=
  ⟨⟨h.settled, h.running⟩, h.present, h.listens, h.emptyRx, h.place, h.noWake⟩

theorem routeUp_port (m : Mode) {f : Frame} (s : State) (p : Port) (command : f.kind = kindCommand) (src : f.src = 7)
    (dest : f.dest = p.addr) : routeUp m f s = intake p f s := by
  have board : f.dest ≠ 0 := by rw [dest]; cases p <;> decide
  have number : f.dest.toNat = p.number := by rw [dest]; cases p <;> rfl
  unfold routeUp
  rw [if_neg (not_not_intro command), if_neg (not_not_intro src), if_neg board, number, portOf?_number]

theorem exec_forwardCommand {s : State} (h : s.Ready) (p : Port) (cls tag : Byte) {payload : List Byte}
    (fits : payload.length ≤ 60) : exec (.forwardCommand p cls tag payload) s =
      .next (settle 65535 (intake p (mkFrame p.addr 7 kindCommand cls tag payload) s.taken)) := by
  have received : exec (.forwardCommand p cls tag payload) s =
      .next (settle 65535 (routeUp s.mode (mkFrame p.addr 7 kindCommand cls tag payload) s.taken)) :=
    event_receive h (mkFrame_ok _ _ _ _ _ _ fits (by decide)) rfl
  rw [received, routeUp_port _ _ p rfl rfl rfl]

theorem intake_taken (p : Port) (f : Frame) (s : State) : intake p f s.taken =
    if !s.isUp p then answer f stLinkDown s.accepting.taken
    else if s.closed then answer f stRefusedCommit s.accepting.taken
    else if s.limit p < f.payload.length then answer f stTooLong s.accepting.taken
    else if s.tagTaken p f.tag then answer f stDupTag s.accepting.taken
    else decideCmd (s.recordOf p f) s.accepting.taken := rfl

theorem closed_iff (s : State) : s.closed = true ↔ s.rtu.stage = .commit ∨ s.rtu.stage = .dark := by
  unfold State.closed
  rw [Bool.or_eq_true, beq_iff_eq, beq_iff_eq]

theorem closed_false {s : State} (commit : s.rtu.stage ≠ .commit) (dark : s.rtu.stage ≠ .dark) : s.closed = false :=
  Bool.eq_false_iff.mpr (fun h => ((closed_iff s).mp h).elim commit dark)

/-! ### The decision (R149) -/

/-- A command joins the hold queue where a place is free, else it is answered. -/
theorem toHold_place (c : Cmd) (x : HoldReason) {s : State} (place : s.fwd.hold.length < 16) : toHold c x s =
    { s with fwd := { s.fwd with
      hold := s.fwd.hold ++ [{ cmd := c, reason := x, deadline := s.now + Config.ms c.holdMs }] } } :=
  if_neg (Nat.not_le.mpr place)

theorem toHold_full (c : Cmd) (x : HoldReason) {s : State} (full : 16 ≤ s.fwd.hold.length) :
    toHold c x s = answer c.frame stHoldFull s := if_pos full

theorem decideCmd_refuse {s : State} {c : Cmd} {st : Byte} (v : s.verdict c = .refuse st) :
    decideCmd c s = answer c.frame st s := by
  unfold decideCmd
  rw [v]

theorem decideCmd_hold {s : State} {c : Cmd} {x : HoldReason}
    (v : s.verdict c = .keep x ∨ (s.verdict c = .ready ∧ x = .order ∧ s.fwd.hold.any (fun e => e.cmd.port == c.port) = true)) :
    decideCmd c s = toHold c x s := by
  unfold decideCmd
  rcases v with keep | ⟨ready, rfl, behind⟩
  · rw [keep]
  · rw [ready]; exact if_pos behind

theorem decideCmd_full {s : State} {c : Cmd} (v : s.verdict c = .ready)
    (first : s.fwd.hold.any (fun e => e.cmd.port == c.port) = false) (full : 8 ≤ (s.queue c.port).length) :
    decideCmd c s = answer c.frame stPortFull s := by
  unfold decideCmd
  rw [v, first]; exact if_pos full

theorem decideCmd_forward {s : State} {c : Cmd} (v : s.verdict c = .ready)
    (first : s.fwd.hold.any (fun e => e.cmd.port == c.port) = false) (place : (s.queue c.port).length < 8) :
    decideCmd c s = toForward c s := by
  unfold decideCmd
  rw [v, first]; exact if_neg (Nat.not_le.mpr place)

/-- What a command changes as it joins its port's queue: that queue and that port's record. -/
theorem toForward_only (c : Cmd) (s : State) : { toForward c s with
    ports := s.ports, fwd := { (toForward c s).fwd with queues := s.fwd.queues } } = s := by
  obtain ⟨ps, only⟩ := arbitrate_ports c.port (setQueue c.port (s.queue c.port ++ [c]) s)
  unfold toForward
  rw [only]; rfl

/-- On an idle port the command's frame starts at once (R138, R156). -/
theorem toForward_starts {s : State} (c : Cmd) (empty : s.queue c.port = []) (place : (s.outs c.port).length < 4)
    (free : (s.port c.port).line = .free) (noRail : (s.port c.port).railPlaces = [])
    (noProbe : (s.port c.port).probeWaiting = false) (noSeq : (s.port c.port).seqOffer = none)
    (up : (s.port c.port).link = .up) :
    ((toForward c s).port c.port).line = .sending (some .forward) c.frame (s.now + c.frame.time) := by
  generalize hv : setQueue c.port (s.queue c.port ++ [c]) s = v
  have queue : v.queue c.port = [c] := by rw [← hv, queue_setQueue_self, empty]; rfl
  have outs : v.outs c.port = s.outs c.port := by rw [← hv]; rfl
  have port : v.port c.port = s.port c.port := by rw [← hv]; rfl
  have head : v.headEligible c.port = true := (headEligible_iff v c.port).mpr
    ⟨by rw [queue]; exact List.cons_ne_nil _ _, by rw [outs]; exact place, by rw [port, owner_free free]; exact Option.some_ne_none _ |>.symm⟩
  have next : v.nextClaimant c.port = some .forward := by
    by_cases due : (s.port c.port).fair ≤ (s.port c.port).fairCount
    · exact nextClaimant_due head (by rw [port]; exact due)
    · rw [nextClaimant_undue (Or.inr (by rw [port]; exact Nat.lt_of_not_le due)), port, noRail, noProbe, noSeq, head]; rfl
  have claimed : v.claimedFrame c.port .forward = some c.frame := by
    show (v.queue c.port).head?.map Cmd.frame = _
    rw [queue]; rfl
  have now : v.now = s.now := by rw [← hv]; rfl
  unfold toForward
  rw [hv, arbitrate_grants (by rw [port]; exact free) (by rw [port]; exact Or.inl up) next, grant_port_line claimed, now]

/-- Settles O33: intake's checks in order, then the decision's rows. -/
theorem forwardCommandIntakeAndDecision : Obligations.ForwardCommandIntakeAndDecision := by
  refine ⟨fun s p cls tag payload f t ready fits hf ht => ?_,
    fun s p cls tag payload f c t ready fits hf hc ht up commit dark limit tagFree => ?_⟩
  · obtain rfl : t = s.accepting := ht
    have ready' := ready_accepting ready
    rw [exec_forwardCommand ready p cls tag fits, ← hf, intake_taken]
    have len : f.payload.length = payload.length := by rw [hf]; rfl
    have tagOf : f.tag = tag := by rw [hf]; rfl
    rw [len, tagOf]
    refine ⟨fun down => ?_, fun up => ⟨fun shut => ?_, fun commit dark => ⟨fun long => ?_, fun short taken => ?_⟩⟩⟩
    · rw [down]
      exact congrArg _ (settle_answer _ ready' f _)
    · rw [up, if_neg (by decide), if_pos ((closed_iff s).mpr shut), settle_answer _ ready']
    · rw [up, if_neg (by decide), closed_false commit dark, if_neg (by decide), if_pos long, settle_answer _ ready']
    · rw [up, if_neg (by decide), closed_false commit dark, if_neg (by decide), if_neg (Nat.not_lt.mpr short), if_pos taken,
        settle_answer _ ready']
  · obtain rfl : t = s.accepting := ht
    have ready' := ready_accepting ready
    have frame : c.frame = f := by rw [hc, recordOf_frame]
    have port : c.port = p := by rw [hc, recordOf_port]
    have decided : exec (.forwardCommand p cls tag payload) s = .next (settle 65535 (decideCmd c s.accepting.taken)) := by
      rw [exec_forwardCommand ready p cls tag fits, ← hf, intake_taken, up, if_neg (by decide), closed_false commit dark,
        if_neg (by decide), if_neg (Nat.not_lt.mpr (by rw [hf]; exact limit)), if_neg (by rw [hf]; exact (Bool.eq_false_iff.mp tagFree)), ← hc]
    rw [decided]
    refine ⟨fun x held => ⟨fun place => ?_, fun full => ?_⟩, fun st refused => ?_, fun v first => ⟨fun full => ?_, fun place => ?_⟩⟩
    · rw [decideCmd_hold (by rw [port]; exact held), toHold_place c x (by exact place)]
      exact congrArg _ (settle_settled _ ready.settled)
    · rw [decideCmd_hold (by rw [port]; exact held), toHold_full c x (by exact full), frame, settle_answer _ ready']
    · rw [decideCmd_refuse (by exact refused), frame, settle_answer _ ready']
    · rw [decideCmd_full (by exact v) (by rw [port]; exact first) (by rw [port]; exact full), frame, settle_answer _ ready']
    · have settled : (toForward c s.accepting.taken).Settled := by
        unfold toForward
        exact ⟨by simp [ready'.settled.1, State.taken], by simp [ready'.settled.2, State.taken]⟩
      obtain ⟨-, queues, -, -⟩ := passLike_toForward c s.accepting.taken
      rw [decideCmd_forward (by exact v) (by rw [port]; exact first) (by rw [port]; exact place), settle_settled _ settled]
      refine ⟨_, rfl, ?_, fun q other => ⟨?_, ?_⟩, ?_, toForward_only c _, fun empty few free noRail noProbe noSeq => ?_⟩
      · rw [queues, if_pos port.symm]; rfl
      · rw [queues, if_neg (by rw [port]; exact other)]; rfl
      · unfold toForward
        rw [arbitrate_other (by rw [port]; exact other)]; rfl
      · unfold toForward
        rw [port, port_arbitrate_link]
        exact beq_iff_eq.mp up
      · have starts := toForward_starts (s := s.accepting.taken) c (by rw [port]; exact empty) (by rw [port]; exact few)
          (by rw [port]; exact free) (by rw [port]; exact noRail) (by rw [port]; exact noProbe) (by rw [port]; exact noSeq)
          (by rw [port]; exact beq_iff_eq.mp up)
        rw [port, frame, Frame.time_eq] at starts
        rw [starts, hf]; rfl

/-! ### CLEAR_FAULT (R23) -/

theorem exec_clearFault {s : State} (h : s.Ready) (tag rail : Byte) : exec (.clearFault tag rail) s =
    .next (settle 65535 (reqClearFault (requestFrame 0x12 tag [rail]) s.taken)) :=
  event_request 0x12 tag [rail] h (by simp)


theorem driveOutputs_en_of {s t : State} (r : RailId) (st : RailState) (static : (t.rail r).static = (s.rail r).static)
    (en : t.en = s.en) : (driveOutputs r st t).en = (driveOutputs r st s).en := by
  unfold driveOutputs
  rw [static]
  dsimp only
  cases (s.rail r).static.path <;> cases (s.rail r).static.discharge <;> simp [en]

theorem driveOutputs_dis_of {s t : State} (r : RailId) (st : RailState) (static : (t.rail r).static = (s.rail r).static)
    (dis : t.dis = s.dis) : (driveOutputs r st t).dis = (driveOutputs r st s).dis := by
  unfold driveOutputs
  rw [static]
  dsimp only
  cases (s.rail r).static.path <;> cases (s.rail r).static.discharge <;> simp [dis]

theorem enterState_en (r : RailId) (st : RailState) (s : State) : (enterState r st s).en = (driveOutputs r st s).en := by
  unfold enterState
  rw [followRail_en]
  exact driveOutputs_en_of r st (static_modDyn r r _ s) rfl

theorem enterState_dis (r : RailId) (st : RailState) (s : State) : (enterState r st s).dis = (driveOutputs r st s).dis := by
  unfold enterState
  rw [followRail_dis]
  exact driveOutputs_dis_of r st (static_modDyn r r _ s) rfl

/-- A rail that is neither ON nor RISING leaves its channel alone as it enters OFF (R32, R33). -/
theorem followRail_fault_off (c : Channel) : c.followRail .fault .off = c := rfl

theorem reqClearFault_badIndex {s : State} {f : Frame} {rail : Byte} (arg : f.arg 0 = rail.toNat) (out : 24 ≤ rail.toNat) :
    reqClearFault f s = answer f stBadIndex s := by
  unfold reqClearFault
  rw [arg, railOf?_ge out]

theorem reqClearFault_checks {s : State} {f : Frame} {r : RailId} (arg : f.arg 0 = r.val) : reqClearFault f s =
    checked [(s.railState r != .fault, stNothing), (!s.safeNow r, stNotSafe)] f
      (fun s => acceptLater f (moveRail r .off s)) s := by
  unfold reqClearFault
  rw [arg, railOf?_lt r.isLt]

theorem railState_fault {s : State} {r : RailId} (h : s.railState r = .fault) :
    (s.rail r).static.used = true ∧ (s.rail r).dyn.state = .fault := by
  unfold State.railState at h
  cases used : (s.rail r).static.used with
  | false => rw [used] at h; cases h
  | true => rw [used] at h; exact ⟨rfl, h⟩

/-- A FAULT rail enters OFF, its report finds nothing to do, and the reply follows (R23). -/
theorem settle_clearFault {s : State} (r : RailId) (f : Frame) (h : s.Settled) (present : s.up.present = true)
    (noCtx : s.seq.ctx = none) (noHold : s.fwd.hold = []) (state : (s.rail r).dyn.state = .fault) :
    settle 65535 (acceptLater f (moveRail r .off s)) = (enterState r .off s).placed (replyEntry (replyFrame f stOk [])) := by
  have moved : moveRail r .off s = (enterState r .off s).todo [.report r .state] := by
    rw [moveRail_settled r .off h.1 (Or.inr (by decide)), state]; rfl
  have agenda : (enterState r .off s).agenda = [] := by rw [enterState_agenda]; exact h.1
  rw [moved]
  show settle (65532 + 3) ((enterState r .off s).todo [.report r .state, .reply (replyFrame f stOk [])]) = _
  rw [settle_report _ r _ _ agenda (by rw [enterState_seq]; exact noCtx) (by rw [enterState_fwd]; exact noHold),
    settle_reply 65531 _ _ agenda (by rw [enterState_up]; exact present), settle_done]
  exact ⟨agenda, by show (enterState r .off s).takeDue = false; rw [enterState_takeDue]; exact h.2⟩

/-- Settles O28: the checks in order, and the rail's entry into OFF. -/
theorem clearFaultReturnsARailToOff : Obligations.ClearFaultReturnsARailToOff := by
  intro s tag rail f ready hf
  have arg : f.arg 0 = rail.toNat := by rw [hf]; rfl
  rw [exec_clearFault ready, ← hf]
  refine ⟨fun out => ?_, fun r number => ?_⟩
  · rw [reqClearFault_badIndex arg out, settle_answer _ ready]
  · rw [reqClearFault_checks (arg.trans number.symm)]
    refine ⟨fun other => ?_, fun fault unsafeNow => ?_, fun fault safe quiet => ?_⟩
    · rw [checked_fails _ _ _ _ _ _ (by rw [railState_taken]; exact bne_iff_ne.mpr other), settle_answer _ ready]
    · rw [checked_passes _ _ _ _ _ _ (by rw [railState_taken, fault]; rfl),
        checked_fails _ _ _ _ _ _ (by show (!s.safeNow r) = true; rw [unsafeNow]; rfl), settle_answer _ ready]
    · obtain ⟨used, state⟩ := railState_fault fault
      rw [checked_passes _ _ _ _ _ _ (by rw [railState_taken, fault]; rfl),
        checked_passes _ _ _ _ _ _ (by show (!s.safeNow r) = false; rw [safe]; rfl), checked_nil,
        settle_clearFault (s := s.taken) r f ready.settled ready.present quiet.noContext quiet.noHold state]
      have moved := movedTo_enterState r .off s.taken
      have rail := moved.rail
      refine ⟨_, rfl, ?_, ?_, ?_, ?_, ?_, moved.others,
        (enterState_en r .off s.taken).trans (driveOutputs_en_of r .off rfl rfl),
        (enterState_dis r .off s.taken).trans (driveOutputs_dis_of r .off rfl rfl), fun c => ?_, ?_⟩
      · rw [railState_placed, railState_used (by rw [rail]; exact used), rail]
      · rw [rail_placed, rail]
      · rw [rail_placed, rail]; rfl
      · rw [rail_placed, rail]; rfl
      · rw [rail_placed, rail]; rfl
      · have channel := moved.channels c
        rw [chan_placed, channel]
        show (if _ then (s.chan c).followRail (s.rail r).dyn.state .off else s.chan c) = _
        rw [state, followRail_fault_off, ite_self]
      · exact congrArg (fun u : State => u.placed (replyEntry (replyFrame f stOk []))) (enterState_rest r .off s.taken)

end Sys2Proof.Machine
end

section
/-! The ports: EXCHANGE and its probes, the frames that no unit takes, the transmitter's completions (R126 to R140, R162). -/

namespace Sys2Proof.Machine

theorem modPort_congr {p : Port} {f g : PortRec → PortRec} {s : State} (h : f (s.port p) = g (s.port p)) :
    modPort p f s = modPort p g s := by
  unfold modPort
  rw [h]

/-! ### EXCHANGE and its probes (R127, R128) -/

/-- A probe starts at once where the lane is free and nothing comes before it. -/
theorem sendProbe_starts {s : State} {p : Port} (link : (s.port p).link = .up ∨ (s.port p).link = .exchange)
    (free : (s.port p).line = .free) (empty : s.queue p = []) (noRail : (s.port p).railPlaces = []) :
    ((sendProbe p s).port p).line = .sending (some .probe)
      (mkFrame p.addr 0 kindProbe 0 (byteOf ((s.port p).probeCount + 1)) []) (s.now + 35) := by
  generalize hv : modPort p (fun x => { x with probeCount := x.probeCount + 1, probeWaiting := true }) s = v
  have port : v.port p = { s.port p with probeCount := (s.port p).probeCount + 1, probeWaiting := true } := by
    rw [← hv, port_modPort_self]
  have queue : v.queue p = [] := by rw [← hv]; exact empty
  have now : v.now = s.now := by rw [← hv]; rfl
  have next : v.nextClaimant p = some .probe := by
    rw [nextClaimant_undue (Or.inl (headEligible_empty queue)), port]
    show (match (s.port p).railPlaces with | r :: _ => some (Claimant.rail r) | [] => _) = _
    rw [noRail]; rfl
  have claimed : v.claimedFrame p .probe =
      some (mkFrame p.addr 0 kindProbe 0 (byteOf ((s.port p).probeCount + 1)) []) := by
    show some (probeFrame p (v.port p).probeCount) = _
    rw [port]; rfl
  unfold sendProbe
  rw [hv, arbitrate_grants (by rw [port]; exact free) (by rw [port]; exact link) next, grant_port_line claimed, now]; rfl

theorem sendProbe_port (p : Port) (s : State) : ((sendProbe p s).port p).present = (s.port p).present ∧
    ((sendProbe p s).port p).link = (s.port p).link ∧ ((sendProbe p s).port p).probeCount = (s.port p).probeCount + 1 ∧
    ((sendProbe p s).port p).probeTimer = (s.port p).probeTimer := by
  unfold sendProbe
  simp

theorem sendProbe_rest (p : Port) (s : State) : { sendProbe p s with ports := s.ports } = s := by
  obtain ⟨ps, only⟩ := arbitrate_ports p
    (modPort p (fun x => { x with probeCount := x.probeCount + 1, probeWaiting := true }) s)
  unfold sendProbe
  rw [only]; rfl

theorem settled_sendProbe {s : State} (p : Port) (h : s.Settled) : (sendProbe p s).Settled := by
  unfold sendProbe
  exact ⟨by simp [h.1], by simp [h.2]⟩

theorem canExchange_iff (x : PortRec) : x.canExchange = true ↔ x.link = .down ∧ x.present = true ∧ x.pulse = none := by
  unfold PortRec.canExchange
  rw [Bool.and_eq_true, Bool.and_eq_true, beq_iff_eq, Option.isNone_iff_eq_none, and_assoc]

theorem lookAtPort_enters {s : State} {p : Port} (fit : (s.port p).canExchange = true) (active : s.mode = .active) :
    lookAtPort p s = enterExchange p s := if_pos ⟨fit, active⟩

theorem lookAtPort_rests {s : State} {p : Port} (h : ¬ ((s.port p).canExchange = true ∧ s.mode = .active)) :
    lookAtPort p s = s := if_neg h

/-- The port as PRESENT rises (R126). -/
def State.presenting (s : State) (p : Port) : State := modPort p (fun x => { x with present := true }) s

theorem presenting_port (s : State) (p : Port) : (s.presenting p).port p = { s.port p with present := true } :=
  port_modPort_self p _ s

theorem presentRise_running {s : State} {p : Port} (running : s.phase = .running) :
    presentRise p s = lookAtPort p (s.presenting p) := if_pos running

theorem presentRise_waiting {s : State} {p : Port} (starting : s.phase ≠ .running) :
    presentRise p s = s.presenting p := if_neg starting

/-- The port with its probe timer run out (R128). -/
def State.probeExpired (s : State) (p : Port) (now : Time) : State :=
  modPort p (fun x => { x with probeTimer := none }) { s with now := now }

theorem probeExpired_port (s : State) (p : Port) (now : Time) :
    (s.probeExpired p now).port p = { s.port p with probeTimer := none } := by
  unfold State.probeExpired
  rw [port_modPort_self]; rfl

theorem probeExpiry_again {s : State} {p : Port} {due : Time} (link : (s.port p).link = .exchange)
    (timer : (s.port p).probeTimer = some due) (few : (s.port p).probeCount < 4) :
    probeExpiry p s = sendProbe p (s.probeExpired p (max s.now due)) := by
  unfold probeExpiry
  rw [timer]
  dsimp only
  rw [if_pos link]
  refine if_pos ?_
  rw [port_modPort_self]; exact few

theorem probeExpiry_last {s : State} {p : Port} {due : Time} (link : (s.port p).link = .exchange)
    (timer : (s.port p).probeTimer = some due) (all : 4 ≤ (s.port p).probeCount) :
    probeExpiry p s = later (.raise .linkChange) (leaveExchange p .failed (s.probeExpired p (max s.now due))) := by
  unfold probeExpiry
  rw [timer]
  dsimp only
  rw [if_pos link]
  refine if_neg ?_
  rw [port_modPort_self]; exact Nat.not_lt.mpr all

/-- Settles O35: the entry into EXCHANGE, the next probe, and FAILED. -/
theorem presentRiseAndProbesExchange : Obligations.PresentRiseAndProbesExchange := by
  refine ⟨fun s p settled => ⟨fun running active down noPulse free empty noRail => ?_, fun stays => ?_⟩,
    fun s p due up link timer => ⟨fun few free empty noRail => ?_, fun all notProbe => ?_⟩⟩
  · have fit : ((s.presenting p).port p).canExchange = true := by
      rw [presenting_port]; exact (canExchange_iff _).mpr ⟨down, rfl, noPulse⟩
    have rises : presentRise p s = enterExchange p (s.presenting p) := by
      rw [presentRise_running running, lookAtPort_enters fit active]
    have plain : exec (.presentRises p) s = .next (presentRise p s) :=
      event_plain settled (by rw [rises]; exact settled_sendProbe p settled)
    generalize hw : modPort p (fun x => { x with link := .exchange, probeCount := 0, probeTimer := none })
      (s.presenting p) = w
    have port : w.port p = { s.port p with present := true, link := .exchange, probeCount := 0, probeTimer := none } := by
      rw [← hw, port_modPort_self, presenting_port]
    have enters : presentRise p s = sendProbe p w := by rw [rises, ← hw]; rfl
    obtain ⟨present, exchange, count, noTimer⟩ := sendProbe_port p w
    have line := sendProbe_starts (s := w) (p := p) (Or.inr (by rw [port])) (by rw [port]; exact free)
      (by rw [← hw]; exact empty) (by rw [port]; exact noRail)
    refine ⟨_, by rw [plain, enters], by rw [present, port], by rw [exchange, port], by rw [count, port],
      by rw [noTimer, port], ?_, fun q other => ?_, ?_⟩
    · rw [line, port, ← hw]; rfl
    · rw [sendProbe_other other, ← hw, modPort_other _ other]; exact modPort_other _ other _
    · have rest := congrArg (fun v : State => { v with ports := s.ports }) (sendProbe_rest p w)
      refine rest.trans ?_
      rw [← hw]; rfl
  · have rises : presentRise p s = s.presenting p := by
      by_cases running : s.phase = .running
      · rw [presentRise_running running]
        refine lookAtPort_rests (fun ⟨fit, active⟩ => ?_)
        rw [presenting_port] at fit
        obtain ⟨down, -, noPulse⟩ := (canExchange_iff _).mp fit
        rcases stays with off | standby | notDown | pulse
        · exact off running
        · exact absurd (standby.symm.trans active) (by decide)
        · exact notDown down
        · exact pulse noPulse
      · exact presentRise_waiting running
    have plain : exec (.presentRises p) s = .next (presentRise p s) :=
      event_plain settled (by rw [rises]; exact settled)
    rw [plain, rises]; rfl
  · have again := probeExpiry_again link timer few
    have plain : exec (.probeTimerExpiry p) s = .next (probeExpiry p s) :=
      event_plain up.settled (by rw [again]; exact settled_sendProbe p up.settled)
    have port := probeExpired_port s p (max s.now due)
    obtain ⟨-, exchange, count, noTimer⟩ := sendProbe_port p (s.probeExpired p (max s.now due))
    have line := sendProbe_starts (s := s.probeExpired p (max s.now due)) (p := p) (Or.inr (by rw [port]; exact link))
      (by rw [port]; exact free) empty (by rw [port]; exact noRail)
    refine ⟨_, by rw [plain, again], by rw [exchange, port]; exact link, by rw [count, port], by rw [noTimer, port], ?_,
      fun q other => ?_, ?_⟩
    · rw [line, port]; rfl
    · rw [sendProbe_other other]; exact modPort_other _ other _
    · exact congrArg (fun v : State => { v with ports := s.ports, now := s.now }) (sendProbe_rest p _)
  · have failed : leaveExchange p .failed (s.probeExpired p (max s.now due)) = modPort p (fun x =>
        { x with link := .failed, probeCount := 0, probeTimer := none, probeWaiting := false })
        { s with now := max s.now due } := by
      rw [leaveExchange_eq]
      unfold State.probeExpired
      rw [modPort_modPort]
      refine modPort_congr ?_
      have unowned : ¬ ({ s.port p with probeTimer := none } : PortRec).owner = some .probe := notProbe
      exact congrArg (fun l : DownLine => { s.port p with
        link := .failed, probeCount := 0, probeTimer := none, probeWaiting := false, line := l }) (if_neg unowned)
    exact event_raise up.settled ((probeExpiry_last link timer all).trans (by rw [failed])) up.settled
      (settled_raise _ up.settled)

/-! ### Frames that no unit takes (R129, R136, R137) -/

theorem receiveDown_deaf {s : State} {p : Port} (f : Frame) (deaf : (s.port p).link = .down ∨ (s.port p).link = .failed) :
    receiveDown p f s = s := by
  unfold receiveDown
  rcases deaf with down | failed
  · rw [down]; exact ite_self s
  · rw [failed]; exact ite_self s

theorem receiveDown_wrongSource {s : State} {p : Port} {f : Frame} (up : s.Up)
    (link : (s.port p).link = .exchange ∨ (s.port p).link = .up) (wrong : f.src ≠ p.addr) :
    receiveDown p f s = later (.raise .linkError) s := by
  have bad : (!f.ok || f.src != p.addr) = true := by rw [bne_iff_ne.mpr wrong, Bool.or_true]
  unfold receiveDown
  rw [if_neg (not_not_intro up.running)]
  rcases link with exchange | linkUp
  · rw [exchange]; exact if_pos bad
  · rw [linkUp]; exact if_pos bad

/-- In EXCHANGE a port takes capability records alone (R127, R136). -/
theorem receiveDown_exchange {s : State} {p : Port} {f : Frame} (up : s.Up) (link : (s.port p).link = .exchange)
    (ok : f.ok = true) (src : f.src = p.addr) : receiveDown p f s =
      if f.kind = kindCapability ∧ f.dest = 0 then capability f.payload (enterUp p) s else later (.raise .linkError) s := by
  unfold receiveDown
  rw [if_neg (not_not_intro up.running), link, ok, src]
  exact if_neg (by simp)

theorem capability_invalid {payload : List Byte} (bad : decCapability payload = none) (act : Capability → State → State)
    (s : State) : capability payload act s = later (.raise .linkError) s := by
  unfold capability
  rw [bad]

theorem capability_valid {payload : List Byte} {c : Capability} (valid : decCapability payload = some c)
    (act : Capability → State → State) (s : State) : capability payload act s = act c s := by
  unfold capability
  rw [valid]

theorem railOfTag_none {tag : Byte} (h : tag.toNat < 0xC0 ∨ 0xD8 ≤ tag.toNat) : railOfTag tag = none := by
  unfold railOfTag
  split
  · exact railOf?_ge (by omega)
  · rfl

theorem route_capability {p : Port} {f : Frame} {s : State} (kind : f.kind = kindCapability) (dest : f.dest = 0) :
    route p f s = capability f.payload (unsolicited p) s := by
  unfold route
  rw [kind, dest, if_neg (by decide), if_neg (by decide), if_neg (by decide), if_pos ⟨rfl, rfl⟩]

/-- A reply to the part under a tag that is neither a rail's nor the Sequencer's (R137). -/
theorem route_strayReply {p : Port} {f : Frame} {s : State} (kind : f.kind = kindReply) (dest : f.dest = 0)
    (stray : f.tag.toNat < 0xC0 ∨ (0xD8 ≤ f.tag.toNat ∧ f.tag.toNat < 0xE0)) :
    route p f s = later (.raise .linkError) s := by
  unfold route
  rw [if_pos ⟨kind, dest⟩, railOfTag_none (stray.imp_right And.left)]
  exact if_neg (by omega)

/-- A frame of another kind or destination (R137). -/
theorem route_stray {p : Port} {f : Frame} {s : State} (noReply : f.kind = kindReply → f.dest ≠ 0 ∧ f.dest ≠ 7)
    (noNotice : f.kind = kindNotice → f.dest ≠ 7) (noCapability : f.kind = kindCapability → f.dest ≠ 0) :
    route p f s = later (.raise .linkError) s := by
  unfold route
  rw [if_neg (fun h => (noReply h.1).1 h.2), if_neg (fun h => (noReply h.1).2 h.2), if_neg (fun h => noNotice h.1 h.2),
    if_neg (fun h => noCapability h.1 h.2)]

/-- The kinds and destinations of a frame from the port's board that no unit takes in UP. -/
theorem route_discards {p : Port} {f : Frame} {s : State}
    (stray : f.kind = kindCommand ∨ f.kind = kindProbe ∨ (f.kind = kindCapability ∧ f.dest ≠ 0) ∨
      (f.kind = kindNotice ∧ f.dest ≠ 7) ∨ (f.kind = kindReply ∧ f.dest ≠ 0 ∧ f.dest ≠ 7) ∨
      (f.kind = kindReply ∧ f.dest = 0 ∧ (f.tag.toNat < 0xC0 ∨ (0xD8 ≤ f.tag.toNat ∧ f.tag.toNat < 0xE0)))) :
    route p f s = later (.raise .linkError) s := by
  have differ : ∀ {a b : BitVec 4}, f.kind = a → a ≠ b → f.kind ≠ b := fun h ne eq => ne (h.symm.trans eq)
  rcases stray with command | probe | ⟨kind, dest⟩ | ⟨kind, dest⟩ | ⟨kind, dest⟩ | ⟨kind, dest, tag⟩
  · exact route_stray (fun h => absurd h (differ command (by decide))) (fun h => absurd h (differ command (by decide)))
      (fun h => absurd h (differ command (by decide)))
  · exact route_stray (fun h => absurd h (differ probe (by decide))) (fun h => absurd h (differ probe (by decide)))
      (fun h => absurd h (differ probe (by decide)))
  · exact route_stray (fun h => absurd h (differ kind (by decide))) (fun h => absurd h (differ kind (by decide))) (fun _ => dest)
  · exact route_stray (fun h => absurd h (differ kind (by decide))) (fun _ => dest) (fun h => absurd h (differ kind (by decide)))
  · exact route_stray (fun _ => dest) (fun h => absurd h (differ kind (by decide))) (fun h => absurd h (differ kind (by decide)))
  · exact route_strayReply kind dest tag

/-! ### A board's notice (R162) -/

theorem matchNotice_unawaited {s : State} {p : Port} {cls : Byte}
    (h : ∀ c time cancel, s.seq.ctx = some c → (s.stepAt c.index).kind ≠ .awaitNotice time p cls cancel) :
    matchNotice p cls s = s := by
  unfold matchNotice State.current
  cases ctx : s.seq.ctx with
  | none => rfl
  | some c =>
    have other := h c
    dsimp only [Option.map]
    cases kind : (s.stepAt c.index).kind with
    | awaitNotice time q x cancel =>
      refine if_neg (fun ⟨port, class', _⟩ => ?_)
      rw [port, class'] at kind
      exact other time cancel ctx kind
    | _ => rfl

theorem offerNotice_absent {s : State} (f : Frame) (low : s.up.present = false) : offerNotice f s = s := by
  unfold offerNotice
  rw [low]; rfl

theorem offerNotice_placed {s : State} (f : Frame) (high : s.up.present = true) (place : s.noticesTaken < 7) :
    offerNotice f s = s.placed { frame := f, group := .notice, reset := false } := by
  unfold offerNotice
  rw [high]; exact if_neg (Nat.not_le.mpr place)

theorem offerNotice_dropped {s : State} (f : Frame) (high : s.up.present = true) (full : 7 ≤ s.noticesTaken) :
    offerNotice f s = raise .noticeDropped s := by
  unfold offerNotice
  rw [high]; exact if_pos full

/-- Settles O37: each discarded frame by its link state, and the notice offered upstream. -/
theorem strayFramesAreDiscardedAndNoticesForwarded : Obligations.StrayFramesAreDiscardedAndNoticesForwarded := by
  refine ⟨fun s p dest src kind cls tag payload up fits one five => ⟨fun link bad => ?_, fun deaf => ?_,
    fun link wrong => ?_, fun link wrong => ?_⟩, fun s p cls tag payload f up link fits hf unawaited => ?_⟩
  · refine event_raise up.settled (?_ : receiveDown p (mkFrame 0 p.addr kindCapability 0 tag payload) s = _) up.settled
      (settled_raise _ up.settled)
    have ok := capabilityFrame_ok p tag payload fits
    rcases link with exchange | linkUp
    · rw [receiveDown_exchange up exchange ok rfl, if_pos ⟨rfl, rfl⟩]
      exact capability_invalid bad _ s
    · rw [receiveDown_up s p _ up linkUp ok rfl]
      rw [route_capability rfl rfl]
      exact capability_invalid bad _ s
  · have ignored := receiveDown_deaf (mkFrame dest src kind cls tag payload) deaf
    have plain : exec (.downstreamFrameDiscarded p dest src kind cls tag payload) s =
        .next (receiveDown p (mkFrame dest src kind cls tag payload) s) :=
      event_plain up.settled (by rw [ignored]; exact up.settled)
    rw [plain, ignored]
  · refine event_raise up.settled (?_ : receiveDown p (mkFrame dest src kind cls tag payload) s = _) up.settled
      (settled_raise _ up.settled)
    by_cases own : src = p.addr
    · rw [receiveDown_exchange up link (mkFrame_ok _ _ _ _ _ _ fits ⟨one, five⟩) own]
      exact if_neg (fun ⟨capability, part⟩ => wrong.elim (fun h => h own) (fun h => h.elim (fun h => h capability) (fun h => h part)))
    · exact receiveDown_wrongSource up (Or.inl link) own
  · refine event_raise up.settled (?_ : receiveDown p (mkFrame dest src kind cls tag payload) s = _) up.settled
      (settled_raise _ up.settled)
    by_cases own : src = p.addr
    · rw [receiveDown_up s p _ up link (mkFrame_ok _ _ _ _ _ _ fits ⟨one, five⟩) own]
      exact route_discards (wrong.resolve_left (not_not_intro own))
    · exact receiveDown_wrongSource up (Or.inr link) own
  · have offered : receiveDown p f s = offerNotice f s := by
      rw [hf, receiveDown_notice s p cls tag payload up link fits, ← hf]
      obtain ⟨-, -, seq, -⟩ := offerNotice_rest f s
      refine matchNotice_unawaited (fun c time cancel ctx => ?_)
      unfold State.stepAt
      rw [seq] at ctx ⊢
      exact unawaited c time cancel ctx
    have received : ∀ t : State, t.Settled → offerNotice f s = t → exec (.boardNotice p cls tag payload) s = .next t := by
      intro t settled same
      have plain : event (receiveDown p f) s = .next (receiveDown p f s) :=
        event_plain up.settled (by rw [offered, same]; exact settled)
      show event (receiveDown p (mkFrame 7 p.addr kindNotice cls tag payload)) s = _
      rw [← hf, plain, offered, same]
    exact ⟨fun low => received s up.settled (offerNotice_absent f low),
      fun high place => received _ up.settled (offerNotice_placed f high place),
      fun high full => received _ (settled_raise _ up.settled) (offerNotice_dropped f high full)⟩

end Sys2Proof.Machine
end

section
/-! The completions of a port's transmitter, and the order of the program queue (R77, R140, R157). -/

namespace Sys2Proof.Machine

theorem modDyn_congr {r : RailId} {f g : RailDynamic → RailDynamic} {s : State} (h : f (s.rail r).dyn = g (s.rail r).dyn) :
    modDyn r f s = modDyn r g s := by
  unfold modDyn
  rw [h]

/-- An event that hands on a pass over the hold queue and nothing else (R151). -/
theorem event_passes {f : State → State} {s t : State} (h : s.Settled) (e : f s = later .pass t) (settled : t.Settled)
    (answers : t.up.present = true ∨ t.fwd.hold = []) : event f s = .next (rescan t) := by
  have next : (handle .pass t).Settled := by
    show (rescan t).Settled
    rcases answers with present | noHold
    · exact settled_rescan settled present
    · rw [rescan_none noHold]; exact settled
  rw [event_settled h, e]
  exact congrArg _ (settle_one 65535 .pass settled rfl next)

/-! ### DOWNSTREAM_TX_COMPLETE -/

/-- The frame's end is reached and the lane of port `p` rests (R140). -/
def State.laneRests (s : State) (p : Port) (now : Time) : State :=
  modPort p (fun x => { x with line := .stretch (now + 10) }) { s with now := now }

theorem laneRests_port (s : State) (p : Port) (now : Time) :
    (s.laneRests p now).port p = { s.port p with line := .stretch (now + 10) } := by
  unfold State.laneRests
  rw [port_modPort_self]; rfl

/-- The completion is reported to the claimant, if it still has one (R140). -/
def tellClaimant (p : Port) (owner : Option Claimant) (s : State) : State :=
  match owner with
  | some (.rail r) => railFrameSent p r s
  | some .probe => probeSent p s
  | some .sequencer => seqSent p s
  | some .forward => forwardSent p s
  | none => s

theorem downTxComplete_eq {s : State} {p : Port} {owner : Option Claimant} {f : Frame} {done : Time}
    (sending : (s.port p).line = .sending owner f done) :
    downTxComplete p s = tellClaimant p owner (s.laneRests p (max s.now done)) := by
  unfold downTxComplete
  simp only [sending]
  cases owner with
  | none => rfl
  | some c => cases c <;> rfl

theorem railFrameSent_frame {s : State} {p : Port} {r : RailId} {x : RailFrame} (frame : (s.rail r).dyn.frame = some x) :
    railFrameSent p r s = modDyn r (fun d => { d with
      frame := some { x with mark := .sent (s.now + Config.ms (s.port p).windowMs) } }) s := by
  unfold railFrameSent
  exact modDyn_congr (by rw [frame]; rfl)

theorem probeSent_exchange {s : State} {p : Port} (link : (s.port p).link = .exchange) : probeSent p s =
    modPort p (fun x => { x with probeTimer := some (s.now + Config.probeTime) }) s := if_pos link

theorem seqSent_frame {s : State} {p : Port} {g : SeqFrame} {c : Context} {x : SendFrame}
    (offer : (s.port p).seqOffer = some g) (send : g.isCancel = false) (ctx : s.seq.ctx = some c) (frame : c.frame = some x) :
    seqSent p s = modPort p PortRec.nextSeq { s with seq := { s.seq with ctx := some { c with
      frame := some { x with mark := .sent (s.now + Config.ms x.windowMs) }
      timer := some (s.now + Config.ms x.windowMs) } } } := by
  have waiting : (modPort p PortRec.nextSeq s).seq.ctx = some c := ctx
  unfold seqSent modCtx
  rw [offer]
  dsimp only
  rw [send, if_neg Bool.false_ne_true, waiting]
  dsimp only [Option.map]
  rw [frame]; rfl

/-- The command takes the FRAME claim on its effect's rail only where that rail is the part's and free (R18, R157). -/
theorem takeClaim_none {s : State} {c : Cmd} (h : c.effect = none ∨
    ∃ r on, c.effect = some (r, on) ∧ ((s.rail r).static.used = false ∨ s.railHeld r = true)) :
    takeClaim c s = (s, false) := by
  unfold takeClaim
  rcases h with none | ⟨r, on, effect, unfit⟩
  · rw [none]
  · rw [effect]
    dsimp only
    rw [if_neg]
    rintro claims
    rw [Bool.and_eq_true, Bool.not_eq_true'] at claims
    rcases unfit with unused | held
    · rw [claims.1] at unused; cases unused
    · rw [claims.2] at held; cases held

theorem takeClaim_claims {s : State} {c : Cmd} {r : RailId} {on : Bool} (effect : c.effect = some (r, on))
    (used : (s.rail r).static.used = true) (free : s.railHeld r = false) :
    takeClaim c s = (modDyn r (fun d => { d with claim := .frame c.port c.frame.tag }) s, true) := by
  unfold takeClaim
  rw [effect]
  dsimp only
  rw [used, free]; rfl

theorem forwardSent_eq {s : State} {p : Port} {c : Cmd} {l : List Cmd} (queue : s.queue p = c :: l) :
    forwardSent p s = later .pass (setOuts p ((takeClaim c (setQueue p l s)).1.outs p ++
      [{ cmd := c, deadline := (takeClaim c (setQueue p l s)).1.now +
          Config.ms ((takeClaim c (setQueue p l s)).1.port p).windowMs,
         claimMark := (takeClaim c (setQueue p l s)).2 }]) (takeClaim c (setQueue p l s)).1) := by
  unfold forwardSent
  rw [queue]

/-- Settles O40: what each claimant does with its completion. -/
theorem transmissionEndTellsTheClaimant : Obligations.TransmissionEndTellsTheClaimant := by
  intro s u p owner f done up sending hu
  obtain rfl : u = s.laneRests p (max s.now done) := hu
  have ends := downTxComplete_eq sending
  have port := laneRests_port s p (max s.now done)
  have plain : ∀ t : State, t.Settled → downTxComplete p s = t → exec (.downstreamTxComplete p) s = .next t := by
    intro t settled same
    have event : exec (.downstreamTxComplete p) s = .next (downTxComplete p s) :=
      event_plain up.settled (by rw [same]; exact settled)
    rw [event, same]
  refine ⟨fun none => ?_, fun r x rail frame => ?_, fun probe link => ?_, fun g c x sequencer offer send ctx frame => ?_,
    fun c l forward queue answers => ?_⟩
  · subst none
    exact plain _ up.settled ends
  · subst rail
    refine plain _ up.settled (ends.trans ((railFrameSent_frame (s := s.laneRests p (max s.now done)) frame).trans ?_))
    rw [port]; rfl
  · subst probe
    exact plain _ up.settled (ends.trans (probeSent_exchange (by rw [port]; exact link)))
  · subst sequencer
    exact plain _ up.settled (ends.trans (seqSent_frame (s := s.laneRests p (max s.now done)) (by rw [port]; exact offer)
      send ctx frame))
  · subst forward
    have sent := ends.trans (forwardSent_eq (s := s.laneRests p (max s.now done)) queue)
    refine ⟨fun free => ?_, fun r on effect used free => ?_⟩
    · rw [takeClaim_none (s := setQueue p l (s.laneRests p (max s.now done))) free] at sent
      refine (event_passes up.settled sent up.settled answers).trans ?_
      show Host.Outcome.next (rescan (setOuts p (s.outs p ++ [{ cmd := c, deadline := max s.now done +
        2000 * ((s.laneRests p (max s.now done)).port p).windowMs, claimMark := false }]) _)) = _
      rw [port]
    · rw [takeClaim_claims (s := setQueue p l (s.laneRests p (max s.now done))) effect used free] at sent
      refine (event_passes up.settled sent up.settled answers).trans ?_
      show Host.Outcome.next (rescan (setOuts p (s.outs p ++ [{ cmd := c, deadline := max s.now done +
        2000 * ((s.laneRests p (max s.now done)).port p).windowMs, claimMark := true }]) _)) = _
      rw [port]

end Sys2Proof.Machine
end

section
/-! The Scheduler's part of an event: a program's end, its abandonment and the start of the queue's head; START_PROGRAM and
ABORT_PROGRAM (R76 to R89). -/

namespace Sys2Proof.Machine

/-! ### A program's start and its end -/

/-- A program whose first step is a DELAY of `time` has started (R52, R59, R77). -/
def State.delayStarted (s : State) (n : ProgNo) (q : Requester) (priority time : Nat) : State :=
  { s with
    sched := { s.sched with running := some {
      program := n, requester := q, priority := priority, guarded := (s.stepAt (s.header n).first).guarded, marked := false } }
    seq := { s.seq with ctx := some {
      program := n, requester := q, index := (s.header n).first, timer := some (s.now + 2000 * time), frame := none,
      failed := 0, wait := .none } } }

/-- The running program's record is gone and its result kept: `endedWith` before PROGRAM_END (R55, R85, R86). -/
def State.programOver (s : State) (c : Context) (e : ProgramEnd) : State :=
  { s with
    seq := { s.seq with ctx := none }
    sched := { s.sched with running := none, last := some (c.result e) } }

theorem raise_programOver (s : State) (c : Context) (e : ProgramEnd) :
    raise .programEnd (s.programOver c e) = s.endedWith c e := rfl

/-- An ordinary program's end hands on PROGRAM_END and, unless it is passed over, the queue's head (R82, R85). -/
theorem programEnd_ordinary {s : State} {c : Context} (e : ProgramEnd) (noHead : Bool) (agenda : s.agenda = [])
    (ctx : s.seq.ctx = some c) (ordinary : 2 ≤ c.program.val) : programEnd e noHead s =
      (s.programOver c e).todo (.raise .programEnd :: if noHead then [] else [.startHead]) := by
  have notZero : c.program ≠ 0 := fun h => by rw [h] at ordinary; exact absurd ordinary (by decide)
  have notOne : c.program ≠ 1 := fun h => by rw [h] at ordinary; exact absurd ordinary (by decide)
  unfold programEnd
  rw [ctx]
  dsimp only
  rw [if_neg notZero, if_neg notOne]
  cases noHead with
  | false => rw [State.programOver, State.todo]; simp [later, setResult, setRunning, setCtx, agenda]
  | true => rw [State.programOver, State.todo]; simp [later, setResult, setRunning, setCtx, agenda]

/-- A DELAY step leaves nothing to tidy but its own timer (R54). -/
theorem tidyStep_delay {s : State} {c : Context} {time : Nat} (cut : Bool) (ctx : s.seq.ctx = some c)
    (kind : (s.stepAt c.index).kind = .delay time) : tidyStep cut s =
      { s with seq := { s.seq with ctx := some { c with timer := none, frame := none, wait := .none } } } := by
  unfold tidyStep
  rw [current_eq ctx kind]
  exact modCtx_eq s _ c ctx

/-- The running program is abandoned in a DELAY step (R83). -/
theorem abandon_delay {s : State} {c : Context} {time : Nat} (noHead : Bool) (agenda : s.agenda = [])
    (ctx : s.seq.ctx = some c) (ordinary : 2 ≤ c.program.val) (kind : (s.stepAt c.index).kind = .delay time) :
    abandon noHead s = (s.programOver c (.abandoned c.index)).todo
      (.raise .programEnd :: if noHead then [] else [.startHead]) := by
  unfold abandon
  rw [ctx]
  dsimp only
  rw [tidyStep_delay true ctx kind, programEnd_ordinary (c := { c with timer := none, frame := none, wait := .none }) _ _
    (by exact agenda) rfl ordinary]
  rfl

/-! ### The queue's head -/

theorem startHead_starts {s : State} {e : Entry} {rest : List Entry} {time : Nat} (idle : s.sched.running = none)
    (open' : s.sched.committed = false) (queue : s.sched.queue = e :: rest) (active : s.mode = .active)
    (count : (s.header e.program).count ≠ 0) (kind : (s.stepAt (s.header e.program).first).kind = .delay time) :
    startHead s = (setRequests rest s).delayStarted e.program e.requester e.priority time := by
  unfold startHead
  rw [idle, open', queue]
  exact startProgramOf_delay (setRequests rest s) e.program e.requester e.priority time active count kind

theorem settled_delayStarted {s : State} (n : ProgNo) (q : Requester) (priority time : Nat) (h : s.Settled) :
    (s.delayStarted n q priority time).Settled := h

theorem settle_startHead_starts (n : Nat) (ws : List Work) {s : State} {e : Entry} {rest : List Entry} {time : Nat}
    (agenda : s.agenda = []) (idle : s.sched.running = none) (open' : s.sched.committed = false)
    (queue : s.sched.queue = e :: rest) (active : s.mode = .active) (count : (s.header e.program).count ≠ 0)
    (kind : (s.stepAt (s.header e.program).first).kind = .delay time) :
    settle (n + 1) (s.todo (.startHead :: ws)) =
      settle n (((setRequests rest s).delayStarted e.program e.requester e.priority time).todo ws) :=
  settle_plain n .startHead ws agenda rfl (startHead_starts idle open' queue active count kind) agenda

/-! ### What an entry that joins the queue brings (R77, R80) -/

theorem mem_insertEntry (e x : Entry) (q : List Entry) : x ∈ insertEntry e q ↔ x = e ∨ x ∈ q :=
  ((queueKeepsPriorityThenArrival e q).1.mem_iff).trans List.mem_cons

/-- Behind a running program that no entry outranks the head is not looked at. -/
theorem judgeHead_waits {s : State} {x : Running} (running : s.sched.running = some x)
    (stays : x.guarded = true ∨ ∀ e ∈ s.sched.queue, e.priority ≤ x.priority) : judgeHead s = s := by
  unfold judgeHead
  rw [running]
  cases queue : s.sched.queue with
  | nil => rfl
  | cons e rest =>
    refine if_neg (fun outranks => ?_)
    rw [Bool.and_eq_true, decide_eq_true_iff, Bool.not_eq_true'] at outranks
    rcases stays with guarded | lower
    · rw [outranks.2] at guarded; cases guarded
    · exact absurd outranks.1 (Nat.not_lt.mpr (lower e (by rw [queue]; exact List.mem_cons_self)))

theorem judgeHead_cuts {s : State} {x : Running} {e : Entry} {rest : List Entry} (running : s.sched.running = some x)
    (queue : s.sched.queue = e :: rest) (unguarded : x.guarded = false) (outranks : x.priority < e.priority) :
    judgeHead s = abandon false s := by
  unfold judgeHead
  rw [running, queue]
  exact if_pos (by rw [unguarded, decide_eq_true outranks]; rfl)

theorem judgeHead_idle {s : State} (idle : s.sched.running = none) : judgeHead s = startHead s := by
  unfold judgeHead
  rw [idle]

/-- The entry made of a request, and the queue and arrivals with it (R77). -/
def State.entryOf (s : State) (n : ProgNo) (q : Requester) : Entry :=
  { program := n, requester := q, priority := (s.header n).priority, arrival := s.sched.arrivals }

def State.joined (s : State) (n : ProgNo) (q : Requester) : State :=
  { s with sched := { s.sched with queue := insertEntry (s.entryOf n q) s.sched.queue, arrivals := s.sched.arrivals + 1 } }

theorem joinQueue_eq (n : ProgNo) (q : Requester) (s : State) : joinQueue n q s = judgeHead (s.joined n q) := rfl

theorem acceptLater_todo (f : Frame) (s : State) (ws : List Work) :
    acceptLater f (s.todo ws) = s.todo (ws ++ [.reply (replyFrame f stOk [])]) := rfl

theorem acceptLater_idle (f : Frame) {s : State} (h : s.agenda = []) :
    acceptLater f s = s.todo [.reply (replyFrame f stOk [])] := later_eq_todo h _

/-- The reply ends the event (R172 item 4). -/
theorem settle_lastReply (n : Nat) (f : Frame) {s : State} (h : s.Settled) (present : s.up.present = true) :
    settle (n + 1) (s.todo [.reply (replyFrame f stOk [])]) = s.answered f stOk [] := by
  rw [settle_reply n _ [] h.1 present, settle_done]
  · rfl
  · exact h

/-! ### ABORT_PROGRAM (R88) -/

theorem exec_abortProgram {s : State} (h : s.Ready) (tag program : Byte) : exec (.abortProgram tag program) s =
    .next (settle 65535 (reqAbortProgram (requestFrame 0x26 tag [program]) s.taken)) :=
  event_request 0x26 tag [program] h (by simp)

theorem reqAbortProgram_badIndex {s : State} {f : Frame} (out : 12 ≤ f.arg 0) :
    reqAbortProgram f s = answer f stBadIndex s := by
  unfold reqAbortProgram
  rw [progOf?_ge out]

/-- An accepted ABORT_PROGRAM's act (R88). -/
def abortAct (n : ProgNo) (f : Frame) (s : State) : State :=
  match s.sched.queue.find? (fun e => e.program == n) with
  | some e => acceptLater f (dropped n e.requester (setRequests (s.sched.queue.filter (fun x => x.program != n)) s))
  | none => if s.isRunning n then acceptLater f (orderAbandon false s) else answer f stNothing s

theorem reqAbortProgram_checks {s : State} {f : Frame} {n : ProgNo} (arg : f.arg 0 = n.val) : reqAbortProgram f s =
    checked [(s.rtu.stage == .commit, stCommitted), (decide (2 ≤ (s.header n).priority), stRole)] f (abortAct n f) s := by
  unfold reqAbortProgram
  rw [arg, progOf?_lt n.isLt]; rfl

theorem find_none_of_not_queued {s : State} {n : ProgNo} (h : s.isQueued n = false) :
    s.sched.queue.find? (fun e => e.program == n) = none := by
  rw [List.find?_eq_none]
  intro e mem match'
  exact Bool.eq_false_iff.mp h (List.any_eq_true.mpr ⟨e, mem, match'⟩)

theorem isRunning_of {s : State} {n : ProgNo} {x : Running} (running : s.sched.running = some x) (own : x.program = n) :
    s.isRunning n = true := by
  unfold State.isRunning
  rw [running]
  exact beq_iff_eq.mpr own

theorem abortAct_running {s : State} {n : ProgNo} (f : Frame) (notQueued : s.isQueued n = false) (running : s.isRunning n = true) :
    abortAct n f s = acceptLater f (orderAbandon false s) := by
  unfold abortAct
  rw [find_none_of_not_queued notQueued, running]; rfl

theorem abortAct_nothing {s : State} {n : ProgNo} (f : Frame) (notQueued : s.isQueued n = false)
    (notRunning : s.isRunning n = false) : abortAct n f s = answer f stNothing s := by
  unfold abortAct
  rw [find_none_of_not_queued notQueued, notRunning]; rfl

theorem abortAct_queued {s : State} {n : ProgNo} {e : Entry} (f : Frame)
    (found : s.sched.queue.find? (fun e => e.program == n) = some e) : abortAct n f s =
      acceptLater f (dropped n e.requester (setRequests (s.sched.queue.filter (fun x => x.program != n)) s)) := by
  unfold abortAct
  rw [found]

/-- A dropped request of a program other than RESTORE: its result and PROGRAM_END (R79, R85). -/
theorem dropped_todo {s : State} {n : ProgNo} (q : Requester) (h : s.agenda = []) (notRestore : n ≠ 1) : dropped n q s =
    (setResult { program := n, requester := q, outcome := .dropped, step := none, reason := none, failedSteps := none } s).todo
      [.raise .programEnd] := by
  unfold dropped
  rw [if_neg notRestore]
  exact later_eq_todo (s := setResult _ s) h _

theorem orderAbandon_guarded {s : State} {x : Running} (noHead : Bool) (running : s.sched.running = some x)
    (guarded : x.guarded = true) : orderAbandon noHead s =
      { s with sched := { s.sched with running := some { x with marked := true } } } := by
  unfold orderAbandon markRunning
  rw [running]
  exact if_pos guarded

theorem orderAbandon_unguarded {s : State} {x : Running} (noHead : Bool) (running : s.sched.running = some x)
    (unguarded : x.guarded = false) : orderAbandon noHead s = abandon noHead s := by
  unfold orderAbandon
  rw [running]
  exact if_neg (by rw [unguarded]; exact Bool.false_ne_true)

/-- PROGRAM_END, an empty queue's head and the reply end the event. -/
theorem settle_endThenReply (n : Nat) (f : Frame) {s : State} (h : s.Settled) (present : s.up.present = true)
    (empty : s.sched.queue = []) : settle (n + 3) (s.todo [.raise .programEnd, .startHead, .reply (replyFrame f stOk [])]) =
      (raise .programEnd s).answered f stOk [] := by
  rw [settle_raise _ .programEnd _ h.1, settle_startHead _ _ (by rw [raise_agenda]; exact h.1) (by rw [raise_sched]; exact empty),
    settle_lastReply n f (settled_raise _ h) (by rw [raise_up_present]; exact present)]

theorem settle_raiseThenReply (n : Nat) (k : EventKind) (f : Frame) {s : State} (h : s.Settled) (present : s.up.present = true) :
    settle (n + 2) (s.todo [.raise k, .reply (replyFrame f stOk [])]) = (raise k s).answered f stOk [] := by
  rw [settle_raise _ k _ h.1, settle_lastReply n f (settled_raise _ h) (by rw [raise_up_present]; exact present)]

theorem result_ordinary {c : Context} (e : ProgramEnd) (ordinary : 2 ≤ c.program.val) : c.result e =
    { program := c.program, requester := c.requester, outcome := e.kind, step := e.step?, reason := e.reason?,
      failedSteps := none } := by
  have notZero : c.program ≠ 0 := fun zero => by rw [zero] at ordinary; exact absurd ordinary (by decide)
  unfold Context.result
  rw [if_neg notZero]

theorem settle_abortQueued (n : Nat) {u : State} {p : ProgNo} {e : Entry} (f : Frame) (h : u.Settled)
    (present : u.up.present = true) (found : u.sched.queue.find? (fun e => e.program == p) = some e) (notRestore : p ≠ 1) :
    settle (n + 2) (abortAct p f u) = State.answered (raise .programEnd { u with sched := { u.sched with
      queue := u.sched.queue.filter (fun x => x.program != p)
      last := some { program := p, requester := e.requester, outcome := .dropped, step := none, reason := none,
                     failedSteps := none } } }) f stOk [] := by
  rw [abortAct_queued f found, dropped_todo e.requester (by exact h.1) notRestore, acceptLater_todo]
  exact settle_raiseThenReply n .programEnd f (by exact h) (by exact present)

theorem settle_abortGuarded (n : Nat) {u : State} {p : ProgNo} {x : Running} (f : Frame) (h : u.Settled)
    (present : u.up.present = true) (notQueued : u.isQueued p = false) (running : u.sched.running = some x)
    (own : x.program = p) (guarded : x.guarded = true) : settle (n + 1) (abortAct p f u) =
      State.answered { u with sched := { u.sched with running := some { x with marked := true } } } f stOk [] := by
  rw [abortAct_running f notQueued (isRunning_of running own), orderAbandon_guarded false running guarded,
    acceptLater_idle f (by exact h.1)]
  exact settle_lastReply n f (by exact h) (by exact present)

theorem settle_abortUnguarded (n : Nat) {u : State} {p : ProgNo} {x : Running} {c : Context} {time : Nat} (f : Frame)
    (h : u.Settled) (present : u.up.present = true) (empty : u.sched.queue = []) (running : u.sched.running = some x)
    (own : x.program = p) (unguarded : x.guarded = false) (ctx : u.seq.ctx = some c) (ordinary : 2 ≤ c.program.val)
    (kind : (u.stepAt c.index).kind = .delay time) : settle (n + 3) (abortAct p f u) =
      (raise .programEnd (u.programOver c (.abandoned c.index))).answered f stOk [] := by
  have notQueued : u.isQueued p = false := by
    unfold State.isQueued
    rw [empty]; rfl
  rw [abortAct_running f notQueued (isRunning_of running own), orderAbandon_unguarded false running unguarded,
    abandon_delay false h.1 ctx ordinary kind, acceptLater_todo]
  exact settle_endThenReply n f (by exact h) (by exact present) (by exact empty)

/-- Settles O22: the checks in order, and the three ways in which the program goes. -/
theorem abortProgramRemovesOrAbandons : Obligations.AbortProgramRemovesOrAbandons := by
  intro s tag program f ready hf
  have arg : f.arg 0 = program.toNat := by rw [hf]; rfl
  have settled : s.taken.Settled := ready.settled
  rw [exec_abortProgram ready, ← hf]
  refine ⟨fun out => by rw [reqAbortProgram_badIndex (by rw [arg]; exact out), settle_answer _ ready], fun n number => ?_⟩
  rw [reqAbortProgram_checks (arg.trans number.symm)]
  refine ⟨fun commit => ?_, fun stage role => ?_, fun stage role => ⟨fun notQueued notRunning => ?_, fun e found notRestore => ?_,
    fun x notQueued running own guarded => ?_, fun x c time empty running own unguarded ctx program ordinary kind => ?_⟩⟩
  · rw [checked_fails _ _ _ _ _ _ (by rw [taken_rtu, commit]; rfl), settle_answer _ ready]
  all_goals have early : (s.taken.rtu.stage == .commit) = false := beq_eq_false_iff_ne.mpr stage
  · have internal : decide (2 ≤ (s.taken.header n).priority) = true := decide_eq_true role
    rw [checked_passes _ _ _ _ _ _ early, checked_fails _ _ _ _ _ _ internal, settle_answer _ ready]
  all_goals
    have main : decide (2 ≤ (s.taken.header n).priority) = false :=
      decide_eq_false (Nat.not_le.mpr (Nat.lt_succ_of_le role))
    rw [checked_passes _ _ _ _ _ _ early, checked_passes _ _ _ _ _ _ main, checked_nil]
  · rw [abortAct_nothing (s := s.taken) f notQueued notRunning, settle_answer _ ready]
  · exact congrArg _ (settle_abortQueued 65533 (u := s.taken) f settled ready.present found notRestore)
  · exact congrArg _ (settle_abortGuarded 65534 (u := s.taken) f settled ready.present notQueued running own guarded)
  · subst program
    refine congrArg _ ((settle_abortUnguarded 65532 (u := s.taken) f settled ready.present empty running own unguarded ctx
      ordinary kind).trans ?_)
    unfold State.programOver
    rw [result_ordinary _ ordinary]; rfl

end Sys2Proof.Machine
end

section
/-! START_PROGRAM, and a guarded step's end with a higher request waiting (R77 to R87). -/

namespace Sys2Proof.Machine

theorem exec_startProgram {s : State} (h : s.Ready) (tag program : Byte) : exec (.startProgram tag program) s =
    .next (settle 65535 (reqStartProgram (requestFrame 0x25 tag [program]) s.taken)) :=
  event_request 0x25 tag [program] h (by simp)

theorem reqStartProgram_badIndex {s : State} {f : Frame} (out : 12 ≤ f.arg 0) :
    reqStartProgram f s = answer f stBadIndex s := by
  unfold reqStartProgram
  rw [progOf?_ge out]

theorem reqStartProgram_checks {s : State} {f : Frame} {n : ProgNo} (arg : f.arg 0 = n.val) : reqStartProgram f s =
    checked [(decide (2 ≤ (s.header n).priority), stRole), (s.rtu.stage == .commit, stCommitted),
      (!s.rtu.stage.isLineOk, stStage), (s.isRunning n || s.isQueued n, stAlready),
      (decide (4 ≤ s.sched.queue.length), stQueueFull)] f (fun s => acceptLater f (joinQueue n .main s)) s := by
  unfold reqStartProgram
  rw [arg, progOf?_lt n.isLt]; rfl

/-- A START_PROGRAM that passes every check (R87). -/
theorem reqStartProgram_accepts {s : State} {f : Frame} {n : ProgNo} (arg : f.arg 0 = n.val) (main : (s.header n).priority ≤ 1)
    (stage : s.rtu.stage = .lineOk) (notRunning : s.isRunning n = false) (notQueued : s.isQueued n = false)
    (place : s.sched.queue.length < 4) : reqStartProgram f s = acceptLater f (judgeHead (s.joined n .main)) := by
  rw [reqStartProgram_checks arg, checked_passes _ _ _ _ _ _ (decide_eq_false (Nat.not_le.mpr (Nat.lt_succ_of_le main))),
    checked_passes _ _ _ _ _ _ (congrArg (· == Stage.commit) stage),
    checked_passes _ _ _ _ _ _ (congrArg (fun x : Stage => !x.isLineOk) stage),
    checked_passes _ _ _ _ _ _ (by rw [notRunning, notQueued]; rfl),
    checked_passes _ _ _ _ _ _ (decide_eq_false (Nat.not_le.mpr place)), checked_nil, joinQueue_eq]

theorem isRunning_idle {s : State} {n : ProgNo} (idle : s.sched.running = none) : s.isRunning n = false := by
  unfold State.isRunning
  rw [idle]

theorem isQueued_empty {s : State} {n : ProgNo} (empty : s.sched.queue = []) : s.isQueued n = false := by
  unfold State.isQueued
  rw [empty]; rfl

theorem isRunning_other {s : State} {n : ProgNo} {x : Running} (running : s.sched.running = some x) (other : x.program ≠ n) :
    s.isRunning n = false := by
  unfold State.isRunning
  rw [running]
  exact beq_eq_false_iff_ne.mpr other

/-- Settles O21's order of a queue with one place: the entry alone. -/
theorem joined_empty {s : State} {n : ProgNo} {q : Requester} (empty : s.sched.queue = []) :
    (s.joined n q).sched.queue = [s.entryOf n q] := by
  show insertEntry (s.entryOf n q) s.sched.queue = _
  rw [empty]; rfl

theorem header_raise (k : EventKind) (s : State) (n : ProgNo) : (raise k s).header n = s.header n := by
  unfold State.header
  rw [raise_seq]

theorem stepAt_raise (k : EventKind) (s : State) (i : Nat) : (raise k s).stepAt i = s.stepAt i := by
  unfold State.stepAt
  rw [raise_seq]

/-- The context of a program as its first step is about to start (R52). -/
def State.firstContext (s : State) (n : ProgNo) (q : Requester) : Context :=
  { program := n, requester := q, index := (s.header n).first, timer := none, frame := none, failed := 0, wait := .none }

/-- An ordinary program without steps ends DONE as it starts (R52, R55). -/
theorem startProgramOf_empty {s : State} {n : ProgNo} (q : Requester) (priority : Nat) (h : s.agenda = [])
    (active : s.mode = .active) (ordinary : 2 ≤ n.val) (count : (s.header n).count = 0) :
    startProgramOf n q priority s = (s.programOver (s.firstContext n q) .done).todo [.raise .programEnd, .startHead] := by
  unfold startProgramOf
  rw [wake_active active]
  refine (if_pos count).trans ?_
  exact programEnd_ordinary (c := s.firstContext n q) .done false h rfl ordinary

theorem startHead_empty {s : State} {e : Entry} {rest : List Entry} (h : s.agenda = []) (idle : s.sched.running = none)
    (open' : s.sched.committed = false) (queue : s.sched.queue = e :: rest) (active : s.mode = .active)
    (ordinary : 2 ≤ e.program.val) (count : (s.header e.program).count = 0) : startHead s =
      ((setRequests rest s).programOver (s.firstContext e.program e.requester) .done).todo [.raise .programEnd, .startHead] := by
  unfold startHead
  rw [idle, open', queue]
  exact startProgramOf_empty (s := setRequests rest s) e.requester e.priority h active ordinary count

/-! ### How an accepted request settles -/

section
variable {u : State} {n : ProgNo} {f : Frame} (h : u.Settled) (present : u.up.present = true)
include h present

/-- An entry that waits: the reply alone follows. -/
theorem settle_startWaits (m : Nat) {x : Running} (running : u.sched.running = some x)
    (stays : x.guarded = true ∨ ((u.header n).priority ≤ x.priority ∧ ∀ e ∈ u.sched.queue, e.priority ≤ x.priority)) :
    settle (m + 1) (acceptLater f (judgeHead (u.joined n .main))) = (u.joined n .main).answered f stOk [] := by
  have waits : judgeHead (u.joined n .main) = u.joined n .main := by
    refine judgeHead_waits (x := x) running (stays.imp_right (fun ⟨own, others⟩ e mem => ?_))
    rcases (mem_insertEntry _ e _).mp mem with rfl | old
    · exact own
    · exact others e old
  rw [waits, acceptLater_idle (s := u.joined n .main) f h.1]
  exact settle_lastReply m f (s := u.joined n .main) h present

/-- On an idle part a program without steps ends DONE as it starts. -/
theorem settle_startEmpty (m : Nat) (idle : u.sched.running = none) (open' : u.sched.committed = false)
    (empty : u.sched.queue = []) (active : u.mode = .active) (ordinary : 2 ≤ n.val) (count : (u.header n).count = 0) :
    settle (m + 3) (acceptLater f (judgeHead (u.joined n .main))) =
      State.answered (raise .programEnd { u with seq := { u.seq with ctx := none }, sched := { u.sched with
        arrivals := u.sched.arrivals + 1
        running := none
        last := some { program := n, requester := .main, outcome := .done, step := none, reason := none,
                       failedSteps := none } } }) f stOk [] := by
  have starts := startHead_empty (s := u.joined n .main) h.1 idle open' (joined_empty empty) active ordinary count
  rw [judgeHead_idle (s := u.joined n .main) idle, starts, acceptLater_todo]
  refine (settle_endThenReply m f ?_ ?_ ?_).trans ?_
  · exact h
  · exact present
  · rfl
  · unfold State.programOver
    rw [result_ordinary _ (by exact ordinary)]
    unfold setRequests State.joined
    rw [← empty]; rfl

/-- On an idle part a program whose first step is a DELAY starts with that step. -/
theorem settle_startDelay (m : Nat) {time : Nat} (idle : u.sched.running = none) (open' : u.sched.committed = false)
    (empty : u.sched.queue = []) (active : u.mode = .active) (count : (u.header n).count ≠ 0)
    (kind : (u.stepAt (u.header n).first).kind = .delay time) :
    settle (m + 1) (acceptLater f (judgeHead (u.joined n .main))) =
      ((setRequests [] (u.joined n .main)).delayStarted n .main (u.header n).priority time).answered f stOk [] := by
  have starts := startHead_starts (s := u.joined n .main) idle open' (joined_empty empty) active count kind
  rw [judgeHead_idle (s := u.joined n .main) idle, starts]
  exact (congrArg (settle (m + 1)) (acceptLater_idle f (by exact h.1))).trans
    (settle_lastReply m f (by exact h) (by exact present))

/-- An entry that outranks an unguarded DELAY step abandons its program and starts (R80, R83). -/
theorem settle_startPreempts (m : Nat) {x : Running} {c : Context} {t time : Nat} (running : u.sched.running = some x)
    (unguarded : x.guarded = false) (outranks : x.priority < (u.header n).priority) (empty : u.sched.queue = [])
    (open' : u.sched.committed = false) (ctx : u.seq.ctx = some c) (ordinary : 2 ≤ c.program.val)
    (current : (u.stepAt c.index).kind = .delay t) (active : u.mode = .active) (count : (u.header n).count ≠ 0)
    (kind : (u.stepAt (u.header n).first).kind = .delay time) :
    settle (m + 3) (acceptLater f (judgeHead (u.joined n .main))) = State.answered
      ((setRequests [] (raise .programEnd ((u.joined n .main).programOver c (.abandoned c.index)))).delayStarted n .main
        (u.header n).priority time) f stOk [] := by
  have cuts := judgeHead_cuts (s := u.joined n .main) running (joined_empty empty) unguarded outranks
  rw [cuts, abandon_delay (s := u.joined n .main) false h.1 ctx ordinary current, acceptLater_todo]
  generalize hv : (u.joined n .main).programOver c (.abandoned c.index) = v
  have settled : v.Settled := by rw [← hv]; exact h
  have queue : v.sched.queue = [u.entryOf n .main] := by rw [← hv]; exact joined_empty empty
  have committed : v.sched.committed = false := by rw [← hv]; exact open'
  have mode : v.mode = .active := by rw [← hv]; exact active
  have none : v.sched.running = none := by rw [← hv]; rfl
  have up : v.up.present = true := by rw [← hv]; exact present
  have header : ∀ p, v.header p = u.header p := fun p => by rw [← hv]; rfl
  have step : ∀ i, v.stepAt i = u.stepAt i := fun i => by rw [← hv]; rfl
  have headStarts := settle_startHead_starts (m + 1) [.reply (replyFrame f stOk [])] (s := raise .programEnd v)
    (e := u.entryOf n .main) (rest := []) (time := time) (settled_raise _ settled).1 (by rw [raise_sched]; exact none)
    (by rw [raise_sched]; exact committed) (by rw [raise_sched]; exact queue) (by rw [raise_mode]; exact mode)
    (by rw [header_raise, header]; exact count) (by rw [header_raise, stepAt_raise, header, step]; exact kind)
  refine (settle_raise (m + 2) .programEnd _ settled.1).trans (headStarts.trans ?_)
  exact settle_lastReply m f (settled_raise .programEnd settled) (by show (raise .programEnd v).up.present = true; rw [raise_up_present]; exact up)
end

/-! ### The end of a guarded step (R81) -/

/-- The DELAY step's timer has run out (R59). -/
theorem delayExpiry_eq {s : State} {c : Context} {t : Nat} {due : Time} (up : s.Up) (ctx : s.seq.ctx = some c)
    (kind : (s.stepAt c.index).kind = .delay t) (timer : c.timer = some due) : delayExpiry s =
      { s with now := max s.now due
               seq := { s.seq with ctx := some { c with timer := none, frame := none, wait := .none } } }.todo
        [.afterStep none] := by
  unfold delayExpiry stepTimer
  rw [current_eq ctx kind]
  dsimp only
  rw [timer]
  dsimp only
  rw [if_pos up.running]
  unfold stepEnd
  rw [tidyStep_delay (s := advance due s) _ ctx kind]
  exact later_eq_todo (s := { advance due s with
    seq := { s.seq with ctx := some { c with timer := none, frame := none, wait := .none } } }) up.settled.1 _

/-- A guarded step ends with a higher request at the head: the program ends, ABANDONED unless it was its last step (R81). -/
theorem afterStep_cutOff {s : State} {c : Context} {x : Running} {e : Entry} {rest : List Entry} (h : s.agenda = [])
    (ctx : s.seq.ctx = some c) (ordinary : 2 ≤ c.program.val) (running : s.sched.running = some x) (guarded : x.guarded = true)
    (queue : s.sched.queue = e :: rest) (outranks : x.priority < e.priority) : afterStep none s =
      (s.programOver c (if s.inRange c.program (c.index + 1) = true then .abandoned c.index else .done)).todo
        [.raise .programEnd, .startHead] := by
  have due : s.cutOffDue x = true := by
    unfold State.cutOffDue
    rw [queue]
    show (x.marked || decide (x.priority < e.priority)) = true
    rw [decide_eq_true outranks, Bool.or_true]
  unfold afterStep
  rw [ctx, running]
  dsimp only
  cases range : s.inRange c.program (c.index + 1) with
  | true =>
    rw [guarded, due]
    exact programEnd_ordinary _ false h ctx ordinary
  | false =>
    rw [guarded, due]
    unfold goTo
    rw [range]
    exact programEnd_ordinary _ false h ctx ordinary

/-- What a piece of work hands on is taken before what waited (log 9). -/
theorem settle_hands (n : Nat) (w : Work) (ws l : List Work) {s t : State} (h : s.agenda = []) (r : w.isReset = false)
    (e : handle w s = t.todo l) : settle (n + 1) (s.todo (w :: ws)) = settle n (t.todo (l ++ ws)) := by
  rw [settle_todo n w ws h r, e]; rfl

/-- A raised kind changes the event unit and port U alone, and looks at no more than these and the phase (R165 to R168). -/
theorem raise_shape (k : EventKind) (s : State) : ∃ e u, ∀ v : State, v.ev = s.ev → v.up = s.up → v.phase = s.phase →
    raise k v = { v with ev := e, up := u } :=
  ⟨_, _, fun _ ev up phase => raise_eq k ev up phase⟩

/-- PROGRAM_END, then the head starts with its DELAY step, and nothing is left (R77, R85). -/
theorem settle_endThenHead (n : Nat) {s : State} {e : Entry} {rest : List Entry} {time : Nat} (h : s.Settled)
    (idle : s.sched.running = none) (open' : s.sched.committed = false) (queue : s.sched.queue = e :: rest)
    (active : s.mode = .active) (count : (s.header e.program).count ≠ 0)
    (kind : (s.stepAt (s.header e.program).first).kind = .delay time) :
    settle (n + 2) (s.todo [.raise .programEnd, .startHead]) =
      (setRequests rest (raise .programEnd s)).delayStarted e.program e.requester e.priority time := by
  have starts := settle_startHead_starts n [] (s := raise .programEnd s) (e := e) (rest := rest) (time := time)
    (settled_raise _ h).1 (by rw [raise_sched]; exact idle) (by rw [raise_sched]; exact open')
    (by rw [raise_sched]; exact queue) (by rw [raise_mode]; exact active) (by rw [header_raise]; exact count)
    (by rw [header_raise, stepAt_raise]; exact kind)
  refine (settle_raise (n + 1) .programEnd _ h.1).trans (starts.trans (settle_done n ?_))
  exact settled_raise .programEnd h

/-- Settles O20: the checks in order, then what the entry brings, by the program that runs. -/
theorem startProgramChecksStartsAndQueues : Obligations.StartProgramChecksStartsAndQueues := by
  refine ⟨fun s tag program f ready hf => ?_, fun s tag program n f ready quiet _ stage number ordinary main hf => ?_,
    fun s tag program n x f ready stage number main running other notQueued place own others hf => ?_,
    fun s tag program n x f ready stage number main running other notQueued hf => ?_,
    fun s c x e rest due now t time r up active open' ctx ordinary running guarded unmarked queue outranks current timer hnow hr
      count kind => ?_⟩
  · have arg : f.arg 0 = program.toNat := by rw [hf]; rfl
    rw [exec_startProgram ready, ← hf]
    refine ⟨fun out => by rw [reqStartProgram_badIndex (by rw [arg]; exact out), settle_answer _ ready], fun n number => ?_⟩
    rw [reqStartProgram_checks (arg.trans number.symm)]
    refine ⟨fun internal => ?_, fun main => ?_⟩
    · have refused : decide (2 ≤ (s.taken.header n).priority) = true := decide_eq_true internal
      rw [checked_fails _ _ _ _ _ _ refused, settle_answer _ ready]
    have allowed : decide (2 ≤ (s.taken.header n).priority) = false := decide_eq_false (Nat.not_le.mpr (Nat.lt_succ_of_le main))
    rw [checked_passes _ _ _ _ _ _ allowed]
    refine ⟨fun commit => ?_, fun early away => ?_, fun stage => ?_⟩
    · rw [checked_fails _ _ _ _ _ _ (by rw [taken_rtu, commit]; rfl), settle_answer _ ready]
    · have open' : (s.taken.rtu.stage == .commit) = false := beq_eq_false_iff_ne.mpr early
      have out : (!s.taken.rtu.stage.isLineOk) = true := by
        rw [Bool.not_eq_true']
        exact Bool.eq_false_iff.mpr (fun ok => away ((isLineOk_iff _).mp ok))
      rw [checked_passes _ _ _ _ _ _ open', checked_fails _ _ _ _ _ _ out, settle_answer _ ready]
    · have open' : (s.taken.rtu.stage == .commit) = false := congrArg (· == Stage.commit) stage
      have lineOk : (!s.taken.rtu.stage.isLineOk) = false := congrArg (fun x : Stage => !x.isLineOk) stage
      rw [checked_passes _ _ _ _ _ _ open', checked_passes _ _ _ _ _ _ lineOk]
      refine ⟨fun busy => ?_, fun notRunning notQueued full => ?_⟩
      · have already : (s.taken.isRunning n || s.taken.isQueued n) = true := Bool.or_eq_true_iff.mpr busy
        rw [checked_fails _ _ _ _ _ _ already, settle_answer _ ready]
      · have free : (s.taken.isRunning n || s.taken.isQueued n) = false := Bool.or_eq_false_iff.mpr ⟨notRunning, notQueued⟩
        have noPlace : decide (4 ≤ s.taken.sched.queue.length) = true := decide_eq_true full
        rw [checked_passes _ _ _ _ _ _ free, checked_fails _ _ _ _ _ _ noPlace, settle_answer _ ready]
  · have arg : f.arg 0 = n.val := by rw [hf]; exact number.symm
    have accepts := reqStartProgram_accepts (s := s.taken) arg main stage (isRunning_idle quiet.noRunning)
      (isQueued_empty quiet.noQueue) (by rw [taken_sched, quiet.noQueue]; decide)
    rw [exec_startProgram ready, ← hf, accepts]
    refine ⟨fun count => ?_, fun time count kind => ?_⟩
    · refine congrArg _ ((settle_startEmpty (u := s.taken) ready.settled ready.present 65532 quiet.noRunning quiet.notCommitted
        quiet.noQueue rfl ordinary count).trans ?_)
      rw [← quiet.noContext, ← quiet.noRunning]; rfl
    · refine congrArg _ ((settle_startDelay (u := s.taken) ready.settled ready.present 65534 quiet.noRunning quiet.notCommitted
        quiet.noQueue rfl count kind).trans ?_)
      unfold setRequests
      rw [← quiet.noQueue]; rfl
  · have arg : f.arg 0 = n.val := by rw [hf]; exact number.symm
    rw [exec_startProgram ready, ← hf,
      reqStartProgram_accepts (s := s.taken) arg main stage (isRunning_other running other) notQueued place]
    exact congrArg _ (settle_startWaits (u := s.taken) ready.settled ready.present 65534 running (Or.inr ⟨own, others⟩))
  · have arg : f.arg 0 = n.val := by rw [hf]; exact number.symm
    refine ⟨fun guarded place => ?_, fun c t time unguarded outranks empty open' ctx ordinary current count kind => ?_⟩
    · rw [exec_startProgram ready, ← hf,
        reqStartProgram_accepts (s := s.taken) arg main stage (isRunning_other running other) notQueued place]
      exact congrArg _ (settle_startWaits (u := s.taken) ready.settled ready.present 65534 running (Or.inl guarded))
    · rw [exec_startProgram ready, ← hf, reqStartProgram_accepts (s := s.taken) arg main stage (isRunning_other running other)
        notQueued (by rw [taken_sched, empty]; decide)]
      refine congrArg _ ((settle_startPreempts (u := s.taken) ready.settled ready.present 65532 running unguarded outranks empty
        open' ctx ordinary current rfl count kind).trans ?_)
      obtain ⟨ev, up, shape⟩ := raise_shape .programEnd s.taken
      rw [shape ((s.taken.joined n .main).programOver c _) rfl rfl rfl, shape s.taken rfl rfl rfl]
      unfold setRequests
      rw [← empty]; rfl
  · have expires := delayExpiry_eq up ctx current timer
    rw [← hnow] at expires
    have ended := afterStep_cutOff (s := { s with
      now := now, seq := { s.seq with ctx := some { c with timer := none, frame := none, wait := .none } } })
      up.settled.1 rfl ordinary running guarded queue outranks
    have plain : exec .delayExpiry s = _ := event_todo up.settled expires
    rw [plain]
    refine congrArg _ ((settle_hands 65535 (.afterStep none) [] _ (by exact up.settled.1) rfl ended).trans ?_)
    subst hr
    refine (settle_endThenHead 65533 (s := State.programOver { s with now := now } c _) up.settled rfl open' queue active count
      kind).trans ?_
    obtain ⟨ev, upU, shape⟩ := raise_shape .programEnd s
    rw [shape (State.programOver { s with now := now } c _) rfl rfl rfl, shape s rfl rfl rfl]; rfl

end Sys2Proof.Machine
end

section
/-! The line monitor and the ride-through stages (R41 to R44, R94 to R112). -/

namespace Sys2Proof.Machine

/-- Two pieces of work handed on by a settled state. -/
theorem later_two {s : State} (h : s.agenda = []) (w w' : Work) : later w' (later w s) = s.todo [w, w'] := by
  rw [later_eq_todo h w]; rfl

/-! ### A change of stage (R95, R106) -/

theorem setLevel_same {n : Nat} {s : State} (same : n = s.rtu.shedLevel) : setLevel n s = s := if_pos same

theorem setLevel_changes {n : Nat} {s : State} (changes : n ≠ s.rtu.shedLevel) : setLevel n s =
    later .pass { s with rtu := { s.rtu with shedLevel := n }, fwd := { s.fwd with shedLevel := n } } := if_neg changes

/-- A stage with the shed level that holds: STAGE_CHANGE alone is handed on. -/
theorem setStage_same {st : Stage} {s : State} (h : s.agenda = []) (level : shedOf st s.rtu.deepest = s.rtu.shedLevel) :
    setStage st s = (setRtu { s.rtu with stage := st } s).todo [.raise .stageChange] := by
  unfold setStage
  rw [setLevel_same (by exact level)]
  exact later_eq_todo (s := setRtu { s.rtu with stage := st } s) h _

/-- A stage with another shed level: STAGE_CHANGE, then a pass over the hold queue. -/
theorem setStage_changes {st : Stage} {s : State} (h : s.agenda = []) (level : shedOf st s.rtu.deepest ≠ s.rtu.shedLevel) :
    setStage st s = { s with rtu := { s.rtu with stage := st, shedLevel := shedOf st s.rtu.deepest },
                             fwd := { s.fwd with shedLevel := shedOf st s.rtu.deepest } }.todo [.raise .stageChange, .pass] := by
  unfold setStage
  rw [setLevel_changes (by exact level)]
  have handed := later_eq_todo (s := setRtu { s.rtu with stage := st } s) h (.raise .stageChange)
  rw [handed]; rfl

/-- The episode's fields as it ends (R94). -/
theorem endEpisode_eq (s : State) : endEpisode s = { s with rtu := { s.rtu with
    lossTime := none, deepest := 0, levelTimers := Vector.replicate 4 none, commitTimer := none } } := rfl

/-- LINE_OK entered from a stage without a shed level (R99, R101). -/
theorem toLineOk_same {s : State} (h : s.agenda = []) (level : s.rtu.shedLevel = 0) : toLineOk s =
    { s with rtu := { s.rtu with stage := .lineOk, lossTime := none, deepest := 0,
                                 levelTimers := Vector.replicate 4 none, commitTimer := none } }.todo
      [.raise .stageChange] := by
  unfold toLineOk
  rw [setStage_same (s := endEpisode s) (st := .lineOk) h level.symm]; rfl

theorem leaveDark_same {s : State} (h : s.agenda = []) (level : s.rtu.shedLevel = 0) : leaveDark s =
    { s with rtu := { s.rtu with stage := .lineOk, armed := false, resumeDelay := none } }.todo [.raise .stageChange] := by
  unfold leaveDark
  rw [setStage_same (s := setRtu { s.rtu with armed := false, resumeDelay := none } s) (st := .lineOk) h level.symm]; rfl

/-! ### The line's reports (R97 to R112) -/

/-- An event that raises a kind, which leaves `b`, and hands on one more piece of work, which raises another and no more. -/
theorem event_raiseThenWork {f : State → State} {s v b w : State} {k k' : EventKind} {x : Work} (h : s.Settled)
    (starts : f s = v.todo [.raise k, x]) (settledV : v.Settled) (raised : raise k v = b) (plain : x.isReset = false)
    (acts : handle x b = w.todo [.raise k']) (settled : w.Settled) : event f s = .next (raise k' w) := by
  subst raised
  rw [event_todo h starts]
  refine congrArg _ ((settle_raise 65535 k [x] settledV.1).trans ?_)
  refine (settle_hands 65534 x [] _ (by rw [raise_agenda]; exact settledV.1) plain acts).trans ?_
  exact (settle_raise 65533 k' [] settled.1).trans (settle_done _ (settled_raise k' settled))

/-- The same, where the work hands nothing on. -/
theorem event_raiseThenPlain {f : State → State} {s v b w : State} {k : EventKind} {x : Work} (h : s.Settled)
    (starts : f s = v.todo [.raise k, x]) (settledV : v.Settled) (raised : raise k v = b) (plain : x.isReset = false)
    (acts : handle x b = w) (settled : w.Settled) : event f s = .next w := by
  subst raised
  rw [event_todo h starts]
  refine congrArg _ ((settle_raise 65535 k [x] settledV.1).trans ?_)
  exact (settle_plain 65534 x [] (by rw [raise_agenda]; exact settledV.1) plain acts settled.1).trans (settle_done _ settled)

theorem lineBack_dip {s : State} (stage : s.rtu.stage = .dip) : lineBack s = toLineOk s := by
  unfold lineBack
  rw [stage]

theorem lineBack_commit {s : State} (stage : s.rtu.stage = .commit) :
    lineBack s = setRtu { s.rtu with record := { s.rtu.record with lineReturned := true } } s := by
  unfold lineBack
  rw [stage]

theorem lineBack_dark {s : State} (stage : s.rtu.stage = .dark) : lineBack s = lookAtDark s := by
  unfold lineBack
  rw [stage]

theorem lookAtDark_away {s : State} (away : s.line.state ≠ .present) : lookAtDark s = s := if_pos away

theorem lookAtDark_leaves {s : State} (present : s.line.state = .present)
    (rests : s.rtu.armed = false ∨ s.rtu.plan.resume = .wait) : lookAtDark s = leaveDark s := by
  unfold lookAtDark
  rw [if_neg (not_not_intro present)]
  rcases rests with off | wait
  · rw [off]
  · rw [wait]
    cases s.rtu.armed <;> rfl

theorem lookAtDark_resumes {s : State} {d : Nat} {m : ProgNo} (present : s.line.state = .present)
    (armed : s.rtu.armed = true) (auto : s.rtu.plan.resume = .auto d m) :
    lookAtDark s = setRtu { s.rtu with resumeDelay := some (s.now + Config.ms d) } s := by
  unfold lookAtDark
  rw [if_neg (not_not_intro present), armed, auto]

theorem lineLost_dark {s : State} (stage : s.rtu.stage = .dark) :
    lineLost s = setRtu { s.rtu with resumeDelay := none } s := by
  unfold lineLost
  rw [stage]

theorem edgeCount_eq {s : State} {n w : Nat} (window : w = 2000 * s.rtu.plan.lossWindow)
    (count : (∃ p, s.line.prev = some p ∧ s.now - p ≤ w ∧ n = s.line.count + 1) ∨
      ((∀ p, s.line.prev = some p → w < s.now - p) ∧ n = 1)) : s.edgeCount = n := by
  subst window
  unfold State.edgeCount
  rcases count with ⟨p, prev, soon, rfl⟩ | ⟨late, rfl⟩
  · rw [prev]; exact if_pos soon
  · cases prev : s.line.prev with
    | none => rfl
    | some p => exact if_neg (Nat.not_le.mpr (late p prev))

theorem lineEdge_present {s : State} (up : s.Up) (present : s.line.state = .present) :
    lineEdge s = setLine { s.line with prev := some s.now, gap := some s.gapExpiry } s := by
  unfold lineEdge
  rw [if_neg (not_not_intro up.running), if_pos present]

theorem lineEdge_counts {s : State} (up : s.Up) (away : s.line.state ≠ .present)
    (few : s.edgeCount < s.rtu.plan.returnCount) :
    lineEdge s = setLine { s.line with count := s.edgeCount, prev := some s.now } s := by
  unfold lineEdge
  rw [if_neg (not_not_intro up.running), if_neg away]
  exact if_neg (Nat.not_le.mpr few)

theorem lineEdge_returns {s : State} (up : s.Up) (away : s.line.state ≠ .present)
    (enough : s.rtu.plan.returnCount ≤ s.edgeCount) : lineEdge s =
      { s with line := { state := .present, count := s.edgeCount, prev := some s.now, gap := some s.gapExpiry } }.todo
        [.raise .lineBack, .lineBack] := by
  unfold lineEdge
  rw [if_neg (not_not_intro up.running), if_neg away]
  exact (if_pos enough).trans (later_two (by exact up.settled.1) _ _)

theorem lineGapExpiry_lost {s : State} {due : Time} (up : s.Up) (present : s.line.state = .present)
    (gap : s.line.gap = some due) : lineGapExpiry s =
      { s with now := max s.now due, line := { s.line with state := .lost, count := 0, gap := none } }.todo
        [.raise .lineLost, .lineLost] := by
  unfold lineGapExpiry
  rw [gap]
  dsimp only
  rw [if_pos ⟨up.running, present⟩]
  exact later_two (by exact up.settled.1) _ _

/-- Every bulk mark clear: none is below (R96). -/
theorem below_clear {s : State} (clear : ∀ m ∈ s.marks, m.below = false) (id : TriggerId) : s.below id = false := by
  unfold State.below
  rw [List.any_eq_false]
  intro m mem set
  rw [Bool.and_eq_true, clear m mem] at set
  exact absurd set.2 (by decide)

/-- No trigger time has passed at LOSS_TIME (R96). -/
theorem passed_now {s : State} (loss : s.rtu.lossTime = some s.now) (ms : Nat) : s.passed ms = false := by
  unfold State.passed
  rw [loss]
  cases ms with
  | zero => rfl
  | succ n =>
    have later' : ¬ s.now + Config.ms (n + 1) ≤ s.now :=
      Nat.not_le.mpr (Nat.lt_add_of_pos_right (Nat.mul_pos (by decide) (Nat.succ_pos n)))
    show (true && decide (s.now + Config.ms (n + 1) ≤ s.now)) = false
    rw [decide_eq_false later']; rfl

/-- The look at the triggers finds none met (R95, R96). -/
theorem look_nothing {s : State} (clear : ∀ m ∈ s.marks, m.below = false) (loss : s.rtu.lossTime = some s.now) : look s = s := by
  have none : s.deepestMet = 0 := by
    unfold State.deepestMet
    have met : ∀ i, s.levelMet i = false := fun i => by
      unfold State.levelMet
      rw [below_clear clear, passed_now loss]; rfl
    rw [List.filter_eq_nil_iff.mpr (fun i _ => by rw [met i]; exact Bool.false_ne_true)]; rfl
  unfold look
  dsimp only
  rw [below_clear clear, passed_now loss, none]
  cases s.rtu.stage <;> rfl

/-- The plan's trigger timers run from now (R94, R97). -/
def State.triggersStarted (s : State) (st : Stage) (deepest : Nat) : State :=
  { s with rtu := { s.rtu with
    stage := st
    deepest := deepest
    lossTime := some s.now
    levelTimers := Vector.ofFn (fun i =>
      if s.rtu.plan.afterMs i = 0 then none else some (s.now + 2000 * s.rtu.plan.afterMs i))
    commitTimer := if s.rtu.plan.commitAfterMs = 0 then none else some (s.now + 2000 * s.rtu.plan.commitAfterMs) } }

theorem startTriggers_todo (s : State) (ws : List Work) : startTriggers (s.todo ws) = (startTriggers s).todo ws := rfl

/-- A line loss in LINE_OK: DIP, with the save abandoned where one runs (R97, R189). -/
theorem lineLost_lineOk {s : State} (h : s.agenda = []) (stage : s.rtu.stage = .lineOk) (level : s.rtu.shedLevel = 0) :
    lineLost s = if s.store.save = .running then
      { s.triggersStarted .dip 0 with store := { s.store with save := .abandoned, cause := some .lineLoss } }.todo
        [.raise .stageChange, .raise .saveEnd, .look]
    else (s.triggersStarted .dip 0).todo [.raise .stageChange, .look] := by
  unfold lineLost
  rw [stage]
  dsimp only
  rw [setStage_same (s := setRtu { s.rtu with deepest := 0 } s) (st := .dip) h level.symm, startTriggers_todo]
  unfold abandonSave
  by_cases running : s.store.save = .running
  · rw [if_pos running]
    refine (congrArg (later .look) (if_pos running)).trans ?_
    rfl
  · rw [if_neg running]
    refine (congrArg (later .look) (if_neg running)).trans ?_
    rfl

/-- Settles O53: the edge's count, the stage that takes LINE_BACK, and the gap's expiry. -/
theorem lineEdgesAndGapsMoveTheLine : Obligations.LineEdgesAndGapsMoveTheLine := by
  refine ⟨fun s n w l up window count hl => ?_, fun s u due up present gap hu clear level => ?_⟩
  · have edges := edgeCount_eq window count
    have expiry : s.gapExpiry = s.now + w := by rw [window]; rfl
    have plain : ∀ t : State, t.Settled → lineEdge s = t → exec .lineEdge s = .next t := by
      intro t settled same
      have event : exec .lineEdge s = .next (lineEdge s) := event_plain up.settled (by rw [same]; exact settled)
      rw [event, same]
    refine ⟨fun present => ?_, fun away few => ?_, fun away enough => ?_⟩
    · rw [← expiry]
      exact plain _ up.settled (lineEdge_present up present)
    · rw [← edges]
      exact plain _ up.settled (lineEdge_counts up away (by rw [edges]; exact few))
    · have returns := lineEdge_returns up away (by rw [edges]; exact enough)
      rw [edges, expiry, ← hl] at returns
      obtain ⟨ev, upU, shape⟩ := raise_shape .lineBack s
      have backed : ∀ x, raise .lineBack { s with line := l, rtu := x } = { s with line := l, rtu := x, ev := ev, up := upU } :=
        fun x => shape { s with line := l, rtu := x } rfl rfl rfl
      have present : l.state = .present := by rw [hl]
      obtain ⟨t, ht⟩ : ∃ t : State, t = { s with line := l, ev := ev, up := upU } := ⟨_, rfl⟩
      have rtuT : t.rtu = s.rtu := by rw [ht]
      have agendaT : t.agenda = [] := by rw [ht]; exact up.settled.1
      have presentT : t.line.state = .present := by rw [ht]; exact present
      have raised : raise .lineBack { s with line := l } = t := (backed s.rtu).trans ht.symm
      have taken : ∀ x, handle .lineBack t = ({ t with rtu := x } : State).todo [.raise .stageChange] →
          exec .lineEdge s = .next (raise .stageChange (raise .lineBack { s with line := l, rtu := x })) := fun x acts => by
        rw [backed]
        rw [ht] at acts raised
        exact event_raiseThenWork up.settled returns up.settled raised rfl acts up.settled
      have plainly : ∀ x, handle .lineBack t = { t with rtu := x } →
          exec .lineEdge s = .next (raise .lineBack { s with line := l, rtu := x }) := fun x acts => by
        rw [backed]
        rw [ht] at acts raised
        exact event_raiseThenPlain up.settled returns up.settled raised rfl acts up.settled
      rw [← rtuT]
      refine ⟨fun dip level => ?_, fun dark level rests => ?_, fun d m dark armed auto => ?_, fun commit => ?_⟩
      · exact taken _ ((lineBack_dip dip).trans (toLineOk_same agendaT level))
      · exact taken _ (((lineBack_dark dark).trans (lookAtDark_leaves presentT rests)).trans (leaveDark_same agendaT level))
      · refine plainly _ (((lineBack_dark dark).trans (lookAtDark_resumes presentT armed auto)).trans ?_)
        rw [ht]; rfl
      · exact plainly _ (lineBack_commit commit)
  · have lost := lineGapExpiry_lost up present gap
    rw [← hu] at lost
    have settledU : u.Settled := by rw [hu]; exact up.settled
    have rtuU : u.rtu = s.rtu := by rw [hu]
    have storeU : u.store = s.store := by rw [hu]
    have clearU : ∀ m ∈ u.marks, m.below = false := by rw [hu]; exact clear
    obtain ⟨ev, upU, shape⟩ := raise_shape .lineLost u
    have raised := shape u rfl rfl rfl
    rw [← rtuU] at level ⊢
    rw [← storeU]
    refine ⟨fun lineOk v hv => ?_, fun dark => ?_⟩
    · have enters := lineLost_lineOk (s := { u with ev := ev, up := upU }) settledU.1 lineOk level
      have dip : v = u.triggersStarted .dip 0 := hv
      have settledV : (raise .lineLost v).Settled := settled_raise _ (by rw [dip]; exact settledU)
      have looks : ∀ t : State, t.marks = u.marks → t.rtu = v.rtu → t.now = u.now → look t = t := fun t marks rtu now =>
        look_nothing (by rw [marks]; exact clearU) (by rw [rtu, now, hv])
      have handed : exec .lineGapExpiry s = .next (settle 65535 ((raise .lineLost u).todo [.lineLost])) := by
        have event : exec .lineGapExpiry s = _ := event_todo up.settled lost
        rw [event]
        exact congrArg _ (settle_raise 65535 .lineLost _ settledU.1)
      rw [handed, raised]
      refine ⟨fun idle => ?_, fun running => ?_⟩
      · have dips : lineLost { u with ev := ev, up := upU } = (raise .lineLost v).todo [.raise .stageChange, .look] := by
          refine enters.trans ((if_neg (by exact idle)).trans ?_)
          rw [dip, shape (u.triggersStarted .dip 0) rfl rfl rfl]; rfl
        have settledW := settled_raise .stageChange settledV
        refine congrArg _ ((settle_hands 65534 (s := { u with ev := ev, up := upU }) .lineLost [] _ settledU.1 rfl dips).trans ?_)
        refine (settle_raise 65533 .stageChange [.look] settledV.1).trans ?_
        refine (settle_plain 65532 .look [] settledW.1 rfl (looks _ ?_ ?_ ?_) settledW.1).trans (settle_done _ settledW)
        · rw [raise_marks, raise_marks, dip]; rfl
        · rw [raise_rtu, raise_rtu]
        · rw [raise_now, raise_now, dip]; rfl
      · obtain ⟨v', hv'⟩ : ∃ v' : State, v' = { v with store := { u.store with save := .abandoned, cause := some .lineLoss } } :=
          ⟨_, rfl⟩
        have dips : lineLost { u with ev := ev, up := upU } =
            (raise .lineLost v').todo [.raise .stageChange, .raise .saveEnd, .look] := by
          refine enters.trans ((if_pos (by exact running)).trans ?_)
          rw [hv', dip, shape { u.triggersStarted .dip 0 with
            store := { u.store with save := .abandoned, cause := some .lineLoss } } rfl rfl rfl]
          rfl
        rw [← hv']
        have settledV' : (raise .lineLost v').Settled := settled_raise _ (by rw [hv', dip]; exact settledU)
        have settledX := settled_raise .stageChange settledV'
        have settledW := settled_raise .saveEnd settledX
        refine congrArg _ ((settle_hands 65534 (s := { u with ev := ev, up := upU }) .lineLost [] _ settledU.1 rfl dips).trans ?_)
        refine (settle_raise 65533 .stageChange [.raise .saveEnd, .look] settledV'.1).trans ?_
        refine (settle_raise 65532 .saveEnd [.look] settledX.1).trans ?_
        refine (settle_plain 65531 .look [] settledW.1 rfl (looks _ ?_ ?_ ?_) settledW.1).trans (settle_done _ settledW)
        · rw [raise_marks, raise_marks, raise_marks, hv', dip]; rfl
        · rw [raise_rtu, raise_rtu, raise_rtu, hv']
        · rw [raise_now, raise_now, raise_now, hv', dip]; rfl
    · have acts := lineLost_dark (s := { u with ev := ev, up := upU }) dark
      refine (event_raiseThenPlain up.settled lost settledU raised rfl acts settledU).trans ?_
      rw [shape { u with rtu := { u.rtu with resumeDelay := none } } rfl rfl rfl]; rfl

end Sys2Proof.Machine
end

section
/-! RESTORE and the resume program (R99 to R102, R112). -/

namespace Sys2Proof.Machine

/-! ### A program requested of an idle part (R77, R78) -/

/-- The part that starts the program it is asked for. -/
def State.startedFor (s : State) (n : ProgNo) (q : Requester) (time : Nat) : State :=
  { s with
    sched := { s.sched with
      arrivals := s.sched.arrivals + 1
      running := some { program := n, requester := q, priority := (s.header n).priority,
                        guarded := (s.stepAt (s.header n).first).guarded, marked := false } }
    seq := { s.seq with ctx := some {
      program := n, requester := q, index := (s.header n).first, timer := some (s.now + 2000 * time), frame := none,
      failed := 0, wait := .none } } }

/-- What a part with no program is like after an event kind (R76, R165). -/
theorem quiet_raise {s : State} (k : EventKind) (h : s.Quiet) : (raise k s).Quiet where
  settled := settled_raise k h.settled
  running := by rw [raise_phase]; exact h.running
  noContext := by rw [raise_seq]; exact h.noContext
  noRunning := by rw [raise_sched]; exact h.noRunning
  noQueue := by rw [raise_sched]; exact h.noQueue
  notCommitted := by rw [raise_sched]; exact h.notCommitted
  noHold := by rw [raise_fwd]; exact h.noHold

theorem quiet_like {s t : State} (h : s.Quiet) (settled : (t.agenda, t.takeDue) = (s.agenda, s.takeDue)) (phase : t.phase = s.phase)
    (seq : t.seq = s.seq) (sched : t.sched = s.sched) (hold : t.fwd.hold = s.fwd.hold) :
    t.Quiet where
  settled := ⟨(Prod.mk.inj settled).1.trans h.settled.1, (Prod.mk.inj settled).2.trans h.settled.2⟩
  running := phase.trans h.running
  noContext := by rw [seq]; exact h.noContext
  noRunning := by rw [sched]; exact h.noRunning
  noQueue := by rw [sched]; exact h.noQueue
  notCommitted := by rw [sched]; exact h.notCommitted
  noHold := hold.trans h.noHold

theorem startedFor_raise (k : EventKind) (s : State) (n : ProgNo) (q : Requester) (time : Nat) :
    (raise k s).startedFor n q time = raise k (s.startedFor n q time) := by
  obtain ⟨ev, up, shape⟩ := raise_shape k s
  have started := shape (s.startedFor n q time) rfl rfl rfl
  rw [started, shape s rfl rfl rfl]; rfl

/-- A request taken last by an idle part starts its program. -/
theorem settle_requestStarts (m : Nat) (ws : List Work) {s : State} {n : ProgNo} (q : Requester) {time : Nat} (quiet : s.Quiet)
    (active : s.mode = .active) (count : (s.header n).count ≠ 0)
    (kind : (s.stepAt (s.header n).first).kind = .delay time) :
    settle (m + 1) (s.todo (.request n q :: ws)) = settle m ((s.startedFor n q time).todo ws) :=
  settle_plain m _ ws quiet.settled.1 rfl (takeRequest_idle s n q time quiet active count kind) quiet.settled.1

/-- STAGE_CHANGE, then a request of an idle part. -/
theorem settle_stageThenRequest (m : Nat) {s : State} {n : ProgNo} (q : Requester) {time : Nat} (quiet : s.Quiet)
    (active : s.mode = .active) (count : (s.header n).count ≠ 0)
    (kind : (s.stepAt (s.header n).first).kind = .delay time) :
    settle (m + 2) (s.todo [.raise .stageChange, .request n q]) = raise .stageChange (s.startedFor n q time) := by
  have count' : ((raise .stageChange s).header n).count ≠ 0 := by rw [header_raise]; exact count
  have kind' : ((raise .stageChange s).stepAt ((raise .stageChange s).header n).first).kind = .delay time := by
    rw [header_raise, stepAt_raise]; exact kind
  refine (settle_raise (m + 1) .stageChange _ quiet.settled.1).trans ?_
  refine (settle_requestStarts m [] q (quiet_raise _ quiet) (by rw [raise_mode]; exact active) count' kind').trans ?_
  rw [startedFor_raise]
  exact settle_done m (settled_raise _ quiet.settled)

/-! ### The stages that take a line's return and loss (R99, R102, R111, R112) -/

/-- The line back in SHED: RECOVER at the same shed level, and RESTORE requested (R100). -/
theorem lineBack_shed {s : State} {k : Nat} (h : s.agenda = []) (stage : s.rtu.stage = .shed k)
    (level : s.rtu.deepest = s.rtu.shedLevel) : lineBack s =
      { s with rtu := { s.rtu with stage := .recover, levelTimers := Vector.replicate 4 none, commitTimer := none } }.todo
        [.raise .stageChange, .request 1 .holdup] := by
  unfold lineBack
  rw [stage]
  dsimp only
  rw [setStage_same (st := .recover) h level]; rfl

theorem resumeExpiry_leaves {s : State} {due : Time} {d : Nat} {n : ProgNo} (h : s.agenda = []) (stage : s.rtu.stage = .dark)
    (delay : s.rtu.resumeDelay = some due) (level : s.rtu.shedLevel = 0) (auto : s.rtu.plan.resume = .auto d n) :
    resumeExpiry s = { s with
      now := max s.now due
      rtu := { s.rtu with stage := .lineOk, armed := false, resumeDelay := none } }.todo
        [.raise .stageChange, .request n .resume] := by
  obtain ⟨t, leaves⟩ : ∃ t, leaveDark (advance due s) = t := ⟨_, rfl⟩
  have left := leaves.symm.trans (leaveDark_same (s := advance due s) h level)
  have plan : t.rtu.plan.resume = .auto d n := by rw [left]; exact auto
  unfold resumeExpiry
  rw [delay]
  dsimp only
  rw [if_pos stage, leaves, plan]
  dsimp only
  rw [left]; rfl

/-- LINE_OK entered from a stage with a shed level: a pass over the hold queue follows (R95, R101, R106). -/
theorem toLineOk_changes {s : State} (h : s.agenda = []) (level : s.rtu.shedLevel ≠ 0) : toLineOk s =
    { s with rtu := { s.rtu with stage := .lineOk, shedLevel := 0, lossTime := none, deepest := 0,
                                 levelTimers := Vector.replicate 4 none, commitTimer := none }
             fwd := { s.fwd with shedLevel := 0 } }.todo [.raise .stageChange, .pass] := by
  unfold toLineOk
  rw [setStage_changes (s := endEpisode s) (st := .lineOk) h (fun same => level same.symm)]; rfl

theorem restoreEnd_recover {s : State} (stage : s.rtu.stage = .recover) : restoreEnd s = toLineOk s := by
  unfold restoreEnd
  rw [stage]

theorem restoreEnd_shed {s : State} {k : Nat} (stage : s.rtu.stage = .shed k) : restoreEnd s = s := by
  unfold restoreEnd
  rw [stage]

/-! ### The end of RESTORE (R85, R101) -/

theorem programEnd_restore {s : State} {c : Context} (e : ProgramEnd) (agenda : s.agenda = []) (ctx : s.seq.ctx = some c)
    (restore : c.program = 1) : programEnd e false s =
      (s.programOver c e).todo [.raise .programEnd, .restoreEnd e.kind, .startHead] := by
  unfold programEnd
  rw [ctx]
  dsimp only
  rw [restore, if_neg (by decide), if_pos rfl]
  show later .startHead (later (.restoreEnd e.kind) (later (.raise .programEnd) (s.programOver c e))) = _
  rw [later_eq_todo (s := s.programOver c e) agenda]; rfl

/-- A program's last step, with nothing that asks for its abandonment: the program ends with it (R52, R53, R81). -/
theorem afterStep_ends {s : State} {c : Context} {x : Running} {failure : Option FailReason} (ctx : s.seq.ctx = some c)
    (running : s.sched.running = some x) (stays : x.guarded = false ∨ s.cutOffDue x = false) (notZero : c.program ≠ 0)
    (ends : failure = none → s.inRange c.program (c.index + 1) = false)
    (aborts : failure ≠ none → (s.stepAt c.index).onFail = .abort) :
    afterStep failure s = programEnd (c.endOf failure) false s := by
  have on : (x.guarded && s.cutOffDue x) = false := by
    rcases stays with off | off
    · rw [off]; rfl
    · rw [off, Bool.and_false]
  unfold afterStep
  rw [ctx, running]
  dsimp only
  rw [on]
  cases failure with
  | none =>
    unfold goTo
    rw [ends rfl]; rfl
  | some why =>
    dsimp only
    rw [if_neg notZero, aborts (fun none => nomatch none)]; rfl

theorem cutOffDue_none {s : State} {x : Running} (unmarked : x.marked = false) (empty : s.sched.queue = []) :
    s.cutOffDue x = false := by
  unfold State.cutOffDue
  rw [unmarked, empty]; rfl

/-- A program's last DELAY or AWAIT_SYNC step ends RESTORE in RECOVER: LINE_OK, and the hold queue's pass (R101). -/
theorem settle_restoreEnds (m : Nat) {s : State} {c : Context} {x : Running} {failure : Option FailReason} (h : s.Settled)
    (ctx : s.seq.ctx = some c) (restore : c.program = 1) (running : s.sched.running = some x)
    (stays : x.guarded = false ∨ s.cutOffDue x = false)
    (ends : failure = none → s.inRange c.program (c.index + 1) = false)
    (aborts : failure ≠ none → (s.stepAt c.index).onFail = .abort) (recover : s.rtu.stage = .recover)
    (level : s.rtu.shedLevel ≠ 0) :
    settle (m + 3) (s.todo [.afterStep failure]) = settle m
      (({ s.endedWith c (c.endOf failure) with
        rtu := { s.rtu with stage := .lineOk, shedLevel := 0, lossTime := none, deepest := 0,
                            levelTimers := Vector.replicate 4 none, commitTimer := none }
        fwd := { s.fwd with shedLevel := 0 } } : State).todo [.raise .stageChange, .pass, .startHead]) := by
  have notZero : c.program ≠ 0 := by rw [restore]; decide
  have ended := (afterStep_ends ctx running stays notZero ends aborts).trans (programEnd_restore _ h.1 ctx restore)
  have settled : (s.endedWith c (c.endOf failure)).Settled := settled_endedWith c _ h
  have stage : (s.endedWith c (c.endOf failure)).rtu = s.rtu := raise_rtu _ _
  have fwd : (s.endedWith c (c.endOf failure)).fwd = s.fwd := raise_fwd _ _
  refine (settle_hands (m + 2) (.afterStep failure) [] _ h.1 rfl ended).trans ?_
  refine (settle_raise (m + 1) .programEnd _ (by exact h.1)).trans ?_
  rw [raise_programOver]
  have back := (restoreEnd_recover (by rw [stage]; exact recover)).trans
    (toLineOk_changes settled.1 (by rw [stage]; exact level))
  rw [stage, fwd] at back
  exact (settle_hands m (.restoreEnd _) [.startHead] _ settled.1 rfl back).trans rfl

/-- The same, with no command held and no program queued. -/
theorem settle_lineOkAgain (m : Nat) {s : State} {c : Context} {x : Running} {failure : Option FailReason} (h : s.Settled)
    (ctx : s.seq.ctx = some c) (restore : c.program = 1) (running : s.sched.running = some x)
    (stays : x.guarded = false ∨ s.cutOffDue x = false)
    (ends : failure = none → s.inRange c.program (c.index + 1) = false)
    (aborts : failure ≠ none → (s.stepAt c.index).onFail = .abort) (recover : s.rtu.stage = .recover)
    (level : s.rtu.shedLevel ≠ 0) (hold : s.fwd.hold = []) (queue : s.sched.queue = []) :
    settle (m + 6) (s.todo [.afterStep failure]) = raise .stageChange { s.endedWith c (c.endOf failure) with
      rtu := { s.rtu with stage := .lineOk, shedLevel := 0, lossTime := none, deepest := 0,
                          levelTimers := Vector.replicate 4 none, commitTimer := none }
      fwd := { s.fwd with shedLevel := 0 } } := by
  have settled : (s.endedWith c (c.endOf failure)).Settled := settled_endedWith c _ h
  have queue' : (s.endedWith c (c.endOf failure)).sched.queue = [] := by
    unfold State.endedWith
    rw [raise_sched]; exact queue
  refine (settle_restoreEnds (m + 3) h ctx restore running stays ends aborts recover level).trans ?_
  obtain ⟨t, ht⟩ : ∃ t : State, t = { s.endedWith c (c.endOf failure) with
      rtu := { s.rtu with stage := .lineOk, shedLevel := 0, lossTime := none, deepest := 0,
                          levelTimers := Vector.replicate 4 none, commitTimer := none }
      fwd := { s.fwd with shedLevel := 0 } } := ⟨_, rfl⟩
  rw [← ht]
  have settledT : (raise .stageChange t).Settled := settled_raise _ (by rw [ht]; exact settled)
  refine (settle_raise (m + 2) .stageChange _ (by rw [ht]; exact settled.1)).trans ?_
  refine (settle_pass (m + 1) _ settledT.1 (by rw [raise_fwd, ht]; exact hold)).trans ?_
  exact (settle_startHead m [] settledT.1 (by rw [raise_sched, ht]; exact queue')).trans (settle_done m settledT)

theorem syncTimeout_eq {s : State} {c : Context} {t : Nat} {n : Nat} {due : Time} (up : s.Up) (ctx : s.seq.ctx = some c)
    (kind : (s.stepAt c.index).kind = .awaitSync t n) (timer : c.timer = some due) : syncTimeout s =
      { s with now := max s.now due
               sync := { armed := false, target := none, count := 0 }
               seq := { s.seq with ctx := some { c with timer := none, frame := none, wait := .none } } }.todo
        [.afterStep (some .syncTimeout)] := by
  unfold syncTimeout stepTimer
  rw [current_eq ctx kind]
  dsimp only
  rw [timer]
  dsimp only
  rw [if_pos up.running]
  unfold stepFail stepEnd tidyStep
  rw [current_eq (s := advance due s) ctx kind]
  dsimp only
  rw [modCtx_eq (disarmSync (advance due s)) _ c ctx]
  exact later_eq_todo (by exact up.settled.1) _

/-! ### A line loss in RECOVER (R102) -/

/-- What asks for the level's program, where it has one (R98, R102). -/
def levelRequest : Option ProgNo → List Work
  | some n => [.request n .holdup]
  | none => []

theorem lineLost_recover {s : State} (h : s.agenda = []) (stage : s.rtu.stage = .recover)
    (level : s.rtu.deepest = s.rtu.shedLevel) : lineLost s =
      (s.triggersStarted (.shed s.rtu.deepest) s.rtu.deepest).todo
        ([.raise .stageChange, .abandonRestore, .dropRestore] ++
          (levelRequest (s.rtu.plan.levelProgram (s.rtu.deepest - 1)) ++ [.look])) := by
  unfold lineLost
  rw [stage]
  dsimp only
  rw [setStage_same (st := .shed s.rtu.deepest) h level, startTriggers_todo]
  show later .look (match s.rtu.plan.levelProgram (s.rtu.deepest - 1) with
    | some n => later (.request n .holdup) _
    | none => _) = _
  cases s.rtu.plan.levelProgram (s.rtu.deepest - 1) <;> rfl

/-- A running RESTORE on an unguarded DELAY step is abandoned, and nothing waits behind it (R82, R102). -/
theorem abandonRestore_delay {s : State} {c : Context} {x : Running} {time : Nat} (agenda : s.agenda = [])
    (ctx : s.seq.ctx = some c) (restore : c.program = 1) (kind : (s.stepAt c.index).kind = .delay time)
    (running : s.sched.running = some x) (own : x.program = 1) (unguarded : x.guarded = false) :
    abandonRestore s =
      (s.programOver c (.abandoned c.index)).todo [.raise .programEnd, .restoreEnd .abandoned, .startHead] := by
  unfold abandonRestore
  rw [isRunning_of running own, if_pos rfl, orderAbandon_unguarded false running unguarded]
  unfold abandon
  rw [ctx]
  dsimp only
  rw [tidyStep_delay true ctx kind]
  exact programEnd_restore (c := { c with timer := none, frame := none, wait := .none }) _ (by exact agenda) rfl restore

theorem dropRestore_none {s : State} (empty : s.sched.queue = []) : dropRestore s = s := by
  unfold dropRestore
  rw [empty]; rfl

/-- RESTORE abandoned in SHED, with nothing queued: its end alone is left (R82, R85, R102). -/
theorem settle_restoreAbandoned (m k : Nat) (ws : List Work) {s : State} {c : Context} {x : Running} {time : Nat} (h : s.Settled)
    (ctx : s.seq.ctx = some c) (restore : c.program = 1) (kind : (s.stepAt c.index).kind = .delay time)
    (running : s.sched.running = some x) (own : x.program = 1) (unguarded : x.guarded = false)
    (empty : s.sched.queue = []) (stage : s.rtu.stage = .shed k) :
    settle (m + 5) (s.todo (.abandonRestore :: .dropRestore :: ws)) =
      settle m ((s.endedWith c (.abandoned c.index)).todo ws) := by
  have settled : (s.endedWith c (.abandoned c.index)).Settled := settled_endedWith c _ h
  have rtu : (s.endedWith c (.abandoned c.index)).rtu = s.rtu := raise_rtu _ _
  have queue : (s.endedWith c (.abandoned c.index)).sched.queue = [] := by
    unfold State.endedWith
    rw [raise_sched]; exact empty
  refine (settle_hands (m + 4) .abandonRestore _ _ h.1 rfl (abandonRestore_delay h.1 ctx restore kind running own unguarded)).trans ?_
  refine (settle_raise (m + 3) .programEnd _ (by exact h.1)).trans ?_
  rw [raise_programOver]
  refine (settle_plain (m + 2) (.restoreEnd .abandoned) _ settled.1 rfl (restoreEnd_shed (by rw [rtu]; exact stage)) settled.1).trans ?_
  exact (settle_startHead (m + 1) _ settled.1 queue).trans
    (settle_plain m _ ws settled.1 rfl (dropRestore_none queue) settled.1)

theorem exec_lineGapExpiry {s u : State} {due : Time} (up : s.Up) (present : s.line.state = .present)
    (gap : s.line.gap = some due)
    (hu : u = { s with now := max s.now due, line := { s.line with state := .lost, count := 0, gap := none } }) :
    exec .lineGapExpiry s = .next (settle 65535 ((raise .lineLost u).todo [.lineLost])) := by
  have lost := lineGapExpiry_lost up present gap
  rw [← hu] at lost
  have event : exec .lineGapExpiry s = _ := event_todo up.settled lost
  rw [event]
  exact congrArg _ (settle_raise 65535 .lineLost _ (by rw [hu]; exact up.settled.1))

/-- Settles O54: what takes the line's reports in SHED, RECOVER and DARK, and the programs that they start. -/
theorem returnAndResumeRequestTheirPrograms : Obligations.ReturnAndResumeRequestTheirPrograms := by
  refine ⟨fun s k time p quiet active shed level lost prev soon enough count kind => ?_,
    fun s c x due now up hold queue ctx restore running unmarked recover level timer hnow => ⟨fun time kind last => ?_,
      fun time n kind aborts unguarded => ?_⟩,
    fun s u v c x gap time up hold queue open' ctx restore running own unguarded kind recover level present hgap clear hu hv => ?_,
    fun s due d time n quiet active dark delay level auto count kind => ?_⟩
  · have up := quiet.toUp
    have away : s.line.state ≠ .present := by rw [lost]; exact fun h => nomatch h
    have edges : s.edgeCount = s.line.count + 1 := edgeCount_eq rfl (.inl ⟨p, prev, soon, rfl⟩)
    have returns := lineEdge_returns up away (Nat.le_of_eq (enough.trans edges.symm))
    obtain ⟨l, hl⟩ : ∃ l : LineMonitor, l = { state := .present, count := s.edgeCount, prev := some s.now, gap := some s.gapExpiry } :=
      ⟨_, rfl⟩
    rw [← hl] at returns
    rw [edges] at hl
    have line : l = { state := .present, count := s.line.count + 1, prev := some s.now,
                      gap := some (s.now + 2000 * s.rtu.plan.lossWindow) } := hl
    rw [← line]
    obtain ⟨ev, upU, shape⟩ := raise_shape .lineBack s
    have event : exec .lineEdge s = _ := event_todo up.settled returns
    rw [event]
    refine congrArg _ ((settle_raise 65535 .lineBack _ (by exact up.settled.1)).trans ?_)
    rw [shape { s with line := l } rfl rfl rfl]
    have back := lineBack_shed (s := { s with line := l, ev := ev, up := upU }) up.settled.1 shed level.symm
    refine (settle_hands 65534 (s := { s with line := l, ev := ev, up := upU }) .lineBack [] _ up.settled.1 rfl back).trans ?_
    refine Eq.trans (settle_stageThenRequest 65532 .holdup (time := time) (quiet_like quiet rfl rfl rfl rfl rfl) (by exact active)
      (by exact count) (by exact kind)) (congrArg (raise .stageChange) ?_)
    exact (shape { s with
      line := l
      rtu := { s.rtu with stage := .recover, levelTimers := Vector.replicate 4 none, commitTimer := none }
      sched := { s.sched with
        arrivals := s.sched.arrivals + 1
        running := some { program := 1, requester := .holdup, priority := (s.header 1).priority,
                          guarded := (s.stepAt (s.header 1).first).guarded, marked := false } }
      seq := { s.seq with
        ctx := some { program := 1, requester := .holdup, index := (s.header 1).first,
                      timer := some (s.now + 2000 * time), frame := none, failed := 0, wait := .none } } } rfl rfl rfl).symm
  · have event : exec .delayExpiry s = _ := event_todo up.settled (delayExpiry_eq up ctx kind timer)
    rw [event, hnow]
    exact congrArg _ (settle_lineOkAgain 65530 (c := { c with timer := none, frame := none, wait := .none }) (by exact up.settled) rfl restore
      (by exact running) (.inr (cutOffDue_none unmarked (by exact queue))) (fun _ => by rw [restore]; exact last)
      (fun ne => absurd rfl ne) (by exact recover) (by exact level) (by exact hold) (by exact queue))
  · have event : exec .syncTimeout s = _ := event_todo up.settled (syncTimeout_eq up ctx kind timer)
    rw [event, hnow]
    exact congrArg _ (settle_lineOkAgain 65530 (c := { c with timer := none, frame := none, wait := .none }) (by exact up.settled) rfl restore
      (by exact running) (.inl unguarded) (fun none => nomatch none)
      (fun _ => aborts) (by exact recover) (by exact level) (by exact hold) (by exact queue))
  · have settledU : u.Settled := by rw [hu]; exact up.settled
    obtain ⟨w, hw⟩ : ∃ w : State, w = { s with now := max s.now gap, line := { s.line with state := .lost, count := 0, gap := none } } :=
      ⟨_, rfl⟩
    have uw : u = w.triggersStarted (.shed w.rtu.deepest) w.rtu.deepest := by rw [hu, hw]; rfl
    obtain ⟨ev, upU, shape⟩ := raise_shape .lineLost w
    have enters := lineLost_recover (s := { w with ev := ev, up := upU }) (by rw [hw]; exact up.settled.1)
      (by rw [hw]; exact recover) (by rw [hw]; exact level.symm)
    have lost : ({ w with ev := ev, up := upU } : State).triggersStarted (.shed w.rtu.deepest) w.rtu.deepest = raise .lineLost u := by
      rw [uw, shape (w.triggersStarted (.shed w.rtu.deepest) w.rtu.deepest) rfl rfl rfl]; rfl
    have rtuW : w.rtu = s.rtu := by rw [hw]
    obtain ⟨z, hz⟩ : ∃ z, z = raise .stageChange (raise .lineLost u) := ⟨_, rfl⟩
    have settledZ : z.Settled := by rw [hz]; exact settled_raise _ (settled_raise _ settledU)
    have same : z.seq = s.seq ∧ z.sched = s.sched ∧ z.rtu = u.rtu ∧ z.fwd = s.fwd ∧ z.marks = s.marks ∧ z.now = u.now ∧
        z.mode = s.mode ∧ z.phase = s.phase :=
      ⟨by rw [hz, raise_seq, raise_seq, hu], by rw [hz, raise_sched, raise_sched, hu], by rw [hz, raise_rtu, raise_rtu],
        by rw [hz, raise_fwd, raise_fwd, hu], by rw [hz, raise_marks, raise_marks, hu], by rw [hz, raise_now, raise_now],
        by rw [hz, raise_mode, raise_mode, hu], by rw [hz, raise_phase, raise_phase, hu]⟩
    obtain ⟨seqZ, schedZ, rtuZ, fwdZ, marksZ, nowZ, modeZ, phaseZ⟩ := same
    have settledV : v.Settled := by rw [hv, ← hz]; exact settled_endedWith c _ settledZ
    rw [← hz] at hv
    have fields : v.seq = { s.seq with ctx := none } ∧
        v.sched = { s.sched with running := none, last := some (c.result (.abandoned c.index)) } ∧
        v.rtu = u.rtu ∧ v.fwd = s.fwd ∧ v.marks = s.marks ∧ v.now = u.now ∧ v.mode = s.mode ∧ v.phase = s.phase := by
      unfold State.endedWith at hv
      exact ⟨by rw [hv, raise_seq, seqZ], by rw [hv, raise_sched, schedZ], by rw [hv, raise_rtu, rtuZ],
        by rw [hv, raise_fwd, fwdZ], by rw [hv, raise_marks, marksZ], by rw [hv, raise_now, nowZ],
        by rw [hv, raise_mode, modeZ], by rw [hv, raise_phase, phaseZ]⟩
    obtain ⟨seqV, schedV, rtuV, fwdV, marksV, nowV, modeV, phaseV⟩ := fields
    have looks : ∀ t : State, t.marks = v.marks → t.rtu = v.rtu → t.now = v.now → look t = t := fun t marks rtu now =>
      look_nothing (by rw [marks, marksV]; exact clear) (by rw [rtu, now, rtuV, nowV, hu])
    have reaches : exec .lineGapExpiry s = .next (settle 65528
        (v.todo (levelRequest (s.rtu.plan.levelProgram (s.rtu.deepest - 1)) ++ [.look]))) := by
      rw [exec_lineGapExpiry up present hgap hw, shape w rfl rfl rfl]
      refine congrArg _ ((settle_hands 65534 (s := { w with ev := ev, up := upU }) .lineLost [] _
        (by rw [hw]; exact up.settled.1) rfl enters).trans ?_)
      refine Eq.trans (congrArg (fun t : State => settle 65534 (t.todo _)) lost) ?_
      refine (settle_raise 65533 .stageChange _ (settled_raise _ settledU).1).trans ?_
      rw [← hz, rtuW]
      refine Eq.trans (congrArg (fun l => settle 65533 (z.todo l)) (List.append_nil _)) ?_
      rw [hv]
      exact settle_restoreAbandoned 65528 s.rtu.deepest _ settledZ (by rw [seqZ]; exact ctx) restore
        (by rw [stepAt_congr (s := s) (by rw [seqZ])]; exact kind) (by rw [schedZ]; exact running) own unguarded
        (by rw [schedZ]; exact queue) (by rw [rtuZ, hu])
    refine ⟨fun none => ?_, fun n next program active count first => ?_⟩
    · rw [reaches, none]
      exact congrArg _ ((settle_plain 65527 .look [] settledV.1 rfl (looks v rfl rfl rfl) settledV.1).trans
        (settle_done _ settledV))
    · rw [reaches, program]
      have quiet : v.Quiet := ⟨⟨settledV, phaseV.trans up.running⟩, by rw [seqV], by rw [schedV], by rw [schedV]; exact queue,
        by rw [schedV]; exact open', by rw [fwdV]; exact hold⟩
      have header : v.header n = s.header n := by unfold State.header; rw [seqV]
      have steps : v.stepAt = s.stepAt := by funext i; exact stepAt_congr (by rw [seqV]) i
      have starts := settle_requestStarts 65527 [.look] .holdup (time := next) quiet (by rw [modeV]; exact active)
        (by rw [header]; exact count) (by rw [steps, header]; exact first)
      refine congrArg _ (starts.trans ?_)
      have settledT : (v.startedFor n .holdup next).Settled := settledV
      refine (settle_plain 65526 .look [] settledT.1 rfl (looks _ rfl rfl rfl) settledT.1).trans ((settle_done _ settledT).trans ?_)
      unfold State.startedFor
      rw [header, steps, nowV, schedV]
  · have up := quiet.toUp
    have event : exec .resumeDelayExpiry s = _ := event_todo up.settled (resumeExpiry_leaves up.settled.1 dark delay level auto)
    rw [event]
    exact congrArg _ (settle_stageThenRequest 65534 .resume (time := time) (quiet_like quiet rfl rfl rfl rfl rfl) (by exact active)
      (by exact count) (by exact kind))

end Sys2Proof.Machine
end

section
/-! The triggers of the shed levels (R95 to R98, R36). -/

namespace Sys2Proof.Machine

/-! ### Entry into SHED (R98) -/

/-- SHED(j) stands, with its level in force. -/
def State.shedEntered (s : State) (j : Nat) : State :=
  { s with
    rtu := { s.rtu with stage := .shed j, deepest := j, shedLevel := j }
    fwd := { s.fwd with shedLevel := j } }

theorem levelRequest_handed (n : Option ProgNo) (s : State) (ws : List Work) :
    (match n with
      | some n => later (.request n .holdup) (s.todo ws)
      | none => s.todo ws) = s.todo (ws ++ levelRequest n) := by
  cases n with
  | some n => rfl
  | none => exact congrArg s.todo (List.append_nil ws).symm

theorem enterShed_dip {s : State} {j : Nat} (h : s.agenda = []) (stage : s.rtu.stage = .dip) (level : s.rtu.shedLevel ≠ j) :
    enterShed j s = (s.shedEntered j).todo
      ([.raise .stageChange, .pass, .shedAbandon, .dropLow, .startHead] ++ levelRequest (s.rtu.plan.levelProgram (j - 1))) := by
  unfold enterShed
  rw [setStage_changes (s := setRtu { s.rtu with deepest := j } s) (st := .shed j) h (fun same => level same.symm), stage]
  exact levelRequest_handed _ (s.shedEntered j) [.raise .stageChange, .pass, .shedAbandon, .dropLow, .startHead]

theorem enterShed_deeper {s : State} {j k : Nat} (h : s.agenda = []) (stage : s.rtu.stage = .shed k)
    (level : s.rtu.shedLevel ≠ j) : enterShed j s = (s.shedEntered j).todo
      ([.raise .stageChange, .pass] ++ levelRequest (s.rtu.plan.levelProgram (j - 1))) := by
  unfold enterShed
  rw [setStage_changes (s := setRtu { s.rtu with deepest := j } s) (st := .shed j) h (fun same => level same.symm), stage]
  exact levelRequest_handed _ (s.shedEntered j) [.raise .stageChange, .pass]

/-! ### A trigger met (R96, R98) -/

theorem triggerMet_dip {s : State} (i : Fin 4) (bulk : Bool) (stage : s.rtu.stage = .dip) :
    triggerMet (.level i) bulk s = enterShed (i.val + 1) s := by
  unfold triggerMet
  rw [stage]

theorem triggerMet_shed {s : State} {k : Nat} (i : Fin 4) (bulk : Bool) (stage : s.rtu.stage = .shed k) :
    triggerMet (.level i) bulk s = if k < i.val + 1 then enterShed (i.val + 1) s else s := by
  unfold triggerMet
  rw [stage]

theorem triggerMet_elsewhere {s : State} (i : Fin 4) (bulk : Bool)
    (stage : s.rtu.stage = .lineOk ∨ s.rtu.stage = .recover ∨ s.rtu.stage = .commit ∨ s.rtu.stage = .dark) :
    triggerMet (.level i) bulk s = s := by
  unfold triggerMet
  rcases stage with h | h | h | h <;> rw [h]

/-- A level's timer as it expires: it stops (R94). -/
def State.levelExpired (s : State) (i : Fin 4) (due : Time) : State :=
  { s with now := max s.now due, rtu := { s.rtu with levelTimers := s.rtu.levelTimers.set i none } }

theorem triggerExpiry_level {s : State} {i : Fin 4} {due : Time} (timer : s.rtu.levelTimers.get i = some due) :
    triggerExpiry (.level i) s = triggerMet (.level i) false (s.levelExpired i due) := by
  unfold triggerExpiry
  dsimp only
  rw [timer]; rfl

/-! ### What the first entry does to the programs (R82, R98) -/

theorem shedAbandon_none {s : State} (idle : s.sched.running = none) : shedAbandon s = s := by
  unfold shedAbandon
  rw [idle]

theorem shedAbandon_spares {s : State} {x : Running} (running : s.sched.running = some x) (high : 2 ≤ x.priority) :
    shedAbandon s = s := by
  unfold shedAbandon
  rw [running]
  exact if_neg (by omega)

theorem shedAbandon_low {s : State} {x : Running} (running : s.sched.running = some x) (low : x.priority ≤ 1) :
    shedAbandon s = orderAbandon true s := by
  unfold shedAbandon
  rw [running]
  exact if_pos low

theorem filter_low_none {q : List Entry} (high : ∀ y ∈ q, 2 ≤ y.priority) : q.filter (fun e => decide (e.priority ≤ 1)) = [] :=
  List.filter_eq_nil_iff.mpr fun y mem low => absurd (high y mem) (by have := of_decide_eq_true low; omega)

theorem dropLow_none {s : State} (high : ∀ y ∈ s.sched.queue, 2 ≤ y.priority) : dropLow s = s := by
  unfold dropLow
  rw [filter_low_none high]; rfl

/-- A head finds a program that runs already (R77). -/
theorem startHead_running {s : State} {x : Running} (running : s.sched.running = some x) : startHead s = s := by
  unfold startHead
  rw [running]; rfl

/-- SHED entered from DIP by an idle part whose level has no program: what is handed on finds nothing to do. -/
theorem settle_shedIdle (m : Nat) {s : State} (h : s.Settled) (idle : s.sched.running = none) (empty : s.sched.queue = [])
    (hold : s.fwd.hold = []) :
    settle (m + 5) (s.todo [.raise .stageChange, .pass, .shedAbandon, .dropLow, .startHead]) = raise .stageChange s := by
  obtain ⟨t, ht⟩ : ∃ t, t = raise .stageChange s := ⟨_, rfl⟩
  have settled : t.Settled := by rw [ht]; exact settled_raise _ h
  have idleT : t.sched.running = none := by rw [ht, raise_sched]; exact idle
  have emptyT : t.sched.queue = [] := by rw [ht, raise_sched]; exact empty
  refine (settle_raise (m + 4) .stageChange _ h.1).trans ?_
  rw [← ht]
  refine (settle_pass (m + 3) _ settled.1 (by rw [ht, raise_fwd]; exact hold)).trans ?_
  refine (settle_plain (m + 2) .shedAbandon _ settled.1 rfl (shedAbandon_none idleT) settled.1).trans ?_
  refine (settle_plain (m + 1) .dropLow _ settled.1 rfl
    (dropLow_none (by rw [emptyT]; exact fun _ mem => nomatch mem)) settled.1).trans ?_
  exact (settle_startHead m [] settled.1 emptyT).trans (settle_done m settled)

/-! ### The queue's low entries leave, oldest first (R82) -/

/-- A requesting set that stays as it was is followed without effect (R167). -/
theorem followRequesting_same (s : State) : followRequesting s.ev.requesting s = s := by
  unfold followRequesting
  exact (if_neg (by rw [bne, Bool.and_not_self]; decide)).trans (if_neg (by rw [bne, Bool.not_and_self]; decide))

/-- A kind that is pending already changes nothing (R165). -/
theorem raise_pendingAlready {k : EventKind} {s : State} (pending : s.ev.pending ||| k.bit = s.ev.pending) : raise k s = s := by
  have same : ({ s with ev := { s.ev with pending := s.ev.pending ||| k.bit } } : State) = s := by rw [pending]
  unfold raise changeEvents
  by_cases running : s.phase = .running
  · exact (if_pos running).trans ((congrArg (followRequesting s.ev.requesting) same).trans (followRequesting_same s))
  · exact (if_neg running).trans same

theorem raise_twice (k : EventKind) (s : State) : raise k (raise k s) = raise k s :=
  raise_pendingAlready (by rw [raise_ev_pending, BitVec.or_assoc, BitVec.or_self])

theorem raise_withSched (k : EventKind) (s : State) (x : Scheduler) :
    ({ raise k s with sched := x } : State) = raise k { s with sched := x } := by
  obtain ⟨ev, up, shape⟩ := raise_shape k s
  rw [shape s rfl rfl rfl, shape { s with sched := x } rfl rfl rfl]

/-- The result of an entry that leaves the queue (R86). -/
def Entry.droppedResult (e : Entry) : Result :=
  { program := e.program, requester := e.requester, outcome := .dropped, step := none, reason := none, failedSteps := none }

/-- What a dropped entry hands on after PROGRAM_END: RESTORE's end (R85, R101). -/
def restoreDropped (n : ProgNo) : List Work := if n = 1 then [.restoreEnd .dropped] else []

theorem dropped_hands {s : State} (n : ProgNo) (q : Requester) (h : s.agenda = []) : dropped n q s =
    (setResult { program := n, requester := q, outcome := .dropped, step := none, reason := none, failedSteps := none } s).todo
      (.raise .programEnd :: restoreDropped n) := by
  unfold dropped restoreDropped
  rw [later_eq_todo (by exact h)]
  by_cases restore : n = 1
  · exact (if_pos restore).trans (by rw [if_pos restore]; rfl)
  · exact (if_neg restore).trans (by rw [if_neg restore])

/-- The oldest of some entries is one of them, and none arrived before it (R82). -/
theorem oldest_spec {l : List Entry} (some' : l ≠ []) :
    ∃ e, oldest l = some e ∧ e ∈ l ∧ ∀ y ∈ l, e.arrival ≤ y.arrival := by
  induction l with
  | nil => exact absurd rfl some'
  | cons a l ih =>
    unfold oldest
    by_cases last : l = []
    · subst last
      exact ⟨a, rfl, List.mem_cons_self, fun y mem => by
        rcases List.mem_cons.mp mem with rfl | no
        · exact Nat.le_refl _
        · exact nomatch no⟩
    · obtain ⟨e, found, mem, least⟩ := ih last
      rw [found]
      dsimp only
      by_cases older : e.arrival < a.arrival
      · refine ⟨e, if_pos older, List.mem_cons_of_mem a mem, fun y memY => ?_⟩
        rcases List.mem_cons.mp memY with rfl | later
        · exact Nat.le_of_lt older
        · exact least y later
      · refine ⟨a, if_neg older, List.mem_cons_self, fun y memY => ?_⟩
        rcases List.mem_cons.mp memY with rfl | later
        · exact Nat.le_refl _
        · exact Nat.le_trans (Nat.le_of_not_lt older) (least y later)

/-- The entries of priority 2 or above alone are left, and the last result is this entry's. -/
def State.lowDropped (s : State) (e : Entry) : State :=
  { s with sched := { s.sched with queue := s.sched.queue.filter (fun y => 2 ≤ y.priority), last := some e.droppedResult } }

/-- One entry leaves. -/
def State.entryDropped (s : State) (e : Entry) : State :=
  { s with sched := { s.sched with queue := s.sched.queue.filter (fun x => x != e), last := some e.droppedResult } }

theorem dropLow_oldest {s : State} {e : Entry} (h : s.agenda = [])
    (found : oldest (s.sched.queue.filter (fun e => e.priority ≤ 1)) = some e) : dropLow s =
      (s.entryDropped e).todo (.raise .programEnd :: (restoreDropped e.program ++ [.dropLow])) := by
  unfold dropLow
  rw [found]
  dsimp only
  rw [dropped_hands _ _ (by exact h)]; rfl

/-- A dropped entry's work in SHED comes to PROGRAM_END alone. -/
theorem settle_entryDropped (m : Nat) (n : ProgNo) (ws : List Work) {s : State} {k : Nat} (h : s.Settled)
    (stage : s.rtu.stage = .shed k) : ∃ m', m ≤ m' ∧
      settle (m + 2) (s.todo (.raise .programEnd :: (restoreDropped n ++ ws))) = settle m' ((raise .programEnd s).todo ws) := by
  have settled := settled_raise .programEnd h
  have raised := settle_raise (m + 1) .programEnd (restoreDropped n ++ ws) h.1
  by_cases restore : n = 1
  · refine ⟨m, Nat.le_refl m, raised.trans ?_⟩
    unfold restoreDropped
    rw [if_pos restore]
    exact settle_plain m (.restoreEnd .dropped) ws settled.1 rfl (restoreEnd_shed (by rw [raise_rtu]; exact stage)) settled.1
  · refine ⟨m + 1, Nat.le_succ m, raised.trans ?_⟩
    unfold restoreDropped
    rw [if_neg restore]; rfl

theorem filter_swap {α : Type} (p q : α → Bool) (l : List α) : (l.filter p).filter q = (l.filter q).filter p := by
  rw [List.filter_filter, List.filter_filter]
  exact List.filter_congr fun y _ => Bool.and_comm (q y) (p y)

/-- The entries of priority 0 and 1 leave, each with PROGRAM_END: the youngest's result stands last (R82). -/
theorem settle_dropLow (ws : List Work) (e : Entry) (k : Nat) (l : Nat) : ∀ (m : Nat) (s : State), s.Settled →
    s.rtu.stage = .shed k → (s.sched.queue.filter (fun y => y.priority ≤ 1)).length ≤ l → e ∈ s.sched.queue → e.priority ≤ 1 →
    (∀ y ∈ s.sched.queue, y.priority ≤ 1 → y = e ∨ y.arrival < e.arrival) →
    ∃ m', m ≤ m' ∧ settle (m + 3 * l + 1) (s.todo (.dropLow :: ws)) =
      settle m' ((raise .programEnd (s.lowDropped e)).todo ws) := by
  induction l with
  | zero =>
    intro m s h stage length mem low youngest
    have none := List.length_eq_zero_iff.mp (Nat.le_zero.mp length)
    exact absurd (List.mem_filter.mpr ⟨mem, decide_eq_true low⟩) (by rw [none]; exact List.not_mem_nil)
  | succ l ih =>
    intro m s h stage length mem low youngest
    have memLow : e ∈ s.sched.queue.filter (fun y => decide (y.priority ≤ 1)) := List.mem_filter.mpr ⟨mem, decide_eq_true low⟩
    obtain ⟨o, found, memO, least⟩ := oldest_spec (List.ne_nil_of_mem memLow)
    have lowO : o.priority ≤ 1 := of_decide_eq_true (List.mem_filter.mp memO).2
    obtain ⟨m₁, more, work⟩ := settle_entryDropped (m + 3 * l + 1) o.program (.dropLow :: ws) (s := s.entryDropped o) h
      (by exact stage)
    have first : settle (m + 3 * (l + 1) + 1) (s.todo (.dropLow :: ws)) =
        settle m₁ ((raise .programEnd (s.entryDropped o)).todo (.dropLow :: ws)) := by
      have taken := settle_hands (m + 3 * l + 3) .dropLow ws _ h.1 rfl (dropLow_oldest h.1 found)
      rw [List.cons_append, List.append_assoc] at taken
      exact taken.trans work
    have settled := settled_raise .programEnd (s := s.entryDropped o) h
    have sched : (raise .programEnd (s.entryDropped o)).sched = (s.entryDropped o).sched := raise_sched _ _
    by_cases last : o = e
    · subst last
      have high : s.sched.queue.filter (fun x => x != o) = s.sched.queue.filter (fun y => decide (2 ≤ y.priority)) := by
        refine List.filter_congr fun y memY => ?_
        by_cases lowY : y.priority ≤ 1
        · have same : y = o := (youngest y memY lowY).elim id fun before =>
            absurd (least y (List.mem_filter.mpr ⟨memY, decide_eq_true lowY⟩)) (Nat.not_le.mpr before)
          rw [same, decide_eq_false (by omega)]
          exact bne_self_eq_false o
        · have other : y ≠ o := fun same => lowY (same ▸ lowO)
          rw [decide_eq_true (by omega)]
          exact bne_iff_ne.mpr other
      have gone : s.entryDropped o = s.lowDropped o := by unfold State.entryDropped State.lowDropped; rw [high]
      obtain ⟨m₂, rfl⟩ : ∃ m₂, m₁ = m₂ + 1 := ⟨m₁ - 1, by omega⟩
      refine ⟨m₂, by omega, first.trans ?_⟩
      rw [gone] at settled sched ⊢
      exact settle_plain m₂ .dropLow ws settled.1 rfl (dropLow_none (by
        rw [sched]
        exact fun y memY => of_decide_eq_true (List.mem_filter.mp memY).2)) settled.1
    · have stays : (e != o) = true := bne_iff_ne.mpr fun same => last same.symm
      have fewer : ((s.sched.queue.filter (fun x => x != o)).filter (fun y => decide (y.priority ≤ 1))).length ≤ l := by
        have drops : ((s.sched.queue.filter (fun y => decide (y.priority ≤ 1))).filter (fun x => x != o)).length <
            (s.sched.queue.filter (fun y => decide (y.priority ≤ 1))).length :=
          List.length_filter_lt_length_iff_exists.mpr ⟨o, memO, by rw [bne_self_eq_false]; exact Bool.false_ne_true⟩
        rw [filter_swap]
        omega
      obtain ⟨m₂, rfl⟩ : ∃ m₂, m₁ = m₂ + 3 * l + 1 := ⟨m₁ - 3 * l - 1, by omega⟩
      obtain ⟨m', most, rest⟩ := ih m₂ (raise .programEnd (s.entryDropped o)) settled (by rw [raise_rtu]; exact stage)
        (by rw [sched]; exact fewer) (by rw [sched]; exact List.mem_filter.mpr ⟨mem, stays⟩) low
        (by rw [sched]; exact fun y memY lowY => youngest y (List.mem_filter.mp memY).1 lowY)
      refine ⟨m', by omega, first.trans (rest.trans ?_)⟩
      have high : (s.sched.queue.filter (fun x => x != o)).filter (fun y => decide (2 ≤ y.priority)) =
          s.sched.queue.filter (fun y => decide (2 ≤ y.priority)) := by
        rw [List.filter_filter]
        refine List.filter_congr fun y memY => ?_
        by_cases highY : 2 ≤ y.priority
        · have other : (y != o) = true := bne_iff_ne.mpr fun same => absurd highY (by rw [same]; omega)
          rw [other, Bool.and_true]
        · rw [decide_eq_false highY]; rfl
      have same : (raise .programEnd (s.entryDropped o)).lowDropped e = raise .programEnd (s.lowDropped e) := by
        unfold State.lowDropped
        rw [raise_withSched, raise_sched]
        unfold State.entryDropped
        exact congrArg (fun q => raise .programEnd
          { s with sched := { s.sched with queue := q, last := some e.droppedResult } }) high
      rw [same, raise_twice]

end Sys2Proof.Machine
end

section
/-! A level's program requested while another runs, and the bulk marks (R36, R78, R79, R98). -/

namespace Sys2Proof.Machine

/-! ### A request beside a running program (R77, R79) -/

theorem isRunning_differs {s : State} {n : ProgNo} {x : Running} (running : s.sched.running = some x) (other : x.program ≠ n) :
    s.isRunning n = false := by
  unfold State.isRunning
  rw [running]
  exact beq_false_of_ne other

theorem takeRequest_new {s : State} {n : ProgNo} (q : Requester) (open' : s.sched.committed = false)
    (notRunning : s.isRunning n = false) (notQueued : s.isQueued n = false) : takeRequest n q s = newEntry n q s := by
  unfold takeRequest
  rw [open', notRunning, notQueued]; rfl

/-- An entry that no running program is outranked by joins the queue and waits. -/
theorem joinQueue_waits {s : State} {n : ProgNo} {x : Running} (q : Requester) (running : s.sched.running = some x)
    (own : (s.header n).priority ≤ x.priority) (others : ∀ y ∈ s.sched.queue, y.priority ≤ x.priority) :
    joinQueue n q s = s.joined n q := by
  rw [joinQueue_eq]
  refine judgeHead_waits (x := x) running (.inr fun y mem => ?_)
  rcases (mem_insertEntry _ y _).mp mem with rfl | old
  · exact own
  · exact others y old

theorem newEntry_room {s : State} (n : ProgNo) (q : Requester) (room : s.sched.queue.length < 4) :
    newEntry n q s = joinQueue n q s := if_pos room

theorem newEntry_displaces {s : State} {n : ProgNo} {y : Entry} (q : Requester) (full : s.sched.queue.length = 4)
    (last : s.sched.queue.getLast? = some y) (lower : y.priority < (s.header n).priority) :
    newEntry n q s = joinQueue n q (dropped y.program y.requester (setRequests s.sched.queue.dropLast s)) := by
  unfold newEntry
  rw [if_neg (show ¬ s.sched.queue.length < Config.requestPlaces from Nat.not_lt.mpr (Nat.le_of_eq full.symm)), last]
  exact if_pos lower

theorem newEntry_dropped {s : State} {n : ProgNo} {y : Entry} (q : Requester) (full : s.sched.queue.length = 4)
    (last : s.sched.queue.getLast? = some y) (high : (s.header n).priority ≤ y.priority) :
    newEntry n q s = dropped n q s := by
  unfold newEntry
  rw [if_neg (show ¬ s.sched.queue.length < Config.requestPlaces from Nat.not_lt.mpr (Nat.le_of_eq full.symm)), last]
  exact if_neg (Nat.not_lt.mpr high)

/-! ### A sample of the bulk channel (R36) -/

/-- The converter's turn moves its round and the time alone (R28). -/
theorem convTurn_rest (c : ChannelId) (s : State) : { convTurn c s with conv := s.conv, now := s.now } = s := by
  unfold convTurn
  by_cases turn : c = s.conv.next
  · rw [if_pos turn]
    by_cases first : c = 0
    · rw [if_pos first]; rfl
    · rw [if_neg first]
  · rw [if_neg turn]

/-- The bulk channel's record after a sample within its limits (R31). -/
def Channel.bulkInside (x : Channel) (code : Nat) : Channel :=
  { x with lowCount := 0, highCount := 0, insideCount := min x.debounce (x.insideCount + 1), last := some code
           alarm := if x.debounce ≤ min x.debounce (x.insideCount + 1) then .none else x.alarm }

theorem sampled_bulkInside {s : State} {x : Channel} {code : Nat} (bulk : x.role = .bulk) (low : x.low ≤ code)
    (high : code ≤ x.high) : s.sampled x code = x.bulkInside code := by
  have inside : x.band (s.lowWorks x) code = .inside := by
    unfold Channel.band
    exact (if_neg (Nat.not_lt.mpr low)).trans (if_neg (Nat.not_lt.mpr high))
  unfold State.sampled
  dsimp only
  rw [inside, bulk]
  unfold Channel.bulkInside Channel.counted Channel.alarmAfter
  rw [bulk]

/-- An alarm that stays, or that clears, tells no one (R33 to R35). -/
theorem alarmEntry_calm {old : Alarm} {y : Channel} (s : State) (calm : y.alarm = old ∨ y.alarm = .none) :
    alarmEntry old y s = s := if_pos calm

theorem levelReport_bulk {y : Channel} (code : Nat) (s : State) (bulk : y.role = .bulk) : levelReport y code s = s := by
  unfold levelReport
  rw [bulk]

theorem bulkInside_alarm (x : Channel) (code : Nat) :
    (x.bulkInside code).alarm = x.alarm ∨ (x.bulkInside code).alarm = .none := by
  by_cases clears : x.debounce ≤ min x.debounce (x.insideCount + 1)
  · exact .inr (if_pos clears)
  · exact .inl (if_neg clears)

theorem judged_below {m : BulkMark} {debounce code : Nat} (above : m.below = false) (beyond : code < m.threshold)
    (settles : debounce ≤ m.count + 1) : m.judged debounce code = ({ m with below := true, count := 0 }, true) := by
  unfold BulkMark.judged
  rw [above]
  dsimp only
  rw [decide_eq_true beyond]
  exact if_pos settles

/-- The one mark goes below: its report is handed on (R36). -/
theorem marksSampled_below {s : State} {m : BulkMark} {debounce code : Nat} (h : s.agenda = []) (marks : s.marks = [m])
    (above : m.below = false) (beyond : code < m.threshold) (settles : debounce ≤ m.count + 1) :
    marksSampled debounce code s =
      { s with marks := [{ m with below := true, count := 0 }] }.todo [.markReport m.id true] := by
  unfold marksSampled
  rw [marks, List.map_singleton, judged_below above beyond settles]
  exact later_eq_todo (by exact h) _

/-- A bulk sample within the limits that takes the one mark below its threshold (R31, R36). -/
theorem senseSample_marks {s : State} {c : ChannelId} {mv code : Nat} {x : Channel} {m : BulkMark} (up : s.Up)
    (converts : s.conv.running = true) (hx : x = s.chan c) (bulk : x.role = .bulk) (hcode : code = min 1023 (mv / 4))
    (low : x.low ≤ code) (high : code ≤ x.high) (marks : s.marks = [m]) (above : m.below = false) (beyond : code < m.threshold)
    (settles : x.debounce ≤ m.count + 1) : senseSample c mv s =
      { setChan c (x.bulkInside code) (convTurn c s) with marks := [{ m with below := true, count := 0 }] }.todo
        [.markReport m.id true] := by
  have kept : (convTurn c s).chan c = x := by
    unfold State.chan
    rw [convTurn_chans, hx]; rfl
  have reading : codeOf mv = code := hcode.symm
  unfold senseSample
  rw [if_neg (by rw [up.running, converts]; decide)]
  dsimp only
  rw [kept, reading, sampled_bulkInside bulk low high, if_pos (show (x.bulkInside code).role = .bulk from bulk),
    alarmEntry_calm _ (bulkInside_alarm x code), levelReport_bulk code _ (by exact bulk)]
  refine marksSampled_below ?_ ?_ above beyond settles
  · exact (convTurn_agenda c s).trans up.settled.1
  · exact (convTurn_marks c s).trans marks

/-- A sample leaves the converter, the time, the channels and the marks apart all as it was. -/
theorem sampleTaken_rest (s : State) (c : ChannelId) (y : Channel) (l : List BulkMark) :
    ({ setChan c y (convTurn c s) with marks := l, conv := s.conv, now := s.now, chans := s.chans } : State) =
      { s with marks := l } :=
  congrArg (fun t : State => { t with marks := l, chans := s.chans }) (convTurn_rest c s)

theorem chan_setChan_other {c d : ChannelId} (y : Channel) (s : State) (other : d ≠ c) : (setChan c y s).chan d = s.chan d :=
  get_set_other s.chans y other

/-! ### The first entry's abandonment, by the running program's priority and guard (R82, R98) -/

/-- What the first entry leaves of the running program: it runs on, carries the mark, or is abandoned on a DELAY step. -/
theorem shedAbandon_settles (n : Nat) (ws : List Work) {u v : State} {x : Running} {k : Nat} (h : u.Settled)
    (running : u.sched.running = some x) (stage : u.rtu.stage = .shed k)
    (ends : (2 ≤ x.priority ∧ v = u) ∨
      (x.priority ≤ 1 ∧ x.guarded = true ∧ v = { u with sched := { u.sched with running := some { x with marked := true } } }) ∨
      (∃ c time, x.priority ≤ 1 ∧ x.guarded = false ∧ u.seq.ctx = some c ∧ 2 ≤ c.program.val ∧
        (u.stepAt c.index).kind = .delay time ∧ (∀ y ∈ u.sched.queue, y.priority ≤ 1) ∧
        v = u.endedWith c (.abandoned c.index))) :
    ∃ m, n ≤ m ∧ settle (n + 3) (u.todo (.shedAbandon :: ws)) = settle m (v.todo ws) ∧ v.Settled ∧
      v.sched.queue = u.sched.queue ∧ v.rtu.stage = .shed k ∧
      ∀ t : State, t.sched.running = v.sched.running → t.sched.queue = u.sched.queue.filter (fun y => 2 ≤ y.priority) →
        startHead t = t := by
  rcases ends with ⟨high, rfl⟩ | ⟨low, guarded, hv⟩ | ⟨c, time, low, unguarded, ctx, ordinary, kind, lows, hv⟩
  · exact ⟨n + 2, by omega, settle_plain (n + 2) .shedAbandon ws h.1 rfl (shedAbandon_spares running high) h.1, h, rfl, stage,
      fun t same _ => startHead_running (same.trans running)⟩
  · have marks := (shedAbandon_low running low).trans (orderAbandon_guarded true running guarded)
    rw [← hv] at marks
    have settled : v.Settled := by rw [hv]; exact h
    exact ⟨n + 2, by omega, settle_plain (n + 2) .shedAbandon ws h.1 rfl marks settled.1, settled, by rw [hv], by rw [hv]; exact stage,
      fun t same _ => startHead_running (x := { x with marked := true }) (same.trans (by rw [hv]))⟩
  · have over' := (shedAbandon_low running low).trans ((orderAbandon_unguarded true running unguarded).trans
      (abandon_delay true h.1 ctx ordinary kind))
    have settled : v.Settled := by rw [hv]; exact settled_endedWith c _ h
    have queue : v.sched.queue = u.sched.queue := by rw [hv]; unfold State.endedWith; rw [raise_sched]
    refine ⟨n + 1, by omega, ?_, settled, queue, ?_, fun t _ same => startHead_none ?_⟩
    · refine (settle_hands (n + 2) .shedAbandon ws _ h.1 rfl over').trans ?_
      rw [hv]
      exact settle_raise (n + 1) .programEnd ws (by exact h.1)
    · rw [hv]
      unfold State.endedWith
      rw [raise_rtu]; exact stage
    · rw [same]
      exact List.filter_eq_nil_iff.mpr fun y mem high => absurd (lows y mem) (by have := of_decide_eq_true high; omega)

/-! ### The statement -/

/-- Settles O55: a level's trigger by its timer or its mark, the first entry's effect on the programs, and its request. -/
theorem levelTriggerEntersShed : Obligations.LevelTriggerEntersShed := by
  refine ⟨fun s u i due quiet timer hu => ?_, fun s u v i due x up hold timer dip level none running length hu cases => ?_,
    fun s i c mv code x m quiet converts hx bulk hcode low high marks id above beyond settles dip level none => ?_,
    fun s v i due k n x e up hold timer shed deeper level program open' running other notQueued own others he hv => ?_⟩
  · have expiry : u = s.levelExpired i due := hu
    have met := triggerExpiry_level timer
    rw [← expiry] at met
    have settled : u.Settled := by rw [hu]; exact quiet.settled
    have plain : triggerMet (.level i) false u = u → exec (.triggerTimerExpiry (.level i)) s = .next u := fun stays => by
      have same := met.trans stays
      have event : exec (.triggerTimerExpiry (.level i)) s = .next (triggerExpiry (.level i) s) :=
        event_plain quiet.settled (by rw [same]; exact settled)
      rw [event, same]
    have rtu : u.rtu.stage = s.rtu.stage := by rw [hu]
    refine ⟨fun dip level none => ?_, fun k shed deep => ?_, fun elsewhere => ?_⟩
    · have enters := met.trans ((triggerMet_dip i false (rtu.trans dip)).trans
        (enterShed_dip settled.1 (rtu.trans dip) (by rw [hu]; show s.rtu.shedLevel ≠ _; rw [level]; exact (Nat.succ_ne_zero _).symm)))
      have event : exec (.triggerTimerExpiry (.level i)) s = _ := event_todo quiet.settled enters
      have program : u.rtu.plan.levelProgram (i.val + 1 - 1) = Option.none := by rw [hu]; exact none
      rw [event, program]
      refine congrArg _ ((settle_shedIdle 65531 (s := u.shedEntered (i.val + 1)) (by exact settled) ?_ ?_ ?_).trans ?_)
      · rw [hu]; exact quiet.noRunning
      · rw [hu]; exact quiet.noQueue
      · rw [hu]; exact quiet.noHold
      · rw [hu]; rfl
    · exact plain ((triggerMet_shed i false (rtu.trans shed)).trans (if_neg (by omega)))
    · exact plain (triggerMet_elsewhere i false (by rw [rtu]; exact elsewhere))
  · obtain ⟨w, hw⟩ : ∃ w, w = s.levelExpired i due := ⟨_, rfl⟩
    have met := triggerExpiry_level timer
    rw [← hw] at met
    have settledW : w.Settled := by rw [hw]; exact up.settled
    have stage : w.rtu.stage = .dip := by rw [hw]; exact dip
    have enters := met.trans ((triggerMet_dip i false stage).trans
      (enterShed_dip settledW.1 stage (by rw [hw]; show s.rtu.shedLevel ≠ _; rw [level]; exact (Nat.succ_ne_zero _).symm)))
    have program : w.rtu.plan.levelProgram (i.val + 1 - 1) = Option.none := by rw [hw]; exact none
    rw [program] at enters
    have hu' : u = raise .stageChange (w.shedEntered (i.val + 1)) := by rw [hu, hw]; rfl
    have settledU : u.Settled := by rw [hu']; exact settled_raise _ settledW
    have sched : u.sched = s.sched := by rw [hu, raise_sched]
    have seq : u.seq = s.seq := by rw [hu, raise_seq]
    have shed : u.rtu.stage = .shed (i.val + 1) := by rw [hu, raise_rtu]
    have event : exec (.triggerTimerExpiry (.level i)) s =
        .next (settle 65534 (u.todo [.shedAbandon, .dropLow, .startHead])) := by
      have whole : exec (.triggerTimerExpiry (.level i)) s = _ := event_todo up.settled enters
      rw [whole]
      refine congrArg _ ((settle_raise 65535 .stageChange _ (by exact settledW.1)).trans ?_)
      rw [← hu']
      exact settle_pass 65534 _ settledU.1 (by rw [hu, raise_fwd]; exact hold)
    have steps : u.stepAt = s.stepAt := funext fun i => stepAt_congr (by rw [seq]) i
    rw [← sched, ← seq, ← steps] at cases
    obtain ⟨m, fuel, abandoned, settledV, queueV, stageV, rests⟩ :=
      shedAbandon_settles 65531 [.dropLow, .startHead] settledU (by rw [sched]; exact running) shed cases
    rw [event, abandoned]
    rw [sched] at queueV rests
    refine ⟨fun high => ?_, fun e mem low youngest => ?_⟩
    · obtain ⟨m, rfl⟩ : ∃ m', m = m' + 2 := ⟨m - 2, by omega⟩
      have stays : startHead v = v := rests v rfl (by rw [queueV, List.filter_eq_self.mpr fun y mem => decide_eq_true (high y mem)])
      exact congrArg _ ((settle_plain (m + 1) .dropLow [.startHead] settledV.1 rfl (dropLow_none (by rw [queueV]; exact high))
        settledV.1).trans ((settle_plain m .startHead [] settledV.1 rfl stays settledV.1).trans (settle_done m settledV)))
    · obtain ⟨m, rfl⟩ : ∃ m', m = (m' + 1) + 3 * 4 + 1 := ⟨m - 14, by omega⟩
      obtain ⟨m', most, drops⟩ := settle_dropLow [.startHead] e (i.val + 1) 4 (m + 1) v settledV stageV
        (by rw [queueV]; exact Nat.le_trans (List.length_filter_le _ _) length) (by rw [queueV]; exact mem) low
        (by rw [queueV]; exact youngest)
      obtain ⟨m', rfl⟩ : ∃ m'', m' = m'' + 1 := ⟨m' - 1, by omega⟩
      have settled : (raise .programEnd (v.lowDropped e)).Settled := settled_raise _ settledV
      have stays := rests (raise .programEnd (v.lowDropped e)) (by rw [raise_sched]; rfl)
        (by rw [raise_sched]; unfold State.lowDropped; rw [queueV])
      refine congrArg _ (drops.trans ((settle_plain m' .startHead [] settled.1 rfl stays settled.1).trans
        ((settle_done m' settled).trans (congrArg (raise .programEnd) ?_))))
      unfold State.lowDropped Entry.droppedResult
      rw [queueV]
  · obtain ⟨w, hw⟩ : ∃ w : State, w = { setChan c (x.bulkInside code) (convTurn c s) with
        marks := [{ m with below := true, count := 0 }] } := ⟨_, rfl⟩
    have taken := senseSample_marks quiet.toUp converts hx bulk hcode low high marks above beyond settles
    rw [← hw, id] at taken
    have rtu : w.rtu = s.rtu := by rw [hw]; exact convTurn_rtu c s
    have fwd : w.fwd = s.fwd := by rw [hw]; exact convTurn_fwd c s
    have sched : w.sched = s.sched := by rw [hw]; exact convTurn_sched c s
    have settled : w.Settled := by
      rw [hw]
      exact ⟨(convTurn_agenda c s).trans quiet.settled.1, (convTurn_takeDue c s).trans quiet.settled.2⟩
    have enters := (triggerMet_dip i true (by rw [rtu]; exact dip)).trans
      (enterShed_dip settled.1 (by rw [rtu]; exact dip) (by rw [rtu, level]; exact (Nat.succ_ne_zero _).symm))
    have event : exec (.senseSample c mv) s = _ := event_todo quiet.settled taken
    have program : w.rtu.plan.levelProgram (i.val + 1 - 1) = Option.none := by rw [rtu]; exact none
    refine ⟨w, ?_, by rw [hw], fun d other => ?_, ?_⟩
    · rw [event]
      refine congrArg _ ((settle_hands 65535 (.markReport (.level i) true) [] _ settled.1 rfl enters).trans ?_)
      rw [program]
      refine (settle_shedIdle 65530 (s := w.shedEntered (i.val + 1)) (by exact settled) ?_ ?_ ?_).trans ?_
      · exact (congrArg Scheduler.running sched).trans quiet.noRunning
      · exact (congrArg Scheduler.queue sched).trans quiet.noQueue
      · exact (congrArg Forwarding.hold fwd).trans quiet.noHold
      · unfold State.shedEntered
        rw [rtu, fwd]
    · rw [hw]
      exact (chan_setChan_other _ _ other).trans (by unfold State.chan; rw [convTurn_chans])
    · rw [hw]
      exact congrArg (fun t : State => { t with marks := s.marks }) (sampleTaken_rest s c (x.bulkInside code) _)
  · obtain ⟨u, hu⟩ : ∃ u, u = s.levelExpired i due := ⟨_, rfl⟩
    have met := triggerExpiry_level timer
    rw [← hu] at met
    have settled : u.Settled := by rw [hu]; exact up.settled
    have rtu : u.rtu.stage = s.rtu.stage := by rw [hu]; rfl
    have program' : u.rtu.plan.levelProgram (i.val + 1 - 1) = some n := by rw [hu]; exact program
    have enters := met.trans ((triggerMet_shed i false (rtu.trans shed)).trans ((if_pos deeper).trans
      (enterShed_deeper settled.1 (rtu.trans shed) (by rw [hu]; exact level))))
    rw [program'] at enters
    have hv' : v = raise .stageChange (u.shedEntered (i.val + 1)) := by rw [hv, hu]; rfl
    have settledV : v.Settled := by rw [hv']; exact settled_raise _ settled
    have sched : v.sched = s.sched := by rw [hv, raise_sched]
    have header : v.header n = s.header n := by rw [hv, header_raise]; rfl
    have event : exec (.triggerTimerExpiry (.level i)) s = .next (settle 65534 (v.todo [.request n .holdup])) := by
      have whole : exec (.triggerTimerExpiry (.level i)) s = _ := event_todo up.settled enters
      rw [whole]
      refine congrArg _ ((settle_raise 65535 .stageChange _ (by exact settled.1)).trans ?_)
      rw [← hv']
      exact settle_pass 65534 _ settledV.1 (by rw [hv, raise_fwd]; exact hold)
    have asked : takeRequest n .holdup v = newEntry n .holdup v :=
      takeRequest_new .holdup (by rw [sched]; exact open') (isRunning_differs (by rw [sched]; exact running) other)
        (by unfold State.isQueued; rw [sched]; exact notQueued)
    have entry : v.entryOf n .holdup = e := by unfold State.entryOf; rw [header, sched, he]
    rw [event]
    refine ⟨fun room => ?_, fun y full last lower notRestore => ?_, fun y full last higher notRestore => ?_⟩
    · have joins : takeRequest n .holdup v = v.joined n .holdup := by
        rw [asked, newEntry_room n .holdup (by rw [sched]; exact room)]
        exact joinQueue_waits .holdup (by rw [sched]; exact running) (by rw [header]; exact own) (by rw [sched]; exact others)
      refine congrArg _ ((settle_plain 65533 (.request n .holdup) [] settledV.1 rfl joins settledV.1).trans
        ((settle_done _ (by exact settledV)).trans ?_))
      unfold State.joined
      rw [entry, sched]
    · obtain ⟨w, hw⟩ : ∃ w : State, w = setResult y.droppedResult (setRequests s.sched.queue.dropLast v) := ⟨_, rfl⟩
      have drops : dropped y.program y.requester (setRequests s.sched.queue.dropLast v) = w.todo [.raise .programEnd] := by
        rw [hw]; exact dropped_todo y.requester (by exact settledV.1) notRestore
      have joins : takeRequest n .holdup v = (w.joined n .holdup).todo [.raise .programEnd] := by
        rw [asked, newEntry_displaces .holdup (by rw [sched]; exact full) (by rw [sched]; exact last) (by rw [header]; exact lower),
          sched, drops]
        refine joinQueue_waits .holdup (x := x) ?_ ?_ fun z mem => ?_
        · rw [hw]; exact (congrArg Scheduler.running sched).trans running
        · rw [hw]; show (v.header n).priority ≤ _; rw [header]; exact own
        · rw [hw] at mem; exact others z (List.dropLast_subset _ mem)
      have settledW : (w.joined n .holdup).Settled := by rw [hw]; exact settledV
      refine congrArg _ ((settle_hands 65533 (.request n .holdup) [] _ settledV.1 rfl joins).trans
        ((settle_raise 65532 .programEnd [] settledW.1).trans ((settle_done _ (settled_raise _ settledW)).trans
          (congrArg (raise .programEnd) ?_))))
      have entryW : w.entryOf n .holdup = e := by rw [hw]; exact entry
      unfold State.joined
      rw [entryW, hw]
      unfold setResult setRequests Entry.droppedResult
      rw [sched]
    · obtain ⟨w, hw⟩ : ∃ w : State, w = { v with sched := { s.sched with last := some {
          program := n, requester := .holdup, outcome := .dropped, step := none, reason := none, failedSteps := none } } } :=
        ⟨_, rfl⟩
      have drops : takeRequest n .holdup v = w.todo [.raise .programEnd] := by
        rw [asked, newEntry_dropped .holdup (by rw [sched]; exact full) (by rw [sched]; exact last)
          (by rw [header]; exact higher), dropped_todo .holdup settledV.1 notRestore, hw]
        unfold setResult
        rw [sched]
      have settledW : w.Settled := by rw [hw]; exact settledV
      rw [← hw]
      exact congrArg _ ((settle_hands 65533 (.request n .holdup) [] _ settledV.1 rfl drops).trans
        ((settle_raise 65532 .programEnd [] settledW.1).trans (settle_done _ (settled_raise _ settledW))))

end Sys2Proof.Machine
end

section
/-! COMMIT and the end of program 0 (R84, R103, R107 to R110). -/

namespace Sys2Proof.Machine

/-! ### Entry into COMMIT (R107) -/

/-- The ride-through unit as COMMIT is entered: the record filled and its write begun, the episode ended (R107). -/
def State.commitRtu (s : State) (cause : CommitCause) : RideThrough :=
  { s.rtu with
    stage := .commit
    record := s.commitRecord cause
    write := .writing (s.commitRecord cause) s.now none
    lossTime := none
    deepest := 0
    levelTimers := Vector.replicate 4 none
    commitTimer := none }

theorem stopTriggers_setRtu (r : RideThrough) (s : State) :
    stopTriggers (setRtu r s) = setRtu { r with levelTimers := Vector.replicate 4 none, commitTimer := none } s := rfl

theorem endEpisode_setRtu (r : RideThrough) (s : State) : endEpisode (setRtu r s) =
    setRtu { r with lossTime := none, deepest := 0, levelTimers := Vector.replicate 4 none, commitTimer := none } s := rfl

/-- A write asked for while none is under way begins at once (R114). -/
theorem askWrite_setRtu {r : RideThrough} (s : State) (idle : r.write = .idle) :
    askWrite (setRtu r s) = setRtu { r with write := .writing r.record s.now none } s := by
  have same : (setRtu r s).rtu.write = .idle := idle
  unfold askWrite
  rw [same]; rfl

theorem abandonSave_idle {s : State} (cause : AbandonCause) (idle : s.store.save ≠ .running) : abandonSave cause s = s :=
  if_neg idle

/-- Entry into COMMIT with no save under way and no shed level in force: its closure, then what it hands on. -/
theorem enterCommit_hands {s : State} (cause : CommitCause) (h : s.agenda = []) (present : s.up.present = true)
    (idle : s.rtu.write = .idle) (saved : s.store.save ≠ .running) (level : s.rtu.shedLevel = 0) :
    enterCommit cause s = (commitClosure { s with rtu := s.commitRtu cause }).todo [.commitRequest, .commitEvents] := by
  obtain ⟨w, hw⟩ : ∃ w : State, w = { s with rtu := s.commitRtu cause } := ⟨_, rfl⟩
  have asked : endEpisode (askWrite (stopTriggers (setRtu { s.rtu with stage := .commit, record := s.commitRecord cause } s))) = w := by
    rw [stopTriggers_setRtu, askWrite_setRtu s (by exact idle), endEpisode_setRtu, hw]; rfl
  obtain ⟨v, closed, _, _, _, rest, _, _⟩ := commitClosure_spec w (by rw [hw]; exact present)
  have rtu : v.rtu = w.rtu := (congrArg State.rtu rest).trans rfl
  have store : v.store = s.store := (congrArg State.store rest).trans (by rw [hw])
  have agenda : v.agenda = [] := (congrArg State.agenda rest).trans (by rw [hw]; exact h)
  have same : 0 = v.rtu.shedLevel := by rw [rtu, hw]; exact level.symm
  have calm : v.store.save ≠ .running := by rw [store]; exact saved
  unfold enterCommit
  dsimp only
  rw [asked, closed, setLevel_same same, abandonSave_idle .commit calm, ← hw, closed]
  exact later_two agenda _ _

/-! ### The commit request on an idle part (R84) -/

theorem commitRequest_idle {s : State} (h : s.agenda = []) (noContext : s.seq.ctx = none) : commitRequest s =
    { s with sched := { s.sched with committed := true } }.todo [.dropAll, .startZero] := by
  unfold commitRequest abandon
  rw [noContext]
  exact later_two (by exact h) _ _

theorem dropAll_none {s : State} (empty : s.sched.queue = []) : dropAll s = s := by
  unfold dropAll
  rw [empty]

/-- Program 0 runs under the commit latch (R84). -/
def State.zeroStarted (s : State) (time : Nat) : State :=
  { s with
    sched := { s.sched with
      committed := true
      running := some { program := 0, requester := .holdup, priority := 3,
                        guarded := (s.stepAt (s.header 0).first).guarded, marked := false } }
    seq := { s.seq with
      ctx := some { program := 0, requester := .holdup, index := (s.header 0).first,
                    timer := some (s.now + 2000 * time), frame := none, failed := 0, wait := .none } } }

/-- The commit request, then COMMIT and STAGE_CHANGE. -/
theorem settle_commits (n : Nat) {s : State} {time : Nat} (up : s.Up) (attn : s.AttnInv) (noContext : s.seq.ctx = none)
    (empty : s.sched.queue = []) (active : s.mode = .active) (count : (s.header 0).count ≠ 0)
    (kind : (s.stepAt (s.header 0).first).kind = .delay time) :
    settle (n + 4) (s.todo [.commitRequest, .commitEvents]) = commitEvents (s.zeroStarted time) := by
  have settledA : ({ s with sched := { s.sched with committed := true } } : State).Settled := up.settled
  have settled : (s.zeroStarted time).Settled := up.settled
  have events := (commitEvents_spec (s.zeroStarted time) up.running attn settled).1
  refine (settle_hands (n + 3) .commitRequest [.commitEvents] _ up.settled.1 rfl
    (commitRequest_idle up.settled.1 noContext)).trans ?_
  refine (settle_plain (n + 2) .dropAll _ settledA.1 rfl (dropAll_none (by exact empty)) settledA.1).trans ?_
  refine (settle_plain (n + 1) .startZero _ settledA.1 rfl
    (startProgramOf_delay _ 0 .holdup 3 time (by exact active) (by exact count) (by exact kind)) up.settled.1).trans ?_
  exact (settle_plain n .commitEvents [] settled.1 rfl rfl events.1).trans (settle_done n events)

/-- What COMMIT leaves, however it was entered: the record and its write, the hold and forward queues emptied with their
replies, program 0 under the latch, and the two kinds pending (R84, R107, R164). -/
structure State.Committed (s : State) (cause : CommitCause) (time : Nat) (t : State) : Prop where
  rtu : t.rtu = s.commitRtu cause
  queues : ∀ p, t.queue p = [] ∧ t.outs p = s.outs p
  hold : t.fwd.hold = []
  replies : ∀ p c, c ∈ s.queue p → replyEntry (replyFrame c.frame stRefusedCommit []) ∈ t.up.tx
  sched : t.sched = (s.zeroStarted time).sched
  seq : t.seq = (s.zeroStarted time).seq
  pending : t.ev.pending = s.ev.pending ||| EventKind.commit.bit ||| EventKind.stageChange.bit
  rest : { t with choices := s.choices, rtu := s.rtu, sched := s.sched, seq := s.seq, ports := s.ports, up := s.up,
                  fwd := s.fwd, ev := s.ev } = s

theorem settle_enterCommit {s : State} {cause : CommitCause} {time : Nat} (quiet : s.Quiet) (attn : s.AttnInv)
    (present : s.up.present = true) (active : s.mode = .active) (idle : s.rtu.write = .idle)
    (saved : s.store.save ≠ .running) (level : s.rtu.shedLevel = 0) (count : (s.header 0).count ≠ 0)
    (kind : (s.stepAt (s.header 0).first).kind = .delay time) :
    ∃ t, s.Committed cause time t ∧ ∀ (n : Nat) (u : State) (ws : List Work), enterCommit cause s = u.todo ws →
      settle (n + 4) (u.todo ws) = t := by
  obtain ⟨w, hw⟩ : ∃ w : State, w = { s with rtu := s.commitRtu cause } := ⟨_, rfl⟩
  obtain ⟨v, closed, queues, hold, replies, rest, _, _⟩ := commitClosure_spec w (by rw [hw]; exact present)
  have enters := enterCommit_hands cause quiet.settled.1 present idle saved level
  rw [← hw, closed] at enters
  have agenda : v.agenda = s.agenda := (congrArg State.agenda rest).trans (by rw [hw])
  have takeDue : v.takeDue = s.takeDue := (congrArg State.takeDue rest).trans (by rw [hw])
  have phase : v.phase = s.phase := (congrArg State.phase rest).trans (by rw [hw])
  have ev : v.ev = s.ev := (congrArg State.ev rest).trans (by rw [hw])
  have seq : v.seq = s.seq := (congrArg State.seq rest).trans (by rw [hw])
  have sched : v.sched = s.sched := (congrArg State.sched rest).trans (by rw [hw])
  have mode : v.mode = s.mode := (congrArg State.mode rest).trans (by rw [hw])
  have now : v.now = s.now := (congrArg State.now rest).trans (by rw [hw])
  have rtu : v.rtu = s.commitRtu cause := (congrArg State.rtu rest).trans (by rw [hw])
  have up : v.Up := ⟨⟨agenda.trans quiet.settled.1, takeDue.trans quiet.settled.2⟩, phase.trans quiet.running⟩
  have header : v.header 0 = s.header 0 := by unfold State.header; rw [seq]
  have steps : v.stepAt = s.stepAt := funext fun i => stepAt_congr (by rw [seq]) i
  have attnV : v.AttnInv := by unfold State.AttnInv; rw [phase, ev]; exact attn
  have work := fun n => settle_commits n (time := time) up attnV (by rw [seq]; exact quiet.noContext)
    (by rw [sched]; exact quiet.noQueue) (by rw [mode]; exact active) (by rw [header]; exact count)
    (by rw [steps, header]; exact kind)
  obtain ⟨settled, pending, events, kept⟩ := commitEvents_spec (v.zeroStarted time) up.running attnV up.settled
  obtain ⟨t, ht⟩ : ∃ t, t = commitEvents (v.zeroStarted time) := ⟨_, rfl⟩
  rw [← ht] at pending events kept settled
  have fwd : t.fwd = v.fwd := by
    have same := congrArg State.fwd events
    exact same
  refine ⟨t, ?_, fun n u ws handed => ?_⟩
  · constructor
    · exact (congrArg State.rtu events).trans rtu
    · intro p
      unfold State.queue State.outs
      rw [fwd]
      exact ⟨(queues p).1, (queues p).2.trans (by rw [hw]; rfl)⟩
    · rw [fwd]; exact hold
    · exact fun p c mem => kept _ (replies p c (by rw [hw]; exact mem))
    · refine (congrArg State.sched events).trans ?_
      unfold State.zeroStarted
      rw [sched, steps, header]
    · refine (congrArg State.seq events).trans ?_
      unfold State.zeroStarted
      rw [seq, header, now]
    · rw [pending]
      exact congrArg (fun e : EventUnit => e.pending ||| EventKind.commit.bit ||| EventKind.stageChange.bit) ev
    · have mask := fun {a b : State} (h : a = b) => congrArg (fun z : State => { z with
        choices := s.choices, rtu := s.rtu, sched := s.sched, seq := s.seq, ports := s.ports, up := s.up, fwd := s.fwd, ev := s.ev }) h
      exact (mask events).trans ((mask rest).trans (by rw [hw]))
  · rw [ht, ← work n, ← handed, enters]

end Sys2Proof.Machine
end

section
/-! The commit trigger, the end of program 0 and the final drop (R24, R96, R107 to R110). -/

namespace Sys2Proof.Machine

/-! ### The commit trigger (R96, R103) -/

/-- The commit timer as it expires: it stops (R94). -/
def State.commitExpired (s : State) (due : Time) : State :=
  { s with now := max s.now due, rtu := { s.rtu with commitTimer := none } }

theorem triggerExpiry_commit {s : State} {due : Time} (timer : s.rtu.commitTimer = some due) :
    triggerExpiry .commit s = triggerMet .commit false (s.commitExpired due) := by
  unfold triggerExpiry
  dsimp only
  rw [timer]; rfl

theorem triggerMet_commitDip {s : State} (stage : s.rtu.stage = .dip) :
    triggerMet .commit false s = enterCommit .lineLoss s := by
  unfold triggerMet
  rw [stage]; rfl

theorem triggerMet_commitLineOk {s : State} (stage : s.rtu.stage = .lineOk) :
    triggerMet .commit true s = enterCommit .bulkLow s := by
  unfold triggerMet
  rw [stage]; rfl

/-! ### The end of program 0 (R85, R109) -/

theorem programEnd_zero {s : State} {c : Context} (e : ProgramEnd) (h : s.agenda = []) (ctx : s.seq.ctx = some c)
    (zero : c.program = 0) : programEnd e false s =
      (({ s with sched := { s.sched with committed := false } } : State).programOver c e).todo
        [.raise .programEnd, .zeroEnd c.failed, .startHead] := by
  unfold programEnd
  rw [ctx]
  dsimp only
  rw [zero, if_pos rfl, if_neg (by decide)]
  rw [later_eq_todo (s := setResult (c.result e) (setRunning none (setCtx none s))) h]; rfl

/-- The last step of program 0 that completes ends it: a cut-off comes too late (R53, R81). -/
theorem afterStep_zeroEnds {s : State} {c : Context} {x : Running} (ctx : s.seq.ctx = some c)
    (running : s.sched.running = some x) (zero : c.program = 0) (last : s.inRange 0 (c.index + 1) = false) :
    afterStep none s = programEnd .done false s := by
  unfold afterStep
  rw [ctx, running]
  dsimp only
  rw [zero, last]
  have late : (x.guarded && s.cutOffDue x && !(Option.isNone (none : Option FailReason) && !false)) = false := by
    rw [show (!(Option.isNone (none : Option FailReason) && !false)) = false from rfl, Bool.and_false]
  rw [late]
  unfold goTo
  rw [last]; rfl

theorem zeroEnd_hands {s : State} (failed : Nat) (h : s.agenda = []) :
    zeroEnd failed s = s.todo [.finalDrop 0, .enterDark failed] := later_two h _ _

theorem finalDrop_none {s : State} (start : Nat) (none : ∀ q, start ≤ q.val → s.dropNeeded q = false) : finalDrop start s = s := by
  have found : allRails.find? (fun r => decide (start ≤ r.val) && s.dropNeeded r) = Option.none :=
    List.find?_eq_none.mpr fun r _ needed => by
      obtain ⟨after, drop⟩ := Bool.and_eq_true_iff.mp needed
      rw [none r (of_decide_eq_true after)] at drop
      exact Bool.false_ne_true drop
  unfold finalDrop
  rw [found]

/-- One rail alone is to be dropped (R24). -/
theorem finalDrop_one {s : State} {q : RailId} (needed : s.dropNeeded q = true) (alone : ∀ d, d ≠ q → s.dropNeeded d = false) :
    finalDrop 0 s = later (.finalDrop (q.val + 1))
      (if (s.rail q).dyn.state.isUp then fallRail q s else markThenOff q s) := by
  have found : allRails.find? (fun r => decide (0 ≤ r.val) && s.dropNeeded r) = some q := by
    cases first : allRails.find? (fun r => decide (0 ≤ r.val) && s.dropNeeded r) with
    | none =>
      have no := List.find?_eq_none.mp first q (List.mem_finRange q)
      rw [needed, Bool.and_true] at no
      exact absurd (decide_eq_true (Nat.zero_le q.val)) no
    | some r =>
      have drop := (Bool.and_eq_true_iff.mp (List.find?_some (p := fun r => decide (0 ≤ r.val) && s.dropNeeded r) first)).2
      by_cases same : r = q
      · rw [same]
      · rw [alone r same] at drop; exact absurd drop Bool.false_ne_true
  unfold finalDrop
  rw [found]

/-- A pending record write: at once, or behind the one under way (R114). -/
def RecordWrite.asked (w : RecordWrite) (r : Record) (now : Time) : RecordWrite :=
  match w with
  | .idle => .writing r now none
  | .writing old begun _ => .writing old begun (some r)

theorem askWrite_asked (r : RideThrough) (s : State) :
    askWrite (setRtu r s) = setRtu { r with write := r.write.asked r.record s.now } s := by
  have same : (setRtu r s).rtu.write = r.write := rfl
  unfold askWrite RecordWrite.asked
  rw [same]
  cases r.write <;> rfl

/-- The ride-through unit as DARK is entered from the end of program 0 (R109). -/
def State.darkRtu (s : State) (failed : Nat) : RideThrough :=
  { s.rtu with
    stage := .dark
    armed := true
    record := { s.rtu.record with outcome := some .complete, failedSteps := some failed }
    write := s.rtu.write.asked { s.rtu.record with outcome := some .complete, failedSteps := some failed } s.now }

theorem enterDark_away {s : State} (failed : Nat) (h : s.agenda = []) (level : s.rtu.shedLevel = 0)
    (away : s.line.state ≠ .present) :
    enterDark failed s = { s with rtu := s.darkRtu failed }.todo [.raise .stageChange] := by
  obtain ⟨w, hw⟩ : ∃ w, w = askWrite (setRtu { s.rtu with
    record := { s.rtu.record with outcome := some .complete, failedSteps := some failed } } s) := ⟨_, rfl⟩
  rw [askWrite_asked] at hw
  have enters := setStage_same (s := setRtu { w.rtu with armed := true } w) (st := .dark) (by rw [hw]; exact h)
    (by rw [hw]; exact level.symm)
  unfold enterDark
  dsimp only
  rw [askWrite_asked, ← hw, enters, lookAtDark_away (by rw [hw]; exact away), hw]; rfl

/-- DARK at the end of program 0 with the line away, and nothing queued (R109). -/
theorem settle_enterDark (m failed : Nat) {s : State} (h : s.Settled) (level : s.rtu.shedLevel = 0)
    (away : s.line.state ≠ .present) (empty : s.sched.queue = []) :
    settle (m + 3) (s.todo [.enterDark failed, .startHead]) = raise .stageChange { s with rtu := s.darkRtu failed } := by
  have settled : (raise .stageChange { s with rtu := s.darkRtu failed }).Settled := settled_raise _ h
  refine (settle_hands (m + 2) (.enterDark failed) [.startHead] _ h.1 rfl (enterDark_away failed h.1 level away)).trans ?_
  refine (settle_raise (m + 1) .stageChange [.startHead] (by exact h.1)).trans ?_
  exact (settle_startHead m [] settled.1 (by rw [raise_sched]; exact empty)).trans (settle_done m settled)

/-- The last step of program 0 ends it: the final drop and DARK are left (R85, R109). -/
theorem settle_zeroEnds (m : Nat) {s : State} {c : Context} {x : Running} (h : s.Settled) (ctx : s.seq.ctx = some c)
    (running : s.sched.running = some x) (zero : c.program = 0) (last : s.inRange 0 (c.index + 1) = false) :
    settle (m + 3) (s.todo [.afterStep none]) = settle m
      ((({ s with sched := { s.sched with committed := false } } : State).endedWith c .done).todo
        [.finalDrop 0, .enterDark c.failed, .startHead]) := by
  have settled : (({ s with sched := { s.sched with committed := false } } : State).endedWith c .done).Settled :=
    settled_endedWith c _ h
  have ended := (afterStep_zeroEnds ctx running zero last).trans (programEnd_zero .done h.1 ctx zero)
  refine (settle_hands (m + 2) (.afterStep none) [] _ h.1 rfl ended).trans ?_
  refine (settle_raise (m + 1) .programEnd _ (by exact h.1)).trans ?_
  exact settle_hands m (.zeroEnd c.failed) [.startHead] _ settled.1 rfl (zeroEnd_hands c.failed settled.1)

theorem dropNeeded_congr {s t : State} {q : RailId} (same : t.rail q = s.rail q) : t.dropNeeded q = s.dropNeeded q := by
  unfold State.dropNeeded
  rw [same]

theorem followOff_part {s : State} {q : RailId} {e : Fin 12} (path : (s.rail q).static.path = .onPart e) : followOff q s = s := by
  unfold followOff State.isBoard RailStatic.port?
  rw [path]; rfl

/-- A rail of the part begins to fall (R24). -/
theorem fallRail_part {s : State} {q : RailId} {e : Fin 12} (h : s.agenda = []) (path : (s.rail q).static.path = .onPart e)
    (isUp : (s.rail q).dyn.state.isUp = true) :
    fallRail q s = (enterState q .falling s).todo [.report q .state, .cascade q 0] := by
  unfold fallRail
  rw [followOff_part path, moveRail_settled q .falling h (.inr (fun no => nomatch no)), isUp]; rfl

/-- No other rail up: what the fall hands on finds nothing to do (R7, R16). -/
theorem settle_fallsAlone (m : Nat) (ws : List Work) {s : State} {q : RailId} (h : s.Settled)
    (noContext : s.seq.ctx = none) (noHold : s.fwd.hold = [])
    (alone : ∀ d, d ≠ q → (s.rail d).static.used = true → (s.rail d).dyn.state.isUp = false) :
    settle (m + 4) ((enterState q .falling s).todo (.report q .state :: .cascade q 0 :: ws)) =
      settle m ((enterState q .falling s).todo ws) := by
  have moved := movedTo_enterState q .falling s
  have agenda : (enterState q .falling s).agenda = [] := (enterState_agenda q .falling s).trans h.1
  have down : ∀ d ∈ (enterState q .falling s).dependents q, ((enterState q .falling s).railState d).isUp = false := by
    refine dependents_down q fun d used _ => ?_
    by_cases same : d = q
    · subst same
      rw [moved.rail]
      exact ⟨RailState.noConfusion, RailState.noConfusion⟩
    · rw [moved.others d same] at used ⊢
      have notUp := alone d same used
      exact ⟨fun rising => absurd ((isUp_iff _).mpr (.inl rising)) (by rw [notUp]; exact Bool.false_ne_true),
        fun risen => absurd ((isUp_iff _).mpr (.inr risen)) (by rw [notUp]; exact Bool.false_ne_true)⟩
  refine (settle_report (m + 1) q .state _ agenda (by rw [enterState_seq]; exact noContext) (by rw [enterState_fwd]; exact noHold)).trans ?_
  exact settle_cascade_none m q 0 ws agenda down

theorem rail_ended {s u : State} {c : Context} {now : Time} {e : ProgramEnd}
    (hu : u = State.endedWith { s with now := now, sched := { s.sched with committed := false } } c e) (q : RailId) :
    u.rail q = s.rail q := by
  rw [hu, rail_endedWith]; rfl

theorem darkRtu_eq {s u : State} {failed : Nat} {now : Time} {done : Record} {r : RideThrough} (rtu : u.rtu = s.rtu)
    (time : u.now = now) (hdone : done = { s.rtu.record with outcome := some .complete, failedSteps := some failed })
    (hr : r = { s.rtu with stage := .dark, armed := true, record := done, write := s.rtu.write.asked done now }) : u.darkRtu failed = r := by
  unfold State.darkRtu
  rw [rtu, time, hr, hdone]

/-- Program 0's last DELAY step ends in COMMIT: its result, and the final drop and DARK to come (R85, R109). -/
theorem zeroEnds_reaches {s u : State} {c : Context} {x : Running} {due time : Nat} (up : s.Up) (hold : s.fwd.hold = [])
    (queue : s.sched.queue = []) (ctx : s.seq.ctx = some c) (zero : c.program = 0) (running : s.sched.running = some x)
    (kind : (s.stepAt c.index).kind = .delay time) (timer : c.timer = some due) (last : s.inRange 0 (c.index + 1) = false)
    (hu : u = State.endedWith { s with now := max s.now due, sched := { s.sched with committed := false } } c .done) :
    exec .delayExpiry s = .next (settle 65533 (u.todo [.finalDrop 0, .enterDark c.failed, .startHead])) ∧ u.Settled ∧
      u.rtu = s.rtu ∧ u.line = s.line ∧ u.sched.queue = [] ∧ u.seq.ctx = none ∧ u.fwd.hold = [] ∧ u.now = max s.now due := by
  have event : exec .delayExpiry s = _ := event_todo up.settled (delayExpiry_eq up ctx kind timer)
  refine ⟨?_, by rw [hu]; exact settled_endedWith c _ up.settled, ?_⟩
  · rw [event, hu]
    exact congrArg _ (settle_zeroEnds 65533 (c := { c with timer := none, frame := none, wait := .none }) (by exact up.settled) rfl
      (by exact running) zero (by exact last))
  · rw [hu]
    unfold State.endedWith
    rw [raise_rtu, raise_line, raise_sched, raise_seq, raise_fwd, raise_now]
    exact ⟨rfl, rfl, queue, rfl, hold, rfl⟩

/-! ### The statement -/

/-- Settles O56: COMMIT by its timer and by its mark, and the end of program 0 with the line away. -/
theorem commitTriggerEntersCommit : Obligations.CommitTriggerEntersCommit := by
  refine ⟨fun s u due time quiet attn present active dip timer saved idle level count kind hu => ?_,
    fun s c mv code time x m quiet attn present active lineOk noLoss level converts plan hx bulk hcode low high marks own above
      beyond settles saved idle count kind => ?_,
    fun s u c x due time done r up hold queue ctx zero running commit level away kind timer last hu hdone hr => ⟨fun none => ?_,
      fun q e needed alone => ⟨fun path isUp => ?_, fun f off frame => ?_⟩⟩⟩
  · obtain ⟨w, hw⟩ : ∃ w, w = s.commitExpired due := ⟨_, rfl⟩
    have met := triggerExpiry_commit timer
    rw [← hw] at met
    have quietW : w.Quiet := by rw [hw]; exact quiet_like quiet rfl rfl rfl rfl rfl
    have presentW : w.up.present = true := by rw [hw]; exact present
    have idleW : w.rtu.write = .idle := by rw [hw]; exact idle
    have savedW : w.store.save ≠ .running := by rw [hw]; exact saved
    have levelW : w.rtu.shedLevel = 0 := by rw [hw]; exact level
    obtain ⟨t, committed, settles⟩ := settle_enterCommit (s := w) (cause := .lineLoss) (time := time) quietW
      (by rw [hw]; exact attn) presentW (by rw [hw]; exact active) idleW savedW levelW (by rw [hw]; exact count) (by rw [hw]; exact kind)
    have enters := enterCommit_hands .lineLoss quietW.settled.1 presentW idleW savedW levelW
    have event : exec (.triggerTimerExpiry .commit) s = .next t := by
      have whole : exec (.triggerTimerExpiry .commit) s = _ := event_todo quiet.settled
        (met.trans ((triggerMet_commitDip (by rw [hw]; exact dip)).trans enters))
      rw [whole]
      exact congrArg _ (settles 65532 _ _ enters)
    have now : t.now = w.now := (congrArg State.now committed.rest).trans rfl
    have record : t.rtu.record = w.commitRecord .lineLoss := by rw [committed.rtu]; rfl
    have filled : w.commitRecord .lineLoss = {
        integrity := .good, cause := some .lineLoss, stageAt := some .dip, deepest := some s.rtu.deepest,
        msLoss := u.sinceLoss, bulkAt := s.bulkLast, lineReturned := false, outcome := some .inProgress,
        failedSteps := none } := by
      unfold State.commitRecord
      rw [show w.rtu.stage = .dip by rw [hw]; exact dip, hw, hu]; rfl
    refine ⟨t, event, ?_, ?_, record.trans filled, ?_, ?_, ?_, ?_, ?_, ?_, fun p => ?_, committed.hold, fun p c mem => ?_, ?_, ?_, ?_, ?_⟩
    · rw [now, hw, hu]; rfl
    · rw [committed.rtu]; rfl
    · rw [record, committed.rtu]
      show RecordWrite.writing _ w.now Option.none = _
      rw [hw, hu]; rfl
    · rw [committed.rtu]; rfl
    · rw [committed.rtu]; rfl
    · rw [committed.rtu]; rfl
    · rw [committed.rtu]; exact fun i => get_replicate none i
    · rw [committed.rtu, hw]; rfl
    · have queues := committed.queues p
      rw [hw] at queues; exact queues
    · exact committed.replies p c (by rw [hw]; exact mem)
    · rw [committed.sched, hw]; rfl
    · rw [committed.seq, hw, hu]; rfl
    · rw [committed.pending, hw]; rfl
    · have rest := committed.rest
      rw [hw] at rest
      exact congrArg (fun z : State => { z with now := s.now, rtu := s.rtu }) rest
  · obtain ⟨w, hw⟩ : ∃ w : State, w = { setChan c (x.bulkInside code) (convTurn c s) with
        marks := [{ m with below := true, count := 0 }] } := ⟨_, rfl⟩
    have taken := senseSample_marks quiet.toUp converts hx bulk hcode low high marks above beyond settles
    rw [← hw, own] at taken
    have turned : { w with conv := s.conv, now := s.now, chans := s.chans, marks := s.marks } = s := by
      rw [hw]
      exact congrArg (fun t : State => { t with marks := s.marks }) (sampleTaken_rest s c (x.bulkInside code) _)
    have rtuW : w.rtu = s.rtu := (congrArg State.rtu turned).trans rfl
    have seqW : w.seq = s.seq := (congrArg State.seq turned).trans rfl
    have schedW : w.sched = s.sched := (congrArg State.sched turned).trans rfl
    have upW : w.up = s.up := (congrArg State.up turned).trans rfl
    have fwdW : w.fwd = s.fwd := (congrArg State.fwd turned).trans rfl
    have evW : w.ev = s.ev := (congrArg State.ev turned).trans rfl
    have phaseW : w.phase = s.phase := (congrArg State.phase turned).trans rfl
    have storeW : w.store = s.store := (congrArg State.store turned).trans rfl
    have headerW : w.header 0 = s.header 0 := by unfold State.header; rw [seqW]
    have stepsW : w.stepAt = s.stepAt := funext fun i => stepAt_congr (by rw [seqW]) i
    have quietW : w.Quiet := quiet_like quiet (by
      rw [show w.agenda = s.agenda from (congrArg State.agenda turned).trans rfl,
        show w.takeDue = s.takeDue from (congrArg State.takeDue turned).trans rfl]) phaseW seqW schedW (by rw [fwdW])
    have presentW : w.up.present = true := by rw [upW]; exact present
    have idleW : w.rtu.write = .idle := by rw [rtuW]; exact idle
    have savedW : w.store.save ≠ .running := by rw [storeW]; exact saved
    have levelW : w.rtu.shedLevel = 0 := by rw [rtuW]; exact level
    obtain ⟨t, committed, done⟩ := settle_enterCommit (s := w) (cause := .bulkLow) (time := time) quietW
      (by unfold State.AttnInv; rw [phaseW, evW]; exact attn) presentW ((congrArg State.mode turned).trans active) idleW savedW levelW
      (by rw [headerW]; exact count) (by rw [stepsW, headerW]; exact kind)
    have enters := enterCommit_hands .bulkLow quietW.settled.1 presentW idleW savedW levelW
    have event : exec (.senseSample c mv) s = .next t := by
      have whole : exec (.senseSample c mv) s = _ := event_todo quiet.settled taken
      rw [whole]
      refine congrArg _ ((settle_hands 65535 (.markReport .commit true) [] _ quietW.settled.1 rfl
        ((triggerMet_commitLineOk (by rw [rtuW]; exact lineOk)).trans enters)).trans ?_)
      exact done 65531 _ _ (enters.trans (congrArg _ (List.append_nil _).symm))
    have last : (w.chan c).last = some code := by
      rw [hw]
      exact congrArg Channel.last (get_set_self _ c (x.bulkInside code))
    have now : t.now = w.now := (congrArg State.now committed.rest).trans rfl
    have record : t.rtu.record = w.commitRecord .bulkLow := by rw [committed.rtu]; rfl
    have filled : w.commitRecord .bulkLow = {
        integrity := .good, cause := some .bulkLow, stageAt := some .lineOk, deepest := some s.rtu.deepest, msLoss := Option.none,
        bulkAt := some code, lineReturned := false, outcome := some .inProgress, failedSteps := Option.none } := by
      have bulkAt : w.bulkLast = some code := by
        unfold State.bulkLast
        rw [rtuW, plan]; exact last
      have msLoss : w.sinceLoss = Option.none := by
        unfold State.sinceLoss
        rw [rtuW, noLoss]; rfl
      unfold State.commitRecord
      rw [bulkAt, msLoss, rtuW, lineOk]
    refine ⟨t, event, ?_, ?_, ?_, record.trans filled, ?_, fun p => ?_, fun p q mem => ?_, ?_, ?_, ?_, ?_⟩
    · rw [committed.rtu]; rfl
    · rw [show t.marks = w.marks from (congrArg State.marks committed.rest).trans rfl, hw]
    · have chans : t.chans = w.chans := (congrArg State.chans committed.rest).trans rfl
      unfold State.chan
      rw [chans]; exact last
    · rw [record, committed.rtu]
      show RecordWrite.writing _ w.now Option.none = _
      rw [now]
    · have queues := committed.queues p
      unfold State.queue State.outs at queues ⊢
      rw [fwdW] at queues; exact queues
    · exact committed.replies p q (by unfold State.queue; rw [fwdW]; exact mem)
    · rw [committed.sched]
      unfold State.zeroStarted
      rw [schedW, stepsW, headerW]
    · rw [committed.seq]
      unfold State.zeroStarted
      rw [seqW, headerW, now]
    · rw [committed.pending, evW]
    · have mask := fun {a b : State} (h : a = b) => congrArg (fun z : State => { z with
        now := s.now, choices := s.choices, rtu := s.rtu, sched := s.sched, seq := s.seq, ports := s.ports, up := s.up, fwd := s.fwd,
        ev := s.ev, conv := s.conv, chans := s.chans, marks := s.marks }) h
      have whole := mask turned
      exact (mask committed.rest).trans whole
  · obtain ⟨event, settledU, rtuU, lineU, queueU, _, _, nowU⟩ := zeroEnds_reaches up hold queue ctx zero running kind timer last hu
    have dark : u.darkRtu c.failed = r := darkRtu_eq rtuU nowU hdone hr
    have drops := finalDrop_none (s := u) 0 fun q _ => by rw [dropNeeded_congr (rail_ended hu q)]; exact none q
    rw [event]
    refine congrArg _ ((settle_plain 65532 (.finalDrop 0) _ settledU.1 rfl drops settledU.1).trans
      ((settle_enterDark 65529 c.failed settledU (by rw [rtuU]; exact level) (by rw [lineU]; exact away) queueU).trans ?_))
    rw [dark]
  · obtain ⟨event, settledU, rtuU, lineU, queueU, ctxU, holdU, nowU⟩ := zeroEnds_reaches up hold queue ctx zero running kind timer last hu
    have dark : u.darkRtu c.failed = r := darkRtu_eq rtuU nowU hdone hr
    have rails := rail_ended hu
    have drops := fun d => dropNeeded_congr (rails d)
    have isUpU : (u.rail q).dyn.state.isUp = true := by rw [rails]; exact (isUp_iff _).mpr isUp
    have pathU : (u.rail q).static.path = .onPart e := by rw [rails]; exact path
    have moved := movedTo_enterState q .falling u
    obtain ⟨t, ht⟩ : ∃ t, t = enterState q .falling u := ⟨_, rfl⟩
    have falls := fallRail_part settledU.1 pathU isUpU
    have aloneU : ∀ d, d ≠ q → (u.rail d).static.used = true → (u.rail d).dyn.state.isUp = false := fun d other used => by
      have not := alone d other
      unfold State.dropNeeded at not
      rw [← rails, used] at not
      exact (Bool.or_eq_false_iff.mp not).1
    have settles := settle_fallsAlone 65528 [.finalDrop (q.val + 1), .enterDark c.failed, .startHead] settledU ctxU holdU aloneU
    rw [← ht] at moved falls settles
    have settledT : t.Settled := by rw [ht]; exact ⟨(enterState_agenda _ _ _).trans settledU.1, (enterState_takeDue _ _ _).trans settledU.2⟩
    have rtuT : t.rtu = s.rtu := by rw [ht, enterState_rtu, rtuU]
    have rests : finalDrop (q.val + 1) t = t := finalDrop_none _ fun d after => by
      have other : d ≠ q := fun same => absurd after (by rw [same]; omega)
      rw [dropNeeded_congr (moved.others d other), drops]
      exact alone d other
    have outputs : u.rails = s.rails ∧ u.en = s.en ∧ u.dis = s.dis ∧ u.chans = s.chans := by
      rw [hu]
      unfold State.endedWith
      rw [raise_rails, raise_en, raise_dis, raise_chans]
      exact ⟨rfl, rfl, rfl, rfl⟩
    obtain ⟨railsU, enU, disU, chansU⟩ := outputs
    refine ⟨t, ?_, by rw [ht, ← railsU, ← enU, ← disU, ← chansU]; exact enterState_rest q .falling u, ?_⟩
    · rw [rails] at moved; exact moved
    · rw [event]
      have first : finalDrop 0 u = t.todo [.report q .state, .cascade q 0, .finalDrop (q.val + 1)] := by
        rw [finalDrop_one ((drops q).trans needed) fun d other => (drops d).trans (alone d other), if_pos isUpU, falls]; rfl
      refine congrArg _ ((settle_hands 65532 (.finalDrop 0) [.enterDark c.failed, .startHead] _ settledU.1 rfl first).trans
        (settles.trans ?_))
      refine (settle_plain 65527 (.finalDrop (q.val + 1)) _ settledT.1 rfl rests settledT.1).trans ?_
      have darkT : t.darkRtu c.failed = r := darkRtu_eq rtuT (by rw [ht, enterState_now, nowU]) hdone hr
      rw [← darkT]
      exact settle_enterDark 65524 c.failed settledT (by rw [rtuT]; exact level) (by rw [ht, enterState_line, lineU]; exact away)
        (by rw [ht, enterState_sched]; exact queueU)
  · obtain ⟨event, settledU, rtuU, lineU, queueU, _, _, nowU⟩ := zeroEnds_reaches up hold queue ctx zero running kind timer last hu
    have rails := rail_ended hu
    have drops := fun d => dropNeeded_congr (rails d)
    have notUp : (u.rail q).dyn.state.isUp = false := by rw [rails, off]; rfl
    have isOn : f.isOn = true := by
      have drop := needed
      unfold State.dropNeeded at drop
      rw [off, frame] at drop
      simp only [Bool.and_eq_true, Bool.or_eq_true] at drop
      rcases drop.2 with no | ⟨_, ⟨yes, _⟩⟩
      · exact absurd no (by decide)
      · exact yes
    obtain ⟨t, ht⟩ : ∃ t, t = modDyn q (fun d => { d with frame := some { f with thenOff := true } }) u := ⟨_, rfl⟩
    have marked : markThenOff q u = t := by
      rw [ht]
      refine modDyn_congr ?_
      rw [rails, frame]
      exact congrArg (fun x => { (s.rail q).dyn with frame := some x }) (if_pos isOn)
    have railT : ∀ d, d ≠ q → t.rail d = u.rail d := fun d other => by rw [ht, rail_modDyn, if_neg other]
    have rests : finalDrop (q.val + 1) t = t := finalDrop_none _ fun d after => by
      have other : d ≠ q := fun same => absurd after (by rw [same]; omega)
      rw [dropNeeded_congr (railT d other), drops]
      exact alone d other
    have settledT : t.Settled := by rw [ht]; exact settledU
    have rtuT : t.rtu = s.rtu := by rw [ht]; exact rtuU
    have first : finalDrop 0 u = t.todo [.finalDrop (q.val + 1)] := by
      rw [finalDrop_one ((drops q).trans needed) fun d other => (drops d).trans (alone d other), notUp, if_neg Bool.false_ne_true,
        marked, later_eq_todo settledT.1]
    have darkT : t.darkRtu c.failed = r := darkRtu_eq rtuT (by rw [ht]; exact nowU) hdone hr
    rw [event, ← ht, ← darkT]
    refine congrArg _ ((settle_hands 65532 (.finalDrop 0) [.enterDark c.failed, .startHead] _ settledU.1 rfl first).trans ?_)
    refine (settle_plain 65531 (.finalDrop (q.val + 1)) _ settledT.1 rfl rests settledT.1).trans ?_
    exact settle_enterDark 65528 c.failed settledT (by rw [rtuT]; exact level) (by rw [ht]; exact lineU ▸ away)
      (by rw [ht]; exact queueU)

end Sys2Proof.Machine
end

section
/-! The rail-control frame's end (R5, R6). -/

namespace Sys2Proof.Machine

/-! ### What the frame record does not touch -/

theorem railState_congr {s t : State} (rails : ∀ q, (t.rail q).static = (s.rail q).static ∧ (t.rail q).dyn.state = (s.rail q).dyn.state)
    (q : RailId) : t.railState q = s.railState q := by
  unfold State.railState
  rw [(rails q).1, (rails q).2]

theorem allOn_congr {s t : State} (rails : ∀ q, t.railState q = s.railState q) (b : BitVec 24) : t.allOn b = s.allOn b := by
  unfold State.allOn
  simp only [rails]

theorem pathAvailable_congr {s t : State} (r : RailId) (static : (t.rail r).static = (s.rail r).static)
    (ports : t.ports = s.ports) : t.pathAvailable r = s.pathAvailable r := by
  unfold State.pathAvailable State.isUp State.agreedRails State.port
  rw [static, ports]

theorem rail_unframed (s : State) (r q : RailId) : ((s.unframed r).rail q).static = (s.rail q).static ∧
    ((s.unframed r).rail q).dyn.state = (s.rail q).dyn.state := by
  unfold State.unframed
  rw [rail_modDyn]
  by_cases same : q = r
  · rw [if_pos same, same]; exact ⟨rfl, rfl⟩
  · rw [if_neg same]; exact ⟨rfl, rfl⟩

theorem rail_unframed_self (s : State) (r : RailId) :
    (s.unframed r).rail r = { s.rail r with dyn := { (s.rail r).dyn with frame := none } } := rail_modDyn_self _ _ _

theorem settled_unframed {s : State} (r : RailId) (h : s.Settled) : (s.unframed r).Settled := h

/-- With no rail step under way nothing waits for a rail's order (R57, R58). -/
theorem stepWaits_calm {s : State} (calm : ∀ c, s.seq.ctx = some c → (s.stepAt c.index).kind.rail? = none) (r : RailId) :
    s.stepWaits r = false := by
  unfold State.stepWaits
  cases ctx : s.seq.ctx with
  | none => rfl
  | some c =>
    dsimp only
    rw [calm c ctx]
    exact Bool.and_false _

/-! ### OFF frames (R5, R6) -/

theorem offerRail_todo (r : RailId) (s : State) (ws : List Work) : offerRail r (s.todo ws) = (offerRail r s).todo ws := by
  have same : (s.todo ws).rail r = s.rail r := rfl
  unfold offerRail
  rw [same]
  cases (s.rail r).static.port? with
  | none => rfl
  | some p => exact arbitrate_todo p (refillPlaces p s) ws

/-- The OFF frame that follows a rail it has to tell (R6, R21). -/
theorem followOff_makes {s : State} {r : RailId} (board : (s.rail r).static.port? ≠ none) (path : s.pathAvailable r = true)
    (frame : (s.rail r).dyn.frame = none) :
    followOff r s = offerRail r (modDyn r (fun d => { d with frame := some (.made false false) }) s) := by
  have isBoard : s.isBoard r = true := Option.isSome_iff_ne_none.mpr board
  unfold followOff needOff
  rw [isBoard, path, frame]; rfl

/-- An ON frame in flight gains THEN_OFF instead (R5). -/
theorem followOff_thenOff {s : State} {r : RailId} {f : RailFrame} (board : (s.rail r).static.port? ≠ none)
    (path : s.pathAvailable r = true) (frame : (s.rail r).dyn.frame = some f) (isOn : f.isOn = true) :
    followOff r s = modDyn r (fun d => { d with frame := some { f with thenOff := true } }) s := by
  have isBoard : s.isBoard r = true := Option.isSome_iff_ne_none.mpr board
  unfold followOff needOff
  rw [isBoard, path, frame]
  refine (if_pos isOn).trans (modDyn_congr ?_)
  rw [frame]
  exact congrArg (fun x => { (s.rail r).dyn with frame := some x }) (if_pos isOn)

theorem followOff_stays {s : State} {r : RailId} (unreached : s.pathAvailable r = false ∨ (s.rail r).static.port? = none) :
    followOff r s = s := by
  unfold followOff State.isBoard
  rcases unreached with lost | onPart
  · rw [lost, Bool.and_false]; rfl
  · rw [onPart]; rfl

theorem followOff_todo_none {s : State} {r : RailId} (frame : (s.rail r).dyn.frame = none) (ws : List Work) :
    followOff r (s.todo ws) = (followOff r s).todo ws := by
  by_cases reached : s.pathAvailable r = true ∧ (s.rail r).static.port? ≠ none
  · rw [followOff_makes reached.2 reached.1 frame, followOff_makes (s := s.todo ws) reached.2 reached.1 frame]
    exact offerRail_todo r (modDyn r (fun d => { d with frame := some (.made false false) }) s) ws
  · have stays : s.pathAvailable r = false ∨ (s.rail r).static.port? = none := by
      by_cases path : s.pathAvailable r = true
      · exact .inr (Classical.not_not.mp fun board => reached ⟨path, board⟩)
      · exact .inl (Bool.not_eq_true _ ▸ path)
    rw [followOff_stays stays, followOff_stays (s := s.todo ws) stays]

/-! ### The frame's outcome (R6) -/

theorem clearFrame_hands {s : State} (r : RailId) (h : s.agenda = []) :
    clearFrame r s = (s.unframed r).todo [.report r .frame] := later_eq_todo (by exact h) _

/-- A frame that fails, with no step that waits for it: its record goes, and nothing moves. -/
theorem frameEnd_fails {s : State} {r : RailId} {x : RailFrame} {out : FrameOutcome} (h : s.agenda = [])
    (frame : (s.rail r).dyn.frame = some x) (waits : s.stepWaits r = false) (fails : out ≠ .ok) :
    frameEnd r out s = (s.unframed r).todo [.report r .frame] := by
  have told : ∀ y t, tellStep r y false t = t := fun y t => if_neg Bool.false_ne_true
  unfold frameEnd
  rw [frame]
  dsimp only
  rw [waits, clearFrame_hands r h, told, told]
  cases x.isOn with
  | true =>
    cases out with
    | ok => exact absurd rfl fails
    | errorReply => exact ite_self _
    | noReply => exact ite_self _
  | false =>
    cases out with
    | ok => exact absurd rfl fails
    | errorReply => exact ite_self _
    | noReply => exact ite_self _

/-- OK to an ON frame of an OFF rail that may rise. -/
theorem frameEnd_rises {s : State} {r : RailId} {x : RailFrame} (h : s.agenda = []) (frame : (s.rail r).dyn.frame = some x)
    (isOn : x.isOn = true) (stays : x.thenOff = false) (off : (s.rail r).dyn.state = .off)
    (prereqs : s.allOn (s.rail r).static.prereqs = true) (path : s.pathAvailable r = true) (low : s.highAlarm r = false) :
    frameEnd r .ok s = (enterState r .rising (s.unframed r)).todo [.report r .frame, .report r .state] := by
  have rails := rail_unframed s r
  have offU : ((s.unframed r).rail r).dyn.state = .off := (rails r).2.trans off
  have prereqsU : (s.unframed r).allOn ((s.unframed r).rail r).static.prereqs = true := by
    rw [(rails r).1, allOn_congr (s := s) (railState_congr rails)]; exact prereqs
  have pathU : (s.unframed r).pathAvailable r = true := (pathAvailable_congr r (rails r).1 rfl).trans path
  have lowU : (s.unframed r).highAlarm r = false := by
    unfold State.highAlarm at low ⊢
    rw [(rails r).1]; exact low
  have moves := moveRail_todo r .rising (s.unframed r) [.report r .frame] (.inl lowU)
  rw [offU] at moves
  unfold frameEnd
  rw [frame]
  dsimp only
  rw [clearFrame_hands r h, isOn, stays]
  exact (if_neg Bool.false_ne_true).trans ((if_pos ⟨offU, prereqsU, pathU⟩).trans moves)

/-- OK to an ON frame that may not bring its rail up: the board is told OFF where it can be (R6). -/
theorem frameEnd_follows {s : State} {r : RailId} {x : RailFrame} (h : s.agenda = []) (frame : (s.rail r).dyn.frame = some x)
    (isOn : x.isOn = true) (stays : x.thenOff = true ∨ (s.rail r).dyn.state ≠ .off ∨ s.allOn (s.rail r).static.prereqs = false ∨
      s.pathAvailable r = false) : frameEnd r .ok s = (followOff r (s.unframed r)).todo [.report r .frame] := by
  have rails := rail_unframed s r
  have follows := followOff_todo_none (r := r) (s := s.unframed r) (congrArg (fun x => x.dyn.frame) (rail_unframed_self s r))
    [.report r .frame]
  unfold frameEnd
  rw [frame]
  dsimp only
  rw [clearFrame_hands r h, isOn]
  cases thenOff : x.thenOff with
  | true => exact (if_pos rfl).trans follows
  | false =>
    refine (if_neg Bool.false_ne_true).trans ((if_neg ?_).trans follows)
    rintro ⟨off, prereqs, path⟩
    have prereqs' : (s.unframed r).allOn ((s.unframed r).rail r).static.prereqs = true := prereqs
    have path' : (s.unframed r).pathAvailable r = true := path
    rw [(rails r).1, allOn_congr (s := s) (railState_congr rails)] at prereqs'
    rw [pathAvailable_congr (s := s) r (rails r).1 rfl] at path'
    rcases stays with marked | risen | unmet | lost
    · rw [thenOff] at marked; exact nomatch marked
    · exact risen ((rails r).2.symm.trans off)
    · rw [prereqs'] at unmet; exact nomatch unmet
    · rw [path'] at lost; exact nomatch lost

/-- OK to the OFF frame of a step on a rail that is up (R6, R9). -/
theorem frameEnd_falls {s : State} {r : RailId} {x : RailFrame} (h : s.agenda = []) (frame : (s.rail r).dyn.frame = some x)
    (isOff : x.isOn = false) (forStep : x.forStep = true) (isUp : (s.rail r).dyn.state.isUp = true) :
    frameEnd r .ok s = (enterState r .falling (s.unframed r)).todo [.report r .frame, .report r .state, .cascade r 0] := by
  have isUpU : ((s.unframed r).rail r).dyn.state.isUp = true := by rw [(rail_unframed s r r).2]; exact isUp
  have moves := moveRail_todo r .falling (s.unframed r) [.report r .frame] (.inr fun no => nomatch no)
  rw [isUpU] at moves
  unfold frameEnd
  rw [frame]
  dsimp only
  rw [clearFrame_hands r h, isOff, forStep]
  exact (if_pos isUpU).trans moves

/-- OK to any other OFF frame. -/
theorem frameEnd_done {s : State} {r : RailId} {x : RailFrame} (h : s.agenda = []) (frame : (s.rail r).dyn.frame = some x)
    (isOff : x.isOn = false) (rests : x.forStep = false ∨ (s.rail r).dyn.state.isUp = false) :
    frameEnd r .ok s = (s.unframed r).todo [.report r .frame] := by
  unfold frameEnd
  rw [frame]
  dsimp only
  rw [clearFrame_hands r h, isOff]
  refine if_neg ?_
  rcases rests with no | down
  · rw [no]; exact Bool.false_ne_true
  · have down' : ((s.unframed r).rail r).dyn.state.isUp = false := by rw [(rail_unframed s r r).2]; exact down
    intro up
    have up' : (x.forStep && ((s.unframed r).rail r).dyn.state.isUp) = true := up
    rw [down', Bool.and_false] at up'
    exact nomatch up'

/-! ### The events -/

theorem railReply_late {s : State} {r : RailId} (payload : List Byte) (h : s.agenda = [])
    (none : (s.rail r).dyn.frame = none ∨ ∃ x, (s.rail r).dyn.frame = some x ∧ x.mark = .waiting) :
    railReply r payload s = s.todo [.raise .lateReply] := by
  unfold railReply
  rcases none with no | ⟨x, frame, waiting⟩
  · rw [no]; exact later_eq_todo h _
  · rw [frame]
    dsimp only
    rw [waiting]; exact later_eq_todo h _

theorem railReply_sent {s : State} {r : RailId} {x : RailFrame} {due : Time} (payload : List Byte)
    (frame : (s.rail r).dyn.frame = some x) (sent : x.mark = .sent due) :
    railReply r payload s = frameEnd r (if repliesOk payload then .ok else .errorReply) s := by
  unfold railReply
  rw [frame]
  dsimp only
  rw [sent]

theorem railFrameDeadline_again {s : State} {r : RailId} {x : RailFrame} {due : Time} (frame : (s.rail r).dyn.frame = some x)
    (sent : x.mark = .sent due) (first : x.attempt = 1) : railFrameDeadline r s = offerRail r (modDyn r (fun d => { d with
      frame := some { x with attempt := 2, mark := .waiting } }) { s with now := max s.now due }) := by
  unfold railFrameDeadline
  rw [frame]
  dsimp only
  rw [sent]
  exact if_pos first

theorem railFrameDeadline_noReply {s : State} {r : RailId} {x : RailFrame} {due : Time} (frame : (s.rail r).dyn.frame = some x)
    (sent : x.mark = .sent due) (second : x.attempt ≠ 1) :
    railFrameDeadline r s = frameEnd r .noReply { s with now := max s.now due } := by
  unfold railFrameDeadline
  rw [frame]
  dsimp only
  rw [sent]
  exact if_neg second

/-- One report of a rail in a state that no one waits in: the event ends (R7). -/
theorem event_reported {f : State → State} {s t : State} {r : RailId} {k : ReportKind} (h : s.Settled) (calm : t.Calm)
    (hands : f s = t.todo [.report r k]) : event f s = .next t := by
  rw [event_todo h hands]
  exact congrArg _ ((settle_report_calm 65533 r k [] calm.settled.1 calm.noHold calm.noRailStep).trans (settle_done _ calm.settled))

theorem calm_unframed {s : State} (r : RailId) (h : s.Calm) : (s.unframed r).Calm := calm_congr h rfl rfl rfl rfl rfl

theorem timerMs_rising (x : RailStatic) : x.timerMs .rising = some (if x.sense = none then x.settleMs else x.riseMs) := by
  unfold RailStatic.timerMs
  cases x.sense <;> rfl

theorem noDependentUp_unframed {s : State} {r : RailId}
    (down : ∀ d, (s.rail d).static.used = true → inSet (s.rail d).static.prereqs r = true →
      (s.rail d).dyn.state ≠ .rising ∧ (s.rail d).dyn.state ≠ .on) :
    ∀ d, ((s.unframed r).rail d).static.used = true → inSet ((s.unframed r).rail d).static.prereqs r = true →
      ((s.unframed r).rail d).dyn.state ≠ .rising ∧ ((s.unframed r).rail d).dyn.state ≠ .on := fun d => by
  rw [(rail_unframed s r d).1, (rail_unframed s r d).2]
  exact down d

/-- Settles O41: what ends a rail's frame, by the reply's status, the frame's kind and the rail's state, and its deadline. -/
theorem railFramesEndByReplyOrDeadline : Obligations.RailFramesEndByReplyOrDeadline := by
  refine ⟨fun s u p cls r payload up link fits hu => ⟨fun none => ?_, fun x d calm frame sent => ?_⟩,
    fun s r x due calm frame sent => ⟨fun first => ?_, fun second => ?_⟩⟩
  · have late := (receiveDown_railReply s p cls r payload up link fits).trans (railReply_late payload up.settled.1 none)
    have event : exec (.railControlReply p cls r payload) s = _ := event_todo up.settled late
    rw [event]
    exact congrArg _ ((settle_raise 65535 .lateReply [] up.settled.1).trans (settle_done _ (settled_raise _ up.settled)))
  · have unframed : u = s.unframed r := hu
    have calmU : u.Calm := by rw [unframed]; exact calm_unframed r calm
    have reply : ∀ out, (if repliesOk payload then FrameOutcome.ok else .errorReply) = out →
        receiveDown p (mkFrame 0 p.addr kindReply cls (byteOf (0xC0 + r.val)) payload) s = frameEnd r out s := fun out same => by
      rw [receiveDown_railReply s p cls r payload up link fits, railReply_sent payload frame sent, same]
    have agrees : payload.head? = some stOk → (if repliesOk payload then FrameOutcome.ok else .errorReply) = .ok := fun ok =>
      if_pos ((repliesOk_head payload).mpr ok)
    have plain : ∀ out, (if repliesOk payload then FrameOutcome.ok else .errorReply) = out →
        frameEnd r out s = (s.unframed r).todo [.report r .frame] → exec (.railControlReply p cls r payload) s = .next u :=
      fun out same ends => event_reported up.settled calmU ((reply out same).trans (ends.trans (by rw [unframed])))
    refine ⟨fun error => ?_, fun ok isOn stays off prereqs path low => ?_, fun ok isOff forStep isUp down => ?_,
      fun ok isOn stays => ⟨fun unreached => ?_, fun path board => ?_⟩, fun ok isOff rests => ?_⟩
    · exact plain .errorReply (if_neg fun yes => error ((repliesOk_head payload).mp yes))
        (frameEnd_fails up.settled.1 frame (stepWaits_calm calm.noRailStep r) (fun no => nomatch no))
    · have rises := (reply .ok (agrees ok)).trans (frameEnd_rises up.settled.1 frame isOn stays off prereqs path low)
      rw [← unframed] at rises
      have calmT := calm_enterState calmU r .rising
      refine ⟨enterState r .rising u, ?_, ?_, ?_⟩
      · have event : exec (.railControlReply p cls r payload) s = _ := event_todo up.settled rises
        rw [event]
        exact congrArg _ ((settle_report_calm 65533 r .frame _ calmT.settled.1 calmT.noHold calmT.noRailStep).trans
          ((settle_report_calm 65530 r .state [] calmT.settled.1 calmT.noHold calmT.noRailStep).trans (settle_done _ calmT.settled)))
      · have moved := movedTo_enterState r .rising u
        rw [timerMs_rising, unframed, (rail_unframed s r r).1] at moved
        rw [unframed]; exact moved
      · rw [unframed]
        exact congrArg (fun z : State => { z with rails := s.rails }) (enterState_rest r .rising (s.unframed r))
    · have falls := (reply .ok (agrees ok)).trans
        (frameEnd_falls up.settled.1 frame isOff forStep ((isUp_iff _).mpr isUp))
      rw [← unframed] at falls
      have calmT := calm_enterState calmU r .falling
      have downT := dependents_down_enterState (s := u) r .falling rfl (by rw [unframed]; exact noDependentUp_unframed down)
      refine ⟨enterState r .falling u, ?_, ?_, ?_⟩
      · have event : exec (.railControlReply p cls r payload) s = _ := event_todo up.settled falls
        rw [event]
        exact congrArg _ ((settle_report_calm 65533 r .frame _ calmT.settled.1 calmT.noHold calmT.noRailStep).trans
          ((settle_report_calm 65530 r .state _ calmT.settled.1 calmT.noHold calmT.noRailStep).trans
            ((settle_cascade_none 65529 r 0 [] calmT.settled.1 downT).trans (settle_done _ calmT.settled))))
      · have moved := movedTo_enterState r .falling u
        rw [unframed, (rail_unframed s r r).1] at moved
        rw [unframed]; exact moved
      · rw [unframed]
        exact congrArg (fun z : State => { z with rails := s.rails }) (enterState_rest r .falling (s.unframed r))
    · refine plain .ok (agrees ok) ((frameEnd_follows up.settled.1 frame isOn stays).trans ?_)
      rw [followOff_stays]
      rw [pathAvailable_congr r (rail_unframed s r r).1 rfl, (rail_unframed s r r).1]
      exact unreached
    · have makes : followOff r (s.unframed r) = offerRail r (modDyn r (fun d => { d with frame := some (.made false false) }) s) := by
        rw [followOff_makes (by rw [(rail_unframed s r r).1]; exact board)
          ((pathAvailable_congr r (rail_unframed s r r).1 rfl).trans path) (by rw [rail_unframed_self])]
        unfold State.unframed
        rw [modDyn_modDyn]
      have follows := (reply .ok (agrees ok)).trans (frameEnd_follows up.settled.1 frame isOn stays)
      rw [makes] at follows
      refine event_reported up.settled (calm_congr calm ?_ ?_ ?_ ?_ ?_) follows
      · rw [offerRail_agenda]; rfl
      · rw [offerRail_takeDue]; rfl
      · rw [offerRail_phase]; rfl
      · rw [offerRail_fwd]; rfl
      · rw [offerRail_seq]; rfl
    · exact plain .ok (agrees ok) (frameEnd_done up.settled.1 frame isOff
        (rests.imp_right fun down => isUp_no _ down.1 down.2))
  · have again := railFrameDeadline_again frame sent first
    have settled : (railFrameDeadline r s).Settled := by
      rw [again]
      exact ⟨(offerRail_agenda _ _).trans calm.settled.1, (offerRail_takeDue _ _).trans calm.settled.2⟩
    have event : exec (.railFrameDeadline r) s = _ := event_plain calm.settled settled
    rw [event, again]
  · have ends := (railFrameDeadline_noReply frame sent second).trans
      (frameEnd_fails (s := { s with now := max s.now due }) (by exact calm.settled.1) (by exact frame)
        (stepWaits_calm (by exact calm.noRailStep) r) (fun no => nomatch no))
    exact event_reported calm.settled (calm_congr calm rfl rfl rfl rfl rfl) ends

end Sys2Proof.Machine
end

section
/-! The rail timers and the entry into FAULT (R10 to R12, R21). -/

namespace Sys2Proof.Machine

/-! ### Moves that only a report follows -/

/-- A rail that leaves no state in which its dependents may be up moves, and its report finds no one (R7, R15). -/
theorem event_movesAlone {f : State → State} {s u : State} {r : RailId} {st : RailState} (h : s.Settled) (calm : u.Calm)
    (moves : f s = moveRail r st u) (stays : (u.rail r).dyn.state.isUp = false ∨ st.isUp = true) (notRising : st ≠ .rising) :
    event f s = .next (enterState r st u) := by
  have quiet : ((u.rail r).dyn.state.isUp && !st.isUp) = false := by
    rcases stays with down | up
    · rw [down]; rfl
    · rw [up, Bool.and_comm]; rfl
  have hands := moveRail_settled r st calm.settled.1 (.inr notRising)
  rw [quiet] at hands
  exact event_reported h (calm_enterState calm r st) (moves.trans hands)

theorem settleExpiry_moves {s : State} {r : RailId} {due : Time} (used : (s.rail r).static.used = true)
    (timer : (s.rail r).dyn.timer = some due) (rising : (s.rail r).dyn.state = .rising) (unsensed : (s.rail r).static.sense = none) :
    settleExpiry r s = moveRail r .on { s with now := max s.now due } := by
  unfold settleExpiry
  rw [timer]
  exact if_pos ⟨(railState_used used).trans rising, unsensed⟩

theorem fallExpiry_force {s : State} {r : RailId} {due : Time} (used : (s.rail r).static.used = true)
    (timer : (s.rail r).dyn.timer = some due) (falling : (s.rail r).dyn.state = .falling)
    (force : (s.rail r).static.discharge.isForce = true) :
    fallExpiry r s = moveRail r .discharging { s with now := max s.now due } := by
  unfold fallExpiry
  rw [timer]
  exact (if_pos ((railState_used used).trans falling)).trans (if_pos force)

theorem fallExpiry_off {s : State} {r : RailId} {due : Time} (used : (s.rail r).static.used = true)
    (timer : (s.rail r).dyn.timer = some due) (falling : (s.rail r).dyn.state = .falling)
    (noForce : (s.rail r).static.discharge.isForce = false) (unsensed : (s.rail r).static.sense = none) :
    fallExpiry r s = moveRail r .off { s with now := max s.now due } := by
  have sensed : (s.rail r).static.sense.isSome = false := by rw [unsensed]; rfl
  unfold fallExpiry
  rw [timer]
  exact (if_pos ((railState_used used).trans falling)).trans
    ((if_neg (Bool.eq_false_iff.mp noForce)).trans (if_neg (Bool.eq_false_iff.mp sensed)))

theorem fallExpiry_faults {s : State} {r : RailId} {due : Time} {c : ChannelId} (used : (s.rail r).static.used = true)
    (timer : (s.rail r).dyn.timer = some due) (falling : (s.rail r).dyn.state = .falling)
    (noForce : (s.rail r).static.discharge.isForce = false) (sense : (s.rail r).static.sense = some c) :
    fallExpiry r s = enterFault r .fallTimeout { s with now := max s.now due } := by
  have sensed : (s.rail r).static.sense.isSome = true := by rw [sense]; rfl
  unfold fallExpiry
  rw [timer]
  exact (if_pos ((railState_used used).trans falling)).trans ((if_neg (Bool.eq_false_iff.mp noForce)).trans (if_pos sensed))

theorem dischargeExpiry_off {s : State} {r : RailId} {due : Time} (used : (s.rail r).static.used = true)
    (timer : (s.rail r).dyn.timer = some due) (discharging : (s.rail r).dyn.state = .discharging)
    (unsensed : (s.rail r).static.sense = none) : dischargeExpiry r s = moveRail r .off { s with now := max s.now due } := by
  have sensed : (s.rail r).static.sense.isSome = false := by rw [unsensed]; rfl
  unfold dischargeExpiry
  rw [timer]
  exact (if_pos ((railState_used used).trans discharging)).trans (if_neg (Bool.eq_false_iff.mp sensed))

theorem dischargeExpiry_faults {s : State} {r : RailId} {due : Time} {c : ChannelId} (used : (s.rail r).static.used = true)
    (timer : (s.rail r).dyn.timer = some due) (discharging : (s.rail r).dyn.state = .discharging)
    (sense : (s.rail r).static.sense = some c) :
    dischargeExpiry r s = enterFault r .fallTimeout { s with now := max s.now due } := by
  have sensed : (s.rail r).static.sense.isSome = true := by rw [sense]; rfl
  unfold dischargeExpiry
  rw [timer]
  exact (if_pos ((railState_used used).trans discharging)).trans (if_pos sensed)

/-! ### Entry into FAULT (R21) -/

/-- The rail in FAULT with its cause, before the board is told and anything is handed on. -/
def State.faulted (s : State) (r : RailId) (cause : FaultCause) : State :=
  modDyn r (fun d => { d with faultCause := some cause }) (enterState r .fault s)

/-- What entry into FAULT hands on, in order (R21). -/
def faultWork (r : RailId) : List Work :=
  [.report r .state, .faultClaim r, .raise .railFault, .cascade r 0, .faultAction r]

theorem calm_faulted {s : State} (r : RailId) (cause : FaultCause) (h : s.Calm) : (s.faulted r cause).Calm :=
  calm_congr (calm_enterState h r .fault) rfl rfl rfl rfl rfl

theorem settled_faulted {s : State} (r : RailId) (cause : FaultCause) (h : s.Settled) : (s.faulted r cause).Settled :=
  ⟨(enterState_agenda r .fault s).trans h.1, (enterState_takeDue r .fault s).trans h.2⟩

theorem enterFault_hands {s : State} (r : RailId) (cause : FaultCause) (h : (followOff r (s.faulted r cause)).agenda = []) :
    enterFault r cause s = (followOff r (s.faulted r cause)).todo (faultWork r) :=
  enterFault_todo r cause s _ _ rfl rfl h

theorem static_faulted (s : State) (r q : RailId) (cause : FaultCause) : ((s.faulted r cause).rail q).static = (s.rail q).static := by
  have moved := movedTo_fault r cause s (s.faulted r cause) rfl
  by_cases same : q = r
  · rw [same, moved.rail]
  · rw [moved.others q same]

theorem pathAvailable_faulted (s : State) (r : RailId) (cause : FaultCause) :
    (s.faulted r cause).pathAvailable r = s.pathAvailable r :=
  pathAvailable_congr r (static_faulted s r r cause) (enterState_ports r .fault s)

theorem faultClaim_none {s : State} {r : RailId} (free : (s.rail r).dyn.claim = .none) : faultClaim r s = s := by
  unfold faultClaim
  rw [free]

/-- The work of an entry into FAULT that finds nothing to do but RAIL_FAULT. -/
theorem settle_faultWork (n : Nat) (ws : List Work) {r : RailId} {s : State} (calm : s.Calm) (free : (s.rail r).dyn.claim = .none)
    (noAction : (s.rail r).static.faultAction = none) (down : ∀ q ∈ s.dependents r, (s.railState q).isUp = false) :
    settle (n + 7) (s.todo (faultWork r ++ ws)) = settle n ((raise .railFault s).todo ws) := by
  refine (settle_report_calm (n + 4) r .state _ calm.settled.1 calm.noHold calm.noRailStep).trans ?_
  refine (settle_plain (n + 3) (.faultClaim r) _ calm.settled.1 rfl (faultClaim_none free) calm.settled.1).trans ?_
  exact settle_fault_tail n ws r calm.settled down noAction

/-- An event that takes a rail to FAULT with no claim, no FAULT_ACTION and no dependent up: the board's frame and RAIL_FAULT are
all that follows. -/
theorem event_faults {f : State → State} {s u w : State} {r : RailId} {cause : FaultCause} (h : s.Settled) (calm : w.Calm)
    (enters : f s = enterFault r cause u) (follows : followOff r (u.faulted r cause) = w) (free : (w.rail r).dyn.claim = .none)
    (noAction : (w.rail r).static.faultAction = none) (down : ∀ q ∈ w.dependents r, (w.railState q).isUp = false) :
    event f s = .next (raise .railFault w) := by
  have hands := enterFault_hands (s := u) r cause (by rw [follows]; exact calm.settled.1)
  rw [follows] at hands
  rw [event_todo h (enters.trans hands)]
  refine congrArg _ ((settle_faultWork 65529 [] calm free noAction down).trans (settle_done _ (settled_raise _ calm.settled)))

/-- Such an entry with no board to tell. -/
theorem event_faultsAlone {f : State → State} {s u : State} {r : RailId} {cause : FaultCause} (h : s.Settled) (calm : u.Calm)
    (enters : f s = enterFault r cause u) (unreached : u.pathAvailable r = false ∨ (u.rail r).static.port? = none)
    (free : (u.rail r).dyn.claim = .none) (noAction : (u.rail r).static.faultAction = none)
    (down : ∀ d, (u.rail d).static.used = true → inSet (u.rail d).static.prereqs r = true →
      (u.rail d).dyn.state ≠ .rising ∧ (u.rail d).dyn.state ≠ .on) :
    event f s = .next (raise .railFault (u.faulted r cause)) := by
  have moved := movedTo_fault r cause u (u.faulted r cause) rfl
  refine event_faults h (calm_faulted r cause calm) enters
    (followOff_stays (by rw [pathAvailable_faulted, static_faulted]; exact unreached)) ?_ ?_ (dependents_down_fault moved down)
  · rw [moved.rail]; exact free
  · rw [static_faulted]; exact noAction

theorem port?_part {x : RailStatic} {e : Fin 12} (path : x.path = .onPart e) : x.port? = none := by
  unfold RailStatic.port?
  rw [path]

theorem port?_board {x : RailStatic} {p : Port} {i : Fin 32} {on off : Byte} (path : x.path = .board p i on off) : x.port? ≠ none := by
  unfold RailStatic.port?
  rw [path]
  exact fun no => nomatch no

/-! ### A dependent in the cascade (R15, R16) -/

theorem driveOutputs_raised (r : RailId) (st : RailState) (s : State) (ev : EventUnit) (up : Upstream) :
    driveOutputs r st { s with ev := ev, up := up } = { driveOutputs r st s with ev := ev, up := up } := by
  have same : ({ s with ev := ev, up := up } : State).rail r = s.rail r := rfl
  unfold driveOutputs
  rw [same]
  dsimp only
  cases (s.rail r).static.path <;> cases (s.rail r).static.discharge <;> rfl

theorem followRail_raised (r : RailId) (old new : RailState) (s : State) (ev : EventUnit) (up : Upstream) :
    followRail r old new { s with ev := ev, up := up } = { followRail r old new s with ev := ev, up := up } := by
  have same : ({ s with ev := ev, up := up } : State).rail r = s.rail r := rfl
  unfold followRail
  rw [same]
  cases (s.rail r).static.sense <;> rfl

/-- A rail's change of state and an event kind do not touch each other. -/
theorem enterState_raise (r : RailId) (st : RailState) (k : EventKind) (s : State) :
    enterState r st (raise k s) = raise k (enterState r st s) := by
  obtain ⟨ev, up, shape⟩ := raise_shape k s
  have moved := shape (enterState r st s) (enterState_ev r st s) (enterState_up r st s) (enterState_phase r st s)
  rw [moved, shape s rfl rfl rfl]
  unfold enterState
  have driven := driveOutputs_raised r st (modDyn r (fun d => { d with
    state := st, timer := ((s.rail r).static.timerMs st).map (fun t => s.now + Config.ms t), heldGood := st == .on
    faultCause := none }) s) ev up
  exact (congrArg (followRail r (s.rail r).dyn.state st) driven).trans (followRail_raised r _ st _ ev up)

theorem rail_raise (k : EventKind) (s : State) (q : RailId) : (raise k s).rail q = s.rail q := by
  unfold State.rail
  rw [raise_rails]

/-- One dependent of the part is up: it falls, and the cascade goes on behind what that brings (R16). -/
theorem cascade_one {s : State} {r d : RailId} {i : Fin 12} (h : s.agenda = []) (used : (s.rail d).static.used = true)
    (depends : inSet (s.rail d).static.prereqs r = true) (path : (s.rail d).static.path = .onPart i)
    (isUp : (s.rail d).dyn.state.isUp = true)
    (alone : ∀ q ∈ s.dependents r, q ≠ d → (s.railState q).isUp = false) :
    cascade r 0 s = (enterState d .falling s).todo [.report d .state, .cascade d 0, .cascade r (d.val + 1)] := by
  have found : (s.dependents r).find? (fun q => decide (0 ≤ q.val) && (s.railState q).isUp) = some d := by
    cases first : (s.dependents r).find? (fun q => decide (0 ≤ q.val) && (s.railState q).isUp) with
    | none =>
      have no := List.find?_eq_none.mp first d ((mem_dependents s r d).mpr ⟨used, depends⟩)
      rw [railState_used used, isUp, Bool.and_true] at no
      exact absurd (decide_eq_true (Nat.zero_le d.val)) no
    | some q =>
      have member := List.mem_of_find?_eq_some first
      have up := (Bool.and_eq_true_iff.mp (List.find?_some (p := fun q => decide (0 ≤ q.val) && (s.railState q).isUp) first)).2
      by_cases same : q = d
      · rw [same]
      · rw [alone q member same] at up; exact absurd up Bool.false_ne_true
  unfold cascade
  rw [found]
  dsimp only
  rw [fallRail_part h path isUp]; rfl

/-- The cascade of one such dependent, up to its own fall (R16). -/
theorem settle_cascadeOne (n : Nat) (ws : List Work) {s : State} {r d : RailId} {i : Fin 12} (calm : s.Calm)
    (used : (s.rail d).static.used = true) (depends : inSet (s.rail d).static.prereqs r = true)
    (path : (s.rail d).static.path = .onPart i) (isUp : (s.rail d).dyn.state.isUp = true)
    (alone : ∀ q, q ≠ d → (s.rail q).static.used = true →
      (inSet (s.rail q).static.prereqs r = true ∨ inSet (s.rail q).static.prereqs d = true) →
      (s.rail q).dyn.state ≠ .rising ∧ (s.rail q).dyn.state ≠ .on) :
    settle (n + 6) (s.todo (.cascade r 0 :: ws)) = settle n ((enterState d .falling s).todo ws) := by
  have moved := movedTo_enterState d .falling s
  have calmT := calm_enterState calm d .falling
  have others : ∀ q ∈ s.dependents r, q ≠ d → (s.railState q).isUp = false := fun q member other => by
    obtain ⟨usedQ, dependsQ⟩ := (mem_dependents s r q).mp member
    rw [railState_used usedQ]
    obtain ⟨notRising, notOn⟩ := alone q other usedQ (.inl dependsQ)
    exact isUp_no _ notRising notOn
  have down : ∀ p, (p = r ∨ p = d) → ∀ q ∈ (enterState d .falling s).dependents p,
      ((enterState d .falling s).railState q).isUp = false := fun p which => by
    refine dependents_down p fun q usedQ dependsQ => ?_
    by_cases same : q = d
    · rw [same, moved.rail]
      exact ⟨RailState.noConfusion, RailState.noConfusion⟩
    · rw [moved.others q same] at usedQ dependsQ ⊢
      exact alone q same usedQ (which.imp (fun isR => by rw [← isR]; exact dependsQ) fun isD => by rw [← isD]; exact dependsQ)
  refine (settle_hands (n + 5) (.cascade r 0) ws _ calm.settled.1 rfl
    (cascade_one calm.settled.1 used depends path isUp others)).trans ?_
  refine (settle_report_calm (n + 2) d .state _ calmT.settled.1 calmT.noHold calmT.noRailStep).trans ?_
  exact (settle_cascade_none (n + 1) d 0 _ calmT.settled.1 (down d (.inr rfl))).trans
    (settle_cascade_none n r (d.val + 1) ws calmT.settled.1 (down r (.inl rfl)))

theorem faultAction_none {s : State} {r : RailId} (noAction : (s.rail r).static.faultAction = none) : faultAction r s = s := by
  unfold faultAction
  rw [noAction]

theorem faultAction_requests {s : State} {r : RailId} {n : ProgNo} (action : (s.rail r).static.faultAction = some n) :
    faultAction r s = takeRequest n .fault s := by
  unfold faultAction
  rw [action]

theorem faultClaim_frame {s : State} {r : RailId} {p : Port} {tag : Byte} (h : s.agenda = [])
    (claim : (s.rail r).dyn.claim = .frame p tag) :
    faultClaim r s = ((clearClaimMark p tag s).unclaimed r).todo [.report r .claim] := by
  unfold faultClaim
  rw [claim]
  exact later_eq_todo (by exact h) _

/-- A rail that fails to rise, with no board to tell: what its entry into FAULT hands on (R10, R21). -/
theorem riseTimeout_hands {s u t : State} {r : RailId} {due : Time} {c : ChannelId} (used : (s.rail r).static.used = true)
    (timer : (s.rail r).dyn.timer = some due) (sense : (s.rail r).static.sense = some c)
    (rising : (s.rail r).dyn.state = .rising) (hu : u = { s with now := max s.now due }) (ht : t = u.faulted r .riseTimeout)
    (unreached : u.pathAvailable r = false ∨ (u.rail r).static.port? = none) (h : t.agenda = []) :
    riseTimeout r s = t.todo (faultWork r) := by
  have stays : followOff r (u.faulted r .riseTimeout) = t := by
    rw [followOff_stays (by rw [pathAvailable_faulted, static_faulted]; exact unreached), ht]
  have hands := enterFault_hands (s := u) r .riseTimeout (by rw [stays]; exact h)
  rw [stays] at hands
  exact (riseTimeout_eq s u r due c used timer sense rising hu).trans hands

theorem calm_holds {s t : State} (h : s.Calm) (agenda : t.agenda = s.agenda) (takeDue : t.takeDue = s.takeDue)
    (phase : t.phase = s.phase) (hold : t.fwd.hold = s.fwd.hold) (seq : t.seq = s.seq) : t.Calm where
  settled := ⟨agenda.trans h.settled.1, takeDue.trans h.settled.2⟩
  running := phase.trans h.running
  noHold := hold.trans h.noHold
  noRailStep := noRailStep_of seq h.noRailStep

theorem dependents_down_congr {s t : State} {r : RailId}
    (rails : ∀ q, (t.rail q).static = (s.rail q).static ∧ (t.rail q).dyn.state = (s.rail q).dyn.state)
    (down : ∀ q ∈ s.dependents r, (s.railState q).isUp = false) : ∀ q ∈ t.dependents r, (t.railState q).isUp = false := by
  intro q member
  rw [mem_dependents, (rails q).1] at member
  rw [railState_congr rails q]
  exact down q ((mem_dependents s r q).mpr member)

/-- A change of a rail's dynamic half that keeps its state. -/
theorem rail_modDyn_state {s : State} {r : RailId} {f : RailDynamic → RailDynamic} (keeps : (f (s.rail r).dyn).state = (s.rail r).dyn.state)
    (q : RailId) : ((modDyn r f s).rail q).static = (s.rail q).static ∧ ((modDyn r f s).rail q).dyn.state = (s.rail q).dyn.state := by
  rw [rail_modDyn]
  by_cases same : q = r
  · rw [if_pos same, same]; exact ⟨rfl, keeps⟩
  · rw [if_neg same]; exact ⟨rfl, rfl⟩

theorem rail_offerRail (r q : RailId) (s : State) : (offerRail r s).rail q = s.rail q := by
  unfold State.rail
  rw [offerRail_rails]

theorem rail_unclaimed (s : State) (r q : RailId) : ((s.unclaimed r).rail q).static = (s.rail q).static ∧
    ((s.unclaimed r).rail q).dyn.state = (s.rail q).dyn.state := by
  by_cases same : q = r
  · rw [same, rail_unclaimed_self]; exact ⟨rfl, rfl⟩
  · rw [rail_unclaimed_other s same]; exact ⟨rfl, rfl⟩

/-- A RAIL_ON step takes the report of its rail's failure to rise (R57). -/
theorem seqRail_riseTimeout {s v : State} {c : Context} {x : Running} {r : RailId} {noWait : Bool} {a : Option Time}
    {b : Option SendFrame} (kd : ReportKind) (st : s.RailStep c x r (.railOn r noWait))
    (seq : v.seq = { s.seq with ctx := some { c with timer := a, frame := b, wait := .order } })
    (used : (v.rail r).static.used = true) (state : (v.rail r).dyn.state = .fault)
    (cause : (v.rail r).dyn.faultCause = some .riseTimeout) : seqRail r kd v = stepEnd (some .riseTimeout) v := by
  have fault : v.railState r = .fault := (railState_used used).trans state
  have reason : faultReason (v.rail r).dyn.faultCause = .riseTimeout := by rw [cause]; rfl
  unfold seqRail
  rw [current_railStep st seq]
  dsimp only
  rw [if_neg (by decide)]
  unfold railOnReport
  dsimp only
  rw [if_pos rfl, fault]
  dsimp only
  rw [reason]; rfl

/-! ### The statement -/

/-- Settles O42: what each rail timer's expiry does, and all that an entry into FAULT hands on. -/
theorem railTimersMoveOrFaultTheRail : Obligations.RailTimersMoveOrFaultTheRail := by
  refine ⟨fun s u r due calm used timer hu => ⟨fun rising unsensed => ?_, fun o n falling force => ?_,
      fun falling noForce unsensed => ?_, fun discharging unsensed => ?_⟩,
    fun s u r due e c calm used timer path sense free noAction down hu => ⟨fun rising => ?_, fun falling noForce => ?_,
      fun discharging => ?_⟩,
    fun s u t r due c calm used timer sense rising hu ht => ⟨?_, fun e path noAction => ⟨fun p tag claim down => ?_,
        fun d i free other usedD depends pathD isUp alone => ?_⟩, fun p i on off path noAction free down => ⟨fun lost => ?_,
          fun reached noFrame => ?_, fun f reached frame isOn => ?_⟩⟩,
    fun s u t r due e c' up hold used timer path sense rising down hu ht => ⟨?_, fun c x noWait last kind aborts waits claim noFrame
        noAction => ?_, fun n time quiet active free action count kind => ?_⟩⟩
  · have calmU : u.Calm := by rw [hu]; exact calm_congr calm rfl rfl rfl rfl rfl
    have moves := settleExpiry_moves used timer rising unsensed
    rw [← hu] at moves
    refine ⟨_, event_movesAlone calm.settled calmU moves (.inr rfl) (fun no => nomatch no), movedTo_enterState r .on u, ?_⟩
    rw [hu]; exact enterState_rest r .on _
  · have calmU : u.Calm := by rw [hu]; exact calm_congr calm rfl rfl rfl rfl rfl
    have moves := fallExpiry_force used timer falling (by rw [force]; rfl)
    rw [← hu] at moves
    have moved := movedTo_enterState r .discharging u
    refine ⟨_, event_movesAlone calm.settled calmU moves (.inl (by rw [hu]; show (s.rail r).dyn.state.isUp = false; rw [falling]; rfl))
      (fun no => nomatch no), ?_, ?_⟩
    · have timed : ((u.rail r).static.timerMs .discharging).map (fun t => u.now + Config.ms t) = some (max s.now due + 2000 * n) := by
        rw [hu]
        show ((s.rail r).static.timerMs .discharging).map _ = _
        unfold RailStatic.timerMs
        rw [force]; rfl
      rw [timed] at moved; exact moved
    · rw [hu]; exact enterState_rest r .discharging _
  · have calmU : u.Calm := by rw [hu]; exact calm_congr calm rfl rfl rfl rfl rfl
    have moves := fallExpiry_off used timer falling noForce unsensed
    rw [← hu] at moves
    refine ⟨_, event_movesAlone calm.settled calmU moves (.inl (by rw [hu]; show (s.rail r).dyn.state.isUp = false; rw [falling]; rfl))
      (fun no => nomatch no), movedTo_enterState r .off u, ?_⟩
    rw [hu]; exact enterState_rest r .off _
  · have calmU : u.Calm := by rw [hu]; exact calm_congr calm rfl rfl rfl rfl rfl
    have moves := dischargeExpiry_off used timer discharging unsensed
    rw [← hu] at moves
    refine ⟨_, event_movesAlone calm.settled calmU moves (.inl (by rw [hu]; show (s.rail r).dyn.state.isUp = false; rw [discharging]; rfl))
      (fun no => nomatch no), movedTo_enterState r .off u, ?_⟩
    rw [hu]; exact enterState_rest r .off _
  · refine ⟨u.faulted r .riseTimeout, ?_, movedTo_fault r .riseTimeout u _ rfl, by rw [hu]; exact fault_rest r .riseTimeout _⟩
    have calmU : u.Calm := by rw [hu]; exact calm_congr calm rfl rfl rfl rfl rfl
    exact event_faultsAlone calm.settled calmU (riseTimeout_eq s u r due c used timer sense rising hu)
      (.inr (by rw [hu]; exact port?_part path)) (by rw [hu]; exact free) (by rw [hu]; exact noAction) (by rw [hu]; exact down)
  · refine ⟨u.faulted r .fallTimeout, ?_, movedTo_fault r .fallTimeout u _ rfl, by rw [hu]; exact fault_rest r .fallTimeout _⟩
    have calmU : u.Calm := by rw [hu]; exact calm_congr calm rfl rfl rfl rfl rfl
    exact event_faultsAlone calm.settled calmU ((fallExpiry_faults used timer falling noForce sense).trans (by rw [hu]))
      (.inr (by rw [hu]; exact port?_part path)) (by rw [hu]; exact free) (by rw [hu]; exact noAction) (by rw [hu]; exact down)
  · refine ⟨u.faulted r .fallTimeout, ?_, movedTo_fault r .fallTimeout u _ rfl, by rw [hu]; exact fault_rest r .fallTimeout _⟩
    have calmU : u.Calm := by rw [hu]; exact calm_congr calm rfl rfl rfl rfl rfl
    exact event_faultsAlone calm.settled calmU ((dischargeExpiry_faults used timer discharging sense).trans (by rw [hu]))
      (.inr (by rw [hu]; exact port?_part path)) (by rw [hu]; exact free) (by rw [hu]; exact noAction) (by rw [hu]; exact down)
  · exact movedTo_fault r .riseTimeout u t ht
  · have calmT : t.Calm := by rw [ht, hu]; exact calm_faulted r .riseTimeout (calm_congr calm rfl rfl rfl rfl rfl)
    have hands := riseTimeout_hands used timer sense rising hu ht (.inr (by rw [hu]; exact port?_part path)) calmT.settled.1
    have moved := movedTo_fault r .riseTimeout u t ht
    have claimT : (t.rail r).dyn.claim = .frame p tag := by rw [moved.rail, hu]; exact claim
    have downT := dependents_down_fault moved (by rw [hu]; exact down)
    have event : exec (.riseTimeout r) s = _ := event_todo calm.settled hands
    have fwdT : t.fwd = s.fwd := by rw [ht, hu]; exact enterState_fwd r .fault _
    obtain ⟨v, hv⟩ : ∃ v, v = (clearClaimMark p tag t).unclaimed r := ⟨_, rfl⟩
    have calmV : v.Calm := by rw [hv]; exact calm_holds calmT rfl rfl rfl rfl rfl
    have railV : ∀ q, (v.rail q).static = (t.rail q).static ∧ (v.rail q).dyn.state = (t.rail q).dyn.state := fun q => by
      rw [hv]; exact rail_unclaimed (clearClaimMark p tag t) r q
    have downV := dependents_down_congr railV downT
    have claimed := faultClaim_frame calmT.settled.1 claimT
    rw [← hv] at claimed
    have target : modDyn r (fun d => { d with claim := .none })
        (setOuts p ((s.outs p).map (fun x => if x.cmd.frame.tag = tag then { x with claimMark := false } else x)) t) = v := by
      have outs : s.outs p = t.outs p := by unfold State.outs; rw [fwdT]
      rw [hv, outs]; rfl
    rw [event, target]
    refine congrArg _ ((settle_report_calm 65533 r .state _ calmT.settled.1 calmT.noHold calmT.noRailStep).trans ?_)
    refine (settle_hands 65532 (.faultClaim r) _ _ calmT.settled.1 rfl claimed).trans ?_
    refine (settle_report_calm 65529 r .claim _ calmV.settled.1 calmV.noHold calmV.noRailStep).trans ?_
    exact (settle_fault_tail 65526 [] r calmV.settled downV (by rw [(railV r).1, moved.rail, hu]; exact noAction)).trans
      (settle_done _ (settled_raise _ calmV.settled))
  · have calmT : t.Calm := by rw [ht, hu]; exact calm_faulted r .riseTimeout (calm_congr calm rfl rfl rfl rfl rfl)
    have hands := riseTimeout_hands used timer sense rising hu ht (.inr (by rw [hu]; exact port?_part path)) calmT.settled.1
    have moved := movedTo_fault r .riseTimeout u t ht
    have railD : t.rail d = s.rail d := (moved.others d other).trans (by rw [hu]; rfl)
    have nowT : t.now = u.now := by rw [ht]; exact enterState_now r .fault u
    obtain ⟨w, hw⟩ : ∃ w, w = raise .railFault t := ⟨_, rfl⟩
    have calmW : w.Calm := by rw [hw]; exact calm_raise _ calmT
    have railW : ∀ q, w.rail q = t.rail q := fun q => by rw [hw]; exact rail_raise _ _ q
    have movedD := movedTo_enterState d .falling t
    have timed : ((t.rail d).static.timerMs .falling).map (fun x => t.now + Config.ms x) =
        some (u.now + 2000 * (s.rail d).static.fallMs) := by rw [railD, nowT]; rfl
    rw [timed] at movedD
    refine ⟨enterState d .falling t, ?_, movedD, enterState_rest d .falling t⟩
    have event : exec (.riseTimeout r) s = _ := event_todo calm.settled hands
    have calmX := calm_enterState calmW d .falling
    have aloneW : ∀ q, q ≠ d → (w.rail q).static.used = true →
        (inSet (w.rail q).static.prereqs r = true ∨ inSet (w.rail q).static.prereqs d = true) →
        (w.rail q).dyn.state ≠ .rising ∧ (w.rail q).dyn.state ≠ .on := fun q otherD usedQ depends' => by
      rw [railW] at usedQ depends' ⊢
      by_cases same : q = r
      · rw [same, moved.rail]
        exact ⟨RailState.noConfusion, RailState.noConfusion⟩
      · have railQ : t.rail q = s.rail q := (moved.others q same).trans (by rw [hu]; rfl)
        rw [railQ] at usedQ depends' ⊢
        exact alone q otherD same usedQ depends'
    rw [event]
    refine congrArg _ ((settle_report_calm 65533 r .state _ calmT.settled.1 calmT.noHold calmT.noRailStep).trans ?_)
    refine (settle_plain 65532 (.faultClaim r) _ calmT.settled.1 rfl
      (faultClaim_none (by rw [moved.rail, hu]; exact free)) calmT.settled.1).trans ?_
    refine (settle_raise 65531 .railFault _ calmT.settled.1).trans ?_
    rw [← hw, ← enterState_raise, ← hw]
    refine (settle_cascadeOne 65525 _ calmW (by rw [railW, railD]; exact usedD) (by rw [railW, railD]; exact depends)
      (by rw [railW, railD]; exact pathD) (by rw [railW, railD]; exact (isUp_iff _).mpr isUp) aloneW).trans ?_
    have static : ((enterState d .falling w).rail r).static = (s.rail r).static := by
      rw [(movedTo_enterState d .falling w).others r (Ne.symm other), railW, moved.rail, hu]; rfl
    exact (settle_plain 65524 (.faultAction r) [] calmX.settled.1 rfl (faultAction_none (by rw [static]; exact noAction))
      calmX.settled.1).trans (settle_done _ calmX.settled)
  · have calmU : u.Calm := by rw [hu]; exact calm_congr calm rfl rfl rfl rfl rfl
    have stays : u.pathAvailable r = false := by rw [hu]; exact lost
    rw [ht]
    exact event_faultsAlone calm.settled calmU (riseTimeout_eq s u r due c used timer sense rising hu) (.inl stays)
      (by rw [hu]; exact free) (by rw [hu]; exact noAction) (by rw [hu]; exact down)
  · have calmT : t.Calm := by rw [ht, hu]; exact calm_faulted r .riseTimeout (calm_congr calm rfl rfl rfl rfl rfl)
    have moved := movedTo_fault r .riseTimeout u t ht
    obtain ⟨y, hy⟩ : ∃ y : State, y = modDyn r (fun d => { d with frame := some (.made false false) }) t := ⟨_, rfl⟩
    have follows : followOff r t = offerRail r y := by
      rw [hy]
      refine followOff_makes ?_ ?_ ?_
      · rw [moved.rail, hu]; exact port?_board path
      · rw [show t = u.faulted r .riseTimeout from ht, pathAvailable_faulted, hu]; exact reached
      · rw [moved.rail, hu]; exact noFrame
    have railY : ∀ q, ((offerRail r y).rail q).static = (t.rail q).static ∧ ((offerRail r y).rail q).dyn.state = (t.rail q).dyn.state :=
      fun q => by rw [rail_offerRail, hy]; exact rail_modDyn_state rfl q
    have calmY : (offerRail r y).Calm := calm_congr calmT (by rw [offerRail_agenda, hy]; rfl) (by rw [offerRail_takeDue, hy]; rfl)
      (by rw [offerRail_phase, hy]; rfl) (by rw [offerRail_fwd, hy]; rfl) (by rw [offerRail_seq, hy]; rfl)
    have target : exec (.riseTimeout r) s = .next (raise .railFault (offerRail r y)) := by
      refine event_faults calm.settled calmY (riseTimeout_eq s u r due c used timer sense rising hu) (by rw [← follows, ht]; rfl) ?_ ?_
        (dependents_down_congr railY (dependents_down_fault moved (by rw [hu]; exact down)))
      · rw [rail_offerRail, hy, rail_modDyn_self, moved.rail, hu]; exact free
      · rw [(railY r).1, moved.rail, hu]; exact noAction
    rw [target, hy]; rfl
  · have calmT : t.Calm := by rw [ht, hu]; exact calm_faulted r .riseTimeout (calm_congr calm rfl rfl rfl rfl rfl)
    have moved := movedTo_fault r .riseTimeout u t ht
    obtain ⟨y, hy⟩ : ∃ y : State, y = modDyn r (fun d => { d with frame := some { f with thenOff := true } }) t := ⟨_, rfl⟩
    have follows : followOff r t = y := by
      rw [hy]
      refine followOff_thenOff ?_ ?_ ?_ isOn
      · rw [moved.rail, hu]; exact port?_board path
      · rw [show t = u.faulted r .riseTimeout from ht, pathAvailable_faulted, hu]; exact reached
      · rw [moved.rail, hu]; exact frame
    have railY : ∀ q, (y.rail q).static = (t.rail q).static ∧ (y.rail q).dyn.state = (t.rail q).dyn.state :=
      fun q => by rw [hy]; exact rail_modDyn_state rfl q
    have calmY : y.Calm := by rw [hy]; exact calm_congr calmT rfl rfl rfl rfl rfl
    rw [← hy]
    refine event_faults calm.settled calmY (riseTimeout_eq s u r due c used timer sense rising hu) (by rw [← follows, ht]; rfl) ?_ ?_
      (dependents_down_congr railY (dependents_down_fault moved (by rw [hu]; exact down)))
    · rw [hy, rail_modDyn_self, moved.rail, hu]; exact free
    · rw [(railY r).1, moved.rail, hu]; exact noAction
  · exact movedTo_fault r .riseTimeout u t ht
  · have step : s.RailStep c x r (.railOn r noWait) := ⟨up, last, kind, rfl, used, aborts, hold⟩
    have moved := movedTo_fault r .riseTimeout u t ht
    have seqT : t.seq = s.seq := by rw [ht, hu]; exact enterState_seq r .fault _
    have alone : u.FaultsAlone r := by
      rw [hu]
      exact ⟨noFrame, fun p i on off board => absurd (path.symm.trans board) (fun no => nomatch no), noAction, down⟩
    have taken : seqRail r .state t = stepEnd (some .riseTimeout) t := by
      refine seqRail_riseTimeout .state step (a := c.timer) (b := c.frame) ?_ (by rw [moved.rail, hu]; exact used)
        (by rw [moved.rail]) (by rw [moved.rail])
      rw [seqT, ← waits]
      exact seq_self last.context
    have ends := settle_fault_ends 65523 [] .riseTimeout (some .riseTimeout) step (u := u) (by rw [hu]; exact up.settled) (by rw [hu])
      (by rw [hu]) (by rw [hu]; exact hold) (by rw [hu]; exact claim) alone (by rw [← ht]; exact taken)
    rw [← ht] at ends
    have settledT : t.Settled := by rw [ht, hu]; exact settled_faulted r .riseTimeout up.settled
    have event : exec (.riseTimeout r) s = .next (settle 65536 (enterFault r .riseTimeout u)) := by
      have whole : exec (.riseTimeout r) s = .next (settle 65536 (riseTimeout r s)) := event_settled up.settled
      rw [whole, riseTimeout_eq s u r due c' used timer sense rising hu]
    rw [event]
    rw [List.append_nil] at ends
    exact congrArg _ (ends.trans (settle_done _ (settled_raise _ (settled_endedWith c _ settledT))))
  · have settledT : t.Settled := by rw [ht, hu]; exact settled_faulted r .riseTimeout up.settled
    have moved := movedTo_fault r .riseTimeout u t ht
    have hands := riseTimeout_hands used timer sense rising hu ht (.inr (by rw [hu]; exact port?_part path)) settledT.1
    have seqT : t.seq = s.seq := by rw [ht, hu]; exact enterState_seq r .fault _
    have schedT : t.sched = s.sched := by rw [ht, hu]; exact enterState_sched r .fault _
    have fwdT : t.fwd = s.fwd := by rw [ht, hu]; exact enterState_fwd r .fault _
    have modeT : t.mode = s.mode := by rw [ht, hu]; exact enterState_mode r .fault _
    have phaseT : t.phase = s.phase := by rw [ht, hu]; exact enterState_phase r .fault _
    have nowT : t.now = u.now := by rw [ht]; exact enterState_now r .fault _
    have quietT : t.Quiet := ⟨⟨settledT, phaseT.trans up.running⟩, by rw [seqT]; exact quiet.noContext, by rw [schedT]; exact quiet.noRunning,
      by rw [schedT]; exact quiet.noQueue, by rw [schedT]; exact quiet.notCommitted, by rw [fwdT]; exact hold⟩
    have headerT : t.header n = s.header n := by unfold State.header; rw [seqT]
    have stepsT : t.stepAt = s.stepAt := funext fun i => stepAt_congr (by rw [seqT]) i
    obtain ⟨w, hw⟩ : ∃ w, w = raise .railFault t := ⟨_, rfl⟩
    have quietW : w.Quiet := by rw [hw]; exact quiet_raise _ quietT
    have headerW : w.header n = s.header n := by rw [hw, header_raise, headerT]
    have stepsW : w.stepAt = s.stepAt := by rw [hw, ← stepsT]; exact funext fun i => stepAt_raise _ _ i
    have railW : ∀ q, w.rail q = t.rail q := fun q => by rw [hw]; exact rail_raise _ _ q
    have downW := dependents_down_congr (s := t) (t := w) (r := r) (fun q => by rw [railW]; exact ⟨rfl, rfl⟩)
      (dependents_down_fault moved (by rw [hu]; exact down))
    have asked : faultAction r w = takeRequest n .fault w := faultAction_requests (by rw [railW, moved.rail, hu]; exact action)
    have event : exec (.riseTimeout r) s = _ := event_todo up.settled hands
    rw [event]
    refine congrArg _ ((settle_report 65533 r .state _ settledT.1 quietT.noContext quietT.noHold).trans ?_)
    refine (settle_plain 65532 (.faultClaim r) _ settledT.1 rfl (faultClaim_none (by rw [moved.rail, hu]; exact free)) settledT.1).trans ?_
    refine (settle_raise 65531 .railFault _ settledT.1).trans ?_
    rw [← hw]
    refine (settle_cascade_none 65530 r 0 _ quietW.settled.1 downW).trans ?_
    refine (settle_plain 65529 (.faultAction r) [] quietW.settled.1 rfl (asked.trans
      (takeRequest_idle w n .fault time quietW (by rw [hw, raise_mode, modeT]; exact active) (by rw [headerW]; exact count)
        (by rw [stepsW, headerW]; exact kind))) (by exact quietW.settled.1)).trans ((settle_done _ (by exact quietW.settled)).trans ?_)
    have schedW : w.sched = s.sched := by rw [hw, raise_sched, schedT]
    have seqW : w.seq = s.seq := by rw [hw, raise_seq, seqT]
    have nowW : w.now = u.now := by rw [hw, raise_now, nowT]
    dsimp only
    rw [schedW, seqW, nowW, headerW, stepsW]

end Sys2Proof.Machine
end

section
/-! Passes over the hold queue and the commands in flight (R18, R151, R158 to R160). -/

namespace Sys2Proof.Machine

/-! ### A report where commands may be held (R7, R151) -/

/-- The pass that a rail's report makes, with the choice it may draw. -/
theorem event_passes_report {f : State → State} {s t : State} {r : RailId} {k : ReportKind} (h : s.Settled) (settled : t.Settled)
    (present : t.up.present = true) (noRailStep : ∀ c, t.seq.ctx = some c → (t.stepAt c.index).kind.rail? = none)
    (hands : f s = t.todo [.report r k]) :
    ∃ n, event f s = .next (rescan { t with choices := n }) ∧ (t.seq.ctx = none ∨ t.fwd.hold = [] → n = t.choices) := by
  obtain ⟨n, choice, work⟩ := settle_report_passes 65533 r k [] settled present noRailStep
  refine ⟨n, ?_, choice⟩
  rw [event_todo h hands]
  exact congrArg _ (work.trans (settle_done _ (settled_rescan settled present)))

/-- A rail that moves with a report alone, where commands may be held. -/
theorem event_movesPassing {f : State → State} {s u : State} {r : RailId} {st : RailState} (h : s.Settled) (passing : u.Passing)
    (moves : f s = moveRail r st u) (stays : (u.rail r).dyn.state.isUp = false ∨ st.isUp = true) (notRising : st ≠ .rising) :
    ∃ n, event f s = .next (rescan { enterState r st u with choices := n }) ∧
      (u.seq.ctx = none ∨ u.fwd.hold = [] → n = u.choices) := by
  have quiet : ((u.rail r).dyn.state.isUp && !st.isUp) = false := by
    rcases stays with down | up
    · rw [down]; rfl
    · rw [up, Bool.and_comm]; rfl
  have hands := moveRail_settled r st passing.settled.1 (.inr notRising)
  rw [quiet] at hands
  obtain ⟨n, exec, choice⟩ := event_passes_report (t := enterState r st u) h
    ⟨(enterState_agenda r st u).trans passing.settled.1, (enterState_takeDue r st u).trans passing.settled.2⟩
    (by rw [enterState_up]; exact passing.present)
    (noRailStep_of (enterState_seq r st u) passing.noRailStep) (moves.trans hands)
  refine ⟨n, exec, fun few => ?_⟩
  rw [enterState_seq, enterState_fwd, enterState_choices] at choice
  exact choice few

/-- A rail's change of state draws no choice and looks at none. -/
theorem enterState_choice (r : RailId) (st : RailState) (s : State) (n : Nat) :
    enterState r st { s with choices := n } = { enterState r st s with choices := n } := by
  have rail : ({ s with choices := n } : State).rail r = s.rail r := rfl
  have driven : ∀ z : State, driveOutputs r st { z with choices := n } = { driveOutputs r st z with choices := n } := fun z => by
    have same : ({ z with choices := n } : State).rail r = z.rail r := rfl
    unfold driveOutputs
    rw [same]
    dsimp only
    cases (z.rail r).static.path <;> cases (z.rail r).static.discharge <;> rfl
  have followed : ∀ old (z : State), followRail r old st { z with choices := n } = { followRail r old st z with choices := n } :=
    fun old z => by
      have same : ({ z with choices := n } : State).rail r = z.rail r := rfl
      unfold followRail
      rw [same]
      cases (z.rail r).static.sense <;> rfl
  unfold enterState
  exact (congrArg (followRail r (s.rail r).dyn.state st) (driven (modDyn r (fun d => { d with
    state := st, timer := ((s.rail r).static.timerMs st).map (fun t => s.now + Config.ms t), heldGood := st == .on
    faultCause := none }) s))).trans (followed _ _)

/-! ### The outstanding commands (R18, R158, R160) -/

/-- What an answered command hands on: the release of the claim that it holds. -/
def releaseWork (p : Port) (e : OutEntry) : List Work :=
  match e.cmd.effect with
  | some (r, _) => if e.claimMark then [.releaseFrame r p e.cmd.frame.tag] else []
  | none => []

theorem releaseOut_hands {s : State} (p : Port) (e : OutEntry) (h : s.agenda = []) :
    releaseOut p e s = s.todo (releaseWork p e) := by
  unfold releaseOut releaseWork
  cases e.cmd.effect with
  | none => exact (todo_self h).symm
  | some x =>
    obtain ⟨r, isOn⟩ := x
    dsimp only
    by_cases marked : e.claimMark = true
    · rw [if_pos marked, if_pos marked]; exact later_eq_todo h _
    · rw [if_neg marked, if_neg marked]; exact (todo_self h).symm

theorem releaseWork_unmarked (p : Port) {e : OutEntry} (unmarked : e.claimMark = false) : releaseWork p e = [] := by
  unfold releaseWork
  rw [unmarked]
  cases e.cmd.effect <;> rfl

theorem releaseWork_marked {p : Port} {e : OutEntry} {r : RailId} {isOn : Bool} (marked : e.claimMark = true)
    (effect : e.cmd.effect = some (r, isOn)) : releaseWork p e = [.releaseFrame r p e.cmd.frame.tag] := by
  unfold releaseWork
  rw [effect]
  exact if_pos marked

theorem releaseFrame_held {s : State} {r : RailId} {p : Port} {tag : Byte} (h : s.agenda = [])
    (claim : (s.rail r).dyn.claim = .frame p tag) : releaseFrame r p tag s = (s.unclaimed r).todo [.report r .claim] :=
  (if_pos claim).trans (later_eq_todo (by exact h) _)

theorem outOf_tag {s : State} {p : Port} {tag : Byte} {e : OutEntry} (found : s.outOf p tag = some e) : e.cmd.frame.tag = tag :=
  beq_iff_eq.mp (List.find?_some (p := fun e : OutEntry => e.cmd.frame.tag == tag) found)

theorem filter_bne (l : List OutEntry) (e : OutEntry) : l.filter (fun x => x != e) = l.filter (fun x => decide (x ≠ e)) :=
  List.filter_congr fun x _ => by
    by_cases same : x = e
    · rw [same, bne_self_eq_false]
      exact (decide_eq_false (not_not_intro rfl)).symm
    · rw [decide_eq_true same]
      exact bne_iff_ne.mpr same

/-- The command answered for want of a reply: its place is free (R160). -/
def State.outExpired (s : State) (p : Port) (e : OutEntry) : State :=
  setOuts p ((s.outs p).filter (fun x => x ≠ e)) (State.answered { s with now := max s.now e.deadline } e.cmd.frame stNoReply [])

theorem outstandingExpiry_hands {s : State} {p : Port} {tag : Byte} {e : OutEntry} (h : s.agenda = [])
    (present : s.up.present = true) (found : s.outOf p tag = some e) :
    outstandingExpiry p tag s = (arbitrate p (s.outExpired p e)).todo (releaseWork p e) := by
  have answers : answer e.cmd.frame stNoReply (removeOut p e (advance e.deadline s)) = s.outExpired p e := by
    unfold removeOut
    rw [filter_bne]
    exact placeUp_present _ present
  unfold outstandingExpiry
  rw [found]
  dsimp only
  rw [answers, releaseOut_hands p e (by exact h), arbitrate_todo]

/-- The command answered by its board (R158). -/
def State.outReplied (s : State) (p : Port) (e : OutEntry) (f : Frame) : State :=
  setOuts p ((s.outs p).filter (fun x => x ≠ e)) (s.placed (replyEntry f))

theorem boardReplyTaken_refused {s : State} {p : Port} {f : Frame} {e : OutEntry} (h : s.agenda = [])
    (present : s.up.present = true) (found : s.outOf p f.tag = some e) (refused : repliesOk f.payload = false) :
    boardReplyTaken p f s = (arbitrate p (s.outReplied p e f)).todo (releaseWork p e) := by
  have placed : placeUp (replyEntry f) (removeOut p e s) = s.outReplied p e f := by
    unfold removeOut
    rw [filter_bne]
    exact placeUp_present _ present
  unfold boardReplyTaken
  rw [found]
  dsimp only
  rw [placed, refused, if_neg Bool.false_ne_true, releaseOut_hands p e (by exact h), arbitrate_todo]

/-- The freed place is used before the claim's release has its consequences (log 40). -/
theorem arbitrate_unclaimed_rest (p : Port) (r : RailId) (s : State) :
    { (arbitrate p s).unclaimed r with ports := s.ports } = s.unclaimed r :=
  congrArg (fun z : State => z.unclaimed r) (arbitrate_rest p s)

/-- A command that held its rail's claim is answered: the claim goes, and the pass of that report follows. -/
theorem event_releases {f : State → State} {s u : State} {p : Port} {r : RailId} {tag : Byte} (h : s.Settled) (passing : u.Passing)
    (claim : (u.rail r).dyn.claim = .frame p tag) (hands : f s = (arbitrate p u).todo [.releaseFrame r p tag]) :
    ∃ n, event f s = .next (rescan { (arbitrate p u).unclaimed r with choices := n }) ∧
      (u.seq.ctx = none ∨ u.fwd.hold = [] → n = u.choices) := by
  obtain ⟨t, ht⟩ : ∃ t, t = (arbitrate p u).unclaimed r := ⟨_, rfl⟩
  have agenda : (arbitrate p u).agenda = [] := (arbitrate_agenda p u).trans passing.settled.1
  have settled : t.Settled := by rw [ht]; exact ⟨agenda, (arbitrate_takeDue p u).trans passing.settled.2⟩
  have claimA : ((arbitrate p u).rail r).dyn.claim = .frame p tag := by
    unfold State.rail
    rw [arbitrate_rails]; exact claim
  have released := releaseFrame_held agenda claimA
  rw [← ht] at released
  have seq : t.seq = u.seq := by rw [ht]; exact arbitrate_seq p u
  have fwd : t.fwd = u.fwd := by rw [ht]; exact arbitrate_fwd p u
  have choices : t.choices = u.choices := by rw [ht]; exact arbitrate_choices p u
  have up : t.up = u.up := by rw [ht]; exact arbitrate_up p u
  obtain ⟨n, choice, work⟩ := settle_report_passes 65532 r .claim [] settled (by rw [up]; exact passing.present)
    (noRailStep_of seq passing.noRailStep)
  rw [seq, fwd, choices] at choice
  refine ⟨n, ?_, choice⟩
  rw [event_todo h hands, ← ht]
  exact congrArg _ ((settle_hands 65535 (.releaseFrame r p tag) [] _ agenda rfl released).trans
    (work.trans (settle_done _ (settled_rescan (s := { t with choices := n }) settled (by exact up ▸ passing.present)))))

/-! ### The passes of the stages (R95, R101, R151) -/

/-- SHED entered from DIP by an idle part whose level has no program, with commands held: STAGE_CHANGE and the pass. -/
theorem settle_shedPasses (m : Nat) {s : State} (h : s.Settled) (present : s.up.present = true) (idle : s.sched.running = none)
    (empty : s.sched.queue = []) :
    settle (m + 5) (s.todo [.raise .stageChange, .pass, .shedAbandon, .dropLow, .startHead]) = rescan (raise .stageChange s) := by
  obtain ⟨t, ht⟩ : ∃ t, t = rescan (raise .stageChange s) := ⟨_, rfl⟩
  have presentR : (raise .stageChange s).up.present = true := by rw [raise_up_present]; exact present
  have settledR := settled_raise .stageChange h
  have settled : t.Settled := by rw [ht]; exact settled_rescan settledR presentR
  have sched : t.sched = s.sched := by rw [ht, (passLike_rescan presentR).sched, raise_sched]
  refine (settle_raise (m + 4) .stageChange _ h.1).trans ((settle_rescan (m + 3) _ settledR presentR).trans ?_)
  rw [← ht]
  refine (settle_plain (m + 2) .shedAbandon _ settled.1 rfl (shedAbandon_none (by rw [sched]; exact idle)) settled.1).trans ?_
  refine (settle_plain (m + 1) .dropLow _ settled.1 rfl
    (dropLow_none (by rw [sched, empty]; exact fun _ mem => nomatch mem)) settled.1).trans ?_
  exact (settle_startHead m [] settled.1 (by rw [sched]; exact empty)).trans (settle_done m settled)

/-- Settles O52: a pass follows each of its other occasions, whatever is held. -/
theorem passesFollowTheirOccasions : Obligations.PassesFollowTheirOccasions := by
  refine ⟨fun s u r passing used => ⟨fun due timer unsensed hu => ⟨fun rising => ?_, fun falling noForce => ?_⟩,
      fun x due frame sent => ⟨fun p cls payload link fits refused => ?_, fun second => ?_⟩⟩,
    fun s p tag e r isOn passing found marked effect claim => ⟨fun u hu => ?_, fun u cls payload link fits refused hu => ?_⟩,
    fun s i due passing idle empty timer dip level none => ?_,
    fun s c x due now time up present queue ctx restore running unmarked recover level timer hnow kind last => ?_⟩
  · have passingU : u.Passing := by rw [hu]; exact ⟨⟨passing.settled, passing.running⟩, passing.present, passing.noRailStep⟩
    have moves := settleExpiry_moves used timer rising unsensed
    rw [← hu] at moves
    obtain ⟨n, exec, choice⟩ := event_movesPassing passing.settled passingU moves (.inr rfl) (fun no => nomatch no)
    have moved := onlyMovedTo_enterState r .on { u with choices := n } rfl
    have same : enterState r .on { u with choices := n } = { enterState r .on u with choices := n } := enterState_choice r .on u n
    rw [same] at moved
    exact ⟨_, n, exec, by rw [hu] at choice; exact choice, moved⟩
  · have passingU : u.Passing := by rw [hu]; exact ⟨⟨passing.settled, passing.running⟩, passing.present, passing.noRailStep⟩
    have moves := fallExpiry_off used timer falling noForce unsensed
    rw [← hu] at moves
    obtain ⟨n, exec, choice⟩ := event_movesPassing passing.settled passingU moves
      (.inl (by rw [hu]; show (s.rail r).dyn.state.isUp = false; rw [falling]; rfl)) (fun no => nomatch no)
    have moved := onlyMovedTo_enterState r .off { u with choices := n } rfl
    have same : enterState r .off { u with choices := n } = { enterState r .off u with choices := n } := enterState_choice r .off u n
    rw [same] at moved
    exact ⟨_, n, exec, by rw [hu] at choice; exact choice, moved⟩
  · have notOk : (if repliesOk payload then FrameOutcome.ok else .errorReply) = .errorReply :=
      if_neg fun yes => refused ((repliesOk_head payload).mp yes)
    have ends := (receiveDown_railReply s p cls r payload passing.toUp link fits).trans (railReply_sent payload frame sent)
    rw [notOk, frameEnd_fails (out := .errorReply) passing.settled.1 frame (stepWaits_calm passing.noRailStep r) (fun no => nomatch no)] at ends
    exact event_passes_report (t := s.unframed r) passing.settled passing.settled passing.present passing.noRailStep ends
  · have ends := (railFrameDeadline_noReply frame sent second).trans
      (frameEnd_fails (s := { s with now := max s.now due }) (by exact passing.settled.1) (by exact frame)
        (stepWaits_calm (by exact passing.noRailStep) r) (fun no => nomatch no))
    exact event_passes_report passing.settled (by exact passing.settled) (by exact passing.present) (by exact passing.noRailStep) ends
  · have expired : u = s.outExpired p e := hu
    have passingU : u.Passing := by rw [hu]; exact ⟨⟨passing.settled, passing.running⟩, passing.present, passing.noRailStep⟩
    have hands := outstandingExpiry_hands passing.settled.1 passing.present found
    rw [releaseWork_marked marked effect, outOf_tag found, ← expired] at hands
    obtain ⟨n, exec, choice⟩ := event_releases passing.settled passingU (by rw [hu]; exact claim) hands
    refine ⟨_, n, exec, by rw [hu] at choice; exact choice, fun q other => ?_, ?_⟩
    · exact (arbitrate_other other u).trans (by rw [hu]; rfl)
    · have rest := congrArg (fun z : State => { z with choices := n }) (arbitrate_unclaimed_rest p r u)
      have ports : s.ports = u.ports := by rw [hu]; rfl
      rw [ports]; exact rest
  · have replied : u = s.outReplied p e (mkFrame 7 p.addr kindReply cls tag payload) := hu
    have passingU : u.Passing := by rw [hu]; exact ⟨⟨passing.settled, passing.running⟩, passing.present, passing.noRailStep⟩
    have notOk : repliesOk (mkFrame 7 p.addr kindReply cls tag payload).payload = false :=
      Bool.eq_false_iff.mpr fun yes => refused ((repliesOk_head payload).mp yes)
    have hands := (receiveDown_boardReply s p cls tag payload passing.toUp link fits).trans
      (boardReplyTaken_refused passing.settled.1 passing.present found notOk)
    rw [releaseWork_marked marked effect, outOf_tag found, ← replied] at hands
    obtain ⟨n, exec, choice⟩ := event_releases passing.settled passingU (by rw [hu]; exact claim) hands
    refine ⟨_, n, exec, by rw [hu] at choice; exact choice, fun q other => ?_, ?_⟩
    · exact (arbitrate_other other u).trans (by rw [hu]; rfl)
    · have rest := congrArg (fun z : State => { z with choices := n }) (arbitrate_unclaimed_rest p r u)
      have ports : s.ports = u.ports := by rw [hu]; rfl
      rw [ports]; exact rest
  · obtain ⟨w, hw⟩ : ∃ w, w = s.levelExpired i due := ⟨_, rfl⟩
    have met := triggerExpiry_level timer
    rw [← hw] at met
    have settledW : w.Settled := by rw [hw]; exact passing.settled
    have stage : w.rtu.stage = .dip := by rw [hw]; exact dip
    have enters := met.trans ((triggerMet_dip i false stage).trans
      (enterShed_dip settledW.1 stage (by rw [hw]; show s.rtu.shedLevel ≠ _; rw [level]; exact (Nat.succ_ne_zero _).symm)))
    have program : w.rtu.plan.levelProgram (i.val + 1 - 1) = Option.none := by rw [hw]; exact none
    rw [program] at enters
    have event : exec (.triggerTimerExpiry (.level i)) s = _ := event_todo passing.settled enters
    rw [event]
    refine congrArg _ ((settle_shedPasses 65531 (s := w.shedEntered (i.val + 1)) (by exact settledW) ?_ ?_ ?_).trans ?_)
    · rw [hw]; exact passing.present
    · rw [hw]; exact idle
    · rw [hw]; exact empty
    · rw [hw]; rfl
  · have event : exec .delayExpiry s = _ := event_todo up.settled (delayExpiry_eq up ctx kind timer)
    rw [event, hnow]
    obtain ⟨v, hv⟩ : ∃ v : State, v = { s with
      now := max s.now due, seq := { s.seq with ctx := some { c with timer := none, frame := none, wait := .none } } } := ⟨_, rfl⟩
    obtain ⟨t, ht⟩ : ∃ t : State, t = { State.endedWith { s with now := max s.now due } c .done with
      rtu := { s.rtu with stage := .lineOk, shedLevel := 0, lossTime := none, deepest := 0,
                          levelTimers := Vector.replicate 4 none, commitTimer := none }
      fwd := { s.fwd with shedLevel := 0 } } := ⟨_, rfl⟩
    have ends := settle_restoreEnds 65533 (s := v) (c := { c with timer := none, frame := none, wait := .none }) (x := x)
      (failure := none) (by rw [hv]; exact up.settled) (by rw [hv]) restore (by rw [hv]; exact running)
      (.inr (cutOffDue_none unmarked (by rw [hv]; exact queue))) (fun _ => by rw [restore, hv]; exact last)
      (fun ne => absurd rfl ne) (by rw [hv]; exact recover) (by rw [hv]; exact level)
    have target : ({ v.endedWith { c with timer := none, frame := none, wait := .none } (Context.endOf
        { c with timer := none, frame := none, wait := .none } none) with
      rtu := { v.rtu with stage := .lineOk, shedLevel := 0, lossTime := none, deepest := 0,
                          levelTimers := Vector.replicate 4 none, commitTimer := none }
      fwd := { v.fwd with shedLevel := 0 } } : State) = t := by rw [ht, hv]; rfl
    rw [target] at ends
    rw [← hv, ← ht]
    have settledT : t.Settled := by
      rw [ht]
      exact settled_endedWith (s := { s with now := max s.now due }) c .done up.settled
    have presentR : (raise .stageChange t).up.present = true := by
      rw [raise_up_present, ht]
      unfold State.endedWith
      rw [raise_up_present]; exact present
    have queueT : t.sched.queue = [] := by
      rw [ht]
      unfold State.endedWith
      rw [raise_sched]; exact queue
    have settledR := settled_raise .stageChange settledT
    have settledP := settled_rescan settledR presentR
    refine congrArg _ (ends.trans ((settle_raise 65532 .stageChange _ settledT.1).trans
      ((settle_rescan 65531 _ settledR presentR).trans ?_)))
    exact (settle_startHead 65530 [] settledP.1 (by rw [(passLike_rescan presentR).sched, raise_sched]; exact queueT)).trans
      (settle_done _ settledP)

end Sys2Proof.Machine
end

section
/-! A pass entry by entry, and the deadlines of forwarded commands (R152, R154, R160). -/

namespace Sys2Proof.Machine

/-! ### What a pass has done with the entries before one (R152) -/

/-- The reply that a pass gives an entry that it refuses. -/
def State.refusal (s : State) (y : HoldEntry) : Option UpEntry :=
  match s.verdict y.cmd with
  | .refuse st => some (replyEntry (replyFrame y.cmd.frame st []))
  | _ => none

/-- How many of the entries are ready for the port. -/
def State.readyIn (s : State) (l : List HoldEntry) (p : Port) : Nat :=
  (l.filter (fun y => y.cmd.port == p && s.verdict y.cmd == .ready)).length

/-- The pass over the entries `pre` of `s` has come to `t`, with the ports `b` blocked and the entries `k` kept. -/
structure State.Passed (s : State) (pre : List HoldEntry) (b : List Port) (k : List HoldEntry) (t : State) : Prop where
  runs : ∀ rest, passOver (pre ++ rest) [] [] s = passOver rest b k t
  like : State.PassLike s t
  cmds : ∀ y ∈ k, ∃ x ∈ pre, y.cmd = x.cmd
  blocked : ∀ y ∈ pre, (∃ x, s.verdict y.cmd = .keep x) → y.cmd.port ∈ b
  queues : ∀ p, p ∉ b → (t.queue p).length = (s.queue p).length + s.readyIn pre p
  opened : ∀ p, (∀ y ∈ pre, y.cmd.port = p → ∀ x, s.verdict y.cmd ≠ .keep x) → (s.queue p).length + s.readyIn pre p ≤ 8 → p ∉ b
  tx : t.up.tx = s.up.tx ++ pre.filterMap s.refusal
  ports : ∀ p, (s.port p).line ≠ .free ∨ (∀ y ∈ pre, y.cmd.port = p → s.verdict y.cmd ≠ .ready) → t.port p = s.port p

theorem passed_nil (s : State) : s.Passed [] [] [] s where
  runs _ := rfl
  like := .refl s
  cmds _ mem := nomatch mem
  blocked _ mem := nomatch mem
  queues _ _ := rfl
  opened _ _ _ := List.not_mem_nil
  tx := (List.append_nil _).symm
  ports _ _ := rfl

section
variable {s t : State} {pre : List HoldEntry} {b : List Port} {k : List HoldEntry} {e : HoldEntry}

/-- The verdicts stay as they were all through a pass. -/
theorem State.Passed.verdict (h : s.Passed pre b k t) (c : Cmd) : t.verdict c = s.verdict c :=
  verdict_congr h.like.rails h.like.shed c

theorem readyIn_snoc (s : State) (pre : List HoldEntry) (e : HoldEntry) (p : Port) : s.readyIn (pre ++ [e]) p =
    s.readyIn pre p + if e.cmd.port = p ∧ s.verdict e.cmd = .ready then 1 else 0 := by
  unfold State.readyIn
  rw [List.filter_append, List.length_append]
  by_cases counts : e.cmd.port = p ∧ s.verdict e.cmd = .ready
  · rw [if_pos counts, List.filter_cons_of_pos (by rw [counts.1, counts.2]; simp)]; rfl
  · rw [if_neg counts, List.filter_cons_of_neg]
    · rfl
    · intro both
      obtain ⟨port, ready⟩ := Bool.and_eq_true_iff.mp both
      exact counts ⟨beq_iff_eq.mp port, beq_iff_eq.mp ready⟩

theorem readyIn_snoc_not (p : Port) (not : s.verdict e.cmd ≠ .ready) : s.readyIn (pre ++ [e]) p = s.readyIn pre p := by
  rw [readyIn_snoc, if_neg fun both => not both.2, Nat.add_zero]

theorem mem_snoc {α : Type} {y a : α} {l : List α} : y ∈ l ++ [a] ↔ y ∈ l ∨ y = a := by
  rw [List.mem_append, List.mem_singleton]

theorem filterMap_snoc_none (none : s.refusal e = none) : (pre ++ [e]).filterMap s.refusal = pre.filterMap s.refusal := by
  rw [List.filterMap_append, List.filterMap_cons_none none, List.filterMap_nil, List.append_nil]

theorem passed_keep {x : HoldReason} (h : s.Passed pre b k t) (keep : s.verdict e.cmd = .keep x) :
    s.Passed (pre ++ [e]) (e.cmd.port :: b) ({ e with reason := x } :: k) t where
  runs rest := by
    rw [List.append_assoc, h.runs]
    exact passOver_keep rest b k ((h.verdict e.cmd).trans keep)
  like := h.like
  cmds y mem := by
    rcases List.mem_cons.mp mem with rfl | old
    · exact ⟨e, mem_snoc.mpr (.inr rfl), rfl⟩
    · obtain ⟨z, memZ, same⟩ := h.cmds y old
      exact ⟨z, mem_snoc.mpr (.inl memZ), same⟩
  blocked y mem kept := by
    rcases mem_snoc.mp mem with old | rfl
    · exact List.mem_cons_of_mem _ (h.blocked y old kept)
    · exact List.mem_cons_self
  queues p free := by
    rw [readyIn_snoc_not p (by rw [keep]; exact fun no => nomatch no)]
    exact h.queues p fun old => free (List.mem_cons_of_mem _ old)
  opened p free few := by
    rw [readyIn_snoc_not p (by rw [keep]; exact fun no => nomatch no)] at few
    intro mem
    rcases List.mem_cons.mp mem with own | old
    · exact free e (mem_snoc.mpr (.inr rfl)) own.symm x keep
    · exact h.opened p (fun y memY => free y (mem_snoc.mpr (.inl memY))) few old
  tx := by
    rw [filterMap_snoc_none (by unfold State.refusal; rw [keep])]; exact h.tx
  ports p rests := h.ports p (rests.imp_right fun free y mem => free y (mem_snoc.mpr (.inl mem)))

theorem port_answer {s : State} (f : Frame) (st : Byte) (p : Port) (present : s.up.present = true) :
    (answer f st s).port p = s.port p := by
  unfold answer
  rw [placeUp_present _ present]; rfl

theorem passed_refuse {st : Byte} (h : s.Passed pre b k t) (present : s.up.present = true) (refuse : s.verdict e.cmd = .refuse st) :
    s.Passed (pre ++ [e]) b k (answer e.cmd.frame st t) := by
  have presentT : t.up.present = true := h.like.present.trans present
  obtain ⟨like, tx, fwd⟩ := passLike_answer e.cmd.frame st presentT
  have notReady : s.verdict e.cmd ≠ .ready := by rw [refuse]; exact fun no => nomatch no
  constructor
  · intro rest
    rw [List.append_assoc, h.runs]
    exact passOver_refuse rest b k ((h.verdict e.cmd).trans refuse)
  · exact h.like.trans like
  · intro y mem
    obtain ⟨z, memZ, same⟩ := h.cmds y mem
    exact ⟨z, mem_snoc.mpr (.inl memZ), same⟩
  · intro y mem kept
    rcases mem_snoc.mp mem with old | rfl
    · exact h.blocked y old kept
    · obtain ⟨x, keep⟩ := kept
      rw [refuse] at keep; exact nomatch keep
  · intro p free
    rw [readyIn_snoc_not p notReady, ← h.queues p free]
    unfold State.queue
    rw [fwd]
  · intro p free few
    rw [readyIn_snoc_not p notReady] at few
    exact h.opened p (fun y mem => free y (mem_snoc.mpr (.inl mem))) few
  · rw [tx, h.tx, List.filterMap_append, List.append_assoc]
    refine congrArg _ (congrArg _ ?_)
    rw [List.filterMap_cons_some (b := replyEntry (replyFrame e.cmd.frame st [])) (by unfold State.refusal; rw [refuse])]; rfl
  · intro p rests
    rw [port_answer _ _ p presentT]
    exact h.ports p (rests.imp_right fun free y mem => free y (mem_snoc.mpr (.inl mem)))

theorem passed_stay (h : s.Passed pre b k t) (ready : s.verdict e.cmd = .ready)
    (stays : e.cmd.port ∈ b ∨ 8 ≤ (t.queue e.cmd.port).length) :
    s.Passed (pre ++ [e]) (e.cmd.port :: b) ({ e with reason := .order } :: k) t where
  runs rest := by
    rw [List.append_assoc, h.runs]
    exact passOver_stay rest b k ((h.verdict e.cmd).trans ready) stays
  like := h.like
  cmds y mem := by
    rcases List.mem_cons.mp mem with rfl | old
    · exact ⟨e, mem_snoc.mpr (.inr rfl), rfl⟩
    · obtain ⟨z, memZ, same⟩ := h.cmds y old
      exact ⟨z, mem_snoc.mpr (.inl memZ), same⟩
  blocked y mem kept := by
    rcases mem_snoc.mp mem with old | rfl
    · exact List.mem_cons_of_mem _ (h.blocked y old kept)
    · exact List.mem_cons_self
  queues p free := by
    have other : e.cmd.port ≠ p := fun same => free (same ▸ List.mem_cons_self)
    rw [readyIn_snoc, if_neg fun both => other both.1, Nat.add_zero]
    exact h.queues p fun old => free (List.mem_cons_of_mem _ old)
  opened p free few := by
    intro mem
    have freePre : ∀ y ∈ pre, y.cmd.port = p → ∀ x, s.verdict y.cmd ≠ .keep x := fun y memY => free y (mem_snoc.mpr (.inl memY))
    rw [readyIn_snoc] at few
    have shut : p ∉ b := h.opened p freePre (by omega)
    rcases List.mem_cons.mp mem with own | old
    · rw [if_pos ⟨own.symm, ready⟩] at few
      rw [← own] at stays
      rcases stays with inB | full
      · exact shut inB
      · rw [h.queues p shut] at full; omega
    · exact shut old
  tx := by
    rw [filterMap_snoc_none (by unfold State.refusal; rw [ready])]; exact h.tx
  ports p rests := h.ports p (rests.imp_right fun free y mem => free y (mem_snoc.mpr (.inl mem)))

/-- A release to a port whose lane is busy leaves its record. -/
theorem toForward_busy {c : Cmd} {s : State} (busy : (s.port c.port).line ≠ .free) : (toForward c s).ports = s.ports := by
  have line : ((setQueue c.port (s.queue c.port ++ [c]) s).port c.port).line ≠ .free := busy
  unfold toForward arbitrate
  dsimp only
  rw [decide_eq_false line]; rfl

theorem toForward_other {c : Cmd} {s : State} {p : Port} (other : p ≠ c.port) : (toForward c s).port p = s.port p :=
  arbitrate_other other _

theorem passed_release (h : s.Passed pre b k t) (ready : s.verdict e.cmd = .ready) (open' : e.cmd.port ∉ b)
    (place : (t.queue e.cmd.port).length < 8) : s.Passed (pre ++ [e]) b k (toForward e.cmd t) := by
  obtain ⟨like, queues, _, up⟩ := passLike_toForward e.cmd t
  constructor
  · intro rest
    rw [List.append_assoc, h.runs]
    exact passOver_release rest b k ((h.verdict e.cmd).trans ready) open' place
  · exact h.like.trans like
  · intro y mem
    obtain ⟨z, memZ, same⟩ := h.cmds y mem
    exact ⟨z, mem_snoc.mpr (.inl memZ), same⟩
  · intro y mem kept
    rcases mem_snoc.mp mem with old | rfl
    · exact h.blocked y old kept
    · obtain ⟨x, keep⟩ := kept
      rw [ready] at keep; exact nomatch keep
  · intro p free
    rw [queues, readyIn_snoc]
    by_cases own : p = e.cmd.port
    · rw [if_pos own, if_pos ⟨own.symm, ready⟩, List.length_append, h.queues p free]; rfl
    · rw [if_neg own, if_neg fun both => own both.1.symm, h.queues p free]; rfl
  · intro p free few
    rw [readyIn_snoc] at few
    exact h.opened p (fun y mem => free y (mem_snoc.mpr (.inl mem))) (by omega)
  · rw [up, filterMap_snoc_none (by unfold State.refusal; rw [ready])]; exact h.tx
  · intro p rests
    have before : t.port p = s.port p := h.ports p (rests.imp_right fun free y mem => free y (mem_snoc.mpr (.inl mem)))
    by_cases own : p = e.cmd.port
    · rcases rests with busy | free
      · have ports := toForward_busy (c := e.cmd) (s := t) (by rw [← own, before]; exact busy)
        unfold State.port at before ⊢
        rw [ports]; exact before
      · exact absurd ready (free e (mem_snoc.mpr (.inr rfl)) own.symm)
    · exact (toForward_other own).trans before

end

/-- A list taken from its end. -/
theorem snoc_induction {α : Type} {P : List α → Prop} (nil : P []) (snoc : ∀ l e, P l → P (l ++ [e])) (l : List α) : P l := by
  have reversed : ∀ m : List α, P m.reverse := fun m => by
    induction m with
    | nil => exact nil
    | cons e m ih => rw [List.reverse_cons]; exact snoc _ e ih
  rw [← List.reverse_reverse l]
  exact reversed l.reverse

/-- Every pass comes past the entries before any one. -/
theorem passed_all {s : State} (present : s.up.present = true) (pre : List HoldEntry) : ∃ b k t, s.Passed pre b k t := by
  induction pre using snoc_induction with
  | nil => exact ⟨[], [], s, passed_nil s⟩
  | snoc pre e ih =>
    obtain ⟨b, k, t, h⟩ := ih
    cases v : s.verdict e.cmd with
    | keep x => exact ⟨_, _, _, passed_keep h v⟩
    | refuse st => exact ⟨_, _, _, passed_refuse h present v⟩
    | ready =>
      by_cases stays : e.cmd.port ∈ b ∨ 8 ≤ (t.queue e.cmd.port).length
      · exact ⟨_, _, _, passed_stay h v stays⟩
      · exact ⟨_, _, _, passed_release h v (fun mem => stays (.inl mem))
          (Nat.lt_of_not_le fun full => stays (.inr full))⟩

/-! ### What a pass leaves of one entry -/

/-- The entries that a finished pass leaves: those kept before one entry, then some of those behind it. -/
theorem passOver_hold {s t : State} {pre post : List HoldEntry} {b b' : List Port} {k k' : List HoldEntry} {e : HoldEntry}
    {t' : State} (present : s.up.present = true) (hold : s.fwd.hold = pre ++ e :: post) (h : s.Passed pre b k t)
    (next : s.Passed (pre ++ [e]) b' k' t') :
    ∃ m, (rescan s).fwd.hold = k'.reverse ++ m ∧ ∀ y ∈ m, ∃ x ∈ post, y.cmd = x.cmd := by
  have runs : rescan s = passOver post b' k' t' := by
    unfold rescan
    rw [hold, ← next.runs, List.append_assoc]; rfl
  obtain ⟨_, ⟨m, left, sub⟩, _⟩ := passOver_spec post b' k' t' (next.like.present.trans present)
  refine ⟨m, by rw [runs, left], fun y mem => ?_⟩
  obtain ⟨x, memX, same⟩ := List.mem_map.mp (sub.subset (List.mem_map.mpr ⟨y, mem, rfl⟩))
  exact ⟨x, memX, (Prod.mk.inj same).1.symm⟩

/-- An entry that leaves the queue leaves no entry of its command. -/
theorem passOver_gone {s t : State} {pre post : List HoldEntry} {b b' : List Port} {k : List HoldEntry} {e : HoldEntry}
    {t' : State} (present : s.up.present = true) (hold : s.fwd.hold = pre ++ e :: post) (h : s.Passed pre b k t)
    (next : s.Passed (pre ++ [e]) b' k t') (alone : ∀ y ∈ pre ++ post, y.cmd ≠ e.cmd) :
    ∀ y ∈ (rescan s).fwd.hold, y.cmd ≠ e.cmd := by
  obtain ⟨m, left, behind⟩ := passOver_hold present hold h next
  intro y mem
  rw [left] at mem
  rcases List.mem_append.mp mem with before | after
  · obtain ⟨x, memX, same⟩ := h.cmds y (List.mem_reverse.mp before)
    rw [same]; exact alone x (List.mem_append.mpr (.inl memX))
  · obtain ⟨x, memX, same⟩ := behind y after
    rw [same]; exact alone x (List.mem_append.mpr (.inr memX))

/-- A pass that has begun on a busy lane leaves that lane. -/
theorem passOver_busy (l : List HoldEntry) : ∀ (b : List Port) (k : List HoldEntry) (s : State) (p : Port), s.up.present = true →
    (s.port p).line ≠ .free → (passOver l b k s).port p = s.port p := by
  intro b k s p
  induction l generalizing b k s with
  | nil => exact fun _ _ => rfl
  | cons e l ih =>
    intro present busy
    cases v : s.verdict e.cmd with
    | keep x => rw [passOver_keep l b k v]; exact ih _ _ s present busy
    | refuse st =>
      have same := port_answer e.cmd.frame st p present
      rw [passOver_refuse l b k v, ih _ _ _ ((passLike_answer e.cmd.frame st present).1.present.trans present) (by rw [same]; exact busy),
        same]
    | ready =>
      by_cases stays : e.cmd.port ∈ b ∨ 8 ≤ (s.queue e.cmd.port).length
      · rw [passOver_stay l b k v stays]; exact ih _ _ s present busy
      · have same : (toForward e.cmd s).port p = s.port p := by
          by_cases own : p = e.cmd.port
          · unfold State.port
            rw [toForward_busy (by rw [← own]; exact busy)]
          · exact toForward_other own
        rw [passOver_release l b k v (fun mem => stays (.inl mem)) (Nat.lt_of_not_le fun full => stays (.inr full)),
          ih _ _ _ ((passLike_toForward e.cmd s).1.present.trans present) (by rw [same]; exact busy), same]

/-! ### The hold deadline (R154) -/

theorem holdExpiry_hands {s : State} {e : HoldEntry} {pre post : List HoldEntry} (h : s.agenda = []) (present : s.up.present = true)
    (hold : s.fwd.hold = pre ++ e :: post)
    (alone : ∀ x ∈ pre ++ post, x.cmd.port = e.cmd.port → x.cmd.frame.tag ≠ e.cmd.frame.tag) :
    holdExpiry e.cmd.port e.cmd.frame.tag s =
      (State.answered { s with now := max s.now e.deadline, fwd := { s.fwd with hold := pre ++ post } } e.cmd.frame stHoldExpired []).todo
        [.raise .holdExpired, .pass] := by
  have other : ∀ x ∈ pre ++ post, (x.cmd.port == e.cmd.port && x.cmd.frame.tag == e.cmd.frame.tag) = false := fun x mem => by
    by_cases port : x.cmd.port = e.cmd.port
    · rw [beq_false_of_ne (alone x mem port), Bool.and_false]
    · rw [beq_false_of_ne port, Bool.false_and]
  have found : s.fwd.hold.find? (fun x => x.cmd.port == e.cmd.port && x.cmd.frame.tag == e.cmd.frame.tag) = some e := by
    rw [hold, List.find?_append, List.find?_eq_none.mpr fun x mem => by
      rw [other x (List.mem_append.mpr (.inl mem))]; exact Bool.false_ne_true]
    exact List.find?_cons_of_pos (p := fun x : HoldEntry => x.cmd.port == e.cmd.port && x.cmd.frame.tag == e.cmd.frame.tag)
      (by rw [beq_self_eq_true, beq_self_eq_true]; rfl)
  have rest : s.fwd.hold.filter (fun x => x != e) = pre ++ post := by
    have differs : ∀ x ∈ pre ++ post, (x != e) = true := fun x mem => bne_iff_ne.mpr fun same => by
      subst same
      exact alone x mem rfl rfl
    rw [hold, List.filter_append, List.filter_cons_of_neg (by rw [bne_self_eq_false]; exact Bool.false_ne_true),
      ← List.filter_append, List.filter_eq_self.mpr differs]
  unfold holdExpiry
  rw [found]
  dsimp only
  rw [show (advance e.deadline s).fwd.hold.filter (fun x => x != e) = pre ++ post from rest]
  unfold answer
  rw [placeUp_present _ (by exact present)]
  exact later_two (by exact h) _ _

/-- Settles O51: the two deadlines' answers, and what a pass does with each entry. -/
theorem forwardDeadlinesAnswerTheCommand : Obligations.ForwardDeadlinesAnswerTheCommand := by
  refine ⟨fun s u p tag e up present found hu => ⟨fun unmarked => ?_, fun r isOn calm marked effect claim => ?_⟩,
    fun s u e pre post up present hold alone hu => ⟨?_, fun noPre noPost => ?_⟩,
    fun s t e pre post n present hold ht hn => ?_⟩
  · have expired : u = s.outExpired p e := hu
    have hands := outstandingExpiry_hands up.settled.1 present found
    rw [releaseWork_unmarked p unmarked, ← expired] at hands
    have settled : (arbitrate p u).Settled := by
      rw [hu]
      exact ⟨(arbitrate_agenda p _).trans up.settled.1, (arbitrate_takeDue p _).trans up.settled.2⟩
    have event : exec (.outstandingDeadlineExpiry p tag) s = _ := event_todo up.settled hands
    refine ⟨arbitrate p u, event.trans (congrArg _ (settle_done _ settled)), fun q other => ?_, ?_⟩
    · exact (arbitrate_other other u).trans (by rw [hu]; rfl)
    · rw [show s.ports = u.ports by rw [hu]; rfl]
      exact arbitrate_rest p u
  · have expired : u = s.outExpired p e := hu
    have calmU : u.Calm := by rw [hu]; exact calm_holds calm rfl rfl rfl rfl rfl
    have hands := outstandingExpiry_hands up.settled.1 present found
    rw [releaseWork_marked marked effect, outOf_tag found, ← expired] at hands
    have calmA : (arbitrate p u).Calm := calm_congr calmU (arbitrate_agenda p u) (arbitrate_takeDue p u) (arbitrate_phase p u)
      (arbitrate_fwd p u) (arbitrate_seq p u)
    have calmT : ((arbitrate p u).unclaimed r).Calm := calm_congr calmA rfl rfl rfl rfl rfl
    have claimA : ((arbitrate p u).rail r).dyn.claim = .frame p tag := by
      unfold State.rail
      rw [arbitrate_rails, hu]; exact claim
    have event : exec (.outstandingDeadlineExpiry p tag) s = _ := event_todo up.settled hands
    refine ⟨(arbitrate p u).unclaimed r, ?_, fun q other => ?_, ?_⟩
    · rw [event]
      exact congrArg _ ((settle_hands 65535 (.releaseFrame r p tag) [] _ calmA.settled.1 rfl
        (releaseFrame_held calmA.settled.1 claimA)).trans
        ((settle_report_calm 65532 r .claim [] calmT.settled.1 calmT.noHold calmT.noRailStep).trans (settle_done _ calmT.settled)))
    · exact (arbitrate_other other u).trans (by rw [hu]; rfl)
    · rw [show s.ports = u.ports by rw [hu]; rfl]
      exact arbitrate_unclaimed_rest p r u
  · have hands := holdExpiry_hands up.settled.1 present hold alone
    have event : exec (.holdDeadlineExpiry e.cmd.port e.cmd.frame.tag) s = _ := event_todo up.settled hands
    have presentU : u.up.present = true := by rw [hu, raise_up_present]; exact present
    have settledU : u.Settled := by rw [hu]; exact settled_raise _ up.settled
    rw [event]
    refine congrArg _ ((settle_raise 65535 .holdExpired _ (by exact up.settled.1)).trans ?_)
    rw [← hu]
    exact (settle_rescan 65534 [] settledU presentU).trans (settle_done _ (settled_rescan settledU presentU))
  · exact rescan_none (by rw [hu, raise_fwd, noPre, noPost]; rfl)
  · subst ht
    obtain ⟨b, k, w, h⟩ := passed_all present pre
    obtain ⟨like, ⟨_, holds, sub⟩, queues⟩ := passOver_spec s.fwd.hold [] [] s present
    obtain ⟨_, kAll, wAll, all⟩ := passed_all present s.fwd.hold
    have whole : rescan s = setHold kAll.reverse wAll := by
      unfold rescan
      have runs := all.runs []
      rw [List.append_nil] at runs
      exact runs
    have count : n = (s.queue e.cmd.port).length + s.readyIn pre e.cmd.port := hn
    have kept : ∀ x, s.Passed (pre ++ [e]) (e.cmd.port :: b) ({ e with reason := x } :: k) w →
        { e with reason := x } ∈ (rescan s).fwd.hold := fun x next => by
      obtain ⟨m, left, _⟩ := passOver_hold present hold h next
      rw [left]
      exact List.mem_append.mpr (.inl (List.mem_reverse.mpr List.mem_cons_self))
    refine ⟨fun x keep => kept x (passed_keep h keep), fun st refuse alone => ?_, fun ready => ⟨fun stays => ?_, fun free few => ?_⟩,
      ?_, ?_, queues, fun p rests => ?_, like.rest⟩
    · exact passOver_gone present hold h (passed_refuse h present refuse) alone
    · refine kept .order (passed_stay h ready ?_)
      by_cases inB : e.cmd.port ∈ b
      · exact .inl inB
      · rcases stays with ⟨y, memY, port, x, keep⟩ | full
        · exact .inl (port ▸ h.blocked y memY ⟨x, keep⟩)
        · exact .inr (by rw [h.queues _ inB, ← count]; exact full)
    · have opened : e.cmd.port ∉ b := h.opened _ free (by omega)
      have length := h.queues _ opened
      have next := passed_release h ready opened (by omega)
      obtain ⟨_, grows, _, _⟩ := passLike_toForward e.cmd w
      have runs : rescan s = passOver post b k (toForward e.cmd w) := by
        unfold rescan
        rw [hold, ← next.runs, List.append_assoc]; rfl
      have presentW : (toForward e.cmd w).up.present = true := next.like.present.trans present
      refine ⟨?_, passOver_gone present hold h next, fun empty place line up noRail noProbe noSeq => ?_⟩
      · obtain ⟨_, _, after⟩ := passOver_spec post b k (toForward e.cmd w) presentW
        obtain ⟨l, same, _⟩ := after e.cmd.port
        rw [runs, same, grows, if_pos rfl]
        exact List.mem_append.mpr (.inl (mem_snoc.mpr (.inr rfl)))
      · have noReady : ∀ y ∈ pre, y.cmd.port = e.cmd.port → s.verdict y.cmd ≠ .ready := fun y mem port readyY => by
          have none := List.length_eq_zero_iff.mp (show s.readyIn pre e.cmd.port = 0 by omega)
          have member : y ∈ pre.filter (fun y => y.cmd.port == e.cmd.port && s.verdict y.cmd == .ready) :=
            List.mem_filter.mpr ⟨mem, by rw [port, readyY]; simp⟩
          rw [none] at member
          exact nomatch member
        have port := h.ports e.cmd.port (.inr noReady)
        have outs : w.outs e.cmd.port = s.outs e.cmd.port := by
          have same := congrArg (fun z : State => z.outs e.cmd.port) h.like.rest
          exact same
        have now : w.now = s.now := (congrArg State.now h.like.rest).trans rfl
        have starts := toForward_starts e.cmd (s := w) (List.length_eq_zero_iff.mp (by omega)) (by rw [outs]; exact place)
          (by rw [port]; exact line) (by rw [port]; exact noRail) (by rw [port]; exact noProbe) (by rw [port]; exact noSeq)
          (by rw [port]; exact up)
        rw [runs, passOver_busy post b k _ e.cmd.port presentW (by rw [starts]; exact fun no => nomatch no), starts, now]
    · rw [whole]
      exact all.tx
    · rw [show (rescan s).fwd.hold = _ from holds]
      exact sub
    · rw [whole]
      exact all.ports p rests

end Sys2Proof.Machine
end

section
/-! What ends a step and what follows it (R52 to R54, R59 to R64, R68). -/

namespace Sys2Proof.Machine

/-! ### What a step's end tidies up (R54) -/

/-- The step at the context's index is over: no timer, no frame, nothing waited for (R54). -/
def State.tidied (s : State) (c : Context) : State :=
  { s with seq := { s.seq with ctx := some { c with timer := none, frame := none, wait := .none } } }

theorem settled_tidied {s : State} (c : Context) (h : s.Settled) : (s.tidied c).Settled := h

theorem modCtx_tidied {s : State} {c : Context} (ctx : s.seq.ctx = some c) :
    modCtx (fun c => { c with timer := none, frame := none, wait := .none }) s = s.tidied c := modCtx_eq s _ c ctx

theorem cancelFrame_ctx (cancel : Option (Fin 16)) (s : State) : (cancelFrame cancel s).seq.ctx = s.seq.ctx := by
  unfold cancelFrame
  split
  · split
    · obtain ⟨ps, ports⟩ := offerSeq_ports ‹Template›.port { frame := s.seqFrame ‹Template›, isCancel := true }
        (stepTag { s with seq := { s.seq with cancel := some (‹Template›.port, (s.seqFrame ‹Template›).tag) } })
      rw [ports]; rfl
    · rfl
  · rfl

theorem tidyStep_awaitSync {s : State} {c : Context} {time n : Nat} (cut : Bool) (ctx : s.seq.ctx = some c)
    (kind : (s.stepAt c.index).kind = .awaitSync time n) : tidyStep cut s = (disarmSync s).tidied c := by
  unfold tidyStep
  rw [current_eq ctx kind]
  exact modCtx_tidied (by exact ctx)

theorem tidyStep_awaitNotice {s : State} {c : Context} {time : Nat} {p : Port} {cls : Byte} {cancel : Option (Fin 16)} (cut : Bool)
    (ctx : s.seq.ctx = some c) (kind : (s.stepAt c.index).kind = .awaitNotice time p cls cancel) :
    tidyStep cut s = State.tidied (if cut = true ∧ c.wait = .notice then cancelFrame cancel s else s) c := by
  unfold tidyStep
  rw [current_eq ctx kind]
  by_cases cancels : cut = true ∧ c.wait = .notice
  · dsimp only
    rw [if_pos cancels]
    exact modCtx_tidied ((cancelFrame_ctx cancel s).trans ctx)
  · dsimp only
    rw [if_neg cancels]
    exact modCtx_tidied ctx

theorem tidyStep_send {s : State} {c : Context} {t : Fin 16} {f : SendFrame} (cut : Bool) (ctx : s.seq.ctx = some c)
    (kind : (s.stepAt c.index).kind = .send t) (frame : c.frame = some f) :
    tidyStep cut s = (withdrawSend f.port s).tidied c := by
  unfold tidyStep
  rw [current_eq ctx kind]
  dsimp only
  rw [frame]
  dsimp only
  obtain ⟨ps, ports⟩ := withdrawSend_ports f.port s
  exact modCtx_tidied (by rw [ports]; exact ctx)

theorem tidyStep_unsent {s : State} {c : Context} {t : Fin 16} (cut : Bool) (ctx : s.seq.ctx = some c)
    (kind : (s.stepAt c.index).kind = .send t) (frame : c.frame = none) : tidyStep cut s = s.tidied c := by
  unfold tidyStep
  rw [current_eq ctx kind]
  dsimp only
  rw [frame]
  exact modCtx_tidied ctx

theorem tidyStep_setOutput {s : State} {c : Context} {o : Fin 4} {a : Bool} (cut : Bool) (ctx : s.seq.ctx = some c)
    (kind : (s.stepAt c.index).kind = .setOutput o a) : tidyStep cut s = s.tidied c := by
  unfold tidyStep
  rw [current_eq ctx kind]
  exact modCtx_tidied ctx

theorem dropStepClaim_none {s : State} {r : RailId} (claim : (s.rail r).dyn.claim ≠ .step) : dropStepClaim r s = s := if_neg claim

/-- A rail step without its claim, and with no ON frame in flight, leaves its rail as it is. -/
theorem tidyStep_unclaimed {s : State} {c : Context} {k : StepKind} {r : RailId} (cut : Bool) (ctx : s.seq.ctx = some c)
    (kind : (s.stepAt c.index).kind = k) (rail : k.rail? = some r) (claim : (s.rail r).dyn.claim ≠ .step)
    (frame : k.isRailOn = true → (s.rail r).dyn.frame = none) : tidyStep cut s = s.tidied c := by
  unfold tidyStep
  rw [current_eq ctx kind]
  cases k with
  | railOn q w =>
    obtain rfl : q = r := Option.some.inj rail
    dsimp only
    rw [markThenOff_none (frame rfl), dropStepClaim_none claim]
    exact modCtx_tidied ctx
  | railOff q w =>
    obtain rfl : q = r := Option.some.inj rail
    dsimp only
    rw [dropStepClaim_none claim]
    exact modCtx_tidied ctx
  | delay => exact nomatch rail
  | awaitSync => exact nomatch rail
  | send => exact nomatch rail
  | awaitNotice => exact nomatch rail
  | check => exact nomatch rail
  | setOutput => exact nomatch rail

theorem cancelFrame_none (s : State) : cancelFrame none s = s := rfl

/-- The template's port is up: the cancel frame is offered there (R64). -/
theorem cancelFrame_offers {s : State} {n : Fin 16} {y : Template} (template : s.template n = some y)
    (link : (s.port y.port).link = .up) : cancelFrame (some n) s =
      offerSeq y.port { frame := mkFrame y.port.addr 0 kindCommand y.cls s.seq.tagCounter y.payload, isCancel := true } { s with
        seq := { s.seq with cancel := some (y.port, s.seq.tagCounter), tagCounter := nextTag s.seq.tagCounter } } := by
  have up : s.isUp y.port = true := by unfold State.isUp; rw [link]; rfl
  unfold cancelFrame
  show (match s.template n with
    | some t => _
    | none => s) = _
  rw [template]
  exact if_pos up

theorem cancelFrame_noPort {s : State} {n : Fin 16} {y : Template} (template : s.template n = some y)
    (link : (s.port y.port).link ≠ .up) : cancelFrame (some n) s = s := by
  have down : ¬ s.isUp y.port = true := by unfold State.isUp; rw [beq_iff_eq]; exact link
  unfold cancelFrame
  show (match s.template n with
    | some t => _
    | none => s) = _
  rw [template]
  exact if_neg down

/-! ### The step's timer (R59 to R63) -/

theorem stepTimer_expires {s : State} {c : Context} {k : StepKind} {due : Time} (act : Context → StepKind → State → State)
    (up : s.Up) (ctx : s.seq.ctx = some c) (kind : (s.stepAt c.index).kind = k) (timer : c.timer = some due) :
    stepTimer act s = act c k { s with now := max s.now due } := by
  unfold stepTimer
  rw [current_eq ctx kind]
  dsimp only
  rw [timer]
  exact if_pos up.running

theorem noticeTimeout_fails {s : State} {c : Context} {due : Time} {time : Nat} {p : Port} {cls : Byte} {cancel : Option (Fin 16)}
    (up : s.Up) (ctx : s.seq.ctx = some c) (kind : (s.stepAt c.index).kind = .awaitNotice time p cls cancel)
    (timer : c.timer = some due) : noticeTimeout s = stepFail .noticeTimeout { s with now := max s.now due } := by
  unfold noticeTimeout
  rw [current_eq ctx kind]
  exact stepTimer_expires _ up ctx kind timer

theorem claimWaitExpiry_fails {s : State} {c : Context} {due : Time} (up : s.Up) (ctx : s.seq.ctx = some c)
    (waits : c.wait = .claim) (timer : c.timer = some due) :
    claimWaitExpiry s = stepFail .claimed { s with now := max s.now due } := by
  unfold claimWaitExpiry
  rw [current_eq ctx rfl]
  dsimp only
  rw [if_pos waits]
  exact stepTimer_expires _ up ctx rfl timer

theorem sendWindow_fails {s : State} {c : Context} {due : Time} {t : Fin 16} {f : SendFrame} (up : s.Up) (ctx : s.seq.ctx = some c)
    (kind : (s.stepAt c.index).kind = .send t) (timer : c.timer = some due) (frame : c.frame = some f)
    (last : f.retries < f.attempt) : sendWindowExpiry s = stepFail .noReply { s with now := max s.now due } := by
  unfold sendWindowExpiry
  rw [current_eq ctx kind]
  refine (stepTimer_expires _ up ctx kind timer).trans ?_
  rw [frame]
  exact if_neg (Nat.not_le.mpr last)

theorem sendWindow_again {s : State} {c : Context} {due : Time} {t : Fin 16} {f : SendFrame} (up : s.Up) (ctx : s.seq.ctx = some c)
    (kind : (s.stepAt c.index).kind = .send t) (timer : c.timer = some due) (frame : c.frame = some f)
    (left : f.attempt ≤ f.retries) : sendWindowExpiry s =
      offerSeq f.port { frame := f.frame, isCancel := false } { s with
        now := max s.now due
        seq := { s.seq with ctx := some { c with
          timer := none, frame := some { f with attempt := f.attempt + 1, mark := .waiting } } } } := by
  unfold sendWindowExpiry
  rw [current_eq ctx kind]
  refine (stepTimer_expires _ up ctx kind timer).trans ?_
  dsimp only
  rw [frame]
  refine (if_pos left).trans ?_
  rw [modCtx_eq { s with now := max s.now due } _ c ctx]

/-- The reply to the SEND frame in flight (R51, R62). -/
theorem seqReply_awaited {s : State} {c : Context} {t : Fin 16} {f : SendFrame} {due : Time} (payload : List Byte)
    (ctx : s.seq.ctx = some c) (kind : (s.stepAt c.index).kind = .send t) (frame : c.frame = some f) (sent : f.mark = .sent due) :
    seqReply f.port f.frame.tag payload s =
      if payload.head? = some stOk then stepEnd none s else stepFail .errorReply s := by
  have awaited : s.awaitsReply f.port f.frame.tag = true := by
    unfold State.awaitsReply
    rw [current_eq ctx kind]
    dsimp only
    rw [frame]
    dsimp only
    rw [sent, beq_self_eq_true, beq_self_eq_true]; rfl
  unfold seqReply
  rw [if_pos awaited]
  exact ite_congr (propext (repliesOk_head payload)) (fun _ => rfl) (fun _ => rfl)

/-! ### The last step's end (R52, R53) -/

/-- An event that ends the last step of its program ends the program: `v` is what the step leaves as it is tidied up. -/
theorem event_stepEnds {s v w : State} {c : Context} {x : Running} {f : State → State} (failure : Option FailReason) (up : s.Up)
    (last : s.LastStep c x) (hands : f s = stepEnd failure w)
    (tidy : tidyStep (failure == some .noticeTimeout) w = v.tidied c) (settled : v.Settled) (sched : v.sched = s.sched)
    (headers : v.seq.headers = s.seq.headers) (steps : v.seq.steps = s.seq.steps)
    (aborts : failure ≠ none → (s.stepAt c.index).onFail = .abort) :
    event f s = .next (v.endedWith c (c.endOf failure)) :=
  event_lastStep_end last failure up.settled (settled_tidied c settled) f
    (hands.trans (congrArg (later (.afterStep failure)) tidy)) rfl sched headers steps rfl rfl rfl rfl aborts rfl

/-- A step's end that ends its program, with no program queued. -/
theorem settle_programEnds (m : Nat) {s w : State} {c : Context} {e : ProgramEnd} {failure : Option FailReason}
    (agenda : s.agenda = []) (ends : afterStep failure s = programEnd e false w) (settled : w.Settled) (ctx : w.seq.ctx = some c)
    (ordinary : 2 ≤ c.program.val) (queue : w.sched.queue = []) :
    settle (m + 3) (s.todo [.afterStep failure]) = w.endedWith c e := by
  have ended : handle (.afterStep failure) s = _ := ends.trans (programEnd_ordinary e false settled.1 ctx ordinary)
  refine (settle_hands (m + 2) (.afterStep failure) [] _ agenda rfl ended).trans ?_
  refine (settle_raise (m + 1) .programEnd _ (by exact settled.1)).trans ?_
  rw [raise_programOver]
  have queue' : (w.endedWith c e).sched.queue = [] := by
    unfold State.endedWith
    rw [raise_sched]; exact queue
  exact (settle_startHead m [] (settled_endedWith c e settled).1 queue').trans (settle_done m (settled_endedWith c e settled))

/-! ### What follows a step that ends within its range (R52, R53, R68) -/

theorem afterStep_next {s : State} {c : Context} {x : Running} (ctx : s.seq.ctx = some c) (running : s.sched.running = some x)
    (stays : x.guarded = false ∨ s.cutOffDue x = false) : afterStep none s = goTo c.program (c.index + 1) s := by
  have on : (x.guarded && s.cutOffDue x) = false := by
    rcases stays with off | off
    · rw [off]; rfl
    · rw [off, Bool.and_false]
  unfold afterStep
  rw [ctx, running]
  dsimp only
  rw [on]; rfl

/-- A failed step with ON_FAIL CONTINUE or SKIP goes on; in program 0 every failed step does, and is counted. -/
theorem afterStep_goesOn {s : State} {c : Context} {x : Running} {why : FailReason} {k n : Nat} (ctx : s.seq.ctx = some c)
    (running : s.sched.running = some x) (stays : x.guarded = false ∨ s.cutOffDue x = false)
    (on : (c.program ≠ 0 ∧ n = c.failed ∧
        (((s.stepAt c.index).onFail = .proceed ∧ k = 1) ∨ (s.stepAt c.index).onFail = .skip k)) ∨
      (c.program = 0 ∧ n = c.failed + 1 ∧ k = 1)) :
    afterStep (some why) s =
      goTo c.program (c.index + k) { s with seq := { s.seq with ctx := some { c with failed := n } } } := by
  have stay : (x.guarded && s.cutOffDue x) = false := by
    rcases stays with off | off
    · rw [off]; rfl
    · rw [off, Bool.and_false]
  unfold afterStep
  rw [ctx, running]
  dsimp only
  rw [stay]
  rcases on with ⟨ordinary, rfl, act⟩ | ⟨zero, rfl, rfl⟩
  · have same : ({ s with seq := { s.seq with ctx := some { c with failed := c.failed } } } : State) = s := by
      have self : s.seq = { s.seq with ctx := some c } := by rw [← ctx]
      exact congrArg (fun q => { s with seq := q }) self.symm
    rw [same]
    rcases act with ⟨proceeds, rfl⟩ | skips
    · rw [if_neg ordinary, proceeds]; rfl
    · rw [if_neg ordinary, skips]; rfl
  · rw [modCtx_eq s _ c ctx, if_pos zero, zero]; rfl

/-- A DELAY step starts with its timer (R59). -/
theorem startStep_delay {s : State} {c : Context} {i time : Nat} (ctx : s.seq.ctx = some c)
    (kind : (s.stepAt i).kind = .delay time) : startStep i s = { s.startedAt c i with
      seq := { s.seq with ctx := some { c with index := i, timer := some (s.now + 2000 * time), frame := none, wait := .none } } } := by
  unfold startStep
  simp only [setGuarded_modCtx ctx, startedAt_ctx, kind]
  exact modCtx_eq _ _ _ (startedAt_ctx s c i)

/-- What fails a step: its time limit, the wait for its claim, its frame's last attempt, a reply with another status.

Settles O48: each of them ends the step with its reason; what the step's end tidies up is named by its kind, and what follows is
the end of the program or its next step by ON_FAIL. -/
theorem stepTimersFailTheProgram : Obligations.StepTimersFailTheProgram := by
  refine ⟨fun s u c x due up last aborts timer hu => ?_, fun s u c x due time count k n up ctx running guard kind timer on hu => ?_⟩
  · have ctx := last.context
    have settled : u.Settled := by rw [hu]; exact up.settled
    have ends : ∀ (f : State → State) (w v : State) (why : FailReason), f s = stepFail why w →
        tidyStep (some why == some .noticeTimeout) w = v.tidied c → v.Settled → v.sched = s.sched →
        v.seq.headers = s.seq.headers → v.seq.steps = s.seq.steps →
        event f s = .next (v.endedWith c (.failed c.index why)) := fun f w v why hands tidy settled sched headers steps =>
      event_stepEnds (some why) up last hands tidy settled sched headers steps (fun _ => aborts)
    refine ⟨fun time n kind => ?_, fun time p cls kind => ?_, fun time p cls n y f kind waits template link hf => ?_,
      fun time p cls n y kind template link => ?_, fun r noWait kind waits claim => ?_, fun r noWait kind waits claim frame => ?_,
      fun n f kind frame retries => ?_, fun n f d cls payload kind frame sent tag link len head => ?_⟩
    · have hands : syncTimeout s = stepFail .syncTimeout u := by
        unfold syncTimeout
        rw [current_eq ctx kind, hu]
        exact stepTimer_expires _ up ctx kind timer
      exact ends _ u (disarmSync u) .syncTimeout hands (tidyStep_awaitSync _ (by rw [hu]; exact ctx) (by rw [hu]; exact kind))
        settled (by rw [hu]; rfl) (by rw [hu]; rfl) (by rw [hu]; rfl)
    · have tidy := tidyStep_awaitNotice (s := u) (some FailReason.noticeTimeout == some .noticeTimeout) (by rw [hu]; exact ctx)
        (by rw [hu]; exact kind)
      rw [cancelFrame_none, ite_self] at tidy
      exact ends _ u u .noticeTimeout ((noticeTimeout_fails up ctx kind timer).trans (by rw [hu])) tidy settled
        (by rw [hu]) (by rw [hu]) (by rw [hu])
    · have tidy := tidyStep_awaitNotice (s := u) (some FailReason.noticeTimeout == some .noticeTimeout) (by rw [hu]; exact ctx)
        (by rw [hu]; exact kind)
      rw [if_pos ⟨rfl, waits⟩, cancelFrame_offers (by rw [hu]; exact template) (by rw [hu]; exact link)] at tidy
      have seqU : u.seq = s.seq := by rw [hu]
      rw [seqU, ← hf] at tidy
      obtain ⟨ps, ports⟩ := offerSeq_ports y.port { frame := f, isCancel := true } { u with
        seq := { s.seq with cancel := some (y.port, s.seq.tagCounter), tagCounter := nextTag s.seq.tagCounter } }
      exact ends _ u _ .noticeTimeout ((noticeTimeout_fails up ctx kind timer).trans (by rw [hu])) tidy
        (by rw [ports]; exact settled) (by rw [ports, hu]) (by rw [ports]) (by rw [ports])
    · have tidy := tidyStep_awaitNotice (s := u) (some FailReason.noticeTimeout == some .noticeTimeout) (by rw [hu]; exact ctx)
        (by rw [hu]; exact kind)
      rw [cancelFrame_noPort (by rw [hu]; exact template) (by rw [hu]; exact link), ite_self] at tidy
      exact ends _ u u .noticeTimeout ((noticeTimeout_fails up ctx kind timer).trans (by rw [hu])) tidy settled
        (by rw [hu]) (by rw [hu]) (by rw [hu])
    · exact ends _ u u .claimed ((claimWaitExpiry_fails up ctx waits timer).trans (by rw [hu]))
        (tidyStep_unclaimed (s := u) (k := .railOff r noWait) (r := r) _ (by rw [hu]; exact ctx) (by rw [hu]; exact kind) rfl
          (by rw [hu]; exact claim) (fun no => nomatch no)) settled (by rw [hu]) (by rw [hu]) (by rw [hu])
    · exact ends _ u u .claimed ((claimWaitExpiry_fails up ctx waits timer).trans (by rw [hu]))
        (tidyStep_unclaimed (s := u) (k := .railOn r noWait) (r := r) _ (by rw [hu]; exact ctx) (by rw [hu]; exact kind) rfl
          (by rw [hu]; exact claim) (fun _ => by rw [hu]; exact frame)) settled (by rw [hu]) (by rw [hu]) (by rw [hu])
    · obtain ⟨ps, ports⟩ := withdrawSend_ports f.port u
      exact ends _ u _ .noReply ((sendWindow_fails up ctx kind timer frame retries).trans (by rw [hu]))
        (tidyStep_send _ (by rw [hu]; exact ctx) (by rw [hu]; exact kind) frame) (by rw [ports]; exact settled)
        (by rw [ports, hu]) (by rw [ports, hu]) (by rw [ports, hu])
    · obtain ⟨ps, ports⟩ := withdrawSend_ports f.port s
      have hands := (receiveDown_seqReply s f.port cls f.frame.tag payload up link len tag).trans
        ((seqReply_awaited payload ctx kind frame sent).trans (if_neg head))
      exact ends _ s _ .errorReply hands (tidyStep_send _ ctx kind frame) (by rw [ports]; exact up.settled)
        (by rw [ports]) (by rw [ports]) (by rw [ports])
  · obtain ⟨v, hv⟩ : ∃ v : State, v = { u with
        seq := { s.seq with ctx := some { c with timer := none, frame := none, wait := .none } } } := ⟨_, rfl⟩
    have hands : syncTimeout s = v.todo [.afterStep (some .syncTimeout)] := by
      rw [syncTimeout_eq up ctx kind timer, hv, hu]
    have settledV : v.Settled := by rw [hv, hu]; exact up.settled
    have runningV : v.sched.running = some x := by rw [hv, hu]; exact running
    have stays : x.guarded = false ∨ v.cutOffDue x = false := guard.imp_right fun ⟨unmarked, empty⟩ =>
      cutOffDue_none unmarked (by rw [hv, hu]; exact empty)
    have goes := afterStep_goesOn (why := .syncTimeout) (k := k) (n := n) (s := v) (by rw [hv]) runningV stays
      (by rw [hv, hu]; exact on)
    obtain ⟨w, hw⟩ : ∃ w : State, w = { v with
        seq := { v.seq with ctx := some { c with timer := none, frame := none, failed := n, wait := .none } } } := ⟨_, rfl⟩
    have settledW : w.Settled := by rw [hw]; exact settledV
    have event : exec .syncTimeout s = _ := event_todo up.settled hands
    refine ⟨fun next range delay => ?_, fun ordinary range empty => ?_⟩
    · have stepW : w.stepAt = s.stepAt := by rw [hw, hv, hu]; rfl
      obtain ⟨z, hz⟩ : ∃ z, startStep (c.index + k) w = z := ⟨_, rfl⟩
      have starts : afterStep (some .syncTimeout) v = z := goes.trans ((if_pos (by rw [hv, hu]; exact range)).trans
        ((congrArg _ hw.symm).trans hz))
      have started := hz.symm.trans (startStep_delay (by rw [hw]) (by rw [stepW]; exact delay))
      have settledZ : z.Settled := by rw [started]; exact settledW
      rw [event]
      refine congrArg _ ((settle_plain 65535 (.afterStep _) [] settledV.1 rfl starts settledZ.1).trans ((settle_done _ settledZ).trans ?_))
      rw [started]
      unfold State.startedAt
      rw [stepW, hw, hv, hu]
      dsimp only
      rw [running]; rfl
    · have ends : afterStep (some .syncTimeout) v = programEnd .done false w := goes.trans
        ((if_neg (by rw [hv, hu]; exact Bool.eq_false_iff.mp range)).trans (congrArg _ hw.symm))
      rw [event]
      refine congrArg _ ((settle_programEnds 65533 (c := { c with timer := none, frame := none, failed := n, wait := .none })
        settledV.1 ends settledW (by rw [hw]) ordinary (by rw [hw, hv, hu]; exact empty)).trans ?_)
      rw [hw, hv, hu]
      unfold State.endedWith
      rw [result_ordinary (c := c) _ ordinary, result_ordinary _ (by exact ordinary)]

end Sys2Proof.Machine
end

section
/-! How steps start and complete (R50, R52, R54 to R65). -/

namespace Sys2Proof.Machine

/-! ### The end of a DELAY that starts the next step (R52, R59) -/

/-- The state in which the step after an ended DELAY is taken. -/
theorem startedAt_tidied {s : State} {c : Context} {x : Running} (now : Time) (running : s.sched.running = some x) :
    State.startedAt (State.tidied { s with now := now } c) { c with timer := none, frame := none, wait := .none } (c.index + 1) =
      s.startedNext c x now none .none := by
  unfold State.startedAt State.tidied State.startedNext
  dsimp only
  rw [running]; rfl

/-- The end of a DELAY starts the next step of its range. -/
theorem event_nextStep {s : State} {c : Context} {x : Running} {now : Time} {k : StepKind} (next : s.NextStep c x now k) :
    exec .delayExpiry s = .next (settle 65535 (startStep (c.index + 1) (State.tidied { s with now := now } c))) := by
  obtain ⟨time, due, kind, timer, hnow⟩ := next.delay
  obtain ⟨v, hv⟩ : ∃ v, v = State.tidied { s with now := now } c := ⟨_, rfl⟩
  have ends : delayExpiry s = v.todo [.afterStep none] := by
    rw [delayExpiry_eq next.toUp next.context kind timer, hv, hnow]; rfl
  have agenda : v.agenda = [] := by rw [hv]; exact next.settled.1
  have on : handle (.afterStep none) v = startStep (c.index + 1) v :=
    (afterStep_next (c := { c with timer := none, frame := none, wait := .none }) (x := x) (by rw [hv]; rfl) (by rw [hv]; exact next.program) (.inl next.unguarded)).trans
      (if_pos (by rw [hv]; exact next.range))
  have event : exec .delayExpiry s = _ := event_todo next.settled ends
  rw [event, ← hv, settle_todo 65535 _ _ agenda rfl, on]
  congr 2
  generalize startStep (c.index + 1) v = z
  cases z; simp [State.todo]

theorem startStep_awaitSync {s : State} {c : Context} {i limit n : Nat} (ctx : s.seq.ctx = some c)
    (kind : (s.stepAt i).kind = .awaitSync limit n) : startStep i s =
      if s.syncSource = true then stepWait .sync (some limit) (armSync n (s.startedAt c i))
      else stepFail .noSync (s.startedAt c i) := by
  unfold startStep
  simp only [setGuarded_modCtx ctx, startedAt_ctx, kind]
  exact ite_congr rfl (fun _ => rfl) (fun _ => rfl)

theorem startStep_awaitNotice {s : State} {c : Context} {i limit : Nat} {p : Port} {cls : Byte} {cancel : Option (Fin 16)}
    (ctx : s.seq.ctx = some c) (kind : (s.stepAt i).kind = .awaitNotice limit p cls cancel) : startStep i s =
      if s.noticesOn p = true then stepWait .notice (some limit) (s.startedAt c i) else stepFail .noPath (s.startedAt c i) := by
  unfold startStep
  simp only [setGuarded_modCtx ctx, startedAt_ctx, kind]
  exact ite_congr rfl (fun _ => rfl) (fun _ => rfl)

theorem startStep_send {s : State} {c : Context} {i : Nat} {n : Fin 16} (ctx : s.seq.ctx = some c)
    (kind : (s.stepAt i).kind = .send n) : startStep i s = startSend n (s.startedAt c i) := by
  unfold startStep
  simp only [setGuarded_modCtx ctx, startedAt_ctx, kind]

theorem startStep_setOutput {s : State} {c : Context} {i : Nat} {o : Fin 4} {a : Bool} (ctx : s.seq.ctx = some c)
    (kind : (s.stepAt i).kind = .setOutput o a) :
    startStep i s = stepEnd none { s.startedAt c i with ctl := s.ctl.set o a } := by
  unfold startStep
  simp only [setGuarded_modCtx ctx, startedAt_ctx, kind]; rfl

theorem startSend_noPort {s : State} {n : Fin 16} (noPort : ∀ y, s.template n = some y → (s.port y.port).link ≠ .up) :
    startSend n s = stepFail .noPath s := by
  unfold startSend
  cases template : s.template n with
  | none => rfl
  | some y => exact if_neg (by unfold State.isUp; rw [beq_iff_eq]; exact noPort y template)

/-- The port is up: the frame is made with the counter's tag and offered there (R61). -/
theorem startSend_offers {s : State} {c : Context} {n : Fin 16} {y : Template} {f : Frame} (ctx : s.seq.ctx = some c)
    (template : s.template n = some y) (link : (s.port y.port).link = .up)
    (hf : f = mkFrame y.port.addr 0 kindCommand y.cls s.seq.tagCounter y.payload) :
    startSend n s = offerSeq y.port { frame := f, isCancel := false } { s with seq := { s.seq with
      tagCounter := nextTag s.seq.tagCounter
      ctx := some { c with frame := some {
        port := y.port, frame := f, attempt := 1, mark := .waiting, windowMs := y.windowMs, retries := y.retries } } } } := by
  have up : s.isUp y.port = true := by unfold State.isUp; rw [link]; rfl
  unfold startSend
  rw [template]
  refine (if_pos up).trans ?_
  dsimp only
  rw [modCtx_eq (stepTag s) _ c ctx, hf]; rfl

/-- A next step that ends where it starts, the last of its range: the program ends with it (R52, R53). -/
theorem settle_startEnds (m : Nat) {s v : State} {c c' : Context} {x : Running} {failure : Option FailReason}
    (ordinary : 2 ≤ c.program.val) (last : failure = none → s.inRange c.program (c.index + 2) = false)
    (aborts : failure ≠ none → (s.stepAt (c.index + 1)).onFail = .abort) (unmarked : x.marked = false)
    (noQueue : s.sched.queue = [])
    (hc : c' = { c with index := c.index + 1, timer := none, frame := none, wait := .none }) (settled : v.Settled)
    (seq : v.seq = { s.seq with ctx := some c' }) (sched : v.sched = { s.sched with running := some x }) :
    settle (m + 3) (v.todo [.afterStep failure]) =
      State.endedWith { v with seq := s.seq, sched := s.sched } c (c'.endOf failure) := by
  have ctx : v.seq.ctx = some c' := by rw [seq]
  have notZero : c'.program ≠ 0 := fun zero => by
    rw [hc] at zero
    have none : c.program = 0 := zero
    rw [none] at ordinary; exact absurd ordinary (by decide)
  have queue : v.sched.queue = [] := by rw [sched]; exact noQueue
  have ends := afterStep_ends (s := v) (x := x) (failure := failure) ctx (by rw [sched])
    (.inr (cutOffDue_none unmarked queue)) notZero
    (fun none => by rw [inRange_congr (s := s) (by rw [seq]), hc]; exact last none)
    (fun some => by rw [stepAt_congr (s := s) (by rw [seq]), hc]; exact aborts some)
  have ordinary' : 2 ≤ c'.program.val := by rw [hc]; exact ordinary
  refine (settle_programEnds m settled.1 ends settled ctx ordinary' queue).trans ?_
  unfold State.endedWith
  rw [result_ordinary _ ordinary', result_ordinary _ ordinary, seq, sched, hc]

/-! ### The orders of a rail step (R8, R9, R56, R58) -/

theorem claimPort_none {s : State} {r : RailId} (claim : (s.rail r).dyn.claim = .none) (frame : (s.rail r).dyn.frame = none) :
    s.claimPort r = none := by
  unfold State.claimPort
  rw [claim, frame]; rfl

/-- A rail that no command and no frame holds is claimed and given its order at once (R18, R19). -/
theorem startRailStep_claims {s : State} {n : ProgNo} {k : StepKind} {r : RailId} (used : (s.rail r).static.used = true)
    (claim : (s.rail r).dyn.claim = .none) (frame : (s.rail r).dyn.frame = none) :
    startRailStep n k r s = takeOrder n k (modDyn r (fun d => { d with claim := .step }) s) := by
  unfold startRailStep
  rw [used, claimPort_none claim frame]; rfl

theorem stepWait_order {s : State} {c : Context} (w : Wait) (ctx : s.seq.ctx = some c) : stepWait w none s =
    { s with seq := { s.seq with ctx := some { c with wait := w, timer := none } } } := modCtx_eq s _ c ctx

theorem isBoard_board {s : State} {r : RailId} {p : Port} {i : Fin 32} {a b : Byte}
    (path : (s.rail r).static.path = .board p i a b) : s.isBoard r = true := by
  unfold State.isBoard RailStatic.port?
  rw [path]; rfl

theorem isBoard_onPart {s : State} {r : RailId} {e : Fin 12} (path : (s.rail r).static.path = .onPart e) :
    s.isBoard r = false := by
  unfold State.isBoard RailStatic.port?
  rw [path]; rfl

/-- An OFF rail with its prerequisites up and its path there is switched on (R8). -/
theorem switchOn_orders {s : State} {r : RailId} (state : s.railState r = .off)
    (prereqs : s.allOn (s.rail r).static.prereqs = true) (path : s.pathAvailable r = true) : switchOn r s =
      if s.isBoard r = true then makeFrame r true true (stepWait .order none s) else moveRail r .rising (stepWait .order none s) := by
  unfold switchOn
  rw [state]
  dsimp only
  rw [prereqs, path]; rfl

theorem takeOver_none {s : State} {r : RailId} (n : ProgNo) (frame : (s.rail r).dyn.frame = none) : takeOver n r s = s := by
  unfold takeOver
  rw [markThenOff_none frame, ite_self]

/-- A rail that is up, with its dependents OFF and its path there, is switched off (R9). -/
theorem switchOff_orders {s : State} {n : ProgNo} {r : RailId} (frame : (s.rail r).dyn.frame = none)
    (state : s.railState r = .rising ∨ s.railState r = .on) (free : ∀ d ∈ s.dependents r, s.railState d = .off)
    (path : s.pathAvailable r = true) : switchOff n r s =
      if s.isBoard r = true then needOff r true (stepWait .order none s) else moveRail r .falling (stepWait .order none s) := by
  have none : (s.dependents r).any (fun d => s.railState d != .off) = false := by
    rw [List.any_eq_false]
    intro d mem
    rw [free d mem]; decide
  unfold switchOff
  dsimp only
  rw [takeOver_none n frame]
  rcases state with state | state
  all_goals
    rw [state]
    dsimp only
    rw [none, path]; rfl

theorem needOff_makes {s : State} {r : RailId} (forStep : Bool) (frame : (s.rail r).dyn.frame = none) :
    needOff r forStep s = makeFrame r false forStep s := by
  unfold needOff
  rw [frame]

/-! ### The Sequencer's place at a port (R50, R54, R138) -/

theorem offerSeq_other {p q : Port} (f : SeqFrame) (other : q ≠ p) (s : State) : (offerSeq p f s).port q = s.port q := by
  unfold offerSeq
  rw [arbitrate_other other, modPort_other _ other]

theorem withdrawSend_other {p q : Port} (other : q ≠ p) (s : State) : (withdrawSend p s).port q = s.port q := by
  unfold withdrawSend
  rw [arbitrate_other other, modPort_other _ other]

theorem offerSeq_rest (p : Port) (f : SeqFrame) (s : State) : { offerSeq p f s with ports := s.ports } = s := by
  ext <;> simp

theorem withdrawSend_rest (p : Port) (s : State) : { withdrawSend p s with ports := s.ports } = s := by
  ext <;> simp

/-- On a busy lane an offered frame takes the place or waits behind it. -/
theorem offerSeq_busy {s : State} {p : Port} (f : SeqFrame) (busy : (s.port p).line ≠ .free) : (offerSeq p f s).port p =
    if (s.port p).seqOffer.isNone then { s.port p with seqOffer := some f }
    else { s.port p with seqBehind := (s.port p).seqBehind ++ [f] } := by
  unfold offerSeq
  rw [arbitrate_busy, port_modPort_self]
  rw [port_modPort_self]
  split
  · exact busy
  · exact busy

/-- The port with its Sequencer's place taken. -/
theorem offerSeq_eq {s : State} {p : Port} (f : SeqFrame) (noOffer : (s.port p).seqOffer = none) :
    offerSeq p f s = arbitrate p (modPort p (fun x => { x with seqOffer := some f }) s) := by
  unfold offerSeq
  refine congrArg _ (modPort_congr ?_)
  rw [noOffer]; rfl

/-- A free transmitter with nothing else to send starts on the offered frame. -/
theorem offerSeq_starts {s : State} {p : Port} (f : SeqFrame) (free : (s.port p).line = .free) (link : (s.port p).link = .up)
    (noOffer : (s.port p).seqOffer = none) (noRail : (s.port p).railPlaces = []) (noProbe : (s.port p).probeWaiting = false)
    (noQueue : s.queue p = []) :
    ((offerSeq p f s).port p).seqOffer = some f ∧
      ((offerSeq p f s).port p).line = .sending (some .sequencer) f.frame (s.now + f.frame.time) := by
  obtain ⟨v, hv⟩ : ∃ v, v = modPort p (fun x => { x with seqOffer := some f }) s := ⟨_, rfl⟩
  have port : v.port p = { s.port p with seqOffer := some f } := by rw [hv]; exact port_modPort_self p _ s
  have head : v.headEligible p = false := by
    unfold State.headEligible
    rw [show v.queue p = [] by rw [hv]; exact noQueue]; rfl
  have next : v.nextClaimant p = some .sequencer := by
    unfold State.nextClaimant
    dsimp only
    rw [head, port]
    dsimp only
    rw [noRail, noProbe]; rfl
  have claimed : v.claimedFrame p .sequencer = some f.frame := by
    show (v.port p).seqOffer.map SeqFrame.frame = _
    rw [port]; rfl
  rw [offerSeq_eq f noOffer, ← hv, arbitrate_grants (by rw [port]; exact free) (.inl (by rw [port]; exact link)) next,
    port_grant_seqOffer, grant_port_line claimed, port]
  exact ⟨rfl, by rw [hv]; rfl⟩

/-- The transmitter goes on with a frame of the Sequencer that no one waits for (R140). -/
def DownLine.unowned : DownLine → DownLine
  | .sending (some .sequencer) f d => .sending none f d
  | l => l

theorem unowned_free {l : DownLine} (busy : l ≠ .free) : l.unowned ≠ .free := by
  unfold DownLine.unowned
  split
  · exact DownLine.noConfusion
  · exact busy

/-- The transmitter's owner, where it is the Sequencer, is forgotten. -/
theorem disown_sequencer (x : PortRec) :
    (if x.owner == some .sequencer then x.disown else x) = { x with line := x.line.unowned } := by
  obtain ⟨_, _, _, _, _, _, _, _, _, _, _, _, _, _, _, line⟩ := x
  rcases line with _ | ⟨_ | owner, f, d⟩ | d
  case sending.some => cases owner <;> rfl
  all_goals rfl

/-- A withdrawn SEND frame leaves its place, and a transmission of it is reported to no one (R54, R140). -/
theorem withdrawSend_offered {s : State} {p : Port} {g : SeqFrame} (offer : (s.port p).seqOffer = some g)
    (send : g.isCancel = false) (noneBehind : (s.port p).seqBehind = []) (busy : (s.port p).line ≠ .free) :
    (withdrawSend p s).port p = { s.port p with seqOffer := none, line := (s.port p).line.unowned } := by
  unfold withdrawSend
  rw [modPort_congr (g := fun x => { x with seqOffer := none, line := x.line.unowned }) ?_]
  · rw [arbitrate_busy, port_modPort_self]
    rw [port_modPort_self]; exact unowned_free busy
  · dsimp only
    rw [offer]
    dsimp only
    rw [send, disown_sequencer, noneBehind]; rfl

theorem withdrawSend_notOffered {s : State} {p : Port} (noOffer : (s.port p).seqOffer = none) (busy : (s.port p).line ≠ .free) :
    (withdrawSend p s).port p = { s.port p with seqBehind := (s.port p).seqBehind.filter SeqFrame.isCancel } := by
  unfold withdrawSend
  rw [modPort_congr (g := fun x => { x with seqBehind := x.seqBehind.filter SeqFrame.isCancel }) ?_]
  · rw [arbitrate_busy, port_modPort_self]
    rw [port_modPort_self]; exact busy
  · dsimp only
    rw [noOffer]

/-! ### The frame-sync pulse and the notice (R45, R63) -/

theorem fsyncEdge_reaches {s : State} {c : Context} {time n : Nat} (up : s.Up) (ctx : s.seq.ctx = some c)
    (kind : (s.stepAt c.index).kind = .awaitSync time n) (waits : c.wait = .sync) (armed : s.sync.armed = true)
    (target : s.sync.target = some (s.sync.count + 1)) : fsyncEdge s = stepEnd none (disarmSync s) := by
  have go : ¬ (s.phase ≠ .running ∨ (!s.sync.armed) = true) := fun h => by
    rcases h with h | h
    · exact h up.running
    · rw [armed] at h; exact Bool.false_ne_true h
  unfold fsyncEdge
  rw [if_neg go]
  dsimp only
  rw [if_pos target, current_eq (s := disarmSync s) ctx kind]
  exact if_pos waits

theorem fsyncEdge_counts {s : State} (up : s.Up) (armed : s.sync.armed = true)
    (target : s.sync.target ≠ some (s.sync.count + 1)) :
    fsyncEdge s = { s with sync := { s.sync with count := s.sync.count + 1 } } := by
  have go : ¬ (s.phase ≠ .running ∨ (!s.sync.armed) = true) := fun h => by
    rcases h with h | h
    · exact h up.running
    · rw [armed] at h; exact Bool.false_ne_true h
  unfold fsyncEdge
  rw [if_neg go]
  exact if_neg target

theorem fsyncEdge_unarmed {s : State} (unarmed : s.sync.armed = false) : fsyncEdge s = s := by
  unfold fsyncEdge
  exact if_pos (.inr (by rw [unarmed]; rfl))

theorem matchNotice_matches {s : State} {c : Context} {time : Nat} {p : Port} {cls : Byte} {cancel : Option (Fin 16)}
    (ctx : s.seq.ctx = some c) (kind : (s.stepAt c.index).kind = .awaitNotice time p cls cancel) (waits : c.wait = .notice) :
    matchNotice p cls s = stepEnd none s := by
  unfold matchNotice
  rw [current_eq ctx kind]
  exact if_pos ⟨rfl, rfl, waits⟩

/-! ### A rail step that waits for its order (R57, R58) -/

theorem seqRail_rising {s : State} {c : Context} {r : RailId} (k : ReportKind) (ctx : s.seq.ctx = some c)
    (kind : (s.stepAt c.index).kind = .railOn r false) (waits : c.wait = .order) (state : s.railState r = .rising) :
    seqRail r k s = s := by
  have notClaim : ¬ c.wait = .claim := by rw [waits]; exact Wait.noConfusion
  unfold seqRail
  rw [current_eq ctx kind]
  refine (if_neg notClaim).trans ?_
  unfold railOnReport
  rw [waits]
  refine (if_pos rfl).trans ?_
  rw [state]; rfl

theorem seqRail_falling {s : State} {c : Context} {r : RailId} (k : ReportKind) (ctx : s.seq.ctx = some c)
    (kind : (s.stepAt c.index).kind = .railOff r false) (waits : c.wait = .order) (state : s.railState r = .falling) :
    seqRail r k s = s := by
  have notClaim : ¬ c.wait = .claim := by rw [waits]; exact Wait.noConfusion
  unfold seqRail
  rw [current_eq ctx kind]
  refine (if_neg notClaim).trans ?_
  unfold railOffReport
  refine (if_pos ⟨waits, rfl⟩).trans ?_
  rw [state]; rfl

/-! ### A rail step that starts with its order (R18, R56, R58) -/

/-- The rails as the step that started has claimed its own. -/
theorem rail_claimed (s : State) (c : Context) (x : Running) (now : Time) (r : RailId) (timer : Option Time) (w : Wait) (q : RailId) :
    ((modDyn r (fun d => { d with claim := .step }) (s.startedNext c x now timer w)).rail q).static = (s.rail q).static ∧
    ((modDyn r (fun d => { d with claim := .step }) (s.startedNext c x now timer w)).rail q).dyn.state = (s.rail q).dyn.state :=
  rail_modDyn_state (s := s.startedNext c x now timer w) rfl q

theorem frame_claimed (s : State) (c : Context) (x : Running) (now : Time) (r : RailId) (timer : Option Time) (w : Wait) :
    ((modDyn r (fun d => { d with claim := .step }) (s.startedNext c x now timer w)).rail r).dyn.frame = (s.rail r).dyn.frame := by
  rw [rail_modDyn_self]; rfl

/-- The step waits for the order that it gave. -/
theorem stepWait_claimed (s : State) (c : Context) (x : Running) (now : Time) (r : RailId) :
    stepWait .order none (modDyn r (fun d => { d with claim := .step }) (s.startedNext c x now none .none)) =
      modDyn r (fun d => { d with claim := .step }) (s.startedNext c x now none .order) := rfl

/-- The step after the DELAY claims its rail and gives its order. -/
theorem event_orders {s : State} {c : Context} {x : Running} {now : Time} {k : StepKind} {r : RailId} (next : s.NextStep c x now k)
    (rail : k.rail? = some r) (used : (s.rail r).static.used = true) (claim : (s.rail r).dyn.claim = .none)
    (frame : (s.rail r).dyn.frame = none) :
    exec .delayExpiry s = .next (settle 65535 (takeOrder c.program k
      (modDyn r (fun d => { d with claim := .step }) (s.startedNext c x now none .none)))) := by
  have event : exec .delayExpiry s = _ := event_railStart next rail
  rw [event, startRailStep_claims (by exact used) (by exact claim) (by exact frame)]

/-- A rail of the board: the step makes a frame of its own and waits (R5, R8, R9). -/
theorem takeOrder_frame {s w : State} {c : Context} {x : Running} {now : Time} {n : ProgNo} {k : StepKind} {r : RailId} {isOn : Bool}
    {p : Port} {i : Fin 32} {a b : Byte} (hw : w = modDyn r (fun d => { d with claim := .step }) (s.startedNext c x now none .none))
    (kind : (isOn = true ∧ k = .railOn r false ∧ s.railState r = .off ∧ s.allOn (s.rail r).static.prereqs = true) ∨
      (isOn = false ∧ k = .railOff r false ∧ s.railState r = .on ∧ ∀ d ∈ s.dependents r, s.railState d = .off))
    (path : (s.rail r).static.path = .board p i a b) (available : s.pathAvailable r = true) (frame : (s.rail r).dyn.frame = none) :
    takeOrder n k w = offerRail r (modDyn r (fun d => { d with
      claim := .step
      frame := some { isOn := isOn, attempt := 1, mark := .waiting, forStep := true, thenOff := false } })
        (s.startedNext c x now none .order)) := by
  have rails := rail_claimed s c x now r none .none
  rw [← hw] at rails
  have states := railState_congr rails
  have pathW : w.pathAvailable r = true := (pathAvailable_congr r (rails r).1 (by rw [hw]; rfl)).trans available
  have board : w.isBoard r = true := isBoard_board (by rw [(rails r).1]; exact path)
  have made : ∀ isOn', makeFrame r isOn' true (stepWait .order none w) = offerRail r (modDyn r (fun d => { d with
      claim := .step
      frame := some { isOn := isOn', attempt := 1, mark := .waiting, forStep := true, thenOff := false } })
        (s.startedNext c x now none .order)) := fun isOn' => by
    rw [hw, stepWait_claimed]
    unfold makeFrame
    rw [modDyn_modDyn]
  rcases kind with ⟨rfl, rfl, state, prereqs⟩ | ⟨rfl, rfl, state, free⟩
  · refine (switchOn_orders (s := w) ((states r).trans state) ?_ pathW).trans ((if_pos board).trans (made true))
    rw [(rails r).1, allOn_congr states]; exact prereqs
  · have frameW : (w.rail r).dyn.frame = none := by rw [hw, frame_claimed]; exact frame
    refine (switchOff_orders frameW (.inr ((states r).trans state)) (fun d member => ?_) pathW).trans
      ((if_pos board).trans ((needOff_makes true (by exact frameW)).trans (made false)))
    rw [mem_dependents, (rails d).1] at member
    exact (states d).trans (free d ((mem_dependents s r d).mpr member))

/-- A rail of the part: the step moves it and waits for what it becomes (R8, R9). -/
theorem event_ordersMove {s u : State} {c : Context} {x : Running} {now : Time} {k : StepKind} {r : RailId} {goal : RailState}
    {e : Fin 12} (next : s.NextStep c x now k)
    (kind : (goal = .rising ∧ k = .railOn r false ∧ s.railState r = .off ∧ s.allOn (s.rail r).static.prereqs = true ∧
        s.highAlarm r = false) ∨
      (goal = .falling ∧ k = .railOff r false ∧ s.railState r = .on ∧ ∀ d ∈ s.dependents r, s.railState d = .off))
    (noHold : s.fwd.hold = []) (used : (s.rail r).static.used = true) (path : (s.rail r).static.path = .onPart e)
    (claim : (s.rail r).dyn.claim = .none) (frame : (s.rail r).dyn.frame = none)
    (hu : u = modDyn r (fun d => { d with claim := .step }) (s.startedNext c x now none .order)) :
    exec .delayExpiry s = .next (enterState r goal u) := by
  obtain ⟨w, hw⟩ : ∃ w, w = modDyn r (fun d => { d with claim := .step }) (s.startedNext c x now none .none) := ⟨_, rfl⟩
  have rails := rail_claimed s c x now r none .none
  rw [← hw] at rails
  have railsU := rail_claimed s c x now r none .order
  rw [← hu] at railsU
  have states := railState_congr rails
  have available : w.pathAvailable r = true := by
    unfold State.pathAvailable
    rw [(rails r).1, used, path]; rfl
  have onPart : ¬ w.isBoard r = true := by
    rw [isBoard_onPart (by rw [(rails r).1]; exact path)]; exact Bool.false_ne_true
  have waits : stepWait .order none w = u := by rw [hw, hu, stepWait_claimed]
  have settledU : u.Settled := by rw [hu]; exact next.settled
  have ctx : u.seq.ctx = some { c with index := c.index + 1, timer := none, frame := none, wait := .order } := by rw [hu]; rfl
  have step : (u.stepAt (c.index + 1)).kind = k := by rw [hu]; exact next.next
  have holdU : u.fwd.hold = [] := by rw [hu]; exact noHold
  have entered : ((enterState r goal u).rail r).static.used = true ∧ ((enterState r goal u).rail r).dyn.state = goal := by
    rw [(movedTo_enterState r goal u).rail]
    exact ⟨by rw [(railsU r).1]; exact used, rfl⟩
  have stateE : (enterState r goal u).railState r = goal := (railState_used entered.1).trans entered.2
  have seqE : (enterState r goal u).seq = u.seq := by simp
  have ctxE : (enterState r goal u).seq.ctx = some { c with index := c.index + 1, timer := none, frame := none, wait := .order } := by
    rw [seqE]; exact ctx
  have stepE : ((enterState r goal u).stepAt (c.index + 1)).kind = k :=
    (congrArg Step.kind (stepAt_congr (congrArg Sequencer.steps seqE) _)).trans step
  rcases kind with ⟨rfl, rfl, state, prereqs, calm⟩ | ⟨rfl, rfl, state, free⟩
  · have orders : takeOrder c.program (.railOn r false) w = moveRail r .rising u := by
      refine (switchOn_orders (s := w) ((states r).trans state) ?_ available).trans ((if_neg onPart).trans (by rw [waits]))
      rw [(rails r).1, allOn_congr states]; exact prereqs
    rw [event_orders next rfl used claim frame, ← hw, orders]
    refine congrArg _ (settle_moveRail_waits 65531 .rising settledU holdU (.inl ?_) (fun no => ?_)
      (seqRail_rising .state ctxE stepE rfl stateE))
    · unfold State.highAlarm
      rw [(railsU r).1, hu]; exact calm
    · rw [Bool.and_comm] at no; exact nomatch no
  · have frameW : (w.rail r).dyn.frame = none := by rw [hw, frame_claimed]; exact frame
    have orders : takeOrder c.program (.railOff r false) w = moveRail r .falling u := by
      refine (switchOff_orders frameW (.inr ((states r).trans state)) (fun d member => ?_) available).trans
        ((if_neg onPart).trans (by rw [waits]))
      rw [mem_dependents, (rails d).1] at member
      exact (states d).trans (free d ((mem_dependents s r d).mpr member))
    rw [event_orders next rfl used claim frame, ← hw, orders]
    refine congrArg _ (settle_moveRail_waits 65531 .falling settledU holdU (.inr RailState.noConfusion) (fun _ d usedD needs => ?_)
      (seqRail_falling .state ctxE stepE rfl stateE))
    rw [(railsU d).1] at usedD needs
    have off := free d ((mem_dependents s r d).mpr ⟨usedD, needs⟩)
    rw [railState_used usedD] at off
    rw [(railsU d).2, off]
    exact ⟨RailState.noConfusion, RailState.noConfusion⟩

/-- How a step completes, and how the step after a DELAY starts.

Settles O44: each completion is the end of the step as it stands, tidied up by its kind; each start is the start of its kind in the
state in which the DELAY's end takes the next step. -/
theorem stepsCompleteOrGoOn : Obligations.StepsCompleteOrGoOn := by
  refine ⟨fun s c x up last => ?_, fun s c x time due now k up ctx kind timer hnow running unguarded range hk => ?_,
    fun s c up ctx => ?_, fun s p f x hx => ?_⟩
  · have ctx := last.context
    have done : ∀ (f : State → State) (w v : State), f s = stepEnd none w → tidyStep false w = v.tidied c → v.Settled →
        v.sched = s.sched → v.seq.headers = s.seq.headers → v.seq.steps = s.seq.steps →
        event f s = .next (v.endedWith c .done) := fun f w v hands tidy settled sched headers steps =>
      event_stepEnds none up last hands tidy settled sched headers steps (fun no => absurd rfl no)
    refine ⟨fun time due kind timer => ?_, fun time n kind waits armed target => ?_,
      fun n f d cls payload kind frame sent tag link len head => ?_, fun time p cls cancel tag payload kind waits link len => ?_⟩
    · have hands : delayExpiry s = stepEnd none { s with now := max s.now due } := by
        unfold delayExpiry
        rw [current_eq ctx kind]
        exact stepTimer_expires _ up ctx kind timer
      exact done _ _ _ hands (tidyStep_delay false (by exact ctx) (by exact kind)) (by exact up.settled) rfl rfl rfl
    · exact done _ _ { s with sync := { armed := false, target := none, count := 0 } }
        (fsyncEdge_reaches up ctx kind waits armed target)
        (tidyStep_awaitSync (s := disarmSync s) false (by exact ctx) (by exact kind)) (by exact up.settled) rfl rfl rfl
    · obtain ⟨ps, ports⟩ := withdrawSend_ports f.port s
      have hands := (receiveDown_seqReply s f.port cls f.frame.tag payload up link len tag).trans
        ((seqReply_awaited payload ctx kind frame sent).trans (if_pos head))
      exact done _ _ _ hands (tidyStep_send _ ctx kind frame) (by rw [ports]; exact up.settled)
        (by rw [ports]) (by rw [ports]) (by rw [ports])
    · obtain ⟨w, hw⟩ : ∃ w, w = offerNotice (mkFrame 7 p.addr kindNotice cls tag payload) s := ⟨_, rfl⟩
      obtain ⟨agenda, takeDue, seq, sched⟩ := offerNotice_rest (mkFrame 7 p.addr kindNotice cls tag payload) s
      rw [← hw] at agenda takeDue seq sched
      have ctxW : w.seq.ctx = some c := by rw [seq]; exact ctx
      have kindW : (w.stepAt c.index).kind = .awaitNotice time p cls cancel := by
        rw [stepAt_congr (s := s) (by rw [seq])]; exact kind
      have tidy := tidyStep_awaitNotice false ctxW kindW
      rw [if_neg (fun no => nomatch no.1)] at tidy
      have hands := (receiveDown_notice s p cls tag payload up link len).trans
        ((congrArg (matchNotice p cls) hw.symm).trans (matchNotice_matches ctxW kindW waits))
      rw [← hw]
      exact done _ w w hands tidy ⟨agenda.trans up.settled.1, takeDue.trans up.settled.2⟩ sched (by rw [seq]) (by rw [seq])
  · have next : s.NextStep c x now k :=
      { toUp := up, context := ctx, program := running, unguarded := unguarded, delay := ⟨time, due, kind, timer, hnow⟩,
        range := range, next := hk.symm }
    obtain ⟨v, hv⟩ : ∃ v, v = State.tidied { s with now := now } c := ⟨_, rfl⟩
    obtain ⟨c', hc⟩ : ∃ c' : Context, c' = { c with index := c.index + 1, timer := none, frame := none, wait := .none } := ⟨_, rfl⟩
    obtain ⟨x', hx⟩ : ∃ x' : Running, x' = { x with guarded := (s.stepAt (c.index + 1)).guarded } := ⟨_, rfl⟩
    have ctxV : v.seq.ctx = some { c with timer := none, frame := none, wait := .none } := by rw [hv]; rfl
    have started : v.startedAt { c with timer := none, frame := none, wait := .none } (c.index + 1) =
        s.startedNext c x now none .none := by rw [hv]; exact startedAt_tidied now running
    have kindV : (v.stepAt (c.index + 1)).kind = k := by rw [hv]; exact hk.symm
    obtain ⟨y, hy⟩ : ∃ y, y = s.startedNext c x now none .none := ⟨_, rfl⟩
    have settledY : y.Settled := by rw [hy]; exact up.settled
    have ctxY : y.seq.ctx = some c' := by rw [hy, hc]; rfl
    have seqY : y.seq = { s.seq with ctx := some c' } := by rw [hy, hc]; rfl
    have schedY : y.sched = { s.sched with running := some x' } := by rw [hy, hx]; rfl
    have stepY : (y.stepAt c'.index).kind = k := by rw [hy, hc]; exact hk.symm
    have frameC : c'.frame = none := by rw [hc]
    have tidied : ∀ z : State, z.seq = y.seq → z.tidied c' = z := fun z seq => by
      unfold State.tidied
      have same : ({ z.seq with ctx := some { c' with timer := none, frame := none, wait := .none } } : Sequencer) = z.seq := by
        rw [seq, seqY, hc]
      exact congrArg (fun q => { z with seq := q }) same
    have event := event_nextStep next
    rw [← hv] at event
    have startedY := started.trans hy.symm
    have ends : ∀ {why : Option FailReason} {z : State}, 2 ≤ c.program.val →
        (why = none → s.inRange c.program (c.index + 2) = false) → (why ≠ none → (s.stepAt (c.index + 1)).onFail = .abort) →
        x.marked = false → s.sched.queue = [] → z.Settled → z.seq = y.seq → z.sched = y.sched →
        startStep (c.index + 1) v = z.todo [.afterStep why] →
        exec .delayExpiry s = .next (State.endedWith { z with seq := s.seq, sched := s.sched } c (c'.endOf why)) :=
      fun ordinary last aborts unmarked noQueue settledZ seqZ schedZ starts => by
        rw [event, starts]
        exact congrArg _ (settle_startEnds 65532 (x := x') ordinary last aborts (by rw [hx]; exact unmarked) noQueue hc settledZ
          (seqZ.trans seqY) (schedZ.trans schedY))
    refine ⟨fun t delay => ?_, fun limit n sync source => ?_, fun limit p cls cancel notice on => ?_,
      fun n z f send template link hf => ?_, fun o a out ordinary last unmarked noQueue => ?_,
      fun why ordinary aborts unmarked noQueue fails => ?_, fun r on p i a b orders path available claim frame => ?_,
      fun r u e order noHold used path claim frame off prereqs calm hu => ?_,
      fun r u e order noHold used path claim frame state free hu => ?_⟩
    · have starts := startStep_delay ctxV (kindV.trans delay)
      rw [event, starts]
      refine congrArg _ ((settle_settled _ (by rw [hv]; exact up.settled)).trans ?_)
      rw [startedY, hv, hy]; rfl
    · have starts := (startStep_awaitSync ctxV (kindV.trans sync)).trans (if_pos (by rw [hv]; exact source))
      rw [startedY] at starts
      have waits : stepWait .sync (some limit) (armSync n y) = _ := modCtx_eq (armSync n y) _ c' (by exact ctxY)
      rw [event, starts, waits]
      refine congrArg _ ((settle_settled _ (by exact settledY)).trans ?_)
      rw [hc, hy]; rfl
    · have starts := (startStep_awaitNotice ctxV (kindV.trans notice)).trans (if_pos (by rw [hv]; exact on))
      rw [startedY] at starts
      have waits : stepWait .notice (some limit) y = _ := modCtx_eq y _ c' ctxY
      rw [event, starts, waits]
      refine congrArg _ ((settle_settled _ (by exact settledY)).trans ?_)
      rw [hc, hy]; rfl
    · have offers := startSend_offers ctxY (n := n) (y := z) (f := f) (by rw [hy]; exact template) (by rw [hy]; exact link)
        (by rw [hy]; exact hf)
      have starts := (startStep_send ctxV (kindV.trans send)).trans ((congrArg _ startedY).trans offers)
      rw [hy, hc] at starts
      obtain ⟨w, hw⟩ : ∃ w : State, w = { s.startedNext c x now none .none with seq := { s.seq with
        tagCounter := nextTag s.seq.tagCounter
        ctx := some { c with index := c.index + 1, timer := none, wait := .none, frame := some {
          port := z.port, frame := f, attempt := 1, mark := .waiting, windowMs := z.windowMs, retries := z.retries } } } } :=
        ⟨_, rfl⟩
      have starts' : startStep (c.index + 1) v = offerSeq z.port { frame := f, isCancel := false } w := by rw [hw]; exact starts
      obtain ⟨ps, ports⟩ := offerSeq_ports z.port { frame := f, isCancel := false } w
      rw [event, starts', ← hw]
      exact congrArg _ (settle_settled _ (by rw [ports, hw]; exact up.settled))
    · obtain ⟨z, hz⟩ : ∃ z : State, z = { y with ctl := v.ctl.set o a } := ⟨_, rfl⟩
      have seqZ : z.seq = y.seq := by rw [hz]
      have settledZ : z.Settled := by rw [hz]; exact settledY
      have starts : startStep (c.index + 1) v = z.todo [.afterStep none] := by
        rw [startStep_setOutput ctxV (kindV.trans out), startedY, ← hz]
        unfold stepEnd
        rw [tidyStep_setOutput _ (by rw [seqZ]; exact ctxY) (by rw [hz]; exact stepY.trans out), tidied z seqZ]
        exact later_eq_todo settledZ.1 _
      rw [ends ordinary (fun _ => last) (fun no => absurd rfl no) unmarked noQueue settledZ seqZ (by rw [hz]) starts]
      rw [hz, hy, hv]; rfl
    · have fail : ∀ u : State, u = y → tidyStep false u = y.tidied c' → startStep (c.index + 1) v = stepFail why u →
          why ≠ .noticeTimeout → startStep (c.index + 1) v = y.todo [.afterStep (some why)] := fun u hu tidy starts other => by
        have cut : (some why == some FailReason.noticeTimeout) = false := by
          rw [beq_eq_false_iff_ne]; exact fun same => other (Option.some.inj same)
        rw [starts]
        unfold stepFail stepEnd
        rw [cut, tidy, tidied y rfl]
        exact later_eq_todo settledY.1 _
      have ended : startStep (c.index + 1) v = y.todo [.afterStep (some why)] → exec .delayExpiry s =
          .next (State.endedWith { s with now := now } c (.failed (c.index + 1) why)) := fun starts => by
        rw [ends (why := some why) ordinary (fun no => nomatch no) (fun _ => aborts) unmarked noQueue settledY rfl rfl starts, hc, hy]; rfl
      refine ended ?_
      rcases fails with ⟨limit, n, sync, noSource, rfl, rest⟩ | ⟨limit, p, cls, cancel, notice, off, rfl⟩ | ⟨n, send, rfl, noPort⟩
      · have source : ¬ v.syncSource = true := by rw [hv]; exact Bool.eq_false_iff.mp noSource
        have disarmed : disarmSync y = y := by
          unfold disarmSync
          have same : SyncCounter.initial = y.sync := by rw [hy]; exact rest.symm
          rw [same]
        refine fail y rfl ?_ ((startStep_awaitSync ctxV (kindV.trans sync)).trans ((if_neg source).trans (by rw [startedY]))) FailReason.noConfusion
        rw [tidyStep_awaitSync false ctxY (stepY.trans sync), disarmed]
      · have closed : ¬ v.noticesOn p = true := by rw [hv]; exact Bool.eq_false_iff.mp off
        refine fail y rfl ?_ ((startStep_awaitNotice ctxV (kindV.trans notice)).trans ((if_neg closed).trans (by rw [startedY]))) FailReason.noConfusion
        have tidy := tidyStep_awaitNotice false ctxY (stepY.trans notice)
        rw [if_neg (fun no => nomatch no.1)] at tidy
        exact tidy
      · refine fail y rfl (tidyStep_unsent false ctxY (stepY.trans send) frameC) ?_ FailReason.noConfusion
        exact (startStep_send ctxV (kindV.trans send)).trans ((congrArg _ startedY).trans
          (startSend_noPort (fun z template => by rw [hy] at template ⊢; exact noPort z template)))
    · obtain ⟨w, hw⟩ : ∃ w, w = modDyn r (fun d => { d with claim := .step }) (s.startedNext c x now none .none) := ⟨_, rfl⟩
      have used : (s.rail r).static.used = true := by
        unfold State.pathAvailable at available
        exact (Bool.and_eq_true_iff.mp available).1
      have states := railState_used used
      have rail : k.rail? = some r := by
        rcases orders with ⟨_, order, _⟩ | ⟨_, order, _⟩
        · rw [order]; rfl
        · rw [order]; rfl
      have given := takeOrder_frame (n := c.program) (isOn := on) hw (orders.imp
        (fun ⟨isOn, order, off, prereqs⟩ => ⟨isOn, order, states.trans off, prereqs⟩)
        (fun ⟨isOff, order, state, free⟩ => ⟨isOff, order, states.trans state, free⟩)) path available frame
      rw [event_orders next rail used claim frame, ← hw, given]
      exact congrArg _ (settle_settled _ ⟨by rw [offerRail_agenda]; exact up.settled.1, by rw [offerRail_takeDue]; exact up.settled.2⟩)
    · have moved := movedTo_enterState r .rising u
      have same : (u.rail r).static = (s.rail r).static := by rw [hu]; exact (rail_claimed s c x now r none .order r).1
      rw [timerMs_rising, same, show u.now = now by rw [hu]; rfl] at moved
      refine ⟨enterState r .rising u, event_ordersMove next (.inl ⟨rfl, order, (railState_used used).trans off, prereqs, calm⟩)
        noHold used path claim frame hu, moved, ?_⟩
      have rest := enterState_rest r .rising u
      have fields : u.en = s.en ∧ u.dis = s.dis ∧ u.chans = s.chans := by rw [hu]; exact ⟨rfl, rfl, rfl⟩
      rw [fields.1, fields.2.1, fields.2.2] at rest
      exact congrArg (fun z : State => { z with rails := s.rails }) rest
    · have moved := movedTo_enterState r .falling u
      have same : (u.rail r).static = (s.rail r).static := by rw [hu]; exact (rail_claimed s c x now r none .order r).1
      have fall : (u.rail r).static.timerMs .falling = some (s.rail r).static.fallMs := by rw [same]; rfl
      rw [fall, show u.now = now by rw [hu]; rfl] at moved
      refine ⟨enterState r .falling u, event_ordersMove next (.inr ⟨rfl, order, (railState_used used).trans state, free⟩)
        noHold used path claim frame hu, moved, ?_⟩
      have rest := enterState_rest r .falling u
      have fields : u.en = s.en ∧ u.dis = s.dis ∧ u.chans = s.chans := by rw [hu]; exact ⟨rfl, rfl, rfl⟩
      rw [fields.1, fields.2.1, fields.2.2] at rest
      exact congrArg (fun z : State => { z with rails := s.rails }) rest
  · refine ⟨fun n f due kind frame timer left => ?_, fun armed target => ?_, fun unarmed => ?_⟩
    · obtain ⟨v, hv⟩ : ∃ v : State, v = { s with
        now := max s.now due
        seq := { s.seq with ctx := some { c with
          timer := none, frame := some { f with attempt := f.attempt + 1, mark := .waiting } } } } := ⟨_, rfl⟩
      have again := (sendWindow_again up ctx kind timer frame left).trans (congrArg _ hv.symm)
      obtain ⟨ps, ports⟩ := offerSeq_ports f.port { frame := f.frame, isCancel := false } v
      have event : exec .sendWindowExpiry s = _ := event_plain up.settled
        (by rw [again, ports, hv]; exact up.settled)
      rw [event, again, hv]
    · have counts := fsyncEdge_counts up armed target
      have event : exec .fsyncEdge s = _ := event_plain up.settled (by rw [counts]; exact up.settled)
      rw [event, counts]
    · have stays := fsyncEdge_unarmed unarmed
      have event : exec .fsyncEdge s = _ := event_plain up.settled (by rw [stays]; exact up.settled)
      rw [event, stays]
  · subst hx
    refine ⟨fun q other => ⟨offerSeq_other f other s, withdrawSend_other other s⟩, offerSeq_rest p f s, withdrawSend_rest p s,
      fun busy noOffer => ?_, fun busy offer => ?_, fun free link noOffer noRail noProbe noQueue =>
        offerSeq_starts f free link noOffer noRail noProbe noQueue,
      fun g offer send noneBehind busy => withdrawSend_offered offer send noneBehind busy,
      fun noOffer busy => withdrawSend_notOffered noOffer busy⟩
    · rw [offerSeq_busy f busy, noOffer]; rfl
    · rw [offerSeq_busy f busy, if_neg (by rw [Option.isNone_iff_eq_none]; exact offer)]

end Sys2Proof.Machine
end

section
/-! Replies of the boards: to the Sequencer's frames and to the main board's commands (R18, R20, R51, R158, R159, R161). -/

namespace Sys2Proof.Machine

/-! ### What a board's answer hands on (R158, R159) -/

/-- The effect that a command's OK reply hands on. -/
def effectWork (s : State) (e : OutEntry) (payload : List Byte) : List Work :=
  match e.cmd.effect with
  | some (r, isOn) => if repliesOk payload then [.effect r isOn (isOn && s.closed) e.claimMark] else []
  | none => []

theorem effectWork_none {s : State} {e : OutEntry} {payload : List Byte} (effect : e.cmd.effect = none) :
    effectWork s e payload = [] := by
  unfold effectWork
  rw [effect]

theorem effectWork_some {s : State} {e : OutEntry} {r : RailId} {isOn : Bool} (payload : List Byte)
    (effect : e.cmd.effect = some (r, isOn)) : effectWork s e payload =
      if repliesOk payload then [.effect r isOn (isOn && s.closed) e.claimMark] else [] := by
  unfold effectWork
  rw [effect]

theorem handEffect_hands {s : State} {e : OutEntry} (payload : List Byte) (h : s.agenda = []) :
    (if repliesOk payload then handEffect e s else s) = s.todo (effectWork s e payload) := by
  cases effect : e.cmd.effect with
  | none =>
    have same : handEffect e s = s := by unfold handEffect; rw [effect]
    rw [same, ite_self, effectWork_none effect]; exact (todo_self h).symm
  | some x =>
    obtain ⟨r, isOn⟩ := x
    have hands : handEffect e s = later (.effect r isOn (isOn && s.closed) e.claimMark) s := by unfold handEffect; rw [effect]
    rw [effectWork_some payload effect, hands, later_eq_todo h]
    by_cases ok : repliesOk payload = true
    · rw [if_pos ok, if_pos ok]
    · rw [if_neg ok, if_neg ok]; exact (todo_self h).symm

theorem releaseOut_todo {s : State} (p : Port) (e : OutEntry) (ws : List Work) (h : s.agenda = []) :
    releaseOut p e (s.todo ws) = s.todo (ws ++ releaseWork p e) := by
  unfold releaseOut releaseWork
  cases e.cmd.effect with
  | none => exact congrArg s.todo (List.append_nil ws).symm
  | some x =>
    obtain ⟨r, isOn⟩ := x
    dsimp only
    by_cases marked : e.claimMark = true
    · rw [if_pos marked, if_pos marked]; rfl
    · rw [if_neg marked, if_neg marked, List.append_nil]

theorem boardReplyTaken_hands {s : State} {p : Port} {f : Frame} {e : OutEntry} (h : s.agenda = []) (present : s.up.present = true)
    (found : s.outOf p f.tag = some e) : boardReplyTaken p f s =
      (arbitrate p (s.outReplied p e f)).todo (effectWork s e f.payload ++ releaseWork p e) := by
  have placed : placeUp (replyEntry f) (removeOut p e s) = s.outReplied p e f := by
    unfold removeOut
    rw [filter_bne]
    exact placeUp_present _ present
  have work : effectWork (s.outReplied p e f) e f.payload = effectWork s e f.payload := rfl
  unfold boardReplyTaken
  rw [found]
  dsimp only
  rw [placed, handEffect_hands f.payload (by exact h), work, releaseOut_todo p e _ (by exact h), arbitrate_todo]

/-! ### What the effect finds (R20, R159) -/

theorem applyEffect_unheld (r : RailId) (isOn refused : Bool) (s : State) : applyEffect r isOn refused false s = s := rfl

theorem applyEffect_rises {s : State} {r : RailId} (used : (s.rail r).static.used = true) (off : s.railState r = .off)
    (prereqs : s.allOn (s.rail r).static.prereqs = true) (path : s.pathAvailable r = true) :
    applyEffect r true false true s = moveRail r .rising s := by
  unfold applyEffect
  rw [off, used, prereqs, path]; rfl

/-- An ON effect that cannot be applied moves nothing; the board of a rail that is not up is told (R20). -/
theorem applyEffect_refused {s : State} {r : RailId} {refused : Bool}
    (stops : refused = true ∨ s.railState r ≠ .off ∨ s.allOn (s.rail r).static.prereqs = false ∨ s.pathAvailable r = false) :
    applyEffect r true refused true s = if (s.railState r).isUp then s else followOff r s := by
  have stop : (!refused && s.railState r == .off && (s.rail r).static.used && s.allOn (s.rail r).static.prereqs &&
      s.pathAvailable r) = false := by
    rcases stops with stop | stop | stop | stop
    · rw [stop]; rfl
    · rw [beq_eq_false_iff_ne.mpr stop, Bool.and_false]; rfl
    · rw [stop, Bool.and_false]; rfl
    · rw [stop, Bool.and_false]
  unfold applyEffect
  rw [stop]; rfl

theorem applyEffect_falls {s : State} {r : RailId} (refused : Bool) (up : (s.railState r).isUp = true) :
    applyEffect r false refused true s = moveRail r .falling s := by
  unfold applyEffect
  rw [up]; rfl

/-! ### The port's arbiter and the rails -/

theorem pathAvailable_arbitrate (p : Port) (s : State) (r : RailId) : (arbitrate p s).pathAvailable r = s.pathAvailable r := by
  have rail : (arbitrate p s).rail r = s.rail r := by unfold State.rail; rw [arbitrate_rails]
  unfold State.pathAvailable State.isUp State.agreedRails
  rw [rail]
  simp only [port_arbitrate_link, port_arbitrate_agreed]

theorem rail_arbitrate (p : Port) (s : State) (r : RailId) : (arbitrate p s).rail r = s.rail r := by
  unfold State.rail
  rw [arbitrate_rails]

/-- A rail's move is told by the rails, the outputs and the channels alone. -/
theorem movedTo_congr {s s' t : State} {r : RailId} {st : RailState} {timer : Option Time} {cause : Option FaultCause}
    (rails : s'.rails = s.rails) (en : s'.en = s.en) (dis : s'.dis = s.dis) (chans : s'.chans = s.chans)
    (moved : State.MovedTo r st timer cause s t) : State.MovedTo r st timer cause s' t := by
  have rail : ∀ q, s'.rail q = s.rail q := fun q => by unfold State.rail; rw [rails]
  have chan : ∀ c, s'.chan c = s.chan c := fun c => by unfold State.chan; rw [chans]
  exact
    { rail := by rw [rail]; exact moved.rail
      others := fun q other => by rw [rail]; exact moved.others q other
      enable := fun e path => by rw [rail] at path; rw [en]; exact moved.enable e path
      noEnable := fun p i a b path => by rw [rail] at path; rw [en]; exact moved.noEnable p i a b path
      noDischarge := fun none => by rw [rail] at none; rw [dis]; exact moved.noDischarge none
      bleed := fun o some => by rw [rail] at some; rw [dis]; exact moved.bleed o some
      force := fun o n some => by rw [rail] at some; rw [dis]; exact moved.force o n some
      channels := fun c => by rw [rail, chan]; exact moved.channels c }

/-! ### The claim's release after the effect (R18) -/

/-- What is left once the effect is taken: the claim goes with its report. -/
theorem settle_releasesClaim (m : Nat) {s : State} {r : RailId} {p : Port} {tag : Byte} (calm : s.Calm)
    (claim : (s.rail r).dyn.claim = .frame p tag) : settle (m + 4) (s.todo [.releaseFrame r p tag]) = s.unclaimed r := by
  refine (settle_hands (m + 3) (.releaseFrame r p tag) [] _ calm.settled.1 rfl (releaseFrame_held calm.settled.1 claim)).trans ?_
  exact (settle_report_calm m r .claim [] (s := s.unclaimed r) (by exact calm.settled.1) (by exact calm.noHold)
    (by exact calm.noRailStep)).trans (settle_done m (by exact calm.settled))

/-- The rail that a command's effect moves is reported before its claim goes. -/
theorem settle_effectMoves (m : Nat) {s : State} {r : RailId} {goal : RailState} {p : Port} {tag : Byte} {x : Work} (calm : s.Calm)
    (plain : x.isReset = false) (moves : handle x s = moveRail r goal s) (high : s.highAlarm r = false ∨ goal ≠ .rising)
    (down : ((s.rail r).dyn.state.isUp && !goal.isUp) = true → s.NoDependentUp r)
    (claim : (s.rail r).dyn.claim = .frame p tag) :
    settle (m + 9) (s.todo [x, .releaseFrame r p tag]) = enterState r goal (s.unclaimed r) := by
  obtain ⟨t, ht⟩ : ∃ t, t = enterState r goal s := ⟨_, rfl⟩
  have moved := movedTo_enterState r goal s
  rw [← ht] at moved
  have calmT : t.Calm := calm_congr calm (by rw [ht, enterState_agenda]) (by rw [ht, enterState_takeDue])
    (by rw [ht, enterState_phase]) (by rw [ht, enterState_fwd]) (by rw [ht, enterState_seq])
  have hands := moves.trans (moveRail_settled r goal calm.settled.1 high)
  rw [← ht] at hands
  refine (settle_hands (m + 8) x [.releaseFrame r p tag] _ calm.settled.1 plain hands).trans ?_
  rw [List.append_assoc]
  refine (settle_report_calm (m + 5) r .state _ calmT.settled.1 calmT.noHold calmT.noRailStep).trans ?_
  have last : ∀ k, settle (k + 4) (t.todo [.releaseFrame r p tag]) = enterState r goal (s.unclaimed r) := fun k => by
    rw [settle_releasesClaim k calmT (by rw [moved.rail]; exact claim), ht, enterState_unclaimed]
  by_cases falls : ((s.rail r).dyn.state.isUp && !goal.isUp) = true
  · rw [if_pos falls]
    have noneUp := dependents_down_moved moved (by
      have up := (Bool.and_eq_true_iff.mp falls).2
      rw [Bool.not_eq_true'] at up; exact up) (down falls)
    exact (settle_cascade_none (m + 4) r 0 _ calmT.settled.1 noneUp).trans (last m)
  · rw [if_neg falls]
    exact last (m + 1)

theorem calm_answered {s : State} {p : Port} {e : OutEntry} {f : Frame} (calm : s.Calm) :
    (arbitrate p (s.outReplied p e f)).Calm where
  settled := ⟨(arbitrate_agenda p _).trans calm.settled.1, (arbitrate_takeDue p _).trans calm.settled.2⟩
  running := (arbitrate_phase p _).trans calm.running
  noHold := (congrArg Forwarding.hold (arbitrate_fwd p _)).trans calm.noHold
  noRailStep := noRailStep_of (s := s) (arbitrate_seq p _) calm.noRailStep

/-- The command answered, with its place used and its claim gone. -/
theorem port_releasedOther {s u : State} {p q : Port} {r : RailId} (other : q ≠ p) (ports : u.ports = s.ports) :
    ((arbitrate p u).unclaimed r).port q = s.port q :=
  (arbitrate_other other u).trans (by unfold State.port; rw [ports])

/-- What the effect of an answered command leaves: its rail moved, and else what the answer itself left but for its port. -/
theorem effect_moved (p : Port) (r : RailId) (st : RailState) (u : State) :
    State.MovedTo r st (((u.rail r).static.timerMs st).map (fun t => u.now + Config.ms t)) none (u.unclaimed r)
      (enterState r st ((arbitrate p u).unclaimed r)) ∧
    (∀ q, q ≠ p → (enterState r st ((arbitrate p u).unclaimed r)).port q = u.port q) ∧
    { enterState r st ((arbitrate p u).unclaimed r) with
      ports := u.ports, rails := u.rails, en := u.en, dis := u.dis, chans := u.chans } = u := by
  obtain ⟨ps, ports⟩ := arbitrate_ports p u
  have other : ∀ q, q ≠ p → ((arbitrate p u).unclaimed r).port q = u.port q := fun q other => arbitrate_other other u
  rw [ports] at other ⊢
  have moved := movedTo_enterState r st (({ u with ports := ps } : State).unclaimed r)
  have static : ((({ u with ports := ps } : State).unclaimed r).rail r).static = (u.rail r).static := by
    rw [rail_unclaimed_self]; rfl
  rw [static] at moved
  refine ⟨movedTo_congr (by rfl) (by rfl) (by rfl) (by rfl) moved, fun q away => ?_, ?_⟩
  · exact (congrArg (fun l : Vector PortRec 5 => l.get q.idx) (enterState_ports r st _)).trans (other q away)
  · exact congrArg (fun z : State => { z with ports := u.ports, rails := u.rails, en := u.en, dis := u.dis, chans := u.chans })
      (enterState_rest r st (({ u with ports := ps } : State).unclaimed r))

theorem exec_boardReply {s : State} {p : Port} {cls tag : Byte} {payload : List Byte} {e : OutEntry} {f : Frame} (up : s.Up)
    (link : (s.port p).link = .up) (len : payload.length ≤ 60) (hf : f = mkFrame 7 p.addr kindReply cls tag payload)
    (found : s.outOf p tag = some e) (present : s.up.present = true) : exec (.boardReply p cls tag payload) s =
      .next (settle 65536 ((arbitrate p (s.outReplied p e f)).todo (effectWork s e payload ++ releaseWork p e))) := by
  have hands := (receiveDown_boardReply s p cls tag payload up link len).trans
    (boardReplyTaken_hands up.settled.1 present (by exact found))
  rw [hf]
  exact event_todo up.settled hands

/-- A command that holds no claim has no effect to give (R159). -/
theorem settle_unmarkedEffect (m : Nat) {s t : State} {e : OutEntry} {payload : List Byte} (settled : t.Settled)
    (unmarked : e.claimMark = false) : settle (m + 1) (t.todo (effectWork s e payload)) = t := by
  cases effect : e.cmd.effect with
  | none =>
    rw [effectWork_none effect]
    exact settle_done _ settled
  | some x =>
    obtain ⟨r, isOn⟩ := x
    rw [effectWork_some payload effect, unmarked]
    by_cases ok : repliesOk payload = true
    · rw [if_pos ok]
      exact (settle_plain m (.effect r isOn (isOn && s.closed) false) [] settled.1 rfl (applyEffect_unheld r isOn _ t) settled.1).trans
        (settle_done m settled)
    · rw [if_neg ok]
      exact settle_done _ settled

/-- What a board's reply does to the command that it answers, and to a frame of the Sequencer.

Settles O49: the entry goes, its place is used, the effect is taken where the status is OK, and the claim goes last. -/
theorem boardAndSequencerRepliesFindTheirCommand : Obligations.BoardAndSequencerRepliesFindTheirCommand := by
  refine ⟨fun s p cls tag payload up link len high noStep => ⟨fun cancel => ?_, fun noCancel => ?_⟩,
    fun s u p cls tag payload e f up link len hf hu => ⟨fun none => ?_, fun found present => ⟨fun unmarked => ?_,
      fun r isOn v marked calm effect claim hv => ⟨fun refused => ?_, fun ok on open' used off prereqs path calmRail => ?_,
        fun ok off used state free => ?_⟩⟩⟩,
    fun s u v p cls tag payload e f r calm link len hf hu found present marked effect claim ok used hv stops => ?_⟩
  · have takes : receiveDown p (mkFrame 0 p.addr kindReply cls tag payload) s = { s with seq := { s.seq with cancel := none } } := by
      rw [receiveDown_seqReply s p cls tag payload up link len high]
      unfold seqReply
      rw [noStep, if_neg Bool.false_ne_true, if_pos cancel]
    have event : exec (.sequencerReply p cls tag payload) s = _ := event_plain up.settled (by rw [takes]; exact up.settled)
    rw [event, takes]
  · have takes : receiveDown p (mkFrame 0 p.addr kindReply cls tag payload) s = later (.raise .lateReply) s := by
      rw [receiveDown_seqReply s p cls tag payload up link len high]
      unfold seqReply
      rw [noStep, if_neg Bool.false_ne_true, if_neg noCancel]
    exact event_raise up.settled takes up.settled (settled_raise _ up.settled)
  · have takes : receiveDown p f s = later (.raise .lateReply) s := by
      rw [hf, receiveDown_boardReply s p cls tag payload up link len, ← hf]
      have noOut : s.outOf p f.tag = Option.none := by rw [hf]; exact none
      unfold boardReplyTaken
      rw [noOut]
    rw [hf] at takes
    exact event_raise up.settled takes up.settled (settled_raise _ up.settled)
  · have settledA : (arbitrate p u).Settled := by
      rw [hu]; exact ⟨(arbitrate_agenda p _).trans up.settled.1, (arbitrate_takeDue p _).trans up.settled.2⟩
    refine ⟨arbitrate p u, ?_, fun q other => (arbitrate_other other u).trans (by rw [hu]; rfl), ?_⟩
    · rw [exec_boardReply up link len hf found present, releaseWork_unmarked p unmarked, List.append_nil,
        show s.outReplied p e f = u from hu.symm]
      exact congrArg _ (settle_unmarkedEffect 65535 settledA unmarked)
    · have rest := arbitrate_rest p u
      rw [show u.ports = s.ports by rw [hu]; rfl] at rest
      exact rest
  · have calmA := calm_answered (f := f) (p := p) (e := e) calm
    rw [show s.outReplied p e f = u from hu.symm] at calmA
    have ports : u.ports = s.ports := by rw [hu]; rfl
    refine ⟨(arbitrate p u).unclaimed r, ?_, fun q other => port_releasedOther other ports, ?_⟩
    · have notOk : ¬ repliesOk payload = true := fun yes => refused ((repliesOk_head payload).mp yes)
      rw [exec_boardReply up link len hf found present, releaseWork_marked marked effect, outOf_tag found,
        effectWork_some payload effect, if_neg notOk, show s.outReplied p e f = u from hu.symm]
      exact congrArg _ (settle_releasesClaim 65532 calmA (by rw [rail_arbitrate, hu]; exact claim))
    · have rest := arbitrate_unclaimed_rest p r u
      rw [ports] at rest
      rw [hv]; exact rest
  · obtain ⟨a, ha⟩ : ∃ a, a = arbitrate p u := ⟨_, rfl⟩
    have calmA := calm_answered (f := f) (p := p) (e := e) calm
    rw [show s.outReplied p e f = u from hu.symm, ← ha] at calmA
    have ports : u.ports = s.ports := by rw [hu]; rfl
    have rails : ∀ q, a.rail q = s.rail q := fun q => by rw [ha, rail_arbitrate, hu]; rfl
    have states : ∀ q, a.railState q = s.railState q := railState_congr (fun q => by rw [rails]; exact ⟨rfl, rfl⟩)
    have moves : applyEffect r true false true a = moveRail r .rising a := applyEffect_rises (by rw [rails]; exact used)
      (by rw [states, railState_used used]; exact off) (by rw [rails, allOn_congr states]; exact prereqs)
      (by rw [ha, pathAvailable_arbitrate, hu]; exact path)
    have high : a.highAlarm r = false := by
      unfold State.highAlarm State.chan
      rw [rails, ha, arbitrate_chans, hu]; exact calmRail
    obtain ⟨moved, others, rest⟩ := effect_moved p r .rising u
    have timer : ((u.rail r).static.timerMs .rising).map (fun t => u.now + Config.ms t) = some (s.now + 2000 *
        (if (s.rail r).static.sense = none then (s.rail r).static.settleMs else (s.rail r).static.riseMs)) := by
      rw [timerMs_rising, hu]; rfl
    rw [timer, show u.unclaimed r = v from hv.symm] at moved
    have same : u.en = s.en ∧ u.dis = s.dis ∧ u.chans = s.chans ∧ u.port = s.port := by rw [hu]; exact ⟨rfl, rfl, rfl, rfl⟩
    obtain ⟨en, dis, chans, port⟩ := same
    rw [ports, en, dis, chans] at rest
    rw [port] at others
    refine ⟨_, ?_, moved, others, rest⟩
    rw [exec_boardReply up link len hf found present, releaseWork_marked marked effect, outOf_tag found,
      effectWork_some payload effect, if_pos ((repliesOk_head payload).mpr ok), show s.outReplied p e f = u from hu.symm, ← ha,
      marked, open', on]
    exact congrArg _ (settle_effectMoves 65527 calmA rfl moves (.inl high) (fun no => by rw [Bool.and_comm] at no; exact nomatch no)
      (by rw [rails]; exact claim))
  · obtain ⟨a, ha⟩ : ∃ a, a = arbitrate p u := ⟨_, rfl⟩
    have calmA := calm_answered (f := f) (p := p) (e := e) calm
    rw [show s.outReplied p e f = u from hu.symm, ← ha] at calmA
    have ports : u.ports = s.ports := by rw [hu]; rfl
    have rails : ∀ q, a.rail q = s.rail q := fun q => by rw [ha, rail_arbitrate, hu]; rfl
    have moves : applyEffect r false false true a = moveRail r .falling a := applyEffect_falls false (by
      rw [railState_used (by rw [rails]; exact used), rails, state]; rfl)
    obtain ⟨moved, others, rest⟩ := effect_moved p r .falling u
    have timer : ((u.rail r).static.timerMs .falling).map (fun t => u.now + Config.ms t) =
        some (s.now + 2000 * (s.rail r).static.fallMs) := by rw [hu]; rfl
    rw [timer, show u.unclaimed r = v from hv.symm] at moved
    have same : u.en = s.en ∧ u.dis = s.dis ∧ u.chans = s.chans ∧ u.port = s.port := by rw [hu]; exact ⟨rfl, rfl, rfl, rfl⟩
    obtain ⟨en, dis, chans, port⟩ := same
    rw [ports, en, dis, chans] at rest
    rw [port] at others
    refine ⟨_, ?_, moved, others, rest⟩
    rw [exec_boardReply up link len hf found present, releaseWork_marked marked effect, outOf_tag found,
      effectWork_some payload effect, if_pos ((repliesOk_head payload).mpr ok), show s.outReplied p e f = u from hu.symm, ← ha,
      marked, off, Bool.false_and]
    exact congrArg _ (settle_effectMoves 65527 calmA rfl moves (.inr RailState.noConfusion)
      (fun _ d => by rw [rails]; exact free d) (by rw [rails]; exact claim))
  · have up := calm.toUp
    have calmV := calm_answered (f := f) (p := p) (e := e) calm
    rw [show s.outReplied p e f = u from hu.symm, ← hv] at calmV
    have rails : ∀ q, v.rail q = s.rail q := fun q => by rw [hv, rail_arbitrate, hu]; rfl
    have states : ∀ q, v.railState q = s.railState q := railState_congr (fun q => by rw [rails]; exact ⟨rfl, rfl⟩)
    have stateR : v.railState r = (s.rail r).dyn.state := (states r).trans (railState_used used)
    have pathV : v.pathAvailable r = s.pathAvailable r := by rw [hv, pathAvailable_arbitrate, hu]; rfl
    have refused := applyEffect_refused (s := v) (r := r) (refused := s.closed) (by
      rw [stateR, allOn_congr states, rails, pathV]; exact stops)
    have starts : exec (.boardReply p cls tag payload) s = .next (settle 65536 (v.todo
        [.effect r true s.closed true, .releaseFrame r p tag])) := by
      rw [exec_boardReply up link len hf found present, releaseWork_marked marked effect, outOf_tag found,
        effectWork_some payload effect, if_pos ((repliesOk_head payload).mpr ok), show s.outReplied p e f = u from hu.symm, ← hv,
        marked, Bool.true_and]; rfl
    refine ⟨fun quiet => ?_, fun notRising notOn board path frame => ?_⟩
    · have stays : applyEffect r true s.closed true v = v := by
        rw [refused]
        by_cases upR : (v.railState r).isUp = true
        · exact if_pos upR
        · rw [if_neg upR]
          rw [stateR, isUp_iff] at upR
          refine followOff_stays ?_
          rw [pathV, rails]
          rcases quiet with no | no | part | lost
          · exact absurd (.inl no) upR
          · exact absurd (.inr no) upR
          · exact .inr part
          · exact .inl lost
      rw [starts]
      exact congrArg _ ((settle_plain 65535 (.effect r true s.closed true) _ calmV.settled.1 rfl stays calmV.settled.1).trans
        (settle_releasesClaim 65531 calmV (by rw [rails]; exact claim)))
    · have down : ¬ (v.railState r).isUp = true := by
        rw [stateR, isUp_iff]
        exact fun h => h.elim notRising notOn
      have follows := refused.trans ((if_neg down).trans (followOff_makes (by rw [rails]; exact board) (by rw [pathV]; exact path)
        (by rw [rails]; exact frame)))
      obtain ⟨z, hz⟩ : ∃ z, z = offerRail r (modDyn r (fun d => { d with frame := some (.made false false) }) v) := ⟨_, rfl⟩
      rw [← hz] at follows
      have calmZ : z.Calm := calm_congr calmV (by rw [hz, offerRail_agenda]; rfl) (by rw [hz, offerRail_takeDue]; rfl)
        (by rw [hz, offerRail_phase]; rfl) (by rw [hz, offerRail_fwd]; rfl) (by rw [hz, offerRail_seq]; rfl)
      have claimZ : (z.rail r).dyn.claim = .frame p tag := by
        rw [hz, rail_offerRail, rail_modDyn_self, rails]; exact claim
      rw [starts]
      refine congrArg _ ((settle_plain 65535 (.effect r true s.closed true) _ calmV.settled.1 rfl follows calmZ.settled.1).trans
        ((settle_releasesClaim 65531 calmZ claimZ).trans ?_))
      rw [hz]; rfl

end Sys2Proof.Machine
end

section
/-! Samples: the bands and alarms of a channel, the bulk marks, and what a bound channel tells its rail (R28 to R37). -/

namespace Sys2Proof.Machine

/-! ### A channel's record after a sample (R31 to R33) -/

theorem band_low {x : Channel} {code : Nat} (works : Bool) (low : code < x.low) :
    x.band works code = if works then .low else .inside := if_pos low

theorem band_high {x : Channel} {code : Nat} (works : Bool) (low : x.low ≤ code) (high : x.high < code) :
    x.band works code = .high := (if_neg (Nat.not_lt.mpr low)).trans (if_pos high)

theorem band_inside {x : Channel} {code : Nat} (works : Bool) (low : x.low ≤ code) (high : code ≤ x.high) :
    x.band works code = .inside := (if_neg (Nat.not_lt.mpr low)).trans (if_neg (Nat.not_lt.mpr high))

/-- The record once the band of the reading is known. -/
theorem sampled_band {s : State} {x : Channel} {code : Nat} {b : Band} (band : x.band (s.lowWorks x) code = b) :
    s.sampled x code = { x.counted b with
      alarm := (x.counted b).alarmAfter b, last := some code, goodCount := (s.sampled x code).goodCount } := by
  subst band; rfl

theorem sampled_low {s : State} {x : Channel} {code : Nat} (band : x.band (s.lowWorks x) code = .low) :
    s.sampled x code = { x with
      last := some code, lowCount := min x.debounce (x.lowCount + 1), highCount := 0, insideCount := 0
      goodCount := (s.sampled x code).goodCount
      alarm := if x.debounce ≤ min x.debounce (x.lowCount + 1) then .low else x.alarm } := sampled_band band

theorem sampled_high {s : State} {x : Channel} {code : Nat} (band : x.band (s.lowWorks x) code = .high) :
    s.sampled x code = { x with
      last := some code, lowCount := 0, highCount := min x.debounce (x.highCount + 1), insideCount := 0
      goodCount := (s.sampled x code).goodCount
      alarm := if x.debounce ≤ min x.debounce (x.highCount + 1) then .high else x.alarm } := sampled_band band

theorem sampled_inside {s : State} {x : Channel} {code : Nat} (band : x.band (s.lowWorks x) code = .inside) :
    s.sampled x code = { x with
      last := some code, lowCount := 0, highCount := 0, insideCount := min x.debounce (x.insideCount + 1)
      goodCount := (s.sampled x code).goodCount
      alarm := if x.debounce ≤ min x.debounce (x.insideCount + 1) then .none else x.alarm } := sampled_band band

/-- Only a bound channel counts readings at or above GOOD_LEVEL (R33). -/
theorem sampled_goodFree {s : State} {x : Channel} (code : Nat) (role : x.role = .free ∨ x.role = .bulk) :
    (s.sampled x code).goodCount = x.goodCount := by
  unfold State.sampled
  dsimp only
  rcases role with role | role <;> rw [role]

theorem sampled_goodBound {s : State} {x : Channel} {r : RailId} (code : Nat) (role : x.role = .bound r) :
    (s.sampled x code).goodCount = goodAfter x (s.railState r) (s.rail r).static.goodLevel code := by
  unfold State.sampled
  dsimp only
  rw [role]

theorem lowWorks_free {s : State} {x : Channel} (role : x.role = .free ∨ x.role = .bulk) : s.lowWorks x = true := by
  unfold State.lowWorks
  rcases role with role | role <;> rw [role]

theorem lowWorks_bound {s : State} {x : Channel} {r : RailId} (role : x.role = .bound r) :
    s.lowWorks x = (s.railState r == .on) := by
  unfold State.lowWorks
  rw [role]

theorem counted_fixed (x : Channel) (b : Band) : (x.counted b).role = x.role ∧ (x.counted b).debounce = x.debounce := by
  cases b <;> exact ⟨rfl, rfl⟩

theorem sampled_fixed (s : State) (x : Channel) (code : Nat) :
    (s.sampled x code).role = x.role ∧ (s.sampled x code).debounce = x.debounce := by
  rw [sampled_band rfl]
  exact counted_fixed x _

/-- A count that reaches DEBOUNCE does so by the reading counted last. -/
theorem debounce_reached (debounce count : Nat) : debounce ≤ min debounce (count + 1) ↔ debounce ≤ count + 1 := by
  rw [Nat.le_min]
  exact ⟨fun both => both.2, fun reached => ⟨Nat.le_refl _, reached⟩⟩

/-! ### The alarm entry of a free or bulk channel (R34, R35, R37) -/

/-- What an alarm entry hands on where the channel is not bound. -/
def alarmWork (old : Alarm) (y : Channel) : List Work :=
  if y.alarm = old ∨ y.alarm = .none then [] else [.raise .senseAlarm]

theorem alarmEntry_free {old : Alarm} {y : Channel} {s : State} (h : s.agenda = []) (role : y.role = .free ∨ y.role = .bulk) :
    alarmEntry old y s = s.todo (alarmWork old y) := by
  unfold alarmEntry alarmWork
  by_cases calm : y.alarm = old ∨ y.alarm = .none
  · rw [if_pos calm, if_pos calm]; exact (todo_self h).symm
  · rw [if_neg calm, if_neg calm, ← later_eq_todo h]
    rcases role with role | role <;> rw [role]

theorem levelReport_free {y : Channel} (code : Nat) (s : State) (role : y.role = .free ∨ y.role = .bulk) :
    levelReport y code s = s := by
  unfold levelReport
  rcases role with role | role <;> rw [role]

/-! ### The bulk marks (R36) -/

/-- A reading on the mark's own side clears its count; one beyond counts, and with the DEBOUNCE-th the flag changes. -/
theorem judged_eq {m : BulkMark} {debounce code : Nat} {beyond : Bool}
    (side : (if m.below then decide (m.threshold ≤ code) else decide (code < m.threshold)) = beyond) :
    m.judged debounce code = if beyond = false then ({ m with count := 0 }, false)
      else if debounce ≤ m.count + 1 then ({ m with below := !m.below, count := 0 }, true)
      else ({ m with count := m.count + 1 }, false) := by
  unfold BulkMark.judged
  dsimp only
  rw [side]
  cases beyond <;> rfl

theorem judged_fixed (m : BulkMark) (debounce code : Nat) : (m.judged debounce code).1.id = m.id ∧
    ((m.judged debounce code).2 = true → (m.judged debounce code).1.below = !m.below) := by
  obtain ⟨b, side⟩ : ∃ b, (if m.below then decide (m.threshold ≤ code) else decide (code < m.threshold)) = b := ⟨_, rfl⟩
  rw [judged_eq side]
  split
  · exact ⟨rfl, fun no => Bool.noConfusion no⟩
  · split
    · exact ⟨rfl, fun _ => rfl⟩
    · exact ⟨rfl, fun no => Bool.noConfusion no⟩

/-- The reports that a sample makes of its marks. -/
def markWork (debounce code : Nat) (s : State) : List Work :=
  ((s.marks.map (fun m => m.judged debounce code)).filter (fun x => x.2)).map (fun x => .markReport x.1.id x.1.below)

theorem foldl_later {α : Type} (f : α → Work) (l : List α) (ws : List Work) (s : State) :
    l.foldl (fun s x => later (f x) s) (s.todo ws) = s.todo (ws ++ l.map f) := by
  induction l generalizing ws with
  | nil => rw [List.map_nil, List.append_nil]; rfl
  | cons a l ih =>
    rw [List.foldl_cons, later_todo, ih, List.append_assoc]; rfl

theorem marksSampled_todo (debounce code : Nat) (s : State) (ws : List Work) : marksSampled debounce code (s.todo ws) =
    State.todo { s with marks := s.marks.map (fun m => (m.judged debounce code).1) } (ws ++ markWork debounce code s) := by
  unfold marksSampled markWork
  dsimp only
  rw [show (s.todo ws).marks = s.marks from rfl, List.map_map]
  exact foldl_later (fun x : BulkMark × Bool => Work.markReport x.1.id x.1.below) _ ws
    { s with marks := s.marks.map (fun m => (m.judged debounce code).1) }

/-- In LINE_OK the report of a level's mark, or of the commit mark's rise, changes nothing (R96). -/
theorem markReport_lineOk {s : State} {id : TriggerId} {below : Bool} (stage : s.rtu.stage = .lineOk)
    (noCommit : id = .commit → below = false) : markReport id below s = s := by
  unfold markReport
  cases below with
  | false => rfl
  | true =>
    cases id with
    | commit => exact absurd (noCommit rfl) Bool.noConfusion
    | level i => unfold triggerMet; rw [stage]; rfl

/-- Work that changes nothing. -/
theorem settle_idleWork (n : Nat) {s : State} (settled : s.Settled) : ∀ l : List Work,
    (∀ w ∈ l, w.isReset = false ∧ handle w s = s) → settle (n + l.length) (s.todo l) = s
  | [], _ => settle_done n settled
  | w :: l, idle => by
    obtain ⟨plain, same⟩ := idle w (List.mem_cons_self ..)
    exact (settle_plain (n + l.length) w l settled.1 plain same settled.1).trans
      (settle_idleWork n settled l (fun v mem => idle v (List.mem_cons_of_mem _ mem)))

/-- In LINE_OK with no commit mark newly below its threshold, the marks' reports change nothing (R36, R96). -/
theorem settle_markWork (n debounce code : Nat) {s t : State} (settled : t.Settled) (stage : t.rtu.stage = .lineOk)
    (few : s.marks.length ≤ 5)
    (noCommit : ∀ m ∈ s.marks, m.id = .commit → m.below = false → (m.judged debounce code).2 = false) :
    settle (n + 5) (t.todo (markWork debounce code s)) = t := by
  have length : (markWork debounce code s).length ≤ 5 := by
    unfold markWork
    rw [List.length_map]
    refine Nat.le_trans (List.length_filter_le _ _) ?_
    rw [List.length_map]; exact few
  obtain ⟨k, hk⟩ := Nat.exists_eq_add_of_le length
  have fuel : n + 5 = (n + k) + (markWork debounce code s).length := by omega
  rw [fuel]
  refine settle_idleWork (n + k) settled _ (fun w mem => ?_)
  unfold markWork at mem
  obtain ⟨x, memF, rfl⟩ := List.mem_map.mp mem
  obtain ⟨memJ, changed⟩ := List.mem_filter.mp memF
  obtain ⟨m, memM, rfl⟩ := List.mem_map.mp memJ
  obtain ⟨id, flips⟩ := judged_fixed m debounce code
  refine ⟨rfl, markReport_lineOk stage (fun commit => ?_)⟩
  rw [flips changed]
  cases below : m.below with
  | true => rfl
  | false =>
    rw [id] at commit
    rw [noCommit m memM commit below] at changed; exact nomatch changed

/-- A sample of a channel that is free, or bulk in LINE_OK with no commit mark tripped (R28, R31, R34 to R37). -/
theorem exec_senseSample_free {s : State} {c : ChannelId} {mv code : Nat} {x : Channel} {u : State} (up : s.Up)
    (converts : s.conv.running = true) (hx : x = s.chan c) (hcode : code = min 1023 (mv / 4))
    (role : x.role = .free ∨ (x.role = .bulk ∧ s.rtu.stage = .lineOk ∧ s.marks.length ≤ 5 ∧
      ∀ m ∈ s.marks, m.id = .commit → m.below = false → (m.judged x.debounce code).2 = false))
    (hu : u = { setChan c (s.sampled x code) (convTurn c s) with
      marks := if x.role = .bulk then s.marks.map (fun m => (m.judged x.debounce code).1) else s.marks }) :
    exec (.senseSample c mv) s = .next (if (s.sampled x code).alarm = x.alarm ∨ (s.sampled x code).alarm = .none then u
      else raise .senseAlarm u) := by
  obtain ⟨y, hy⟩ : ∃ y, y = s.sampled x code := ⟨_, rfl⟩
  obtain ⟨roleY, debounceY⟩ := sampled_fixed s x code
  rw [← hy] at roleY debounceY ⊢
  rw [← hy] at hu
  have unbound : x.role = .free ∨ x.role = .bulk := role.imp id (fun bulk => bulk.1)
  have unboundY : y.role = .free ∨ y.role = .bulk := by rw [roleY]; exact unbound
  have kept : (convTurn c s).chan c = x := by
    unfold State.chan
    rw [convTurn_chans, hx]; rfl
  have sampledC : (convTurn c s).sampled x code = y := by
    rw [hy]
    unfold State.sampled State.lowWorks
    rcases unbound with free | bulk
    · rw [free]
    · rw [bulk]
  have agenda : (setChan c y (convTurn c s)).agenda = [] := (convTurn_agenda c s).trans up.settled.1
  have marksC : (setChan c y (convTurn c s)).marks = s.marks := convTurn_marks c s
  have settledU : u.Settled := by
    rw [hu]; exact ⟨agenda, (convTurn_takeDue c s).trans up.settled.2⟩
  have hands : ∃ ws, senseSample c mv s = u.todo (alarmWork x.alarm y ++ ws) ∧
      ∀ n v, v.Settled → v.rtu = s.rtu → settle (n + 5) (v.todo ws) = v := by
    have taken : senseSample c mv s = if y.role = .bulk then
        marksSampled y.debounce code ((setChan c y (convTurn c s)).todo (alarmWork x.alarm y))
        else (setChan c y (convTurn c s)).todo (alarmWork x.alarm y) := by
      have reading : codeOf mv = code := hcode.symm
      unfold senseSample
      rw [if_neg (by rw [up.running, converts]; decide)]
      dsimp only
      rw [kept, reading, sampledC, alarmEntry_free agenda unboundY, levelReport_free code _ unboundY]
    rcases role with free | ⟨bulk, stage, few, noCommit⟩
    · have notBulk : ¬ x.role = .bulk := by rw [free]; exact Role.noConfusion
      rw [if_neg notBulk] at hu
      have same : u = setChan c y (convTurn c s) := by rw [hu, ← marksC]
      refine ⟨[], ?_, fun n v settled _ => settle_done _ settled⟩
      rw [taken, if_neg (by rw [roleY]; exact notBulk), List.append_nil, same]
    · rw [if_pos bulk] at hu
      refine ⟨markWork x.debounce code s, ?_, fun n v settled rtu => settle_markWork n _ _ settled (by rw [rtu]; exact stage) few noCommit⟩
      rw [taken, if_pos (by rw [roleY]; exact bulk), debounceY, marksSampled_todo, hu]
      have work : markWork x.debounce code (setChan c y (convTurn c s)) = markWork x.debounce code s := by
        unfold markWork
        rw [marksC]
      rw [work, marksC]
  obtain ⟨ws, starts, rest⟩ := hands
  have rtuU : u.rtu = s.rtu := by rw [hu]; exact convTurn_rtu c s
  have event : exec (.senseSample c mv) s = _ := event_todo up.settled starts
  rw [event]
  refine congrArg _ ?_
  unfold alarmWork
  by_cases calm : y.alarm = x.alarm ∨ y.alarm = .none
  · rw [if_pos calm, if_pos calm]
    exact rest 65531 u settledU rtuU
  · rw [if_neg calm, if_neg calm]
    refine (settle_raise 65535 .senseAlarm _ settledU.1).trans ?_
    exact rest 65530 _ (settled_raise _ settledU) (by rw [raise_rtu]; exact rtuU)

/-! ### A bound channel and its rail (R33) -/

theorem levelReport_todo {s : State} {y : Channel} {r : RailId} (code : Nat) (ws : List Work) (role : y.role = .bound r) :
    ∃ l, levelReport y code (s.todo ws) = s.todo (ws ++ l) ∧ (l = [] ∨ l = [.good r] ∨ l = [.safe r] ∨ l = [.belowGood r]) := by
  have none : s.todo ws = s.todo (ws ++ []) := by rw [List.append_nil]
  have same : (s.todo ws).railState r = s.railState r := rfl
  unfold levelReport
  rw [role]
  dsimp only
  rw [same]
  cases s.railState r with
  | off => exact ⟨[], none, .inl rfl⟩
  | fault => exact ⟨[], none, .inl rfl⟩
  | rising =>
    dsimp only
    split
    · exact ⟨[.good r], rfl, .inr (.inl rfl)⟩
    · exact ⟨[], none, .inl rfl⟩
  | on =>
    dsimp only
    split
    · exact ⟨[.belowGood r], rfl, .inr (.inr (.inr rfl))⟩
    · exact ⟨[], none, .inl rfl⟩
  | falling =>
    dsimp only
    split
    · exact ⟨[.safe r], rfl, .inr (.inr (.inl rfl))⟩
    · exact ⟨[], none, .inl rfl⟩
  | discharging =>
    dsimp only
    split
    · exact ⟨[.safe r], rfl, .inr (.inr (.inl rfl))⟩
    · exact ⟨[], none, .inl rfl⟩

theorem levelReport_still {s : State} {y : Channel} {r : RailId} (code : Nat) (role : y.role = .bound r)
    (still : s.railState r = .off ∨ s.railState r = .fault) : levelReport y code s = s := by
  unfold levelReport
  rw [role]
  dsimp only
  rcases still with still | still <;> rw [still]

theorem levelReport_on {s : State} {y : Channel} {r : RailId} (code : Nat) (role : y.role = .bound r) (on : s.railState r = .on) :
    levelReport y code s = if code < (s.rail r).static.goodLevel then later (.belowGood r) s else s := by
  unfold levelReport
  rw [role]
  dsimp only
  rw [on]

theorem levelReport_down {s : State} {y : Channel} {r : RailId} (code : Nat) (role : y.role = .bound r)
    (down : s.railState r = .falling ∨ s.railState r = .discharging) :
    levelReport y code s = if code ≤ (s.rail r).static.safeLevel then later (.safe r) s else s := by
  unfold levelReport
  rw [role]
  dsimp only
  rcases down with down | down <;> rw [down]

theorem levelReport_rising {s : State} {y : Channel} {r : RailId} (code : Nat) (role : y.role = .bound r)
    (rising : s.railState r = .rising) : levelReport y code s = if y.goodCount = y.debounce then later (.good r) s else s := by
  unfold levelReport
  rw [role]
  dsimp only
  rw [rising]

theorem alarmEntry_off {s : State} {old : Alarm} {y : Channel} {r : RailId} (role : y.role = .bound r) (high : y.alarm = .high)
    (new : old ≠ .high) (off : s.railState r = .off) : alarmEntry old y s = later (.raise .senseAlarm) s := by
  have entered : ¬ (y.alarm = old ∨ y.alarm = .none) := by
    rw [high]; exact fun no => no.elim (fun same => new same.symm) (fun no => Alarm.noConfusion no)
  unfold alarmEntry
  rw [if_neg entered, role]
  exact (if_pos off).trans (if_pos high)

theorem alarmEntry_rail {s : State} {old : Alarm} {y : Channel} {r : RailId} (role : y.role = .bound r)
    (entered : y.alarm ≠ old ∧ y.alarm ≠ .none) (notOff : s.railState r ≠ .off) :
    alarmEntry old y s = later (.alarm r (y.alarm == .high)) s := by
  unfold alarmEntry
  rw [if_neg (fun no => no.elim entered.1 entered.2), role]
  exact if_neg notOff

theorem alarmTaken_again {s : State} {r : RailId} (h : s.agenda = []) (fault : s.railState r = .fault) :
    alarmTaken r true s = (modDyn r (fun d => { d with faultCause := some .high }) s).todo [.raise .railFault] := by
  unfold alarmTaken
  rw [fault]
  exact later_eq_todo (by exact h) _

theorem alarmTaken_faults {s : State} {r : RailId} {high : Bool} {cause : FaultCause}
    (enters : (cause = .high ∧ high = true ∧ s.railState r ≠ .off ∧ s.railState r ≠ .fault) ∨
      (cause = .low ∧ high = false ∧ s.railState r = .on)) : alarmTaken r high s = enterFault r cause s := by
  unfold alarmTaken
  rcases enters with ⟨rfl, rfl, notOff, notFault⟩ | ⟨rfl, rfl, on⟩
  · cases state : s.railState r with
    | off => exact absurd state notOff
    | fault => exact absurd state notFault
    | on => rfl
    | rising => rfl
    | falling => rfl
    | discharging => rfl
  · rw [on]; rfl

/-- A rail in FAULT takes no level report (R14, R33). -/
theorem levelReports_faulted {s : State} {r : RailId} (fault : s.railState r = .fault) :
    goodReport r s = s ∧ safeReport r s = s ∧ belowGoodReport r s = s := by
  refine ⟨if_neg ?_, if_neg ?_, if_neg ?_⟩
  · rw [fault]; exact RailState.noConfusion
  · rw [fault]; decide
  · rw [fault]; exact RailState.noConfusion

/-- An alarm that takes its rail to FAULT, with the level report behind it (R13, R21, R33). -/
theorem settle_alarmFaults {s : State} {r : RailId} {high : Bool} {cause : FaultCause} {l : List Work} (calm : s.Calm)
    (used : (s.rail r).static.used = true) (taken : alarmTaken r high s = enterFault r cause s)
    (unreached : s.pathAvailable r = false ∨ (s.rail r).static.port? = none) (free : (s.rail r).dyn.claim = .none)
    (noAction : (s.rail r).static.faultAction = none)
    (down : ∀ d, (s.rail d).static.used = true → inSet (s.rail d).static.prereqs r = true →
      (s.rail d).dyn.state ≠ .rising ∧ (s.rail d).dyn.state ≠ .on)
    (levels : l = [] ∨ l = [.good r] ∨ l = [.safe r] ∨ l = [.belowGood r]) :
    settle 65536 (s.todo (.alarm r high :: l)) = raise .railFault (s.faulted r cause) := by
  have moved := movedTo_fault r cause s (s.faulted r cause) rfl
  have calmF := calm_faulted r cause calm
  have follows := followOff_stays (s := s.faulted r cause) (r := r)
    (by rw [pathAvailable_faulted, static_faulted]; exact unreached)
  have hands := enterFault_hands (s := s) r cause (by rw [follows]; exact calmF.settled.1)
  rw [follows] at hands
  have settledR := settled_raise .railFault calmF.settled
  have fault : (raise .railFault (s.faulted r cause)).railState r = .fault := by
    rw [railState_used (by rw [rail_raise, static_faulted]; exact used), rail_raise, moved.rail]
  obtain ⟨good, safe, below⟩ := levelReports_faulted fault
  refine (settle_hands 65535 (.alarm r high) l _ calm.settled.1 rfl (taken.trans hands)).trans ?_
  refine (settle_faultWork 65528 l calmF (by rw [moved.rail]; exact free) (by rw [static_faulted]; exact noAction)
    (dependents_down_fault moved down)).trans ?_
  rcases levels with rfl | rfl | rfl | rfl
  · exact settle_done _ settledR
  · exact (settle_plain 65527 (.good r) [] settledR.1 rfl good settledR.1).trans (settle_done _ settledR)
  · exact (settle_plain 65527 (.safe r) [] settledR.1 rfl safe settledR.1).trans (settle_done _ settledR)
  · exact (settle_plain 65527 (.belowGood r) [] settledR.1 rfl below settledR.1).trans (settle_done _ settledR)

/-! ### A rail's change of state, told to its channel (R32, R33) -/

theorem followRail_leavesOn {x : Channel} {new : RailState} (notOn : new ≠ .on) (notRising : new ≠ .rising) :
    x.followRail .on new =
      if x.alarm = .low then { x with alarm := .none, lowCount := 0, highCount := 0, insideCount := 0, goodCount := 0 }
      else { x with lowCount := 0 } := by
  have noRise : ¬ (new = .rising ∨ RailState.on = .rising) := fun h => h.elim notRising RailState.noConfusion
  unfold Channel.followRail
  dsimp only
  rw [if_neg noRise]
  exact if_pos ⟨rfl, notOn⟩

theorem followRail_rises {x : Channel} {old new : RailState} (notOn : old ≠ .on) (rises : old = .rising ∨ new = .rising) :
    x.followRail old new = { x with goodCount := 0 } := by
  unfold Channel.followRail
  dsimp only
  rw [if_pos rises.symm]
  exact if_neg (fun h => notOn h.1)

theorem followRail_stays {x : Channel} {old new : RailState} (notOn : old ≠ .on) (notRose : old ≠ .rising) (notRising : new ≠ .rising) :
    x.followRail old new = x := by
  have noRise : ¬ (new = .rising ∨ old = .rising) := fun h => h.elim notRising notRose
  unfold Channel.followRail
  dsimp only
  rw [if_neg noRise]
  exact if_neg (fun h => notOn h.1)

/-! ### The converter's turn (R28) -/

theorem convTurn_other {s : State} {c : ChannelId} (other : c ≠ s.conv.next) : convTurn c s = s := if_neg other

theorem convTurn_within {s : State} {c : ChannelId} (turn : c = s.conv.next) (within : c ≠ 0) :
    convTurn c s = { s with conv := { s.conv with next := c + 1 } } := by
  unfold convTurn
  rw [if_pos turn]
  dsimp only
  rw [if_neg within, if_neg within]

theorem convTurn_opens {s : State} {c : ChannelId} (turn : c = s.conv.next) (first : c = 0) : convTurn c s = { s with
    now := max s.now s.conv.roundDue
    conv := { s.conv with
      next := c + 1
      roundDue := max s.now s.conv.roundDue + (if s.mode = .active then 500 else 16000) } } := by
  unfold convTurn
  rw [if_pos turn]
  dsimp only
  rw [if_pos first, if_pos first]; rfl

/-! ### The statement -/

/-- The alarm is entered exactly when its count reaches DEBOUNCE and it did not stand before. -/
theorem entered_choice {α : Type} (a b : α) {old new : Alarm} (debounce count : Nat) (real : new ≠ .none) :
    (if (if debounce ≤ min debounce (count + 1) then new else old) = old ∨
        (if debounce ≤ min debounce (count + 1) then new else old) = .none then a else b) =
      if debounce ≤ count + 1 ∧ old ≠ new then b else a := by
  by_cases reached : debounce ≤ count + 1
  · rw [if_pos ((debounce_reached debounce count).mpr reached)]
    by_cases stood : old = new
    · rw [if_pos (.inl stood.symm), if_neg (fun both => both.2 stood)]
    · rw [if_neg (fun h => h.elim (fun same => stood same.symm) real), if_pos ⟨reached, stood⟩]
  · rw [if_neg (fun h => reached ((debounce_reached debounce count).mp h)), if_pos (.inl rfl), if_neg (fun both => reached both.1)]

/-- What a sample does to its channel, to the marks, and to the rail that the channel is bound to.

Settles O43: the reading's band makes the record; an alarm entry is handed on before the level report, and each of them finds its
rail in the state that the sample found it in, but for an entry into FAULT. -/
theorem samplesMoveAlarmsAndRails : Obligations.SamplesMoveAlarmsAndRails := by
  refine ⟨fun s c mv code x up converts hx hcode role => ?_, fun m debounce code => ⟨fun above => ?_, fun below => ?_⟩,
    fun s c => ⟨convTurn_other, convTurn_within, convTurn_opens⟩, fun s x y r code good role hy hgood => ?_,
    fun x old new => ⟨fun on notOn notRising => ?_, followRail_rises, followRail_stays⟩,
    fun s u c mv code r x y calm converts hx role used sense hcode hy hu => ?_⟩
  · obtain ⟨u, hu⟩ : ∃ u : State, u = { setChan c (s.sampled x code) (convTurn c s) with
        marks := if x.role = .bulk then s.marks.map (fun m => (m.judged x.debounce code).1) else s.marks } := ⟨_, rfl⟩
    have unbound : x.role = .free ∨ x.role = .bulk := role.imp id (fun bulk => bulk.1)
    have works := lowWorks_free (s := s) unbound
    have good := sampled_goodFree (s := s) code unbound
    have own : u.chan c = s.sampled x code := by rw [hu]; exact chan_setChan_self c _ _
    refine ⟨_, u, exec_senseSample_free up converts hx hcode role hu, fun d other => ?_, by rw [hu], ?_, fun low => ?_,
      fun low high => ?_, fun low high => ?_⟩
    · rw [hu]
      exact (chan_setChan_other _ _ other).trans (by unfold State.chan; rw [convTurn_chans])
    · have chans : s.chans = (convTurn c s).chans := (convTurn_chans c s).symm
      have marks : s.marks = (convTurn c s).marks := (convTurn_marks c s).symm
      rw [chans, marks, hu]; rfl
    · have record := sampled_low (s := s) (code := code) (by rw [band_low _ low, works]; rfl)
      rw [good] at record
      rw [own]
      refine ⟨record, ?_⟩
      rw [record]
      exact entered_choice u (raise .senseAlarm u) x.debounce x.lowCount Alarm.noConfusion
    · have record := sampled_high (s := s) (band_high _ low high)
      rw [good] at record
      rw [own]
      refine ⟨record, ?_⟩
      rw [record]
      exact entered_choice u (raise .senseAlarm u) x.debounce x.highCount Alarm.noConfusion
    · have record := sampled_inside (s := s) (band_inside _ low high)
      rw [good] at record
      rw [own]
      refine ⟨record, if_pos ?_⟩
      rw [record]
      dsimp only
      split
      · exact .inr rfl
      · exact .inl rfl
  · have side : ∀ b, decide (code < m.threshold) = b →
        (if m.below then decide (m.threshold ≤ code) else decide (code < m.threshold)) = b := fun b hb => by rw [above]; exact hb
    refine ⟨fun own => judged_eq (side false (decide_eq_false (Nat.not_lt.mpr own))), fun beyond counts => ?_, fun beyond reaches => ?_⟩
    · exact (judged_eq (side true (decide_eq_true beyond))).trans (if_neg (Nat.not_le.mpr counts))
    · refine (judged_eq (side true (decide_eq_true beyond))).trans ((if_pos reaches).trans ?_)
      rw [above]; rfl
  · have side : ∀ b, decide (m.threshold ≤ code) = b →
        (if m.below then decide (m.threshold ≤ code) else decide (code < m.threshold)) = b := fun b hb => by rw [below]; exact hb
    refine ⟨fun own => judged_eq (side false (decide_eq_false (Nat.not_le.mpr own))), fun beyond counts => ?_, fun beyond reaches => ?_⟩
    · exact (judged_eq (side true (decide_eq_true beyond))).trans (if_neg (Nat.not_le.mpr counts))
    · refine (judged_eq (side true (decide_eq_true beyond))).trans ((if_pos reaches).trans ?_)
      rw [below]; rfl
  · have works := lowWorks_bound (s := s) role
    have count : (s.sampled x code).goodCount = good := (sampled_goodBound code role).trans hgood.symm
    rw [← count, hy]
    refine ⟨fun low on => sampled_low ?_, fun low high => sampled_high (band_high _ low high), fun inside => sampled_inside ?_⟩
    · rw [band_low _ low, works, on]; rfl
    · rcases inside with ⟨low, notOn⟩ | ⟨low, high⟩
      · rw [band_low _ low, works, beq_eq_false_iff_ne.mpr notOn]; rfl
      · exact band_inside _ low high
  · subst on
    exact ⟨fun low => (followRail_leavesOn notOn notRising).trans (if_pos low),
      fun notLow => (followRail_leavesOn notOn notRising).trans (if_neg notLow)⟩
  · have up := calm.toUp
    have samples : s.Samples c mv r y :=
      { converts := converts, role := by rw [← hx]; exact role, sense := sense, record := by rw [hy, hcode, hx] }
    have taken : senseSample c mv s = levelReport y code (alarmEntry x.alarm y u) := by
      rw [senseSample_bound up samples, hcode, hx, hu]
    obtain ⟨railsU, seqU, schedU, fwdU, agendaU, takeDueU, phaseU, portsU, rtuU⟩ := afterSample_rest s c y u hu
    have calmU : u.Calm := calm_congr calm agendaU takeDueU phaseU fwdU seqU
    have rails : ∀ q, u.rail q = s.rail q := fun q => by unfold State.rail; rw [railsU]
    have usedU : (u.rail r).static.used = true := by rw [rails]; exact used
    have stateU : u.railState r = (s.rail r).dyn.state := (railState_used usedU).trans (by rw [rails])
    have outs : u.en = s.en ∧ u.dis = s.dis := by rw [hu]; exact ⟨convTurn_en c s, convTurn_dis c s⟩
    obtain ⟨roleY, debounceY⟩ := sampled_fixed s x code
    rw [← hy, role] at roleY
    rw [← hy] at debounceY
    refine ⟨fun high new => ⟨fun off => ?_, fun fault => ?_⟩, fun cause enters noBoard free noAction down => ?_, fun calmAlarm => ?_⟩
    · have hands : senseSample c mv s = u.todo [.raise .senseAlarm] := by
        rw [taken, alarmEntry_off roleY high new (stateU.trans off), levelReport_still (s := later _ u) code roleY (.inl (by exact stateU.trans off))]
        exact later_eq_todo calmU.settled.1 _
      have event : exec (.senseSample c mv) s = _ := event_todo up.settled hands
      rw [event]
      exact congrArg _ ((settle_raise 65535 .senseAlarm [] calmU.settled.1).trans (settle_done _ (settled_raise _ calmU.settled)))
    · have entered : y.alarm ≠ x.alarm ∧ y.alarm ≠ .none := by
        rw [high]; exact ⟨new.symm, Alarm.noConfusion⟩
      have notOff : u.railState r ≠ .off := by rw [stateU, fault]; exact RailState.noConfusion
      have hands : senseSample c mv s = u.todo [.alarm r true] := by
        rw [taken, alarmEntry_rail roleY entered notOff, levelReport_still (s := later _ u) code roleY (.inr (by exact stateU.trans fault)), high]
        exact later_eq_todo calmU.settled.1 _
      have event : exec (.senseSample c mv) s = _ := event_todo up.settled hands
      rw [event]
      refine congrArg _ ((settle_hands 65535 (.alarm r true) [] _ calmU.settled.1 rfl
        (alarmTaken_again calmU.settled.1 (stateU.trans fault))).trans ?_)
      exact (settle_raise 65534 .railFault [] (by exact calmU.settled.1)).trans (settle_done _ (settled_raise _ (by exact calmU.settled)))
    · have entered : y.alarm ≠ x.alarm ∧ y.alarm ≠ .none := by
        rcases enters with ⟨_, high, new, _⟩ | ⟨_, low, new, _⟩
        · rw [high]; exact ⟨new.symm, Alarm.noConfusion⟩
        · rw [low]; exact ⟨new.symm, Alarm.noConfusion⟩
      have notOff : u.railState r ≠ .off := by
        rw [stateU]
        rcases enters with ⟨_, _, _, notOff, _⟩ | ⟨_, _, _, on⟩
        · exact notOff
        · rw [on]; exact RailState.noConfusion
      have faults : alarmTaken r (y.alarm == .high) u = enterFault r cause u := by
        refine alarmTaken_faults ?_
        rw [stateU]
        rcases enters with ⟨high', high, _, notOff, notFault⟩ | ⟨low', low, _, on⟩
        · exact .inl ⟨high', by rw [high]; rfl, notOff, notFault⟩
        · exact .inr ⟨low', by rw [low]; rfl, on⟩
      have unreached : u.pathAvailable r = false ∨ (u.rail r).static.port? = none := by
        rw [pathAvailable_congr (s := s) r (by rw [rails]) portsU, rails]
        cases path : (s.rail r).static.path with
        | onPart e => exact .inr (port?_part path)
        | board p i a b => exact .inl (noBoard p i a b path)
      obtain ⟨l, level, levels⟩ := levelReport_todo (s := u) code [.alarm r (y.alarm == .high)] roleY
      have hands : senseSample c mv s = u.todo (.alarm r (y.alarm == .high) :: l) := by
        rw [taken, alarmEntry_rail roleY entered notOff, later_eq_todo calmU.settled.1]
        exact level
      have event : exec (.senseSample c mv) s = _ := event_todo up.settled hands
      refine ⟨u.faulted r cause, ?_, movedTo_fault r cause u _ rfl, ?_⟩
      · rw [event]
        exact congrArg _ (settle_alarmFaults calmU usedU faults unreached (by rw [rails]; exact free) (by rw [rails]; exact noAction)
          (fun d => by rw [rails]; exact down d) levels)
      · have rest := fault_rest r cause u
        rw [railsU, outs.1, outs.2] at rest
        exact rest
    · rw [alarmEntry_calm u calmAlarm] at taken
      have stays : senseSample c mv s = u → exec (.senseSample c mv) s = .next u := fun same => by
        have event : exec (.senseSample c mv) s = _ := event_plain up.settled (by rw [same]; exact calmU.settled)
        rw [event, same]
      have moves : ∀ {w : Work} {st : RailState}, w.isReset = false → senseSample c mv s = u.todo [w] → handle w u = moveRail r st u →
          ((u.rail r).dyn.state.isUp = false ∨ st.isUp = true) → st ≠ .rising →
          exec (.senseSample c mv) s = .next (enterState r st u) := fun {w st} plain hands act quiet notRising => by
        have noFall : ((u.rail r).dyn.state.isUp && !st.isUp) = false := by
          rcases quiet with down | up
          · rw [down]; rfl
          · rw [up, Bool.and_comm]; rfl
        have moved := act.trans (moveRail_settled r st calmU.settled.1 (.inr notRising))
        rw [noFall] at moved
        have calmE : (enterState r st u).Calm := calm_enterState calmU r st
        have event : exec (.senseSample c mv) s = _ := event_todo up.settled hands
        rw [event]
        exact congrArg _ ((settle_hands 65535 w [] _ calmU.settled.1 plain moved).trans
          ((settle_report_calm 65532 r .state _ calmE.settled.1 calmE.noHold calmE.noRailStep).trans (settle_done _ calmE.settled)))
      have rest : ∀ st, { enterState r st u with rails := s.rails, en := s.en, dis := s.dis, chans := u.chans } = u := fun st => by
        have same := enterState_rest r st u
        rw [railsU, outs.1, outs.2] at same
        exact same
      refine ⟨fun still => ?_, fun on => ?_, fun down => ⟨fun above => ?_, fun safe => ?_⟩, fun rising => ⟨fun counts => ?_, fun good => ?_⟩⟩
      · refine stays (taken.trans (levelReport_still code roleY ?_))
        rw [stateU]; exact still
      · rw [levelReport_on code roleY (stateU.trans on), rails] at taken
        by_cases below : code < (s.rail r).static.goodLevel
        · rw [if_pos below, later_eq_todo calmU.settled.1] at taken
          rw [if_pos below]
          have event : exec (.senseSample c mv) s = _ := event_todo up.settled taken
          rw [event]
          exact congrArg _ ((settle_plain 65535 (.belowGood r) [] calmU.settled.1 rfl (if_pos (stateU.trans on)) (by exact calmU.settled.1)).trans
            (settle_done _ (by exact calmU.settled)))
        · rw [if_neg below] at taken ⊢
          exact stays taken
      · rw [levelReport_down code roleY (by rw [stateU]; exact down), rails, if_neg (Nat.not_le.mpr above)] at taken
        exact stays taken
      · rw [levelReport_down code roleY (by rw [stateU]; exact down), rails, if_pos safe, later_eq_todo calmU.settled.1] at taken
        have isDown : (u.railState r).isDown = true := by
          rw [stateU]
          rcases down with down | down <;> rw [down] <;> rfl
        refine ⟨enterState r .off u, moves rfl taken (if_pos isDown) (.inl ?_) RailState.noConfusion, movedTo_enterState r .off u, rest .off⟩
        rw [rails]
        rcases down with down | down <;> rw [down] <;> rfl
      · rw [levelReport_rising code roleY (stateU.trans rising), debounceY, if_neg (Nat.ne_of_lt counts)] at taken
        exact stays taken
      · rw [levelReport_rising code roleY (stateU.trans rising), debounceY, if_pos good, later_eq_todo calmU.settled.1] at taken
        exact ⟨enterState r .on u, moves rfl taken (if_pos (stateU.trans rising)) (.inr rfl) RailState.noConfusion,
          movedTo_enterState r .on u, rest .on⟩

end Sys2Proof.Machine
end

section
/-! Capability records: a port that comes up, and an agreed record that is replaced (R17, R57, R63, R130 to R132). -/

namespace Sys2Proof.Machine

/-! ### A new agreed record (R130) -/

/-- What a new agreed record hands on: the rails that lost their path, and a new mismatch. -/
def agreedWork (old : List RailId × List RailId) (a : Agreed) : List Work :=
  (if (old.1.filter (fun r => !a.rails.contains r)).isEmpty then [] else [.pathLost (old.1.filter (fun r => !a.rails.contains r))]) ++
    if a.mismatch.any (fun r => !old.2.contains r) then [.raise .capMismatch] else []

theorem setAgreed_hands {s : State} (p : Port) (old : List RailId × List RailId) (a : Agreed) (h : s.agenda = []) :
    setAgreed p old a s = (modPort p (fun x => { x with agreed := some a }) s).todo (agreedWork old a) := by
  have none : ∀ t : State, t.agenda = [] → t.todo [] = t := fun t => todo_self
  unfold setAgreed agreedWork
  dsimp only
  by_cases kept : (old.1.filter (fun r => !a.rails.contains r)).isEmpty = true
  · rw [if_pos kept, if_pos kept]
    by_cases new : a.mismatch.any (fun r => !old.2.contains r) = true
    · rw [if_pos new, if_pos new]; exact later_eq_todo (by exact h) _
    · rw [if_neg new, if_neg new]; exact (todo_self (by exact h)).symm
  · rw [if_neg kept, if_neg kept]
    by_cases new : a.mismatch.any (fun r => !old.2.contains r) = true
    · rw [if_pos new, if_pos new]; exact later_two (by exact h) _ _
    · rw [if_neg new, if_neg new]; exact later_eq_todo (by exact h) _

/-- No rail has lost its path. -/
theorem agreedWork_kept {old : List RailId × List RailId} {a : Agreed} (kept : ∀ r ∈ old.1, r ∈ a.rails) :
    agreedWork old a = if a.mismatch.any (fun r => !old.2.contains r) then [.raise .capMismatch] else [] := by
  have empty : old.1.filter (fun r => !a.rails.contains r) = [] := by
    rw [List.filter_eq_nil_iff]
    intro r mem
    rw [List.contains_iff_mem.mpr (kept r mem)]; decide
  unfold agreedWork
  rw [empty]; rfl

theorem mismatch_any {old : List RailId} {a : Agreed} :
    a.mismatch.any (fun r => !old.contains r) = true ↔ ∃ r ∈ a.mismatch, r ∉ old := by
  rw [List.any_eq_true]
  refine exists_congr fun r => and_congr_right fun _ => ?_
  rw [Bool.not_eq_true', ← Bool.not_eq_true, List.contains_iff_mem]

/-! ### The entry into UP (R131) -/

/-- The port has come up with this agreed record. -/
def State.cameUp (s : State) (p : Port) (a : Agreed) : State :=
  modPort p (fun x => { x with
    link := .up, probeCount := 0, probeTimer := none, probeWaiting := false, agreed := some a, latch := true,
    line := if x.owner = some .probe then .stretch (s.now + 10) else x.line }) s

theorem enterUp_hands {s : State} (p : Port) (c : Capability) (h : s.agenda = []) : enterUp p c s =
    (s.cameUp p (s.agree p c)).todo (agreedWork ([], []) (s.agree p c) ++ [.raise .linkChange]) := by
  obtain ⟨v, hv⟩ : ∃ v, v = leaveExchange p .up s := ⟨_, rfl⟩
  have left := leaveExchange_eq s p .up
  have agenda : v.agenda = [] := by rw [hv, left]; exact h
  have agree : v.agree p c = s.agree p c := by rw [hv, left]; rfl
  have latched : modPort p (fun x => { x with latch := true })
      (modPort p (fun x => { x with agreed := some (s.agree p c) }) v) = s.cameUp p (s.agree p c) := by
    rw [modPort_modPort, hv, left, modPort_modPort]; rfl
  unfold enterUp
  rw [← hv]
  dsimp only
  rw [agree, setAgreed_hands p _ _ agenda, ← latched]; rfl

theorem exec_enterUp {s : State} {p : Port} (tag : Byte) {payload : List Byte} {c : Capability} (up : s.Up)
    (len : payload.length ≤ 60) (link : (s.port p).link = .exchange) (record : decCapability payload = some c) :
    exec (.capabilityInExchange p tag payload) s =
      .next (settle 65536 ((s.cameUp p (s.agree p c)).todo (agreedWork ([], []) (s.agree p c) ++ [.raise .linkChange]))) := by
  have taken : receiveDown p (mkFrame 0 p.addr kindCapability 0 tag payload) s = enterUp p c s := by
    rw [receiveDown_exchange up link (capabilityFrame_ok p tag payload len) rfl, if_pos ⟨rfl, rfl⟩]
    unfold capability
    have bytes : (mkFrame 0 p.addr kindCapability 0 tag payload).payload = payload := rfl
    rw [bytes, record]
  exact event_todo up.settled (taken.trans (enterUp_hands p c up.settled.1))

/-! ### A record that replaces the agreed one (R132) -/

/-- What an unsolicited capability record hands on. -/
def replaceWork (p : Port) (old new : Agreed) : List Work :=
  agreedWork (old.rails, old.mismatch) new ++ (if new = old then [] else [.raise .linkChange]) ++
    if old.notices && !new.notices then [.seqNoticesLost p] else []

theorem unsolicited_hands {s : State} {p : Port} (c : Capability) {old : Agreed} (h : s.agenda = [])
    (agreed : (s.port p).agreed = some old) : unsolicited p c s =
      (modPort p (fun x => { x with agreed := some (s.agree p c) }) s).todo (replaceWork p old (s.agree p c)) := by
  obtain ⟨new, hn⟩ : ∃ new, new = s.agree p c := ⟨_, rfl⟩
  unfold unsolicited replaceWork
  rw [agreed]
  dsimp only
  rw [← hn, setAgreed_hands p _ _ h]
  by_cases same : new = old
  · rw [if_pos same, if_pos same, List.append_nil]
    by_cases lost : (old.notices && !new.notices) = true
    · rw [if_pos lost, if_pos lost]; rfl
    · rw [if_neg lost, if_neg lost, List.append_nil]
  · rw [if_neg same, if_neg same]
    by_cases lost : (old.notices && !new.notices) = true
    · rw [if_pos lost, if_pos lost]; rfl
    · rw [if_neg lost, if_neg lost, List.append_nil]; rfl

theorem exec_unsolicited {s : State} {p : Port} (tag : Byte) {payload : List Byte} {c : Capability} {old : Agreed} (up : s.Up)
    (len : payload.length ≤ 60) (link : (s.port p).link = .up) (record : decCapability payload = some c)
    (agreed : (s.port p).agreed = some old) : exec (.unsolicitedCapability p tag payload) s =
      .next (settle 65536 ((modPort p (fun x => { x with agreed := some (s.agree p c) }) s).todo (replaceWork p old (s.agree p c)))) :=
  event_todo up.settled ((receiveDown_capability s p tag payload c up link len record).trans
    (unsolicited_hands c up.settled.1 agreed))

/-! ### A rail that loses its path (R17) -/

/-- A rail that is up falls. -/
theorem losePath_falls {s : State} {r : RailId} (h : s.agenda = []) (used : (s.rail r).static.used = true)
    (up : (s.rail r).dyn.state = .rising ∨ (s.rail r).dyn.state = .on) (frame : (s.rail r).dyn.frame = none) :
    losePath r s = (enterState r .falling s).todo [.seqPathLost r, .report r .state, .cascade r 0] := by
  have isUp : (s.rail r).dyn.state.isUp = true := (isUp_iff _).mpr up
  unfold losePath
  dsimp only
  rw [later_eq_todo h]
  have frame' : ((s.todo [.seqPathLost r]).rail r).dyn.frame = none := frame
  have isUp' : ((s.todo [.seqPathLost r]).railState r).isUp = true := (congrArg RailState.isUp (railState_used used)).trans isUp
  rw [frame', Option.isSome_none, if_neg Bool.false_ne_true, if_pos isUp', moveRail_todo r .falling s _ (.inr RailState.noConfusion), isUp]; rfl

/-- The frame record of a rail that is not up is cleared and its place given up. -/
theorem losePath_clears {s : State} {r : RailId} {f : RailFrame} (h : s.agenda = []) (used : (s.rail r).static.used = true)
    (notUp : ¬ ((s.rail r).dyn.state = .rising ∨ (s.rail r).dyn.state = .on)) (frame : (s.rail r).dyn.frame = some f) :
    losePath r s = (withdrawRail r (modDyn r (fun d => { d with frame := none }) s)).todo [.seqPathLost r, .report r .frame] := by
  obtain ⟨w, hw⟩ : ∃ w, w = withdrawRail r (modDyn r (fun d => { d with frame := none }) s) := ⟨_, rfl⟩
  have frame' : ((s.todo [.seqPathLost r]).rail r).dyn.frame = some f := frame
  have cleared : withdrawRail r (clearFrame r (s.todo [.seqPathLost r])) = w.todo [.seqPathLost r, .report r .frame] := by
    rw [hw, ← withdrawRail_todo]; rfl
  have railW : w.rail r = { s.rail r with dyn := { (s.rail r).dyn with frame := none } } := by
    rw [hw]
    have rails : (withdrawRail r (modDyn r (fun d => { d with frame := none }) s)).rails =
      (modDyn r (fun d => { d with frame := none }) s).rails := withdrawRail_rails _ _
    unfold State.rail
    rw [rails]
    exact rail_modDyn_self r _ s
  have down : ¬ ((w.todo [.seqPathLost r, .report r .frame]).railState r).isUp = true := by
    have state : w.railState r = (s.rail r).dyn.state := (railState_used (by rw [railW]; exact used)).trans (by rw [railW])
    rw [show (w.todo [.seqPathLost r, .report r .frame]).railState r = w.railState r from rfl, state, isUp_iff]
    exact notUp
  unfold losePath
  dsimp only
  rw [later_eq_todo h, frame', if_pos (show (some f).isSome = true from rfl), cleared, if_neg down, ← hw]

/-- A rail that is not up and has no frame loses nothing more. -/
theorem losePath_tells {s : State} {r : RailId} (h : s.agenda = []) (used : (s.rail r).static.used = true)
    (notUp : ¬ ((s.rail r).dyn.state = .rising ∨ (s.rail r).dyn.state = .on)) (frame : (s.rail r).dyn.frame = none) :
    losePath r s = s.todo [.seqPathLost r] := by
  have frame' : ((s.todo [.seqPathLost r]).rail r).dyn.frame = none := frame
  have down : ¬ ((s.todo [.seqPathLost r]).railState r).isUp = true := by
    rw [show (s.todo [.seqPathLost r]).railState r = (s.rail r).dyn.state from railState_used used, isUp_iff]
    exact notUp
  unfold losePath
  dsimp only
  rw [later_eq_todo h, frame', Option.isSome_none, if_neg Bool.false_ne_true, if_neg down]

/-- A rail that was up falls with its path, and no dependent follows. -/
theorem settle_pathFalls (m : Nat) (ws : List Work) {s : State} {r : RailId} (calm : s.Calm) (used : (s.rail r).static.used = true)
    (up : (s.rail r).dyn.state = .rising ∨ (s.rail r).dyn.state = .on) (frame : (s.rail r).dyn.frame = none)
    (down : s.NoDependentUp r) :
    settle (m + 6) (s.todo (.pathLost [r] :: ws)) = settle m ((enterState r .falling s).todo ws) := by
  have moved := movedTo_enterState r .falling s
  have calmE := calm_enterState calm r .falling
  refine (settle_hands (m + 5) (.pathLost [r]) ws _ calm.settled.1 rfl (losePath_falls calm.settled.1 used up frame)).trans ?_
  refine (settle_plain (m + 4) (.seqPathLost r) _ calmE.settled.1 rfl (seqPathLost_calm calmE.noRailStep r) calmE.settled.1).trans ?_
  refine (settle_report_calm (m + 1) r .state _ calmE.settled.1 calmE.noHold calmE.noRailStep).trans ?_
  exact settle_cascade_none m r 0 ws calmE.settled.1 (dependents_down_moved moved rfl down)

theorem settle_pathClears (m : Nat) (ws : List Work) {s w : State} {r : RailId} {f : RailFrame} (calm : s.Calm)
    (used : (s.rail r).static.used = true)
    (notUp : ¬ ((s.rail r).dyn.state = .rising ∨ (s.rail r).dyn.state = .on)) (frame : (s.rail r).dyn.frame = some f)
    (hw : w = withdrawRail r (modDyn r (fun d => { d with frame := none }) s)) :
    settle (m + 5) (s.todo (.pathLost [r] :: ws)) = settle m (w.todo ws) := by
  have calmW : w.Calm := calm_congr calm (by rw [hw]; exact withdrawRail_agenda r _) (by rw [hw]; exact withdrawRail_takeDue r _)
    (by rw [hw]; exact withdrawRail_phase r _) (by rw [hw]; exact withdrawRail_fwd r _) (by rw [hw]; exact withdrawRail_seq r _)
  have loses := losePath_clears calm.settled.1 used notUp frame
  rw [← hw] at loses
  refine (settle_hands (m + 4) (.pathLost [r]) ws _ calm.settled.1 rfl loses).trans ?_
  refine (settle_plain (m + 3) (.seqPathLost r) _ calmW.settled.1 rfl (seqPathLost_calm calmW.noRailStep r) calmW.settled.1).trans ?_
  exact settle_report_calm m r .frame ws calmW.settled.1 calmW.noHold calmW.noRailStep

theorem settle_pathTells (m : Nat) (ws : List Work) {s : State} {r : RailId} (calm : s.Calm)
    (used : (s.rail r).static.used = true)
    (notUp : ¬ ((s.rail r).dyn.state = .rising ∨ (s.rail r).dyn.state = .on)) (frame : (s.rail r).dyn.frame = none) :
    settle (m + 2) (s.todo (.pathLost [r] :: ws)) = settle m (s.todo ws) :=
  (settle_hands (m + 1) (.pathLost [r]) ws _ calm.settled.1 rfl (losePath_tells calm.settled.1 used notUp frame)).trans
    (settle_plain m (.seqPathLost r) ws calm.settled.1 rfl (seqPathLost_calm calm.noRailStep r) calm.settled.1)

/-- Two event kinds raised one after the other, and nothing else. -/
theorem settle_twoRaises (m : Nat) {s : State} (k k' : EventKind) (settled : s.Settled) :
    settle (m + 2) (s.todo [.raise k, .raise k']) = raise k' (raise k s) :=
  (settle_raise (m + 1) k _ settled.1).trans ((settle_raise m k' _ (settled_raise k settled).1).trans
    (settle_done m (settled_raise k' (settled_raise k settled))))

/-! ### The last step that a lost path or lost notices end (R57, R63) -/

/-- Work that ends the last step of its program, on whatever state it is taken: the program ends. -/
theorem settle_stepEnds (m : Nat) {s v w : State} {c : Context} {x : Running} {k : Work} (failure : Option FailReason)
    (last : s.LastStep c x) (settledV : v.Settled) (plain : k.isReset = false) (hands : handle k v = stepEnd failure w)
    (tidy : tidyStep (failure == some .noticeTimeout) w = v.tidied c)
    (sched : v.sched = s.sched) (headers : v.seq.headers = s.seq.headers) (steps : v.seq.steps = s.seq.steps)
    (aborts : failure ≠ none → (s.stepAt c.index).onFail = .abort) :
    settle (m + 4) (v.todo [k]) = v.endedWith c (c.endOf failure) := by
  have ended : handle k v = (v.tidied c).todo [.afterStep failure] :=
    hands.trans ((congrArg (later (.afterStep failure)) tidy).trans (later_eq_todo (by exact settledV.1) _))
  refine (settle_hands (m + 3) k [] _ settledV.1 plain ended).trans ?_
  exact settle_lastStep_end m last (settled_tidied c settledV) rfl sched headers steps rfl rfl rfl rfl aborts

theorem seqNoticesLost_fails {s : State} {c : Context} {time : Nat} {p : Port} {cls : Byte} {cancel : Option (Fin 16)}
    (ctx : s.seq.ctx = some c) (kind : (s.stepAt c.index).kind = .awaitNotice time p cls cancel) (waits : c.wait = .notice) :
    seqNoticesLost p s = stepEnd (some .noPath) s := by
  unfold seqNoticesLost
  rw [current_eq ctx kind]
  exact if_pos ⟨rfl, waits⟩

theorem notices_kept (s : State) (p : Port) {c : Capability} {old : Agreed} (keeps : old.notices = true → c.notices = true) :
    (old.notices && !(s.agree p c).notices) = false := by
  have listed : (s.agree p c).notices = c.notices := rfl
  rw [listed]
  cases had : old.notices with
  | false => rfl
  | true => rw [keeps had]; rfl

theorem path_of_port? {x : RailStatic} {p : Port} (port : x.port? = some p) : ∃ i a b, x.path = .board p i a b := by
  unfold RailStatic.port? at port
  cases path : x.path with
  | onPart e => rw [path] at port; exact nomatch port
  | board q i a b =>
    rw [path] at port
    exact ⟨i, a, b, by rw [Option.some.inj port]⟩

/-- What a record hands on that drops the one rail `r` and keeps the notices. -/
theorem replaceWork_drops {s : State} {p : Port} {c : Capability} {old : Agreed} {r : RailId}
    (lost : old.rails.filter (fun q => q ∉ (s.agree p c).rails) = [r]) (new : r ∉ old.mismatch)
    (notices : old.notices = true → c.notices = true) (used : (s.rail r).static.used = true)
    (port : (s.rail r).static.port? = some p) :
    replaceWork p old (s.agree p c) = [.pathLost [r], .raise .capMismatch, .raise .linkChange] := by
  have member : r ∈ old.rails ∧ r ∉ (s.agree p c).rails := by
    have mem : r ∈ old.rails.filter (fun q => q ∉ (s.agree p c).rails) := by rw [lost]; exact List.mem_singleton.mpr rfl
    obtain ⟨had, dropped⟩ := List.mem_filter.mp mem
    exact ⟨had, of_decide_eq_true dropped⟩
  have filtered : old.rails.filter (fun q => !(s.agree p c).rails.contains q) = [r] := by
    rw [← lost]
    refine List.filter_congr fun q _ => ?_
    by_cases listed : q ∈ (s.agree p c).rails
    · rw [List.contains_iff_mem.mpr listed, decide_eq_false (not_not_intro listed)]; rfl
    · rw [Bool.eq_false_iff.mpr (fun yes => listed (List.contains_iff_mem.mp yes)), decide_eq_true listed]; rfl
  have mismatched : r ∈ (s.agree p c).mismatch := by
    obtain ⟨i, a, b, path⟩ := path_of_port? port
    refine (mem_portRails s p c.ids false r).mpr ⟨used, i, a, b, path, Bool.eq_false_iff.mpr fun yes => ?_⟩
    exact member.2 ((mem_portRails s p c.ids true r).mpr ⟨used, i, a, b, path, yes⟩)
  have differs : s.agree p c ≠ old := fun same => member.2 (by rw [same]; exact member.1)
  unfold replaceWork agreedWork
  rw [filtered, if_pos (mismatch_any.mpr ⟨r, mismatched, new⟩), if_neg differs, notices_kept s p notices]; rfl

/-- What a capability record does to a port that listens.

Settles O36: the agreed record and its differences are handed on in order, and with a path lost the rail falls or gives up its
frame before the event kinds are raised. -/
theorem capabilityRecordsBringUpAndReplace : Obligations.CapabilityRecordsBringUpAndReplace := by
  refine ⟨fun s u p tag payload c up len link record hu => ?_, fun s u p tag payload c old up len link record agreed hu => ?_,
    fun s u p tag payload c old r calm len link record agreed hu lost new notices used port => ?_,
    fun s u p tag payload c old x y time cls cancel up len link record agreed hu kept within had lacks last kind waits aborts => ?_⟩
  · have came : s.cameUp p (s.agree p c) = u := hu.symm
    have settledU : u.Settled := by rw [hu]; exact up.settled
    have starts := exec_enterUp tag up len link record
    rw [agreedWork_kept (fun r no => absurd no List.not_mem_nil), came] at starts
    refine ⟨fun none => ?_, fun some => ?_, rfl, rfl, rfl, fun r => ?_, fun r => ?_⟩
    · rw [none] at starts
      rw [starts]
      exact congrArg _ ((settle_raise 65535 .linkChange [] settledU.1).trans (settle_done _ (settled_raise _ settledU)))
    · have any : (s.agree p c).mismatch.any (fun r => !(([], []) : List RailId × List RailId).2.contains r) = true := by
        obtain ⟨r, mem⟩ := List.exists_mem_of_ne_nil _ some
        exact mismatch_any.mpr ⟨r, mem, List.not_mem_nil⟩
      rw [if_pos any] at starts
      rw [starts]
      exact congrArg _ (settle_twoRaises 65534 .capMismatch .linkChange settledU)
    · refine (mem_portRails s p c.ids true r).trans (and_congr_right fun _ => ?_)
      simp only [List.contains_iff_mem]
    · refine (mem_portRails s p c.ids false r).trans (and_congr_right fun _ => ?_)
      simp only [← Bool.not_eq_true, List.contains_iff_mem]
  · have settledU : u.Settled := by rw [hu]; exact up.settled
    have starts := exec_unsolicited tag up len link record agreed
    rw [← hu] at starts
    refine ⟨fun same => ?_, fun differs kept notices => ⟨fun within => ?_, fun r mem new => ?_⟩⟩
    · have work : replaceWork p old (s.agree p c) = [] := by
        unfold replaceWork
        rw [same, agreedWork_kept (fun r mem => mem), if_neg (fun any => ?_), if_pos rfl, Bool.and_not_self]
        · rfl
        · obtain ⟨r, mem, no⟩ := mismatch_any.mp any
          exact no mem
      have stays : u = s := by
        rw [hu, same]
        refine modPort_same p s _ ?_
        rw [← agreed]
      rw [starts, work, stays]
      exact congrArg _ (settle_done _ up.settled)
    · have quiet := notices_kept s p notices
      have work : replaceWork p old (s.agree p c) = [.raise .linkChange] := by
        unfold replaceWork
        rw [agreedWork_kept kept, if_neg (fun any => ?_), if_neg differs, quiet]
        · rfl
        · obtain ⟨r, mem, no⟩ := mismatch_any.mp any
          exact no (within r mem)
      rw [starts, work]
      exact congrArg _ ((settle_raise 65535 .linkChange [] settledU.1).trans (settle_done _ (settled_raise _ settledU)))
    · have quiet := notices_kept s p notices
      have work : replaceWork p old (s.agree p c) = [.raise .capMismatch, .raise .linkChange] := by
        unfold replaceWork
        rw [agreedWork_kept kept, if_pos (mismatch_any.mpr ⟨r, mem, new⟩), if_neg differs, quiet]; rfl
      rw [starts, work]
      exact congrArg _ (settle_twoRaises 65534 .capMismatch .linkChange settledU)
  · have starts := exec_unsolicited tag calm.toUp len link record agreed
    rw [← hu, replaceWork_drops lost new notices used port] at starts
    have calmU : u.Calm := calm_congr calm (by rw [hu]; rfl) (by rw [hu]; rfl) (by rw [hu]; rfl) (by rw [hu]; rfl) (by rw [hu]; rfl)
    have rails : ∀ q, u.rail q = s.rail q := fun q => by rw [hu]; rfl
    refine ⟨fun isUp frame down => ?_, fun f notRising notOn frame => ?_, fun notRising notOn frame => ?_⟩
    · have moved := movedTo_enterState r .falling u
      have timer : ((u.rail r).static.timerMs .falling).map (fun t => u.now + Config.ms t) =
          some (s.now + 2000 * (s.rail r).static.fallMs) := by rw [rails, hu]; rfl
      rw [timer] at moved
      have rest := enterState_rest r .falling u
      have same : u.rails = s.rails ∧ u.en = s.en ∧ u.dis = s.dis ∧ u.chans = s.chans := by rw [hu]; exact ⟨rfl, rfl, rfl, rfl⟩
      obtain ⟨railsU, en, dis, chans⟩ := same
      rw [railsU, en, dis, chans] at rest
      refine ⟨_, ?_, moved, rest⟩
      rw [starts]
      refine congrArg _ ((settle_pathFalls 65530 _ calmU (by rw [rails]; exact used) (by rw [rails]; exact isUp)
        (by rw [rails]; exact frame) (fun d => by rw [rails]; exact down d)).trans ?_)
      exact settle_twoRaises 65528 .capMismatch .linkChange (calm_enterState calmU r .falling).settled
    · obtain ⟨w, hw⟩ : ∃ w, w = withdrawRail r (modDyn r (fun d => { d with frame := none }) u) := ⟨_, rfl⟩
      have settledW : w.Settled := by
        rw [hw]; exact ⟨(withdrawRail_agenda r _).trans calmU.settled.1, (withdrawRail_takeDue r _).trans calmU.settled.2⟩
      rw [starts, ← hw]
      refine congrArg _ ((settle_pathClears 65531 _ calmU (by rw [rails]; exact used)
        (by rw [rails]; exact fun h => h.elim notRising notOn) (by rw [rails]; exact frame) hw).trans ?_)
      exact settle_twoRaises 65529 .capMismatch .linkChange settledW
    · rw [starts]
      refine congrArg _ ((settle_pathTells 65534 _ calmU (by rw [rails]; exact used)
        (by rw [rails]; exact fun h => h.elim notRising notOn) (by rw [rails]; exact frame)).trans ?_)
      exact settle_twoRaises 65532 .capMismatch .linkChange calmU.settled
  · have settledU : u.Settled := by rw [hu]; exact up.settled
    have differs : s.agree p c ≠ old := fun same => by
      have kept : c.notices = true := (congrArg Agreed.notices same).trans had
      rw [lacks] at kept; exact nomatch kept
    have lost : (old.notices && !(s.agree p c).notices) = true := by
      have listed : (s.agree p c).notices = c.notices := rfl
      rw [listed, had, lacks]; rfl
    have work : replaceWork p old (s.agree p c) = [.raise .linkChange, .seqNoticesLost p] := by
      unfold replaceWork
      rw [agreedWork_kept kept, if_neg (fun any => ?_), if_neg differs, if_pos lost]
      · rfl
      · obtain ⟨r, mem, no⟩ := mismatch_any.mp any
        exact no (within r mem)
    obtain ⟨v, hv⟩ : ∃ v, v = raise .linkChange u := ⟨_, rfl⟩
    have settledV : v.Settled := by rw [hv]; exact settled_raise _ settledU
    have seqV : v.seq = s.seq := by rw [hv, raise_seq, hu]; rfl
    have ctxV : v.seq.ctx = some x := by rw [seqV]; exact last.context
    have kindV : (v.stepAt x.index).kind = .awaitNotice time p cls cancel := by
      rw [stepAt_congr (s := s) (by rw [seqV])]; exact kind
    have tidy := tidyStep_awaitNotice (some FailReason.noPath == some .noticeTimeout) ctxV kindV
    rw [if_neg (fun no => nomatch no.1)] at tidy
    have starts := exec_unsolicited tag up len link record agreed
    rw [← hu, work] at starts
    rw [starts]
    refine congrArg _ ((settle_raise 65535 .linkChange _ settledU.1).trans ?_)
    rw [← hv]
    exact settle_stepEnds 65531 (some .noPath) last settledV rfl (seqNoticesLost_fails ctxV kindV waits) tidy
      (by rw [hv, raise_sched, hu]; rfl) (by rw [seqV]) (by rw [seqV]) (fun _ => aborts)

end Sys2Proof.Machine
end

section
/-! A port leaves UP: its commands are answered, its rails lose their paths, and the Sequencer's frames are withdrawn
(R17, R50, R64, R133, R140, R163). -/

namespace Sys2Proof.Machine

/-! ### The flush of the forward queue (R163) -/

theorem setQueue_same {s : State} {p : Port} {l : List Cmd} (same : s.queue p = l) : setQueue p l s = s := by
  subst same
  unfold setQueue State.queue
  have queues : s.fwd.queues.set p.idx (s.fwd.queues.get p.idx) = s.fwd.queues := by
    apply Vector.ext
    intro i h
    rw [Vector.getElem_set]
    split
    · next eq => subst eq; rfl
    · rfl
  rw [queues]

theorem setQueue_setQueue (p : Port) (l l' : List Cmd) (s : State) : setQueue p l (setQueue p l' s) = setQueue p l s := by
  unfold setQueue
  dsimp only
  rw [Vector.set_set]

/-- The commands of a departed port's queue are answered, one after the other. -/
def State.flushed (s : State) (p : Port) (l : List Cmd) : State :=
  { setQueue p [] s with
    up := { s.up with tx := s.up.tx ++ l.map (fun c => replyEntry (replyFrame c.frame stLinkDown [])) } }

theorem flushQueue_noHold (p : Port) : ∀ (l : List Cmd) (s : State), s.queue p = l → s.fwd.hold = [] → s.up.present = true →
    flushQueue p l s = s.flushed p l
  | [], s, queue, _, _ => by
    unfold State.flushed
    rw [setQueue_same queue, List.map_nil, List.append_nil]; rfl
  | c :: l, s, queue, hold, present => by
    obtain ⟨t, ht⟩ : ∃ t, t = (setQueue p l s).answered c.frame stLinkDown [] := ⟨_, rfl⟩
    have answers : answer c.frame stLinkDown (setQueue p l s) = t := by rw [ht]; exact placeUp_present _ present
    have queueT : t.queue p = l := by rw [ht, queue_answered, queue_setQueue, if_pos rfl]
    have step : flushQueue p (c :: l) s = flushQueue p l t := by
      conv => lhs; unfold flushQueue
      rw [answers, rescan_none (by rw [ht]; exact hold)]
    rw [step, flushQueue_noHold p l t queueT (by rw [ht]; exact hold) (by rw [ht]; exact present), ht]
    unfold State.flushed State.answered State.placed
    dsimp only
    rw [List.append_assoc]
    exact congrArg (fun z : State => { z with
      up := { s.up with
        tx := s.up.tx ++ (c :: l).map (fun c : Cmd => replyEntry (replyFrame c.frame stLinkDown [])) } }) (setQueue_setQueue p [] l s)

theorem flushHold_none {s : State} (p : Port) (hold : s.fwd.hold = []) : flushHold p s = s := by
  unfold flushHold
  rw [hold]; rfl

/-! ### The port's record (R133, R140) -/

/-- The lane of a port that has left UP: a frame under way is cut off (R140). -/
def DownLine.cut (now : Time) : DownLine → DownLine
  | .sending _ _ _ => .stretch (now + 10)
  | l => l

/-- The port has left UP, before anything is handed on. -/
def State.leftUp (s : State) (p : Port) : State :=
  modPort p (fun x => { x with link := .down, agreed := none, latch := false, line := x.line.cut s.now }) s

theorem cutOff_cut (p : Port) (s : State) : cutOff p s = modPort p (fun x => { x with line := x.line.cut s.now }) s := cutOff_eq p s

theorem leftUp_eq (p : Port) (s : State) :
    modPort p (fun x => { x with link := .down, agreed := none, latch := false }) (cutOff p s) = s.leftUp p := by
  rw [cutOff_cut, modPort_modPort]; rfl

theorem cut_idle {l : DownLine} {now : Time} {o : Option Claimant} {f : Frame} {d : Time} : l.cut now ≠ .sending o f d := by
  unfold DownLine.cut
  split
  · exact DownLine.noConfusion
  · next other => exact other o f d

/-- A port that leaves UP hands on, once its held and queued commands are answered, the rest of the rule's items. -/
theorem leaveUp_hands {s w : State} {p : Port}
    (flushes : flushQueue p ((flushHold p (s.leftUp p)).queue p) (flushHold p (s.leftUp p)) = w) (agenda : w.agenda = []) :
    leaveUp p s = w.todo [.flushOut p, .pathLost (s.agreedRails p), .seqPortDown p, .raise .linkChange] := by
  unfold leaveUp portFlush
  dsimp only
  rw [leftUp_eq, flushes, later_eq_todo agenda]; rfl

/-- The same with nothing held. -/
theorem leaveUp_noHold {s : State} {p : Port} (agenda : s.agenda = []) (hold : s.fwd.hold = []) (present : s.up.present = true) :
    leaveUp p s = ((s.leftUp p).flushed p (s.queue p)).todo
      [.flushOut p, .pathLost (s.agreedRails p), .seqPortDown p, .raise .linkChange] := by
  refine leaveUp_hands ?_ (by exact agenda)
  rw [flushHold_none p (by exact hold)]
  exact flushQueue_noHold p (s.queue p) (s.leftUp p) rfl hold present

/-! ### The outstanding commands (R18, R163) -/

theorem flushOut_none {s : State} {p : Port} (none : s.outs p = []) : flushOut p s = s := by
  unfold flushOut
  rw [none]

theorem flushOut_hands {s : State} {p : Port} {e : OutEntry} {l : List OutEntry} (h : s.agenda = []) (present : s.up.present = true)
    (outs : s.outs p = e :: l) : flushOut p s =
      ((setOuts p l s).answered e.cmd.frame stLinkDown []).todo (releaseWork p e ++ [.flushOut p]) := by
  have answers : answer e.cmd.frame stLinkDown (setOuts p l s) = (setOuts p l s).answered e.cmd.frame stLinkDown [] :=
    placeUp_present _ present
  unfold flushOut
  rw [outs]
  dsimp only
  rw [answers, releaseOut_hands p e (by exact h)]; rfl

/-- One of these outstanding commands of port `p` holds the claim of rail `r`. -/
def State.Holds (s : State) (p : Port) (l : List OutEntry) (r : RailId) : Prop :=
  ∃ e ∈ l, ∃ isOn, e.claimMark = true ∧ e.cmd.effect = some (r, isOn) ∧ (s.rail r).dyn.claim = .frame p e.cmd.frame.tag

theorem holds_cons {s : State} {p : Port} {e : OutEntry} {l : List OutEntry} {r : RailId} :
    s.Holds p (e :: l) r ↔ s.Holds p [e] r ∨ s.Holds p l r := by
  unfold State.Holds
  simp only [List.mem_cons, List.not_mem_nil, or_false, exists_eq_or_imp, exists_eq_left]

/-- The claims of the rails that `holds` names are gone in `t`, and nothing else differs from `s`. -/
structure State.Unheld (holds : RailId → Prop) (s t : State) : Prop where
  dropped : ∀ r, holds r → t.rail r = { s.rail r with dyn := { (s.rail r).dyn with claim := .none } }
  kept : ∀ r, ¬ holds r → t.rail r = s.rail r
  rest : { t with rails := s.rails } = s

theorem unheld_refl {holds : RailId → Prop} {s : State} (no : ∀ r, ¬ holds r) : State.Unheld holds s s :=
  ⟨fun r yes => absurd yes (no r), fun _ _ => rfl, rfl⟩

/-- The entry holds the claim of its effect's rail alone, where it carries the claim mark. -/
theorem holds_single {s : State} {p : Port} {e : OutEntry} {q r : RailId} {isOn : Bool} (marked : e.claimMark = true)
    (effect : e.cmd.effect = some (q, isOn)) :
    s.Holds p [e] r ↔ r = q ∧ (s.rail q).dyn.claim = .frame p e.cmd.frame.tag := by
  constructor
  · rintro ⟨x, mem, _, _, own, claim⟩
    rw [List.mem_singleton.mp mem] at own claim
    rw [effect] at own
    obtain rfl : q = r := (Prod.mk.inj (Option.some.inj own)).1
    exact ⟨rfl, claim⟩
  · rintro ⟨rfl, claim⟩
    exact ⟨e, List.mem_singleton.mpr rfl, isOn, marked, effect, claim⟩

theorem holds_none {s : State} {p : Port} {e : OutEntry} (free : e.claimMark = false ∨ e.cmd.effect = none) (r : RailId) :
    ¬ s.Holds p [e] r := by
  rintro ⟨x, mem, _, marked, own, _⟩
  rw [List.mem_singleton.mp mem] at marked own
  rcases free with unmarked | noEffect
  · rw [unmarked] at marked; exact nomatch marked
  · rw [noEffect] at own; exact nomatch own

/-- The answered entry's claim, where it has one, goes with its report. -/
theorem settle_releaseWork (n : Nat) (ws : List Work) {s : State} (p : Port) (e : OutEntry) (calm : s.Calm) :
    ∃ (k : Nat) (t : State), n ≤ k ∧ settle (n + 4) (s.todo (releaseWork p e ++ ws)) = settle k (t.todo ws) ∧ t.Calm ∧
      State.Unheld (s.Holds p [e]) s t := by
  have idle : releaseWork p e = [] → (∀ r, ¬ s.Holds p [e] r) → ∃ (k : Nat) (t : State), n ≤ k ∧
      settle (n + 4) (s.todo (releaseWork p e ++ ws)) = settle k (t.todo ws) ∧ t.Calm ∧ State.Unheld (s.Holds p [e]) s t :=
    fun work no => ⟨n + 4, s, by omega, by rw [work, List.nil_append], calm, unheld_refl no⟩
  cases effect : e.cmd.effect with
  | none => exact idle (by unfold releaseWork; rw [effect]) (holds_none (.inr effect))
  | some x =>
    obtain ⟨q, isOn⟩ := x
    cases marked : e.claimMark with
    | false => exact idle (releaseWork_unmarked p marked) (holds_none (.inl marked))
    | true =>
      rw [releaseWork_marked marked effect]
      by_cases claim : (s.rail q).dyn.claim = .frame p e.cmd.frame.tag
      · refine ⟨n, s.unclaimed q, Nat.le_refl n, ?_, calm_congr calm rfl rfl rfl rfl rfl, fun r holds => ?_, fun r no => ?_, rfl⟩
        · refine (settle_hands (n + 3) (.releaseFrame q p e.cmd.frame.tag) ws _ calm.settled.1 rfl
            (releaseFrame_held calm.settled.1 claim)).trans ?_
          exact settle_report_calm n q .claim ws (s := s.unclaimed q) (by exact calm.settled.1) (by exact calm.noHold)
            (by exact calm.noRailStep)
        · obtain ⟨rfl, _⟩ := (holds_single marked effect).mp holds
          exact rail_unclaimed_self s r
        · exact rail_unclaimed_other s (fun same => no ((holds_single marked effect).mpr ⟨same, claim⟩))
      · refine ⟨n + 3, s, by omega, ?_, calm, unheld_refl fun r holds => claim ((holds_single marked effect).mp holds).2⟩
        exact settle_plain (n + 3) (.releaseFrame q p e.cmd.frame.tag) ws calm.settled.1 rfl (if_neg claim) calm.settled.1

/-- The outstanding commands of a departed port are answered. -/
def State.outsFlushed (s : State) (p : Port) (l : List OutEntry) : State :=
  { setOuts p [] s with
    up := { s.up with tx := s.up.tx ++ l.map (fun e => replyEntry (replyFrame e.cmd.frame stLinkDown [])) } }

theorem setOuts_same {s : State} {p : Port} {l : List OutEntry} (same : s.outs p = l) : setOuts p l s = s := by
  subst same
  unfold setOuts State.outs
  have outs : s.fwd.outs.set p.idx (s.fwd.outs.get p.idx) = s.fwd.outs := by
    apply Vector.ext
    intro i h
    rw [Vector.getElem_set]
    split
    · next eq => subst eq; rfl
    · rfl
  rw [outs]

theorem setOuts_setOuts (p : Port) (l l' : List OutEntry) (s : State) : setOuts p l (setOuts p l' s) = setOuts p l s := by
  unfold setOuts
  dsimp only
  rw [Vector.set_set]

theorem outsFlushed_cons (s : State) (p : Port) (e : OutEntry) (l : List OutEntry) :
    ((setOuts p l s).answered e.cmd.frame stLinkDown []).outsFlushed p l = s.outsFlushed p (e :: l) := by
  unfold State.outsFlushed State.answered State.placed
  dsimp only
  rw [List.append_assoc]
  exact congrArg (fun z : State => { z with
    up := { s.up with
      tx := s.up.tx ++ (e :: l).map (fun e : OutEntry => replyEntry (replyFrame e.cmd.frame stLinkDown [])) } })
    (setOuts_setOuts p [] l s)

/-- The claims of the first entry and those of the rest, one after the other. -/
theorem unheld_cons {s t t' : State} {p : Port} {e : OutEntry} {l : List OutEntry}
    (first : State.Unheld (s.Holds p [e]) ((setOuts p l s).answered e.cmd.frame stLinkDown []) t)
    (others : State.Unheld (t.Holds p l) (t.outsFlushed p l) t') :
    State.Unheld (s.Holds p (e :: l)) (s.outsFlushed p (e :: l)) t' := by
  refine ⟨fun r holds => ?_, fun r no => ?_, ?_⟩
  · by_cases own : s.Holds p [e] r
    · have gone := first.dropped r own
      have free : ¬ t.Holds p l r := by
        rintro ⟨x, _, _, _, _, claim⟩
        rw [gone] at claim; exact nomatch claim
      exact (others.kept r free).trans gone
    · have same := first.kept r own
      obtain ⟨x, mem, isOn, marked, effect, claim⟩ := (holds_cons.mp holds).resolve_left own
      have still : t.Holds p l r := ⟨x, mem, isOn, marked, effect, by rw [same]; exact claim⟩
      refine (others.dropped r still).trans ?_
      rw [show (t.outsFlushed p l).rail r = s.rail r from same]; rfl
  · have own : ¬ s.Holds p [e] r := fun yes => no (holds_cons.mpr (.inl yes))
    have same := first.kept r own
    have free : ¬ t.Holds p l r := by
      rintro ⟨x, mem, isOn, marked, effect, claim⟩
      rw [same] at claim
      exact no (holds_cons.mpr (.inr ⟨x, mem, isOn, marked, effect, claim⟩))
    exact (others.kept r free).trans same
  · have left := congrArg (fun z : State => { z with rails := s.rails }) others.rest
    have base := congrArg (fun z : State => z.outsFlushed p l) first.rest
    rw [outsFlushed_cons] at base
    exact left.trans base

/-- Every outstanding command of the port is answered and its claim released. -/
theorem settle_flushOut (p : Port) (ws : List Work) : ∀ (l : List OutEntry) (n : Nat) (s : State), s.Calm → s.up.present = true →
    s.outs p = l → ∃ (k : Nat) (t : State), n ≤ k ∧
      settle (n + 5 * l.length + 1) (s.todo (.flushOut p :: ws)) = settle k (t.todo ws) ∧ t.Calm ∧
      State.Unheld (s.Holds p l) (s.outsFlushed p l) t
  | [], n, s, calm, _, outs => by
    have same : s.outsFlushed p [] = s := by
      unfold State.outsFlushed
      rw [setOuts_same outs, List.map_nil, List.append_nil]
    refine ⟨n, s, Nat.le_refl n, settle_plain n (.flushOut p) ws calm.settled.1 rfl (flushOut_none outs) calm.settled.1, calm, ?_⟩
    rw [same]
    exact unheld_refl fun r ⟨x, mem, _⟩ => nomatch mem
  | e :: l, n, s, calm, present, outs => by
    obtain ⟨a, ha⟩ : ∃ a, a = (setOuts p l s).answered e.cmd.frame stLinkDown [] := ⟨_, rfl⟩
    have calmA : a.Calm := by
      rw [ha]
      exact ⟨⟨calm.settled, calm.running⟩, calm.noHold, calm.noRailStep⟩
    have hands := flushOut_hands calm.settled.1 present outs
    rw [← ha] at hands
    obtain ⟨k, t, enough, work, calmT, first⟩ := settle_releaseWork (n + 5 * l.length + 1) (.flushOut p :: ws) p e calmA
    have holdsA : a.Holds p [e] = s.Holds p [e] := by rw [ha]; rfl
    rw [holdsA, ha] at first
    have fwd : t.fwd = a.fwd := by rw [ha]; exact (congrArg State.fwd first.rest :)
    have up : t.up = a.up := by rw [ha]; exact (congrArg State.up first.rest :)
    have outsT : t.outs p = l := by
      unfold State.outs
      rw [fwd, ha]
      exact (outs_setOuts p p l s).trans (if_pos rfl)
    obtain ⟨m, hm⟩ := Nat.exists_eq_add_of_le enough
    obtain ⟨k', t', enough', work', calmT', others⟩ := settle_flushOut p ws l (n + m) t calmT (by rw [up, ha]; exact present) outsT
    refine ⟨k', t', by omega, ?_, calmT', unheld_cons first others⟩
    have fuel : n + 5 * (e :: l).length + 1 = (n + 5 * l.length + 1 + 4) + 1 := by rw [List.length_cons]; omega
    rw [fuel]
    refine (settle_hands _ (.flushOut p) ws _ calm.settled.1 rfl hands).trans ?_
    rw [List.append_assoc]
    refine work.trans ?_
    rw [hm, show n + 5 * l.length + 1 + m = n + m + 5 * l.length + 1 by omega]
    exact work'

/-! ### The Sequencer's frames at the port (R50, R64, R133 item 4) -/

/-- The cancel record after the port has left UP: gone where its frame still waited there (R64). -/
def State.cancelKept (s : State) (p : Port) : Option (Port × Byte) :=
  match s.seq.cancel with
  | some (q, tag) => if q = p ∧ (s.port p).cancelWaits tag = true then none else some (q, tag)
  | none => none

/-- The Sequencer's frames of the port withdrawn. -/
def State.withdrawnSeq (s : State) (p : Port) : State :=
  modPort p (fun x => { x with seqOffer := none, seqBehind := [] }) { s with seq := { s.seq with cancel := s.cancelKept p } }

/-- What a running step makes of its port's departure: a SEND step with its frame there and an AWAIT_NOTICE step of the port
fail NO_PATH (R133 item 4). -/
def stepPortDown (p : Port) (s : State) : State :=
  match s.current with
  | some (c, .send _) =>
    match c.frame with
    | some f => if f.port = p then stepFail .noPath s else s
    | none => s
  | some (c, .awaitNotice _ q _ _) => if q = p ∧ c.wait = .notice then stepFail .noPath s else s
  | _ => s

theorem seqPortDown_eq (p : Port) (s : State) : seqPortDown p s = stepPortDown p (s.withdrawnSeq p) := by
  have self : ∀ k, s.seq.cancel = k → s = { s with seq := { s.seq with cancel := k } } := fun k same => by rw [← same]
  unfold seqPortDown
  cases cancel : s.seq.cancel with
  | none =>
    have kept : s.withdrawnSeq p = withdrawSeqAll p s := by
      unfold State.withdrawnSeq State.cancelKept
      rw [cancel, ← self none cancel]; rfl
    rw [kept]; rfl
  | some x =>
    obtain ⟨q, tag⟩ := x
    by_cases waits : q = p ∧ (s.port p).cancelWaits tag = true
    · have gone : s.withdrawnSeq p = withdrawSeqAll p { s with seq := { s.seq with cancel := none } } := by
        unfold State.withdrawnSeq State.cancelKept
        rw [cancel]
        dsimp only
        rw [if_pos waits]; rfl
      rw [gone]
      dsimp only
      rw [if_pos waits]; rfl
    · have kept : s.withdrawnSeq p = withdrawSeqAll p s := by
        unfold State.withdrawnSeq State.cancelKept
        rw [cancel]
        dsimp only
        rw [if_neg waits, ← self (some (q, tag)) cancel]; rfl
      rw [kept]
      dsimp only
      rw [if_neg waits]; rfl

theorem seqPortDown_idle {s : State} (p : Port) (idle : s.seq.ctx = none) : seqPortDown p s = s.withdrawnSeq p := by
  have none : (s.withdrawnSeq p).current = none := by
    show s.seq.ctx.map _ = none
    rw [idle]; rfl
  rw [seqPortDown_eq]
  unfold stepPortDown
  rw [none]

/-- The running step waits on this port, with its frame or for its notice. -/
def State.StepOnPort (s : State) (p : Port) (c : Context) : Prop :=
  (∃ n f, (s.stepAt c.index).kind = .send n ∧ c.frame = some f ∧ f.port = p) ∨
    (∃ time cls cancel, (s.stepAt c.index).kind = .awaitNotice time p cls cancel ∧ c.wait = .notice)

theorem seqPortDown_fails {s : State} {p : Port} {c : Context} (ctx : s.seq.ctx = some c) (waits : s.StepOnPort p c) :
    seqPortDown p s = stepEnd (some .noPath) (s.withdrawnSeq p) := by
  rw [seqPortDown_eq]
  unfold stepPortDown
  rcases waits with ⟨n, f, kind, frame, port⟩ | ⟨time, cls, cancel, kind, wait⟩
  · rw [current_eq (s := s.withdrawnSeq p) ctx kind]
    dsimp only
    rw [frame]
    exact if_pos port
  · rw [current_eq (s := s.withdrawnSeq p) ctx kind]
    exact if_pos ⟨rfl, wait⟩

theorem arbitrate_deaf {s : State} {p : Port} (down : (s.port p).link = .down) : arbitrate p s = s := by
  unfold arbitrate
  dsimp only
  rw [down]
  exact if_neg (by simp)

/-- A withdrawn SEND frame has nothing left to withdraw on a port that is down. -/
theorem withdrawSend_gone {s : State} {p : Port} (down : (s.port p).link = .down) (noOffer : (s.port p).seqOffer = none)
    (noBehind : (s.port p).seqBehind = []) : withdrawSend p s = s := by
  unfold withdrawSend
  rw [modPort_same p s _ ?_, arbitrate_deaf down]
  dsimp only
  rw [noOffer]
  dsimp only
  rw [noBehind, List.filter_nil, ← noBehind, ← noOffer]

/-- The step that fails with its port leaves nothing of its own behind. -/
theorem tidyStep_portDown {s : State} {p : Port} {c : Context} (ctx : s.seq.ctx = some c) (waits : s.StepOnPort p c)
    (down : (s.port p).link = .down) :
    tidyStep (some FailReason.noPath == some .noticeTimeout) (s.withdrawnSeq p) = (s.withdrawnSeq p).tidied c := by
  have port : (s.withdrawnSeq p).port p = { s.port p with seqOffer := none, seqBehind := [] } := port_modPort_self p _ _
  rcases waits with ⟨n, f, kind, frame, own⟩ | ⟨time, cls, cancel, kind, wait⟩
  · rw [tidyStep_send (s := s.withdrawnSeq p) _ ctx kind frame, own,
      withdrawSend_gone (by rw [port]; exact down) (by rw [port]) (by rw [port])]
  · have tidy := tidyStep_awaitNotice (s := s.withdrawnSeq p) (some FailReason.noPath == some .noticeTimeout) ctx kind
    rw [if_neg (fun no => nomatch no.1)] at tidy
    exact tidy

/-! ### A rail's frame at the port that is gone (R5, R17) -/

theorem refillPlaces_none {s : State} (p : Port) (none : ∀ q, (s.rail q).dyn.frame = none) : refillPlaces p s = s := by
  have empty : allRails.filter (s.railWaits p) = [] := by
    rw [List.filter_eq_nil_iff]
    intro q _
    unfold State.railWaits
    rw [none q]
    simp
  unfold refillPlaces
  refine modPort_same p s _ ?_
  rw [empty, List.take_nil, List.append_nil]

/-- The place of a cleared frame is given up; on a port that is down nothing takes it. -/
theorem withdrawRail_down {s : State} {p : Port} {r : RailId} (port : (s.rail r).static.port? = some p)
    (down : (s.port p).link = .down) (idle : ∀ o f d, (s.port p).line ≠ .sending o f d)
    (others : ∀ q, (s.rail q).dyn.frame = none) :
    withdrawRail r s = modPort p (fun x => { x with railPlaces := x.railPlaces.filter (fun q => q != r) }) s := by
  have owner : (s.port p).owner = none := by
    unfold PortRec.owner
    split
    · next o f d line => exact absurd line (idle o f d)
    · rfl
  obtain ⟨w, hw⟩ : ∃ w, w = modPort p (fun x => { x with railPlaces := x.railPlaces.filter (fun q => q != r) }) s := ⟨_, rfl⟩
  have portW : w.port p = { s.port p with railPlaces := (s.port p).railPlaces.filter (fun q => q != r) } := by
    rw [hw]; exact port_modPort_self p _ s
  unfold withdrawRail
  rw [port]
  dsimp only
  rw [modPort_congr (g := fun x => { x with railPlaces := x.railPlaces.filter (fun q => q != r) }) ?_, ← hw,
    refillPlaces_none p (by rw [hw]; exact others), arbitrate_deaf (by rw [portW]; exact down)]
  exact if_neg (by
    rw [show PortRec.owner { s.port p with railPlaces := (s.port p).railPlaces.filter (fun q => q != r) } = none from owner]
    simp)

/-! ### The statement -/

theorem presentFall_running {s : State} (p : Port) (up : s.Up) :
    presentFall p s = toDown p (modPort p (fun x => { x with present := false }) s) := if_pos up.running

/-- A port in UP whose PRESENT falls, with nothing held: what is left to take. -/
theorem presentFall_up {s a : State} {p : Port} (up : s.Up) (hold : s.fwd.hold = []) (present : s.up.present = true)
    (link : (s.port p).link = .up) (ha : a = modPort p (fun x => { x with present := false }) s) :
    presentFall p s = ((a.leftUp p).flushed p (s.queue p)).todo
      [.flushOut p, .pathLost (s.agreedRails p), .seqPortDown p, .raise .linkChange] := by
  have portA : a.port p = { s.port p with present := false } := by rw [ha]; exact port_modPort_self p _ s
  have down : toDown p a = leaveUp p a := by
    unfold toDown
    rw [portA]
    dsimp only
    rw [link]
  have rails : a.agreedRails p = s.agreedRails p := by
    unfold State.agreedRails
    rw [portA]
  rw [presentFall_running p up, ← ha, down, leaveUp_noHold (by rw [ha]; exact up.settled.1) (by rw [ha]; exact hold)
    (by rw [ha]; exact present), rails, show a.queue p = s.queue p by rw [ha]; rfl]

theorem outsFlushed_nil {s : State} {p : Port} (none : s.outs p = []) : s.outsFlushed p [] = s := by
  unfold State.outsFlushed
  rw [setOuts_same none, List.map_nil, List.append_nil]

/-- A port that has left UP differs in its own record alone: it is down, and its lane sends nothing. -/
theorem leftUp_shape (s : State) (p : Port) : ∃ ps, s.leftUp p = { s with ports := ps } ∧
    (({ s with ports := ps } : State).port p).link = .down ∧
    ∀ o f d, (({ s with ports := ps } : State).port p).line ≠ .sending o f d := by
  have port : (s.leftUp p).port p = { s.port p with
      link := .down, agreed := none, latch := false, line := (s.port p).line.cut s.now } := port_modPort_self p _ s
  obtain ⟨ps, hps⟩ : ∃ ps, ps = (s.leftUp p).ports := ⟨_, rfl⟩
  have shape : s.leftUp p = { s with ports := ps } := by rw [hps]; rfl
  refine ⟨ps, shape, ?_, fun o f d => ?_⟩
  · rw [← shape, port]
  · rw [← shape, port]; exact cut_idle

theorem cancelKept_flushed (s : State) (p q : Port) (l : List Cmd) : (s.flushed p l).cancelKept q = s.cancelKept q := rfl

theorem cancelKept_outsFlushed (s : State) (p q : Port) (l : List OutEntry) : (s.outsFlushed p l).cancelKept q = s.cancelKept q := rfl

/-- The port's record, and what its flush leaves, once the Sequencer's frames are withdrawn too. -/
theorem portGone_eq {s : State} {p : Port} {F : PortRec → PortRec} {k : Option (Port × Byte)} (hk : k = s.cancelKept p)
    (hF : ∀ x : PortRec, F x = { x with
      present := false, link := .down, agreed := none, latch := false, seqOffer := none, seqBehind := [], line := x.line.cut s.now }) :
    ((((modPort p (fun x => { x with present := false }) s).leftUp p).flushed p (s.queue p)).outsFlushed p (s.outs p)).withdrawnSeq p =
      modPort p F (setOuts p [] (setQueue p [] { s with
        seq := { s.seq with cancel := k }
        up := { s.up with
          tx := s.up.tx ++ (s.queue p).map (fun c => replyEntry (replyFrame c.frame stLinkDown [])) ++
            (s.outs p).map (fun e => replyEntry (replyFrame e.cmd.frame stLinkDown [])) } })) := by
  obtain ⟨b, hb⟩ : ∃ b, b = (modPort p (fun x => { x with present := false }) s).leftUp p := ⟨_, rfl⟩
  have left : b = modPort p (fun x => { x with
      present := false, link := .down, agreed := none, latch := false, line := x.line.cut s.now }) s := by
    rw [hb]
    unfold State.leftUp
    rw [modPort_modPort]; rfl
  obtain ⟨ps, hps⟩ : ∃ ps, ps = b.ports := ⟨_, rfl⟩
  have shape : b = { s with ports := ps } := by rw [hps, left]; rfl
  have port : b.port p = { s.port p with
      present := false, link := .down, agreed := none, latch := false, line := (s.port p).line.cut s.now } := by
    rw [left, port_modPort_self]
  have kept : b.cancelKept p = k := by
    rw [hk]
    unfold State.cancelKept
    rw [port, shape]; rfl
  have withdrawn : (modPort p (fun x => { x with seqOffer := none, seqBehind := [] }) b).ports = (modPort p F s).ports := by
    rw [left, modPort_modPort]
    exact congrArg (fun G => (modPort p G s).ports) (funext fun x => (hF x).symm)
  rw [← hb]
  unfold State.withdrawnSeq
  rw [cancelKept_outsFlushed, cancelKept_flushed, kept]
  rw [shape] at withdrawn ⊢
  exact congrArg (fun z : Vector PortRec 5 => { setOuts p [] (setQueue p [] { s with
    seq := { s.seq with cancel := k }
    up := { s.up with
      tx := s.up.tx ++ (s.queue p).map (fun c : Cmd => replyEntry (replyFrame c.frame stLinkDown [])) ++
        (s.outs p).map (fun e : OutEntry => replyEntry (replyFrame e.cmd.frame stLinkDown [])) } }) with
    ports := z }) withdrawn

/-! ### The items that the port's departure hands on -/

/-- With no program the Sequencer withdraws its frames and LINK_CHANGE ends the event. -/
theorem settle_seqDeparts (m : Nat) (ws : List Work) {v : State} (p : Port) (settled : v.Settled) (idle : v.seq.ctx = none) :
    settle (m + 2) (v.todo (.seqPortDown p :: .raise .linkChange :: ws)) =
      settle m ((raise .linkChange (v.withdrawnSeq p)).todo ws) :=
  (settle_plain (m + 1) (.seqPortDown p) _ settled.1 rfl (seqPortDown_idle p idle) (by exact settled.1)).trans
    (settle_raise m .linkChange ws (s := v.withdrawnSeq p) (by exact settled.1))

theorem settle_seqDepartsLast (m : Nat) {v : State} (p : Port) (settled : v.Settled) (idle : v.seq.ctx = none) :
    settle (m + 2) (v.todo [.seqPortDown p, .raise .linkChange]) = raise .linkChange (v.withdrawnSeq p) :=
  (settle_seqDeparts m [] p settled idle).trans (settle_done m (settled_raise _ (by exact settled)))

/-- No program runs and no path is lost: the outstanding commands, the Sequencer's frames, LINK_CHANGE. -/
theorem settle_departs {v : State} {p : Port} (calm : v.Calm) (present : v.up.present = true) (idle : v.seq.ctx = none)
    (few : (v.outs p).length ≤ 4) :
    ∃ t : State, settle 65536 (v.todo [.flushOut p, .pathLost [], .seqPortDown p, .raise .linkChange]) =
      raise .linkChange (t.withdrawnSeq p) ∧ State.Unheld (v.Holds p (v.outs p)) (v.outsFlushed p (v.outs p)) t := by
  obtain ⟨m, hm⟩ : ∃ m, 65536 = (m + 3) + 5 * (v.outs p).length + 1 := ⟨65532 - 5 * (v.outs p).length, by omega⟩
  obtain ⟨k, t, enough, work, calmT, unheld⟩ :=
    settle_flushOut p [.pathLost [], .seqPortDown p, .raise .linkChange] (v.outs p) (m + 3) v calm present rfl
  obtain ⟨n, hn⟩ := Nat.exists_eq_add_of_le enough
  have idleT : t.seq.ctx = none := (congrArg (fun z : State => z.seq.ctx) unheld.rest).trans idle
  refine ⟨t, ?_, unheld⟩
  rw [hm, work, hn, show m + 3 + n = m + n + 2 + 1 by omega]
  refine (settle_plain (m + n + 2) (.pathLost []) _ calmT.settled.1 rfl (show handle (.pathLost []) t = t from rfl)
    calmT.settled.1).trans ?_
  exact settle_seqDepartsLast (m + n) p calmT.settled idleT

/-- Nothing is outstanding and no path is lost, with no program. -/
theorem settle_departsQuiet (m : Nat) (ws : List Work) {v : State} {p : Port} (settled : v.Settled) (idle : v.seq.ctx = none)
    (outs : v.outs p = []) :
    settle (m + 4) (v.todo (.flushOut p :: .pathLost [] :: .seqPortDown p :: .raise .linkChange :: ws)) =
      settle m ((raise .linkChange (v.withdrawnSeq p)).todo ws) := by
  refine (settle_plain (m + 3) (.flushOut p) _ settled.1 rfl (flushOut_none outs) settled.1).trans ?_
  refine (settle_plain (m + 2) (.pathLost []) _ settled.1 rfl (show handle (.pathLost []) v = v from rfl) settled.1).trans ?_
  exact settle_seqDeparts m ws p settled idle

/-- Nothing is outstanding and one rail in RISING or ON loses its path: it falls. -/
theorem settle_departsFalling (m : Nat) (ws : List Work) {v : State} {p : Port} {r : RailId} (calm : v.Calm)
    (idle : v.seq.ctx = none) (outs : v.outs p = [])
    (used : (v.rail r).static.used = true) (up : (v.rail r).dyn.state = .rising ∨ (v.rail r).dyn.state = .on)
    (frame : (v.rail r).dyn.frame = none) (down : v.NoDependentUp r) :
    settle (m + 9) (v.todo (.flushOut p :: .pathLost [r] :: .seqPortDown p :: .raise .linkChange :: ws)) =
      settle m ((raise .linkChange ((enterState r .falling v).withdrawnSeq p)).todo ws) := by
  have calmE := calm_enterState calm r .falling
  refine (settle_plain (m + 8) (.flushOut p) _ calm.settled.1 rfl (flushOut_none outs) calm.settled.1).trans ?_
  refine (settle_pathFalls (m + 2) _ calm used up frame down).trans ?_
  exact settle_seqDeparts m ws p calmE.settled (by rw [enterState_seq]; exact idle)

/-- The same of a rail in another state that has a frame record: the record becomes absent, and the port's place with it. -/
theorem settle_departsClearing {v : State} {p : Port} {r : RailId} {f : RailFrame} (calm : v.Calm) (idle : v.seq.ctx = none)
    (outs : v.outs p = []) (used : (v.rail r).static.used = true) (port : (v.rail r).static.port? = some p)
    (notUp : ¬ ((v.rail r).dyn.state = .rising ∨ (v.rail r).dyn.state = .on)) (frame : (v.rail r).dyn.frame = some f)
    (others : ∀ q, q ≠ r → (v.rail q).dyn.frame = none) (down : (v.port p).link = .down)
    (lane : ∀ o f d, (v.port p).line ≠ .sending o f d) :
    settle 65536 (v.todo [.flushOut p, .pathLost [r], .seqPortDown p, .raise .linkChange]) =
      raise .linkChange ((modPort p (fun x => { x with railPlaces := x.railPlaces.filter (fun q => q != r) })
        (modDyn r (fun d => { d with frame := none }) v)).withdrawnSeq p) := by
  obtain ⟨u, hu⟩ : ∃ u, u = modDyn r (fun d => { d with frame := none }) v := ⟨_, rfl⟩
  have railU : u.rail r = { v.rail r with dyn := { (v.rail r).dyn with frame := none } } := by rw [hu]; exact rail_modDyn_self r _ v
  have frames : ∀ q, (u.rail q).dyn.frame = none := fun q => by
    by_cases same : q = r
    · rw [same, railU]
    · rw [hu, rail_modDyn, if_neg same]; exact others q same
  have portU : u.port p = v.port p := by rw [hu]; rfl
  have withdrawn := withdrawRail_down (s := u) (by rw [railU]; exact port) (by rw [portU]; exact down)
    (by rw [portU]; exact lane) frames
  rw [← hu]
  refine (settle_plain 65535 (.flushOut p) _ calm.settled.1 rfl (flushOut_none outs) calm.settled.1).trans ?_
  refine (settle_pathClears 65530 _ calm used notUp frame (w := withdrawRail r u) (by rw [hu])).trans ?_
  rw [withdrawn]
  have settledU : u.Settled := by rw [hu]; exact calm.settled
  have idleU : u.seq.ctx = none := by rw [hu]; exact idle
  exact settle_seqDepartsLast 65528 p (by exact settledU) (by exact idleU)

/-- Nothing is outstanding and the last step of the program waits on the port: the program ends. -/
theorem settle_departsEnding {s v u : State} {p : Port} {c : Context} {x : Running} (last : s.LastStep c x)
    (aborts : (s.stepAt c.index).onFail = .abort) (settledV : v.Settled) (outs : v.outs p = [])
    (seq : v.seq = s.seq) (sched : v.sched = s.sched) (down : (v.port p).link = .down) (waits : s.StepOnPort p c)
    (hu : v.withdrawnSeq p = u) :
    settle 65536 (v.todo [.flushOut p, .pathLost [], .seqPortDown p, .raise .linkChange]) =
      raise .linkChange (u.endedWith c (.failed c.index .noPath)) := by
  have ctx : v.seq.ctx = some c := by rw [seq]; exact last.context
  have waitsV : v.StepOnPort p c := by
    unfold State.StepOnPort State.stepAt at waits ⊢
    rw [seq]; exact waits
  have ended : seqPortDown p v = (u.tidied c).todo [.afterStep (some .noPath)] := by
    rw [← hu]
    exact (seqPortDown_fails ctx waitsV).trans ((congrArg (later (.afterStep (some .noPath)))
      (tidyStep_portDown ctx waitsV down)).trans (later_eq_todo (by exact settledV.1) _))
  refine (settle_plain 65535 (.flushOut p) _ settledV.1 rfl (flushOut_none outs) settledV.1).trans ?_
  refine (settle_plain 65534 (.pathLost []) _ settledV.1 rfl (show handle (.pathLost []) v = v from rfl) settledV.1).trans ?_
  refine (settle_hands 65533 (.seqPortDown p) _ _ settledV.1 rfl ended).trans ?_
  have settledU : u.Settled := by rw [← hu]; exact settledV
  have seqU : u.seq = { s.seq with cancel := v.cancelKept p } := by rw [← hu, ← seq]; rfl
  have ends := settle_lastStep_tail 65530 [.raise .linkChange] (fl := some .noPath) last (settled_tidied c settledU) rfl
    (by rw [← sched, ← hu]; rfl) (congrArg Sequencer.headers seqU :) (congrArg Sequencer.steps seqU :) rfl rfl rfl rfl
    (fun _ => aborts)
  refine ends.trans ?_
  have settledE : ((u.tidied c).endedWith c (c.endOf (some .noPath))).Settled := settled_raise _ (by exact settledU)
  refine (settle_raise 65529 .linkChange [] settledE.1).trans ?_
  exact settle_done 65529 (settled_raise _ settledE)

/-- The target of a change of state is a matter of the rails, their outputs and their channels. -/
theorem movedTo_target {s t t' : State} {r : RailId} {st : RailState} {timer : Option Time} {cause : Option FaultCause}
    (rails : t'.rails = t.rails) (en : t'.en = t.en) (dis : t'.dis = t.dis) (chans : t'.chans = t.chans)
    (moved : State.MovedTo r st timer cause s t) : State.MovedTo r st timer cause s t' := by
  have rail : ∀ q, t'.rail q = t.rail q := fun q => by unfold State.rail; rw [rails]
  have chan : ∀ c, t'.chan c = t.chan c := fun c => by unfold State.chan; rw [chans]
  exact
    { rail := by rw [rail]; exact moved.rail
      others := fun q other => by rw [rail]; exact moved.others q other
      enable := fun e path => by rw [en]; exact moved.enable e path
      noEnable := fun p i a b path => by rw [en]; exact moved.noEnable p i a b path
      noDischarge := fun none => by rw [dis]; exact moved.noDischarge none
      bleed := fun o some => by rw [dis]; exact moved.bleed o some
      force := fun o n some => by rw [dis]; exact moved.force o n some
      channels := fun c => by rw [chan]; exact moved.channels c }

/-- The fall of a rail and the withdrawal of the Sequencer's frames do not meet. -/
theorem withdrawnSeq_falls (v : State) (p : Port) (r : RailId) :
    { (enterState r .falling v).withdrawnSeq p with rails := v.rails, en := v.en, dis := v.dis, chans := v.chans } =
      v.withdrawnSeq p :=
  congrArg (fun z : State => z.withdrawnSeq p) (enterState_rest r .falling v)

theorem withdrawnSeq_clears (v : State) (p : Port) (r : RailId) :
    (modPort p (fun x => { x with railPlaces := x.railPlaces.filter (fun q => q != r) })
      (modDyn r (fun d => { d with frame := none }) v)).withdrawnSeq p =
    modDyn r (fun d => { d with frame := none })
      (modPort p (fun x => { x with railPlaces := x.railPlaces.filter (fun q => q != r) }) (v.withdrawnSeq p)) := by
  have kept : (modPort p (fun x => { x with railPlaces := x.railPlaces.filter (fun q => q != r) })
      (modDyn r (fun d => { d with frame := none }) v)).cancelKept p = v.cancelKept p := by
    unfold State.cancelKept
    rw [port_modPort_self]; rfl
  obtain ⟨w, hw⟩ : ∃ w : State, w = { v with seq := { v.seq with cancel := v.cancelKept p } } := ⟨_, rfl⟩
  have clears := modPort_modPort p (fun x => { x with railPlaces := x.railPlaces.filter (fun q => q != r) })
    (fun x => { x with seqOffer := none, seqBehind := [] }) (modDyn r (fun d => { d with frame := none }) w)
  have withdraws := modPort_modPort p (fun x => { x with seqOffer := none, seqBehind := [] })
    (fun x => { x with railPlaces := x.railPlaces.filter (fun q => q != r) }) w
  unfold State.withdrawnSeq
  rw [kept, ← hw, withdraws]
  rw [hw] at clears ⊢
  exact clears

/-! ### The flush with commands held (R151, R163; log 32) -/

/-- No command of the port is held. -/
def State.NoneHeldOf (s : State) (p : Port) : Prop := ∀ e ∈ s.fwd.hold, e.cmd.port ≠ p

/-- A pass releases nothing to a port with no command held, and holds nothing new. -/
theorem rescan_noneHeldOf {s : State} {p : Port} (none : s.NoneHeldOf p) (present : s.up.present = true) :
    (rescan s).queue p = s.queue p ∧ (rescan s).NoneHeldOf p := by
  obtain ⟨_, ⟨m, hold, kept⟩, queue⟩ := passOver_spec s.fwd.hold [] [] s present
  obtain ⟨r, appended, released⟩ := queue p
  constructor
  · have nothing : (s.fwd.hold.map HoldEntry.cmd).filter (fun c => c.port == p) = [] := by
      rw [List.filter_eq_nil_iff]
      intro c mem
      obtain ⟨e, held, rfl⟩ := List.mem_map.mp mem
      simpa using none e held
    rw [nothing, List.sublist_nil] at released
    exact appended.trans (by rw [released, List.append_nil])
  · intro e held
    rw [show (rescan s).fwd.hold = m from hold] at held
    obtain ⟨e', held', same⟩ := List.mem_map.mp (kept.subset (List.mem_map_of_mem held))
    rw [← (Prod.mk.inj same).1]
    exact none e' held'

/-- The oldest queued command of a departed port is answered, and its place used. -/
def flushHead (p : Port) (s : State) (c : Cmd) : State :=
  rescan ((setQueue p (s.queue p).tail s).answered c.frame stLinkDown [])

theorem flushHead_spec {s : State} {p : Port} (c : Cmd) (none : s.NoneHeldOf p) (present : s.up.present = true) :
    (flushHead p s c).queue p = (s.queue p).tail ∧ (flushHead p s c).NoneHeldOf p ∧ State.PassLike s (flushHead p s c) := by
  obtain ⟨t, ht⟩ : ∃ t, t = (setQueue p (s.queue p).tail s).answered c.frame stLinkDown [] := ⟨_, rfl⟩
  have presentT : t.up.present = true := by rw [ht]; exact present
  obtain ⟨queue, free⟩ := rescan_noneHeldOf (s := t) (p := p) (by rw [ht]; exact none) presentT
  have step : State.PassLike s t := by
    rw [ht]
    exact ⟨rfl, _, rfl⟩
  unfold flushHead
  rw [← ht]
  refine ⟨queue.trans ?_, free, step.trans (passLike_rescan presentT)⟩
  rw [ht, queue_answered, queue_setQueue, if_pos rfl]

theorem flushQueue_folds (p : Port) : ∀ (l : List Cmd) (s : State), s.queue p = l → s.NoneHeldOf p → s.up.present = true →
    flushQueue p l s = l.foldl (flushHead p) s ∧ State.PassLike s (l.foldl (flushHead p) s)
  | [], s, _, _, _ => ⟨rfl, State.PassLike.refl s⟩
  | c :: l, s, queue, free, present => by
    have head : rescan (answer c.frame stLinkDown (setQueue p l s)) = flushHead p s c := by
      unfold flushHead
      rw [queue, List.tail_cons]
      exact congrArg rescan (placeUp_present _ present)
    obtain ⟨queueT, freeT, step⟩ := flushHead_spec c free present
    rw [queue, List.tail_cons] at queueT
    obtain ⟨folds, rest⟩ := flushQueue_folds p l (flushHead p s c) queueT freeT (step.present.trans present)
    refine ⟨?_, step.trans rest⟩
    conv => lhs; unfold flushQueue
    rw [head]
    exact folds

/-- The hold queue after the departed port's commands are answered, with the pass that follows where there were any. -/
def State.holdFlushed (s : State) (p : Port) : State :=
  if ∃ e ∈ s.fwd.hold, e.cmd.port = p then rescan { s with
    fwd := { s.fwd with hold := s.fwd.hold.filter (fun e => e.cmd.port ≠ p) }
    up := { s.up with tx := s.up.tx ++ (s.fwd.hold.filter (fun e => e.cmd.port = p)).map (fun e =>
      replyEntry (replyFrame e.cmd.frame stLinkDown [])) } } else s

theorem port_beq (q p : Port) : (q == p) = decide (q = p) := Bool.eq_iff_iff.mpr (beq_iff_eq.trans decide_eq_true_iff.symm)

theorem flushHold_eq {s : State} (p : Port) (present : s.up.present = true) : flushHold p s = s.holdFlushed p := by
  have own : s.fwd.hold.filter (fun e => e.cmd.port == p) = s.fwd.hold.filter (fun e => e.cmd.port = p) :=
    List.filter_congr fun e _ => port_beq e.cmd.port p
  have others : s.fwd.hold.filter (fun e => e.cmd.port != p) = s.fwd.hold.filter (fun e => e.cmd.port ≠ p) :=
    List.filter_congr fun e _ => by
      rw [bne, port_beq, decide_not]
  unfold flushHold State.holdFlushed
  rw [own, others]
  by_cases held : ∃ e ∈ s.fwd.hold, e.cmd.port = p
  · obtain ⟨e, mem, port⟩ := held
    rw [if_pos ⟨e, mem, port⟩]
    have some : e.cmd ∈ (s.fwd.hold.filter (fun e => e.cmd.port = p)).map HoldEntry.cmd :=
      List.mem_map_of_mem (List.mem_filter.mpr ⟨mem, by simpa using port⟩)
    split
    · next empty => rw [empty] at some; exact absurd some List.not_mem_nil
    · rw [answerAll_present _ _ _ (by exact present), List.map_map]; rfl
  · rw [if_neg held]
    have empty : s.fwd.hold.filter (fun e => e.cmd.port = p) = [] := by
      rw [List.filter_eq_nil_iff]
      intro e mem
      simpa using fun port => held ⟨e, mem, port⟩
    rw [empty]; rfl

theorem holdFlushed_spec {s : State} (p : Port) (present : s.up.present = true) :
    (s.holdFlushed p).queue p = s.queue p ∧ (s.holdFlushed p).NoneHeldOf p ∧ State.PassLike s (s.holdFlushed p) := by
  unfold State.holdFlushed
  split
  · obtain ⟨t, ht⟩ : ∃ t : State, t = { s with
      fwd := { s.fwd with hold := s.fwd.hold.filter (fun e => e.cmd.port ≠ p) }
      up := { s.up with tx := s.up.tx ++ (s.fwd.hold.filter (fun e => e.cmd.port = p)).map (fun e =>
        replyEntry (replyFrame e.cmd.frame stLinkDown [])) } } := ⟨_, rfl⟩
    have presentT : t.up.present = true := by rw [ht]; exact present
    have free : t.NoneHeldOf p := fun e mem => by
      rw [ht] at mem
      simpa using (List.mem_filter.mp mem).2
    have step : State.PassLike s t := by rw [ht]; exact ⟨rfl, _, rfl⟩
    rw [← ht]
    obtain ⟨queue, none⟩ := rescan_noneHeldOf free presentT
    exact ⟨queue.trans (by rw [ht]; rfl), none, step.trans (passLike_rescan presentT)⟩
  · next no => exact ⟨rfl, fun e mem port => no ⟨e, mem, port⟩, State.PassLike.refl s⟩

/-- A port leaves UP, whatever is held: the answers with their passes. -/
theorem leaveUp_folds {s : State} {p : Port} (agenda : s.agenda = []) (present : s.up.present = true) :
    leaveUp p s = ((s.queue p).foldl (flushHead p) ((s.leftUp p).holdFlushed p)).todo
        [.flushOut p, .pathLost (s.agreedRails p), .seqPortDown p, .raise .linkChange] ∧
      State.PassLike s ((s.queue p).foldl (flushHead p) ((s.leftUp p).holdFlushed p)) := by
  obtain ⟨queue, none, held⟩ := holdFlushed_spec (s := s.leftUp p) p present
  have queueS : ((s.leftUp p).holdFlushed p).queue p = s.queue p := queue
  obtain ⟨folds, rest⟩ := flushQueue_folds p (s.queue p) ((s.leftUp p).holdFlushed p) queueS none (held.present.trans present)
  have left : State.PassLike s (s.leftUp p) := ⟨rfl, [], (List.append_nil _).symm⟩
  have like := left.trans (held.trans rest)
  refine ⟨leaveUp_hands ?_ (like.agenda.trans agenda), like⟩
  rw [flushHold_eq p (by exact present), queueS]
  exact folds

theorem withdrawnSeq_noCancel {s : State} (p : Port) (none : s.seq.cancel = none) :
    s.withdrawnSeq p = modPort p (fun x => { x with seqOffer := Option.none, seqBehind := [] }) s := by
  have kept : s.cancelKept p = s.seq.cancel := by
    unfold State.cancelKept
    rw [none]
  unfold State.withdrawnSeq
  rw [kept]

/-- PRESENT falls.

Settles O38: the port's record and the answers to its commands come first, then the claims of the outstanding ones, the lost paths,
the Sequencer's frames and LINK_CHANGE. -/
theorem presentFallTakesThePortDown : Obligations.PresentFallTakesThePortDown := by
  refine ⟨fun s p up => ⟨fun link => ?_, fun link => ?_⟩, fun s u p k up hold present link few hk hu => ?_,
    fun s v w p up present link idle noCancel outs rails hv hw => ?_⟩
  · have portA : (modPort p (fun x => { x with present := false }) s).port p = { s.port p with present := false } :=
      port_modPort_self p _ s
    have falls : presentFall p s = modPort p (fun x => { x with present := false, link := .down }) s := by
      rw [presentFall_running p up]
      unfold toDown
      rw [portA]
      dsimp only
      rcases link with link | link
      · rw [link]; exact modPort_modPort p _ _ s
      · rw [link]; exact modPort_modPort p _ _ s
    have event : exec (.presentFalls p) s = _ := event_plain (f := presentFall p) up.settled (by rw [falls]; exact up.settled)
    rw [event, falls]
  · have portA : (modPort p (fun x => { x with present := false }) s).port p = { s.port p with present := false } :=
      port_modPort_self p _ s
    have falls : presentFall p s = modPort p (fun x => { x with
        present := false, link := .down, probeCount := 0, probeTimer := none, probeWaiting := false,
        line := if x.owner = some .probe then .stretch (s.now + 10) else x.line }) s := by
      rw [presentFall_running p up]
      unfold toDown
      rw [portA]
      dsimp only
      rw [link]
      dsimp only
      rw [leaveExchange_eq, modPort_modPort]; rfl
    have event : exec (.presentFalls p) s = _ := event_plain (f := presentFall p) up.settled (by rw [falls]; exact up.settled)
    rw [event, falls]
  · obtain ⟨a, ha⟩ : ∃ a, a = modPort p (fun x => { x with present := false }) s := ⟨_, rfl⟩
    obtain ⟨v, hv⟩ : ∃ v, v = (a.leftUp p).flushed p (s.queue p) := ⟨_, rfl⟩
    have event : exec (.presentFalls p) s = _ := event_todo up.settled (presentFall_up up hold present link ha)
    rw [← hv] at event
    have target : (v.outsFlushed p (s.outs p)).withdrawnSeq p = u := by
      rw [hv, ha, hu]
      exact portGone_eq hk (fun x => rfl)
    obtain ⟨ps, shape, down, idleLane⟩ := leftUp_shape a p
    have shapeS : ({ a with ports := ps } : State) = { s with ports := ps } := by rw [ha]; rfl
    rw [shapeS] at shape down idleLane
    rw [shape] at hv
    have settledV : v.Settled := by rw [hv]; exact up.settled
    have outsV : v.outs p = s.outs p := by rw [hv]; rfl
    have railsV : ∀ q, v.rail q = s.rail q := fun q => by rw [hv]; rfl
    have seqV : v.seq = s.seq := by rw [hv]; rfl
    have schedV : v.sched = s.sched := by rw [hv]; rfl
    have presentV : v.up.present = true := by rw [hv]; exact present
    have calmV : s.seq.ctx = none → v.Calm := fun idle =>
      ⟨⟨settledV, by rw [hv]; exact up.running⟩, by rw [hv]; exact hold,
        fun c ctx => by rw [seqV, idle] at ctx; exact nomatch ctx⟩
    have downV : (v.port p).link = .down := by rw [hv]; exact down
    have lineV : ∀ o f d, (v.port p).line ≠ .sending o f d := by rw [hv]; exact idleLane
    refine ⟨fun idle rails => ?_, fun r idle outs rails used port => ⟨fun isUp frame down => ?_, fun f notRising notOn frame others => ?_⟩,
      fun c x last aborts outs rails waits => ?_⟩
    · rw [rails] at event
      obtain ⟨t, work, unheld⟩ := settle_departs (calmV idle) presentV (by rw [seqV]; exact idle) (by rw [outsV]; exact few)
      rw [outsV] at unheld
      have holds : ∀ r, v.Holds p (s.outs p) r ↔ s.Holds p (s.outs p) r := fun r => by unfold State.Holds; rw [railsV]
      refine ⟨t.withdrawnSeq p, event.trans (congrArg _ work), ?_, fun r held => ?_, fun r free => ?_⟩
      · rw [← target, ← unheld.rest, hv]; rfl
      · rw [← railsV]; exact unheld.dropped r ((holds r).mpr held)
      · rw [← railsV]; exact unheld.kept r (fun yes => free ((holds r).mp yes))
    · have usedV := used
      rw [← railsV] at isUp frame usedV
      rw [rails] at event
      rw [outs, outsFlushed_nil (by rw [outsV]; exact outs)] at target
      have downs : v.NoDependentUp r := fun d => by rw [railsV]; exact down d
      have settledE := settled_raise .linkChange (s := (enterState r .falling v).withdrawnSeq p)
        (by exact (calm_enterState (calmV idle) r .falling).settled)
      have work := (settle_departsFalling 65527 [] (calmV idle) (by rw [seqV]; exact idle) (by rw [outsV]; exact outs) usedV isUp
        frame downs).trans (settle_done 65527 settledE)
      refine ⟨(enterState r .falling v).withdrawnSeq p, event.trans (congrArg _ work), ?_, ?_⟩
      · refine movedTo_congr (s := v) (by rw [← target]; rfl) (by rw [← target]; rfl) (by rw [← target]; rfl)
          (by rw [← target]; rfl) (movedTo_target (t := enterState r .falling v) rfl rfl rfl rfl ?_)
        have timer : ((v.rail r).static.timerMs .falling).map (fun t => v.now + Config.ms t) =
            some (s.now + 2000 * (s.rail r).static.fallMs) := by
          rw [railsV, hv]; rfl
        have moved := movedTo_enterState r .falling v
        rw [timer] at moved
        exact moved
      · have railsS : s.rails = v.rails := by rw [hv]; rfl
        have enS : s.en = v.en := by rw [hv]; rfl
        have disS : s.dis = v.dis := by rw [hv]; rfl
        have chansS : s.chans = v.chans := by rw [hv]; rfl
        rw [← target, railsS, enS, disS, chansS]
        exact withdrawnSeq_falls v p r
    · rw [rails] at event
      rw [outs, outsFlushed_nil (by rw [outsV]; exact outs)] at target
      have work := settle_departsClearing (calmV idle) (by rw [seqV]; exact idle) (by rw [outsV]; exact outs)
        (by rw [railsV]; exact used) (by rw [railsV]; exact port)
        (by rw [railsV]; exact fun either => either.elim notRising notOn) (by rw [railsV]; exact frame)
        (fun q other => by rw [railsV]; exact others q other) downV lineV
      rw [withdrawnSeq_clears, target] at work
      exact event.trans (congrArg _ work)
    · rw [rails] at event
      rw [outs, outsFlushed_nil (by rw [outsV]; exact outs)] at target
      exact event.trans (congrArg _
        (settle_departsEnding last aborts settledV (by rw [outsV]; exact outs) seqV schedV downV waits target))
  · obtain ⟨a, ha⟩ : ∃ a, a = modPort p (fun x => { x with present := false }) s := ⟨_, rfl⟩
    have left : a.leftUp p = v := by
      rw [ha, hv]
      unfold State.leftUp
      rw [modPort_modPort]; rfl
    have flushed : (a.leftUp p).holdFlushed p = w := by
      rw [left, hw]
      unfold State.holdFlushed
      rw [show v.fwd = s.fwd by rw [hv]; rfl, show v.up = s.up by rw [hv]; rfl]
    obtain ⟨leaves, like⟩ := leaveUp_folds (s := a) (p := p) (by rw [ha]; exact up.settled.1) (by rw [ha]; exact present)
    have seqA : a.seq = s.seq := by rw [ha]; rfl
    have upSettled : a.Settled := by rw [ha]; exact up.settled
    rw [flushed, show a.queue p = s.queue p by rw [ha]; rfl,
      show a.agreedRails p = s.agreedRails p by unfold State.agreedRails; rw [ha, port_modPort_self], rails] at leaves
    rw [flushed, show a.queue p = s.queue p by rw [ha]; rfl] at like
    obtain ⟨z, hz⟩ : ∃ z, z = (s.queue p).foldl (flushHead p) w := ⟨_, rfl⟩
    rw [← hz] at leaves like
    have settledZ : z.Settled := ⟨like.agenda.trans upSettled.1, like.takeDue.trans upSettled.2⟩
    have seqZ : z.seq = s.seq := like.seq.trans seqA
    have outsZ : z.outs p = [] := by
      refine Eq.trans (congrArg (fun y : State => y.outs p) like.rest :) ?_
      rw [ha]; exact outs
    have work := (settle_departsQuiet 65532 [] (p := p) settledZ (by rw [seqZ]; exact idle) outsZ).trans
      (settle_done 65532 (settled_raise _ (by exact settledZ)))
    rw [withdrawnSeq_noCancel p (by rw [seqZ]; exact noCancel), hz] at work
    have portA : a.port p = { s.port p with present := false } := by rw [ha]; exact port_modPort_self p _ s
    have falls : presentFall p s = leaveUp p a := by
      rw [presentFall_running p up, ← ha]
      unfold toDown
      rw [portA]
      dsimp only
      rw [link]
    have event : exec (.presentFalls p) s = _ := event_todo up.settled (falls.trans leaves)
    rw [event, hz]
    exact congrArg _ work

end Sys2Proof.Machine
end

section
/-! RESET_BOARD and the board reset pulse: the port enters DOWN from any state, and comes up again behind the pulse (R134). -/

namespace Sys2Proof.Machine

/-! ### The pulse (R134) -/

/-- The reset line of the port is asserted, and its release stands 10 ms ahead. -/
def PortRec.pulsed (x : PortRec) (now : Time) : PortRec := { x with brst := true, pulse := some (now + Config.resetPulse) }

theorem startPulse_eq (p : Port) (s : State) : startPulse p s = modPort p (fun x => x.pulsed s.now) s := rfl

theorem startPulse_todo (p : Port) (s : State) (ws : List Work) : startPulse p (s.todo ws) = (startPulse p s).todo ws := rfl

theorem toDown_exchange {s : State} {p : Port} (link : (s.port p).link = .exchange) : toDown p s = leaveExchange p .down s := by
  unfold toDown
  rw [link]

theorem toDown_idle {s : State} {p : Port} (link : (s.port p).link = .down ∨ (s.port p).link = .failed) :
    toDown p s = modPort p (fun x => { x with link := .down }) s := by
  unfold toDown
  rcases link with link | link
  · rw [link]
  · rw [link]

theorem toDown_up {s : State} {p : Port} (link : (s.port p).link = .up) : toDown p s = leaveUp p s := by
  unfold toDown
  rw [link]

/-- A port that is not UP goes to DOWN, whichever state it is in, and only its own record tells. -/
theorem toDown_spec {s : State} {p : Port} (notUp : (s.port p).link ≠ .up) :
    ∃ F : PortRec → PortRec, toDown p s = modPort p F s ∧ (F (s.port p)).link = .down ∧
      ((s.port p).link = .exchange → (F (s.port p)).probeTimer = none ∧ (F (s.port p)).probeWaiting = false) := by
  cases link : (s.port p).link with
  | up => exact absurd link notUp
  | exchange =>
    exact ⟨_, (toDown_exchange link).trans (leaveExchange_eq s p .down), rfl, fun _ => ⟨rfl, rfl⟩⟩
  | down => exact ⟨_, toDown_idle (.inl link), rfl, fun no => LinkState.noConfusion no⟩
  | failed => exact ⟨_, toDown_idle (.inr link), rfl, fun no => LinkState.noConfusion no⟩

/-! ### The request (R134) -/

theorem exec_resetBoard {s : State} (ready : s.Ready) (tag port : Byte) :
    exec (.resetBoard tag port) s = .next (settle 65535 (reqResetBoard (requestFrame 0x39 tag [port]) s.taken)) :=
  event_request 0x39 tag [port] ready (by simp)

theorem arg_resetBoard (tag port : Byte) : (requestFrame 0x39 tag [port]).arg 0 = port.toNat := rfl

theorem reqResetBoard_badIndex (s : State) (tag : Byte) {port : Byte} (out : port.toNat = 0 ∨ 5 < port.toNat) :
    reqResetBoard (requestFrame 0x39 tag [port]) s = answer (requestFrame 0x39 tag [port]) stBadIndex s := by
  unfold reqResetBoard
  rw [arg_resetBoard, portOf?_none out]

/-- The checks of a port that the part has. -/
theorem reqResetBoard_port (s : State) (tag : Byte) {port : Byte} {p : Port} (number : p.number = port.toNat) :
    reqResetBoard (requestFrame 0x39 tag [port]) s =
      checked [(s.rtu.stage == .commit, stCommitted), ((s.port p).pulse.isSome, stBusy)] (requestFrame 0x39 tag [port])
        (fun s => acceptLater (requestFrame 0x39 tag [port]) (startPulse p (toDown p s))) s := by
  unfold reqResetBoard
  rw [arg_resetBoard, ← number, portOf?_number]

theorem reqResetBoard_accepts {s : State} (tag : Byte) {port : Byte} {p : Port} (number : p.number = port.toNat)
    (open' : s.rtu.stage ≠ .commit) (idle : (s.port p).pulse = none) :
    reqResetBoard (requestFrame 0x39 tag [port]) s =
      acceptLater (requestFrame 0x39 tag [port]) (startPulse p (toDown p s)) := by
  rw [reqResetBoard_port s tag number, checked_passes _ _ _ _ _ _ (by simpa using open'),
    checked_passes _ _ _ _ _ _ (by rw [idle]; rfl), checked_nil]

/-! ### The end of the pulse (R127, R134) -/

theorem pulseExpiry_eq {s : State} {p : Port} {due : Time} (pulse : (s.port p).pulse = some due) :
    pulseExpiry p s = lookAtPort p (modPort p (fun x => { x with brst := false, pulse := none }) { s with now := max s.now due }) := by
  unfold pulseExpiry
  rw [pulse]; rfl

/-- A port that enters EXCHANGE keeps its reset line; nothing but the ports takes part. -/
theorem enterExchange_keeps (p : Port) (s : State) : ((enterExchange p s).port p).brst = (s.port p).brst ∧
    ((enterExchange p s).port p).pulse = (s.port p).pulse ∧ { enterExchange p s with ports := s.ports } = s := by
  refine ⟨?_, ?_, ?_⟩
  · unfold enterExchange sendProbe
    rw [port_arbitrate_brst, port_modPort_self, port_modPort_self]
  · unfold enterExchange sendProbe
    rw [port_arbitrate_pulse, port_modPort_self, port_modPort_self]
  · exact congrArg (fun z : State => { z with ports := s.ports }) (sendProbe_rest p (modPort p _ s))

/-! ### The statement -/

theorem flushed_modPort (p : Port) (F : PortRec → PortRec) (l : List Cmd) (s : State) :
    (modPort p F s).flushed p l = modPort p F (s.flushed p l) := rfl

/-- What a change of the port that leaves the Sequencer's places alone makes of their withdrawal. -/
theorem withdrawnSeq_modPort (p : Port) {F : PortRec → PortRec} {s : State}
    (waits : ∀ tag, (F (s.port p)).cancelWaits tag = (s.port p).cancelWaits tag) :
    (modPort p F s).withdrawnSeq p =
      modPort p (fun x => { F x with seqOffer := none, seqBehind := [] }) { s with seq := { s.seq with cancel := s.cancelKept p } } := by
  have kept : (modPort p F s).cancelKept p = s.cancelKept p := by
    unfold State.cancelKept
    rw [port_modPort_self]
    cases cancel : s.seq.cancel with
    | none => rw [show (modPort p F s).seq.cancel = none from cancel]
    | some x =>
      obtain ⟨q, tag⟩ := x
      rw [show (modPort p F s).seq.cancel = some (q, tag) from cancel]
      dsimp only
      rw [waits]
  unfold State.withdrawnSeq
  rw [kept]
  exact modPort_modPort p F (fun x => { x with seqOffer := none, seqBehind := [] })
    { s with seq := { s.seq with cancel := s.cancelKept p } }

/-- The port's record once the board is held in reset, and what its flush leaves, with the Sequencer's frames withdrawn. -/
theorem boardReset_eq {s : State} {p : Port} {F : PortRec → PortRec} {k : Option (Port × Byte)} (hk : k = s.cancelKept p)
    (hF : ∀ x : PortRec, F x = { x with
      link := .down, agreed := none, latch := false, seqOffer := none, seqBehind := [], brst := true,
      pulse := some (s.now + 20000), line := x.line.cut s.now }) :
    (startPulse p ((s.leftUp p).flushed p (s.queue p))).withdrawnSeq p =
      modPort p F (setQueue p [] { s with
        seq := { s.seq with cancel := k }
        up := { s.up with tx := s.up.tx ++ (s.queue p).map (fun c => replyEntry (replyFrame c.frame stLinkDown [])) } }) := by
  obtain ⟨w, hw⟩ : ∃ w, w = s.flushed p (s.queue p) := ⟨_, rfl⟩
  have now : w.now = s.now := by rw [hw]; rfl
  have left : (s.leftUp p).flushed p (s.queue p) =
      modPort p (fun x => { x with link := .down, agreed := none, latch := false, line := x.line.cut s.now }) w := by
    rw [hw]
    exact flushed_modPort p _ _ s
  have kept : w.cancelKept p = k := by rw [hk, hw]; rfl
  rw [left, startPulse_eq, modPort_modPort, withdrawnSeq_modPort p (fun tag => rfl), kept, hw]
  exact congrArg (fun G => modPort p G (setQueue p [] { s with
    seq := { s.seq with cancel := k }
    up := { s.up with
      tx := s.up.tx ++ (s.queue p).map (fun c : Cmd => replyEntry (replyFrame c.frame stLinkDown [])) } }))
    (funext fun x => (hF x).symm)

/-- A port in UP whose board is to be reset: what is left to take, on the state that its record and its flush leave. -/
theorem reqResetBoard_up {s v : State} (tag : Byte) {port : Byte} {p : Port} (agenda : s.agenda = []) (hold : s.fwd.hold = [])
    (present : s.up.present = true) (number : p.number = port.toNat) (open' : s.rtu.stage ≠ .commit)
    (idle : (s.port p).pulse = none) (link : (s.port p).link = .up)
    (hv : v = startPulse p ((s.leftUp p).flushed p (s.queue p))) :
    reqResetBoard (requestFrame 0x39 tag [port]) s = v.todo [.flushOut p, .pathLost (s.agreedRails p), .seqPortDown p,
      .raise .linkChange, .reply (replyFrame (requestFrame 0x39 tag [port]) stOk [])] := by
  rw [reqResetBoard_accepts tag number open' idle, toDown_up link, leaveUp_noHold agenda hold present, startPulse_todo, ← hv,
    acceptLater_todo]; rfl

/-- Settles O27. -/
theorem resetBoardPulseStartsAndEnds : Obligations.ResetBoardPulseStartsAndEnds := by
  refine ⟨fun s tag port f ready hf => ⟨fun out => ?_, fun p number => ⟨fun committed => ?_, fun open' pulsing => ?_,
    fun open' idle notUp => ?_⟩⟩, fun s u tag port f p k ready quiet hf number open' idle link outs hk hu => ?_,
    fun s p due settled pulse => ⟨fun stays => ?_, fun active present link => ?_⟩⟩
  · rw [hf, exec_resetBoard ready, reqResetBoard_badIndex _ tag out, settle_answer _ ready]
  · rw [hf, exec_resetBoard ready, reqResetBoard_port _ tag number,
      checked_fails _ _ _ _ _ _ (show (s.taken.rtu.stage == .commit) = true from beq_iff_eq.mpr committed), settle_answer _ ready]
  · rw [hf, exec_resetBoard ready, reqResetBoard_port _ tag number,
      checked_passes _ _ _ _ _ _ (show (s.taken.rtu.stage == .commit) = false by simpa using open'),
      checked_fails _ _ _ _ _ _ (show (s.taken.port p).pulse.isSome = true from Option.isSome_iff_ne_none.mpr pulsing),
      settle_answer _ ready]
  · obtain ⟨F, down, linkF, probing⟩ := toDown_spec (s := s.taken) (p := p) notUp
    have event := exec_resetBoard ready tag port
    obtain ⟨G, hG⟩ : ∃ G : PortRec → PortRec, G = fun x => (F x).pulsed s.now := ⟨_, rfl⟩
    have portG : G (s.port p) = (F (s.port p)).pulsed s.now := by rw [hG]
    have both : startPulse p (modPort p F s.taken) = modPort p G s.taken := by
      rw [startPulse_eq, modPort_modPort, hG]; rfl
    rw [reqResetBoard_accepts tag number (by exact open') (by exact idle), down, both, ← hf,
      acceptLater_idle f (by exact ready.settled.1),
      settle_lastReply 65534 f (s := modPort p G s.taken) (by exact ready.settled) (by exact ready.present)] at event
    have portT : ((modPort p G s.taken).answered f stOk []).port p = (F (s.port p)).pulsed s.now :=
      (port_modPort_self p G s.taken).trans portG
    refine ⟨_, event, ?_, ?_, ?_, fun exchange => ?_, fun q other => ?_, ?_⟩
    · rw [portT]; exact linkF
    · rw [portT]; rfl
    · rw [portT]; rfl
    · rw [portT]; exact probing exchange
    · exact modPort_other G other s.taken
    · rfl
  · obtain ⟨a, ha⟩ : ∃ a, a = s.taken := ⟨_, rfl⟩
    obtain ⟨v, hv⟩ : ∃ v, v = startPulse p ((a.leftUp p).flushed p (a.queue p)) := ⟨_, rfl⟩
    have event := exec_resetBoard ready tag port
    rw [← ha, reqResetBoard_up tag (by rw [ha]; exact ready.settled.1) (by rw [ha]; exact quiet.noHold)
      (by rw [ha]; exact ready.present) number (by rw [ha]; exact open') (by rw [ha]; exact idle) (by rw [ha]; exact link) hv,
      show a.agreedRails p = s.agreedRails p by rw [ha]; rfl, ← hf] at event
    have target : v.withdrawnSeq p = u := by
      rw [hv, hu, ha]
      exact boardReset_eq (by rw [hk]; rfl) (fun x => rfl)
    obtain ⟨ps, shape⟩ : ∃ ps, v = { a.flushed p (a.queue p) with ports := ps } := ⟨v.ports, by rw [hv]; rfl⟩
    have settledV : v.Settled := by rw [shape, ha]; exact ready.settled
    have outsV : v.outs p = [] := by rw [shape, ha]; exact outs
    have railsV : ∀ q, v.rail q = s.rail q := fun q => by rw [shape, ha]; rfl
    have idleV : v.seq.ctx = none := by rw [shape, ha]; exact quiet.noContext
    have presentV : v.up.present = true := by rw [shape, ha]; exact ready.present
    refine ⟨fun rails => ?_, fun r rails used isUp frame down => ?_⟩
    · have settledU : (raise .linkChange u).Settled := settled_raise _ (by rw [← target]; exact settledV)
      have presentU : (raise .linkChange u).up.present = true := by rw [raise_up_present, ← target]; exact presentV
      rw [rails] at event
      rw [hf] at event ⊢
      refine event.trans (congrArg _ ((settle_departsQuiet 65531 _ settledV idleV outsV).trans ?_))
      rw [target]
      exact settle_lastReply 65530 _ settledU presentU
    · have calmV : v.Calm := ⟨⟨settledV, by rw [shape, ha]; exact ready.running⟩, by rw [shape, ha]; exact quiet.noHold,
        fun c ctx => by rw [idleV] at ctx; exact nomatch ctx⟩
      have usedV := used
      rw [← railsV] at usedV isUp frame
      have downs : v.NoDependentUp r := fun d => by rw [railsV]; exact down d
      obtain ⟨t, ht⟩ : ∃ t, t = (enterState r .falling v).withdrawnSeq p := ⟨_, rfl⟩
      have calmE := calm_enterState calmV r .falling
      have settledT : (raise .linkChange t).Settled := settled_raise _ (by rw [ht]; exact calmE.settled)
      have presentT : (raise .linkChange t).up.present = true := by
        rw [raise_up_present, ht]
        exact (congrArg Upstream.present (enterState_up r .falling v)).trans presentV
      rw [rails] at event
      refine ⟨t, ?_, ?_, ?_⟩
      · rw [hf] at event ⊢
        refine event.trans (congrArg _ ((settle_departsFalling 65526 _ calmV idleV outsV usedV isUp frame downs).trans ?_))
        rw [← ht]
        exact settle_lastReply 65525 _ settledT presentT
      · rw [ht]
        refine movedTo_congr (s := v) (by rw [← target]; rfl) (by rw [← target]; rfl) (by rw [← target]; rfl)
          (by rw [← target]; rfl) (movedTo_target (t := enterState r .falling v) rfl rfl rfl rfl ?_)
        have timer : ((v.rail r).static.timerMs .falling).map (fun t => v.now + Config.ms t) =
            some (s.now + 2000 * (s.rail r).static.fallMs) := by
          rw [railsV, shape, ha]; rfl
        have moved := movedTo_enterState r .falling v
        rw [timer] at moved
        exact moved
      · have railsS : s.rails = v.rails := by rw [shape, ha]; rfl
        have enS : s.en = v.en := by rw [shape, ha]; rfl
        have disS : s.dis = v.dis := by rw [shape, ha]; rfl
        have chansS : s.chans = v.chans := by rw [shape, ha]; rfl
        rw [ht, ← target, railsS, enS, disS, chansS]
        exact withdrawnSeq_falls v p r
  · have stay : pulseExpiry p s = modPort p (fun x => { x with brst := false, pulse := none }) { s with now := max s.now due } := by
      rw [pulseExpiry_eq pulse]
      refine lookAtPort_rests fun ⟨fit, active⟩ => ?_
      rw [port_modPort_self] at fit
      obtain ⟨link, present, _⟩ := (canExchange_iff _).mp fit
      rcases stays with standby | absent | notDown
      · exact Mode.noConfusion (standby.symm.trans active)
      · exact Bool.false_ne_true (absent.symm.trans present)
      · exact notDown link
    have event : exec (.resetPulseExpiry p) s = _ := event_plain (f := pulseExpiry p) settled (by rw [stay]; exact settled)
    rw [event, stay]
  · obtain ⟨v, hv⟩ : ∃ v, v = modPort p (fun x => { x with brst := false, pulse := none }) { s with now := max s.now due } := ⟨_, rfl⟩
    have portV : v.port p = { s.port p with brst := false, pulse := none } := by rw [hv]; exact port_modPort_self p _ _
    have fit : (v.port p).canExchange = true := by rw [portV]; exact (canExchange_iff _).mpr ⟨link, present, rfl⟩
    have settledV : v.Settled := by rw [hv]; exact settled
    have ends : pulseExpiry p s = enterExchange p v := by
      rw [pulseExpiry_eq pulse, ← hv, lookAtPort_enters fit (by rw [hv]; exact active)]
    obtain ⟨brst, pulseV, rest⟩ := enterExchange_keeps p v
    have event : exec (.resetPulseExpiry p) s = _ := event_plain (f := pulseExpiry p) settled
      (by rw [ends]; exact settled_sendProbe p (by exact settledV))
    refine ⟨enterExchange p v, event.trans (congrArg _ ends), ?_, ?_, enterExchange_link p v, enterExchange_probeCount p v,
      fun q other => ?_, ?_⟩
    · rw [brst, portV]
    · rw [pulseV, portV]
    · rw [enterExchange_other other, hv]; exact modPort_other _ other _
    · refine Eq.trans (congrArg (fun z : State => { z with ports := s.ports, now := s.now }) rest) ?_
      rw [hv]; rfl

end Sys2Proof.Machine
end

section
/-! A RAIL_ON or RAIL_OFF step that waits for its order ends by its rail's report (R10 to R14, R21, R54, R57, R58). -/

namespace Sys2Proof.Machine

/-! ### What an event leaves for the step -/

/-- `u` differs from `s` in nothing that a rail step and its rail look at: the clock, the channels and the marks may. -/
structure State.StepKept (s u : State) : Prop where
  rails : u.rails = s.rails
  seq : u.seq = s.seq
  sched : u.sched = s.sched
  fwd : u.fwd = s.fwd
  agenda : u.agenda = s.agenda
  takeDue : u.takeDue = s.takeDue
  ports : u.ports = s.ports

theorem stepKept_now (s : State) (now : Time) : s.StepKept { s with now := now } := ⟨rfl, rfl, rfl, rfl, rfl, rfl, rfl⟩

theorem stepKept_sample {s u : State} {d : ChannelId} {y : Channel} (hu : u = setChan d y (convTurn d s)) : s.StepKept u := by
  obtain ⟨rails, seq, sched, fwd, agenda, takeDue, _, ports, _⟩ := afterSample_rest s d y u hu
  exact ⟨rails, seq, sched, fwd, agenda, takeDue, ports⟩

theorem stepKept_rail {s u : State} (kept : s.StepKept u) (q : RailId) : u.rail q = s.rail q := by
  unfold State.rail
  rw [kept.rails]

theorem stepKept_settled {s u : State} (kept : s.StepKept u) (settled : s.Settled) : u.Settled :=
  ⟨kept.agenda.trans settled.1, kept.takeDue.trans settled.2⟩

theorem stepKept_faultsAlone {s u : State} {r : RailId} (kept : s.StepKept u) (alone : s.FaultsAlone r) : u.FaultsAlone r := by
  have rails := stepKept_rail kept
  exact
    { noFrame := by rw [rails]; exact alone.noFrame
      noBoard := fun p i a b path => by
        rw [rails] at path
        rw [pathAvailable_congr (s := s) r (by rw [rails]) kept.ports]
        exact alone.noBoard p i a b path
      noAction := by rw [rails]; exact alone.noAction
      noDependent := fun d => by rw [rails]; exact alone.noDependent d }

/-- The sequencer of a state that keeps what the step looks at. -/
theorem stepKept_seq {s u : State} {c : Context} {x : Running} {r : RailId} {k : StepKind} (kept : s.StepKept u)
    (step : s.RailStep c x r k) : u.seq = { s.seq with ctx := some { c with timer := c.timer, frame := c.frame, wait := c.wait } } :=
  kept.seq.trans (seq_self step.lastStep.context)

theorem rail_entered (r : RailId) (st : RailState) (u : State) : ((enterState r st u).rail r).static = (u.rail r).static ∧
    ((enterState r st u).rail r).dyn.state = st ∧ ((enterState r st u).rail r).dyn.claim = (u.rail r).dyn.claim := by
  have moved := (movedTo_enterState r st u).rail
  rw [moved]
  exact ⟨rfl, rfl, rfl⟩

/-- The same while the step waits for its order. -/
theorem stepKept_ordered {s u : State} {c : Context} {x : Running} {r : RailId} {k : StepKind} (kept : s.StepKept u)
    (step : s.RailStep c x r k) (wait : c.wait = .order) :
    u.seq = { s.seq with ctx := some { c with timer := c.timer, frame := c.frame, wait := .order } } := by
  rw [← wait]
  exact stepKept_seq kept step

theorem settled_unclaimed {s : State} (r : RailId) (h : s.Settled) : (s.unclaimed r).Settled := h

/-! ### The rail arrives -/

/-- The rail of a RAIL_ON step enters ON: the step completes, and its program (R57). -/
theorem settle_railOnArrives (n : Nat) {s u : State} {c : Context} {x : Running} {r : RailId} {noWait : Bool}
    (step : s.RailStep c x r (.railOn r noWait)) (kept : s.StepKept u) (wait : c.wait = .order)
    (claim : (s.rail r).dyn.claim = .step) (frame : (s.rail r).dyn.frame = none) :
    settle (n + 10) (moveRail r .on u) = ((enterState r .on u).unclaimed r).endedWith c .done := by
  have rails := stepKept_rail kept
  have seqU := stepKept_seq kept step
  obtain ⟨static, state, _⟩ := rail_entered r .on u
  refine settle_moveRail_ends n .on none step (stepKept_settled kept step.settled) seqU kept.sched
    (by rw [kept.fwd]; exact step.noHold) (by rw [rails]; exact claim) (fun _ => by rw [rails]; exact frame) (.inr RailState.noConfusion)
    (fun no => by rw [Bool.and_eq_true] at no; exact nomatch no.2) ?_
  refine (seqRail_on (a := c.timer) (b := c.frame) .state step ?_ ?_).1 state
  · exact (enterState_seq r .on u).trans (stepKept_ordered kept step wait)
  · rw [static, rails]; exact step.used

/-- The rail of a RAIL_OFF step, falling or discharging, enters OFF: the step completes, and its program (R58). -/
theorem settle_railOffArrives (n : Nat) {s u : State} {c : Context} {x : Running} {r : RailId} {noWait : Bool}
    (step : s.RailStep c x r (.railOff r noWait)) (kept : s.StepKept u) (wait : c.wait = .order)
    (claim : (s.rail r).dyn.claim = .step) (down : (s.rail r).dyn.state.isUp = false) :
    settle (n + 10) (moveRail r .off u) = ((enterState r .off u).unclaimed r).endedWith c .done := by
  have rails := stepKept_rail kept
  have seqU := stepKept_seq kept step
  obtain ⟨static, state, _⟩ := rail_entered r .off u
  refine settle_moveRail_ends n .off none step (stepKept_settled kept step.settled) seqU kept.sched
    (by rw [kept.fwd]; exact step.noHold) (by rw [rails]; exact claim) Bool.noConfusion (.inr RailState.noConfusion)
    (fun no => by rw [rails, down] at no; exact nomatch no) ?_
  refine (seqRail_off (a := c.timer) (b := c.frame) .state step ?_ ?_).1 state
  · exact (enterState_seq r .off u).trans (stepKept_ordered kept step wait)
  · rw [static, rails]; exact step.used

/-- The rail of a RAIL_OFF step enters DISCHARGING: the step waits on, or with NO_WAIT completes (R58; log 18). -/
theorem settle_railOffDischarges (n : Nat) {s u : State} {c : Context} {x : Running} {r : RailId} {noWait : Bool}
    (step : s.RailStep c x r (.railOff r noWait)) (kept : s.StepKept u) (wait : c.wait = .order)
    (claim : (s.rail r).dyn.claim = .step) (down : (s.rail r).dyn.state.isUp = false) :
    (noWait = false → settle (n + 10) (moveRail r .discharging u) = enterState r .discharging u) ∧
    (noWait = true → settle (n + 10) (moveRail r .discharging u) = ((enterState r .discharging u).unclaimed r).endedWith c .done) := by
  have rails := stepKept_rail kept
  have seqU := stepKept_seq kept step
  have hold : u.fwd.hold = [] := by rw [kept.fwd]; exact step.noHold
  have falls : ((u.rail r).dyn.state.isUp && !RailState.discharging.isUp) = true → u.NoDependentUp r :=
    fun no => by rw [rails, down] at no; exact nomatch no
  obtain ⟨static, state, _⟩ := rail_entered r .discharging u
  have reports := (seqRail_off (v := enterState r .discharging u) (a := c.timer) (b := c.frame) .state step
    ((enterState_seq r .discharging u).trans (stepKept_ordered kept step wait))
    (by rw [static, rails]; exact step.used)).2.1 (.inr state)
  refine ⟨fun waits => ?_, fun ends => ?_⟩
  · rw [if_neg (fun both => by rw [waits] at both; exact nomatch both.1)] at reports
    exact settle_moveRail_waits (n + 6) .discharging (stepKept_settled kept step.settled) hold (.inr RailState.noConfusion) falls reports
  · rw [if_pos ⟨ends, rfl⟩] at reports
    exact settle_moveRail_ends n .discharging none step (stepKept_settled kept step.settled) seqU kept.sched hold
      (by rw [rails]; exact claim) Bool.noConfusion (.inr RailState.noConfusion) falls reports

/-! ### The rail faults -/

/-- Entry into FAULT and the release of the claim do not meet. -/
theorem faulted_unclaimed (r : RailId) (cause : FaultCause) (u : State) : (u.unclaimed r).faulted r cause = (u.faulted r cause).unclaimed r := by
  unfold State.faulted
  rw [enterState_unclaimed]
  unfold State.unclaimed
  rw [modDyn_modDyn, modDyn_modDyn]

theorem onlyMovedTo_faultUnclaimed (r : RailId) (cause : FaultCause) (u : State) :
    State.OnlyMovedTo r .fault none (some cause) (u.unclaimed r) ((u.faulted r cause).unclaimed r) := by
  rw [← faulted_unclaimed]
  exact onlyMovedTo_fault r cause (u.unclaimed r)

/-- The rail of a rail step enters FAULT: the step fails, its program ends, and RAIL_FAULT follows (R57, R58; log 41). -/
theorem settle_railStepFaults (n : Nat) (ws : List Work) {s u : State} {c : Context} {x : Running} {r : RailId} {k : StepKind}
    {cause : FaultCause} (step : s.RailStep c x r k) (kept : s.StepKept u)
    (wait : c.wait = .order ∨ (c.wait = .fall ∧ k.isRailOn = true)) (claim : (s.rail r).dyn.claim = .step)
    (alone : s.FaultsAlone r) (notRise : cause ≠ .riseTimeout) :
    settle (n + 13) ((enterFault r cause u).todo ((enterFault r cause u).agenda ++ ws)) = settle n ((raise .railFault
      (((u.faulted r cause).unclaimed r).endedWith c (.failed c.index .railFault))).todo ws) := by
  have rails := stepKept_rail kept
  have moved := (movedTo_fault r cause u (u.faulted r cause) rfl).rail
  refine settle_fault_ends n ws cause (some .railFault) step (stepKept_settled kept step.settled) kept.seq kept.sched
    (by rw [kept.fwd]; exact step.noHold) (by rw [rails]; exact claim) (stepKept_faultsAlone kept alone) ?_
  refine seqRail_fault (v := u.faulted r cause) (a := c.timer) (b := c.frame) .state step ?_ wait ?_ ?_ ?_
  · exact (enterState_seq r .fault u).trans (stepKept_seq kept step)
  · rw [moved, rails]; exact step.used
  · rw [moved]
  · rw [moved]; exact fun same => notRise (Option.some.inj same)

theorem todo_own (s : State) : s.todo (s.agenda ++ []) = s := by
  cases s
  simp [State.todo]

theorem settle_railStepFaultsLast (n : Nat) {s u : State} {c : Context} {x : Running} {r : RailId} {k : StepKind}
    {cause : FaultCause} (step : s.RailStep c x r k) (kept : s.StepKept u)
    (wait : c.wait = .order ∨ (c.wait = .fall ∧ k.isRailOn = true)) (claim : (s.rail r).dyn.claim = .step)
    (alone : s.FaultsAlone r) (notRise : cause ≠ .riseTimeout) : settle (n + 13) (enterFault r cause u) =
      raise .railFault (((u.faulted r cause).unclaimed r).endedWith c (.failed c.index .railFault)) := by
  have faults := settle_railStepFaults n [] step kept wait claim alone notRise
  rw [todo_own] at faults
  exact faults.trans (settle_done n (settled_raise _ (settled_endedWith _ _
    (settled_unclaimed r (settled_faulted r cause (stepKept_settled kept step.settled))))))

/-- Work that is the last of its event. -/
theorem settle_lastWork (n : Nat) (w : Work) {s : State} (agenda : s.agenda = []) (plain : w.isReset = false) :
    settle (n + 1) (s.todo [w]) = settle n (handle w s) := by
  rw [settle_todo n w [] agenda plain, todo_own]

/-! ### A sample of the rail's channel -/

/-- A sample that enters no alarm hands on what its level says alone (R31, R33). -/
theorem senseSample_level {s u : State} {d : ChannelId} {mv : Nat} {r : RailId} {y : Channel} (up : s.Up)
    (samples : s.Samples d mv r y) (quiet : s.NoNewAlarm d y) (hu : u = setChan d y (convTurn d s)) :
    senseSample d mv s = levelReport y (min 1023 (mv / 4)) u := by
  rw [senseSample_bound up samples, hu, alarmEntry_calm _ quiet]

theorem samples_role {s : State} {d : ChannelId} {mv : Nat} {r : RailId} {y : Channel} (samples : s.Samples d mv r y) :
    y.role = .bound r := by
  rw [samples.record, (sampled_fixed s (s.chan d) _).1]
  exact samples.role

/-- The sample that reaches DEBOUNCE at a good level. -/
theorem senseSample_good {s u : State} {d : ChannelId} {mv : Nat} {r : RailId} {y : Channel} (up : s.Up)
    (samples : s.Samples d mv r y) (quiet : s.NoNewAlarm d y) (hu : u = setChan d y (convTurn d s))
    (used : (s.rail r).static.used = true) (rising : (s.rail r).dyn.state = .rising) (good : y.goodCount = y.debounce) :
    senseSample d mv s = u.todo [.good r] ∧ handle (.good r) u = moveRail r .on u := by
  have kept := stepKept_sample hu
  have state : u.railState r = .rising := by
    rw [railState_used (by rw [stepKept_rail kept]; exact used), stepKept_rail kept]; exact rising
  refine ⟨?_, if_pos state⟩
  rw [senseSample_level up samples quiet hu, levelReport_rising _ (samples_role samples) state, if_pos good]
  exact later_eq_todo (stepKept_settled kept up.settled).1 _

/-- A safe sample of a falling or discharging rail. -/
theorem senseSample_safe {s u : State} {d : ChannelId} {mv : Nat} {r : RailId} {y : Channel} (up : s.Up)
    (samples : s.Samples d mv r y) (quiet : s.NoNewAlarm d y) (hu : u = setChan d y (convTurn d s))
    (used : (s.rail r).static.used = true) (down : (s.rail r).dyn.state = .falling ∨ (s.rail r).dyn.state = .discharging)
    (safe : min 1023 (mv / 4) ≤ (s.rail r).static.safeLevel) :
    senseSample d mv s = u.todo [.safe r] ∧ handle (.safe r) u = moveRail r .off u := by
  have kept := stepKept_sample hu
  have rails := stepKept_rail kept
  have state : u.railState r = (s.rail r).dyn.state := by
    rw [railState_used (by rw [rails]; exact used), rails]
  refine ⟨?_, if_pos ?_⟩
  · rw [senseSample_level up samples quiet hu, levelReport_down _ (samples_role samples) (by rw [state]; exact down), rails,
      if_pos safe]
    exact later_eq_todo (stepKept_settled kept up.settled).1 _
  · rw [state]
    rcases down with down | down <;> rw [down] <;> rfl

/-- A sample whose alarm takes the rail to FAULT hands the alarm on first. -/
theorem senseSample_alarm {s u : State} {d : ChannelId} {mv : Nat} {r : RailId} {y : Channel} {cause : FaultCause} (up : s.Up)
    (samples : s.Samples d mv r y) (faults : s.AlarmFaults d r y cause) (hu : u = setChan d y (convTurn d s))
    (used : (s.rail r).static.used = true) :
    ∃ l, senseSample d mv s = u.todo (.alarm r (y.alarm == .high) :: l) ∧
      (l = [] ∨ l = [.good r] ∨ l = [.safe r] ∨ l = [.belowGood r]) ∧
      handle (.alarm r (y.alarm == .high)) u = enterFault r cause u := by
  have kept := stepKept_sample hu
  have rails := stepKept_rail kept
  have role := samples_role samples
  have state : u.railState r = (s.rail r).dyn.state := by
    rw [railState_used (by rw [rails]; exact used), rails]
  have entered : y.alarm ≠ (s.chan d).alarm ∧ y.alarm ≠ .none := by
    rcases faults with ⟨_, high, new, _⟩ | ⟨_, low, new, _⟩
    · rw [high]; exact ⟨new.symm, Alarm.noConfusion⟩
    · rw [low]; exact ⟨new.symm, Alarm.noConfusion⟩
  have notOff : u.railState r ≠ .off := by
    rw [state]
    rcases faults with ⟨_, _, _, notOff, _⟩ | ⟨_, _, _, on⟩
    · exact notOff
    · rw [on]; exact RailState.noConfusion
  obtain ⟨l, level, levels⟩ := levelReport_todo (s := u) (min 1023 (mv / 4)) [.alarm r (y.alarm == .high)] role
  refine ⟨l, ?_, levels, alarmTaken_faults ?_⟩
  · rw [senseSample_bound up samples, ← hu, alarmEntry_rail role entered notOff,
      later_eq_todo (stepKept_settled kept up.settled).1]
    exact level
  · rw [state]
    rcases faults with ⟨high', high, _, notOff, notFault⟩ | ⟨low', low, _, on⟩
    · exact .inl ⟨high', by rw [high]; rfl, notOff, notFault⟩
    · exact .inr ⟨low', by rw [low]; rfl, on⟩

/-- A rail in FAULT takes no level report that a sample handed on. -/
theorem settle_levelsFaulted (n : Nat) {s : State} {r : RailId} {l : List Work} (settled : s.Settled)
    (fault : s.railState r = .fault) (levels : l = [] ∨ l = [.good r] ∨ l = [.safe r] ∨ l = [.belowGood r]) :
    settle (n + 1) (s.todo l) = s := by
  obtain ⟨good, safe, below⟩ := levelReports_faulted fault
  rcases levels with rfl | rfl | rfl | rfl
  · exact settle_done _ settled
  · exact (settle_plain n (.good r) [] settled.1 rfl good settled.1).trans (settle_done _ settled)
  · exact (settle_plain n (.safe r) [] settled.1 rfl safe settled.1).trans (settle_done _ settled)
  · exact (settle_plain n (.belowGood r) [] settled.1 rfl below settled.1).trans (settle_done _ settled)

/-! ### The step's frame (R6) -/

/-- The dependents of a rail are as they were once the program ended and the claim is released. -/
theorem dependents_down_ended (v : State) (c : Context) (e : ProgramEnd) (r : RailId)
    (down : ∀ q ∈ v.dependents r, (v.railState q).isUp = false) :
    ∀ q ∈ ((v.unclaimed r).endedWith c e).dependents r, (((v.unclaimed r).endedWith c e).railState q).isUp = false := by
  have same : ∀ q, (((v.unclaimed r).endedWith c e).rail q).static = (v.rail q).static ∧
      (((v.unclaimed r).endedWith c e).rail q).dyn.state = (v.rail q).dyn.state := fun q => by
    rw [rail_endedWith]
    by_cases own : q = r
    · rw [own, rail_unclaimed_self]; exact ⟨rfl, rfl⟩
    · rw [rail_unclaimed_other _ own]; exact ⟨rfl, rfl⟩
  intro q mem
  rw [mem_dependents, (same q).1] at mem
  have isDown := down q ((mem_dependents _ _ _).mpr mem)
  unfold State.railState at isDown ⊢
  rw [(same q).1, (same q).2]; exact isDown

/-- A frame that fails under a waiting step tells the step behind its report. -/
theorem frameEnd_tells {s : State} {r : RailId} {f : RailFrame} {out : FrameOutcome} {y : FailReason} (agenda : s.agenda = [])
    (frame : (s.rail r).dyn.frame = some f) (waits : s.stepWaits r = true)
    (fails : (out = .errorReply ∧ y = .errorReply) ∨ (out = .noReply ∧ y = .noReply))
    (own : (f.isOn = true ∧ f.thenOff = false) ∨ (f.isOn = false ∧ f.forStep = true)) :
    frameEnd r out s = (s.unframed r).todo [.report r .frame, .seqFrameEnd r y] := by
  unfold frameEnd
  rw [frame]
  dsimp only
  rw [waits, clearFrame_hands r agenda]
  rcases own with ⟨isOn, stays⟩ | ⟨isOff, forStep⟩
  · rw [isOn, stays]
    rcases fails with ⟨rfl, rfl⟩ | ⟨rfl, rfl⟩ <;> rfl
  · rw [isOff, forStep]
    rcases fails with ⟨rfl, rfl⟩ | ⟨rfl, rfl⟩ <;> rfl

/-- How the frame of a waiting step can fail it: the ON frame of a RAIL_ON step on an OFF rail, or the OFF frame of a RAIL_OFF
step on a rail that is up. -/
def State.FrameFails (s : State) (r : RailId) (k : StepKind) (f : RailFrame) : Prop :=
  (k.isRailOn = true ∧ f.isOn = true ∧ f.thenOff = false ∧ (s.rail r).dyn.state = .off) ∨
    (k.isRailOn = false ∧ f.isOn = false ∧ f.forStep = true ∧ ((s.rail r).dyn.state = .rising ∨ (s.rail r).dyn.state = .on))

theorem frameFails_own {s : State} {r : RailId} {k : StepKind} {f : RailFrame} (fails : s.FrameFails r k f) :
    (f.isOn = true ∧ f.thenOff = false) ∨ (f.isOn = false ∧ f.forStep = true) := by
  rcases fails with ⟨_, isOn, stays, _⟩ | ⟨_, isOff, forStep, _⟩
  · exact .inl ⟨isOn, stays⟩
  · exact .inr ⟨isOff, forStep⟩

/-- The rail of a step's kind. -/
theorem railKind_cases {k : StepKind} {r : RailId} (rail : k.rail? = some r) :
    (∃ noWait, k = .railOn r noWait) ∨ ∃ noWait, k = .railOff r noWait := by
  cases k with
  | railOn q noWait => exact .inl ⟨noWait, by rw [Option.some.inj rail]⟩
  | railOff q noWait => exact .inr ⟨noWait, by rw [Option.some.inj rail]⟩
  | _ => exact nomatch rail

/-- The report of the record's absence says nothing to such a step, and the failure behind it fails the step. -/
theorem settle_frameFails (n : Nat) {s u : State} {c : Context} {x : Running} {r : RailId} {k : StepKind} {f : RailFrame}
    (y : FailReason) (step : s.RailStep c x r k) (kept : s.StepKept u) (wait : c.wait = .order)
    (claim : (s.rail r).dyn.claim = .step) (fails : s.FrameFails r k f) :
    settle (n + 10) ((u.unframed r).todo [.report r .frame, .seqFrameEnd r y]) =
      ((u.unframed r).unclaimed r).endedWith c (.failed c.index y) := by
  obtain ⟨v, hv⟩ : ∃ v, v = u.unframed r := ⟨_, rfl⟩
  have railV : v.rail r = { s.rail r with dyn := { (s.rail r).dyn with frame := none } } := by
    rw [hv, rail_unframed_self, stepKept_rail kept]
  have settledV : v.Settled := by rw [hv]; exact stepKept_settled (u := u) kept step.settled
  have seqV : v.seq = { s.seq with ctx := some { c with timer := c.timer, frame := c.frame, wait := .order } } := by
    rw [hv]; exact stepKept_ordered (u := u) kept step wait
  have used : (v.rail r).static.used = true := by rw [railV]; exact step.used
  have quiet : seqRail r .frame v = v := by
    rcases railKind_cases step.rail with ⟨noWait, rfl⟩ | ⟨noWait, rfl⟩
    · refine (seqRail_on (a := c.timer) (b := c.frame) .frame step seqV used).2.2.2 (.inl ?_)
      rcases fails with ⟨_, _, _, off⟩ | ⟨no, _⟩
      · rw [railV]; exact off
      · exact nomatch no
    · refine (seqRail_off (a := c.timer) (b := c.frame) .frame step seqV used).2.2.2 ?_
      rcases fails with ⟨no, _⟩ | ⟨_, _, _, isUp⟩
      · exact nomatch no
      · rw [railV]; exact isUp
  have told : handle (.seqFrameEnd r y) v = stepEnd (some y) v := by
    refine seqFrameEnd_step (a := c.timer) (b := c.frame) y step seqV (fun isOff => ?_)
    rcases fails with ⟨no, _⟩ | ⟨_, _, _, isUp⟩
    · exact nomatch isOff.symm.trans no
    · rw [railState_used used, railV]; exact (isUp_iff _).mpr isUp
  rw [← hv]
  refine (settle_report_noHold (n + 8) r .frame _ settledV.1 (by rw [hv]; exact (congrArg Forwarding.hold kept.fwd).trans step.noHold)).trans ?_
  refine (settle_plain (n + 7) (.seqRail r .frame) _ settledV.1 rfl quiet settledV.1).trans ?_
  refine (settle_todo (n + 6) (.seqFrameEnd r y) [] settledV.1 rfl).trans ?_
  rw [told]
  refine (settle_stepEnd n [] (some y) step settledV seqV (by rw [hv]; exact kept.sched)
    (by rw [hv]; exact (congrArg Forwarding.hold kept.fwd).trans step.noHold) (by rw [railV]; exact claim)).trans ?_
  rw [released_unframed k (by rw [railV])]
  exact settle_done n (settled_endedWith _ _ (by exact settledV))

/-- OK to a RAIL_ON step's frame: the rail rises and the step waits on, or with NO_WAIT completes (R6, R57). -/
theorem settle_frameRises (n : Nat) {s : State} {c : Context} {x : Running} {r : RailId} {noWait : Bool}
    (step : s.RailStep c x r (.railOn r noWait)) (wait : c.wait = .order) (claim : (s.rail r).dyn.claim = .step) :
    (noWait = false → settle (n + 12) ((enterState r .rising (s.unframed r)).todo [.report r .frame, .report r .state]) =
      enterState r .rising (s.unframed r)) ∧
    (noWait = true → settle (n + 12) ((enterState r .rising (s.unframed r)).todo [.report r .frame, .report r .state]) =
      ((enterState r .rising (s.unframed r)).unclaimed r).endedWith c .done) := by
  obtain ⟨v, hv⟩ : ∃ v, v = enterState r .rising (s.unframed r) := ⟨_, rfl⟩
  have railV : v.rail r = { s.rail r with dyn := { (v.rail r).dyn with state := .rising, claim := .step, frame := none } } := by
    rw [hv, (movedTo_enterState r .rising (s.unframed r)).rail, rail_unframed_self]
    dsimp only
    rw [claim]
  have settledV : v.Settled := by
    rw [hv]; exact ⟨(enterState_agenda r .rising _).trans step.settled.1, (enterState_takeDue r .rising _).trans step.settled.2⟩
  have seqS : v.seq = s.seq := by rw [hv]; exact enterState_seq r .rising _
  have schedV : v.sched = s.sched := by rw [hv]; exact enterState_sched r .rising _
  have holdV : v.fwd.hold = [] := by rw [hv]; exact (congrArg Forwarding.hold (enterState_fwd r .rising _)).trans step.noHold
  have seqV : v.seq = { s.seq with ctx := some { c with timer := c.timer, frame := c.frame, wait := .order } } := by
    rw [← wait]; exact seqS.trans (seq_self step.lastStep.context)
  have used : (v.rail r).static.used = true := by rw [railV]; exact step.used
  have reports := fun kind => (seqRail_on (a := c.timer) (b := c.frame) kind step seqV used).2.1 (by rw [railV])
  rw [← hv]
  refine ⟨fun waits => ?_, fun ends => ?_⟩
  · have quiet : ∀ kind, seqRail r kind v = v := fun kind => by
      rw [reports kind, waits]; exact if_neg Bool.false_ne_true
    refine (settle_report_noHold (n + 10) r .frame _ settledV.1 holdV).trans ?_
    refine (settle_plain (n + 9) (.seqRail r .frame) _ settledV.1 rfl (quiet .frame) settledV.1).trans ?_
    refine (settle_report_noHold (n + 7) r .state [] settledV.1 holdV).trans ?_
    exact (settle_plain (n + 6) (.seqRail r .state) [] settledV.1 rfl (quiet .state) settledV.1).trans (settle_done _ settledV)
  · have completes : seqRail r .frame v = stepEnd none v := by
      rw [reports .frame, ends]; exact if_pos rfl
    refine (settle_reportEnds (n + 3) [.report r .state] r .frame none step settledV seqV schedV holdV (by rw [railV])
      completes).trans ?_
    rw [released_unframed _ (by rw [railV])]
    obtain ⟨w, hw⟩ : ∃ w, w = (v.unclaimed r).endedWith c (Context.endOf c none) := ⟨_, rfl⟩
    have settledW : w.Settled := by rw [hw]; exact settled_endedWith _ _ (by exact settledV)
    have idleW : w.seq.ctx = none := by
      rw [hw]
      unfold State.endedWith
      rw [raise_seq]
    have holdW : w.fwd.hold = [] := by
      rw [hw]
      unfold State.endedWith
      rw [raise_fwd]; exact holdV
    rw [← hw]
    refine (settle_report_noHold (n + 1) r .state [] settledW.1 holdW).trans ?_
    refine (settle_plain n (.seqRail r .state) [] settledW.1 rfl
      (seqRail_calm (fun c ctx => by rw [idleW] at ctx; exact nomatch ctx) r .state) settledW.1).trans ?_
    rw [settle_done n settledW, hw]; rfl

/-- OK to a RAIL_OFF step's frame: the rail falls and the step waits on, or with NO_WAIT completes (R6, R58). -/
theorem settle_frameFalls (n : Nat) {s : State} {c : Context} {x : Running} {r : RailId} {noWait : Bool}
    (step : s.RailStep c x r (.railOff r noWait)) (wait : c.wait = .order) (claim : (s.rail r).dyn.claim = .step)
    (down : s.NoDependentUp r) :
    (noWait = false →
      settle (n + 13) ((enterState r .falling (s.unframed r)).todo [.report r .frame, .report r .state, .cascade r 0]) =
        enterState r .falling (s.unframed r)) ∧
    (noWait = true →
      settle (n + 13) ((enterState r .falling (s.unframed r)).todo [.report r .frame, .report r .state, .cascade r 0]) =
        ((enterState r .falling (s.unframed r)).unclaimed r).endedWith c .done) := by
  have moved := movedTo_enterState r .falling (s.unframed r)
  have downs := dependents_down_moved moved rfl (noDependentUp_unframed down)
  obtain ⟨v, hv⟩ : ∃ v, v = enterState r .falling (s.unframed r) := ⟨_, rfl⟩
  have railV : v.rail r = { s.rail r with dyn := { (v.rail r).dyn with state := .falling, claim := .step, frame := none } } := by
    rw [hv, moved.rail, rail_unframed_self]
    dsimp only
    rw [claim]
  have settledV : v.Settled := by
    rw [hv]; exact ⟨(enterState_agenda r .falling _).trans step.settled.1, (enterState_takeDue r .falling _).trans step.settled.2⟩
  have schedV : v.sched = s.sched := by rw [hv]; exact enterState_sched r .falling _
  have holdV : v.fwd.hold = [] := by rw [hv]; exact (congrArg Forwarding.hold (enterState_fwd r .falling _)).trans step.noHold
  have seqV : v.seq = { s.seq with ctx := some { c with timer := c.timer, frame := c.frame, wait := .order } } := by
    rw [← wait, hv]; exact (enterState_seq r .falling _).trans (seq_self step.lastStep.context)
  have used : (v.rail r).static.used = true := by rw [railV]; exact step.used
  have reports := fun kind => (seqRail_off (a := c.timer) (b := c.frame) kind step seqV used).2.1 (.inl (by rw [railV]))
  have quiet : seqRail r .frame v = v := by
    rw [reports .frame]; exact if_neg fun both => ReportKind.noConfusion both.2
  rw [← hv] at downs ⊢
  have frame : settle (n + 13) (v.todo [.report r .frame, .report r .state, .cascade r 0]) =
      settle (n + 10) (v.todo [.report r .state, .cascade r 0]) :=
    (settle_report_noHold (n + 11) r .frame _ settledV.1 holdV).trans
      (settle_plain (n + 10) (.seqRail r .frame) _ settledV.1 rfl quiet settledV.1)
  rw [frame]
  refine ⟨fun waits => ?_, fun ends => ?_⟩
  · have stays : seqRail r .state v = v := by
      rw [reports .state, waits]; exact if_neg fun both => Bool.false_ne_true both.1
    refine (settle_report_noHold (n + 8) r .state _ settledV.1 holdV).trans ?_
    refine (settle_plain (n + 7) (.seqRail r .state) _ settledV.1 rfl stays settledV.1).trans ?_
    exact (settle_cascade_none (n + 6) r 0 [] settledV.1 downs).trans (settle_done _ settledV)
  · have completes : seqRail r .state v = stepEnd none v := by
      rw [reports .state, ends]; exact if_pos ⟨rfl, rfl⟩
    refine (settle_reportEnds (n + 1) [.cascade r 0] r .state none step settledV seqV schedV holdV (by rw [railV])
      completes).trans ?_
    rw [released_unframed _ (by rw [railV])]
    have settledW : ((v.unclaimed r).endedWith c (Context.endOf c none)).Settled := settled_endedWith _ _ (by exact settledV)
    refine (settle_cascade_none n r 0 [] settledW.1 (dependents_down_ended v c _ r downs)).trans (settle_done n settledW)

/-! ### The statement -/

theorem faultReason_notRise {s : State} {d : ChannelId} {r : RailId} {y : Channel} {cause : FaultCause}
    (faults : s.AlarmFaults d r y cause) : cause ≠ .riseTimeout := by
  rcases faults with ⟨rfl, _⟩ | ⟨rfl, _⟩ <;> exact FaultCause.noConfusion

/-- The sample whose alarm takes the step's rail to FAULT: the program ends, RAIL_FAULT follows, and the level report finds a
rail in FAULT. -/
theorem settle_alarmEndsStep {s u : State} {c : Context} {x : Running} {r : RailId} {k : StepKind} {w : Work} {l : List Work}
    {cause : FaultCause} (step : s.RailStep c x r k) (kept : s.StepKept u)
    (wait : c.wait = .order ∨ (c.wait = .fall ∧ k.isRailOn = true)) (claim : (s.rail r).dyn.claim = .step)
    (alone : s.FaultsAlone r) (notRise : cause ≠ .riseTimeout) (plain : w.isReset = false)
    (taken : handle w u = enterFault r cause u) (levels : l = [] ∨ l = [.good r] ∨ l = [.safe r] ∨ l = [.belowGood r]) :
    settle 65536 (u.todo (w :: l)) =
      raise .railFault (((u.faulted r cause).unclaimed r).endedWith c (.failed c.index .railFault)) := by
  have settledU := stepKept_settled kept step.settled
  have fault : (raise .railFault (((u.faulted r cause).unclaimed r).endedWith c (.failed c.index .railFault))).railState r = .fault := by
    have rail := (movedTo_fault r cause u (u.faulted r cause) rfl).rail
    unfold State.railState
    rw [rail_raise, rail_endedWith, rail_unclaimed_self, rail, stepKept_rail kept]
    exact if_pos step.used
  refine (settle_todo 65535 w l settledU.1 plain).trans ?_
  rw [taken, settle_railStepFaults 65522 l step kept wait claim alone notRise]
  exact settle_levelsFaulted 65521
    (settled_raise _ (settled_endedWith _ _ (settled_unclaimed r (settled_faulted r cause settledU)))) fault levels

/-- Settles O47: each event moves the rail, and the report of that move, taken by the waiting step, releases the claim and ends
the program before anything else is handed on. -/
theorem railReportsEndTheStep : Obligations.RailReportsEndTheStep := by
  refine ⟨fun s u c x r noWait step wait claim frame rising => ⟨fun due timer unsensed hu => ?_, fun d mv y samples quiet good hu => ?_⟩,
    fun s u c x r noWait step wait claim => ⟨fun due timer hu => ⟨fun falling noForce unsensed => ?_, fun discharging unsensed => ?_,
      fun o n falling force => ?_⟩, fun d mv y samples quiet hu down safe => ?_⟩,
    fun s u c x r k step wait claim alone => ⟨fun due timer sensed hu => ⟨fun falling noForce => ?_, fun discharging => ?_⟩,
      fun d mv y cause samples faults hu => ?_⟩,
    fun s u c x r k f due failing step wait claim frame sent hu hfailing =>
      have reply : ∀ (p : Port) (cls : Byte) (payload : List Byte) (out : FrameOutcome), (s.port p).link = .up → payload.length ≤ 60 →
          (if repliesOk payload then FrameOutcome.ok else .errorReply) = out →
          receiveDown p (mkFrame 0 p.addr kindReply cls (byteOf (0xC0 + r.val)) payload) s = frameEnd r out s :=
        fun p cls payload out link fits same => by
          rw [receiveDown_railReply s p cls r payload step.toUp link fits, railReply_sent payload frame sent, same]
      ⟨fun p cls payload link fits => ⟨fun ok => ⟨fun noWait kind isOn stays off prereqs path low => ?_,
        fun noWait kind isOff forStep isUp down => ?_⟩, fun error fails => ?_⟩, fun second fails => ?_⟩⟩
  · refine ⟨_, ?_, onlyMovedTo_unclaimed r .on u rfl⟩
    have event : exec (.settleExpiry r) s = _ := event_settled (f := settleExpiry r) step.settled
    rw [event, settleExpiry_moves step.used timer rising unsensed, ← hu]
    exact congrArg _ (settle_railOnArrives 65526 step (by rw [hu]; exact stepKept_now s _) wait claim frame)
  · have kept := stepKept_sample hu
    obtain ⟨hands, moves⟩ := senseSample_good step.toUp samples quiet hu step.used rising good
    refine ⟨_, ?_, onlyMovedTo_unclaimed r .on u rfl⟩
    have event : exec (.senseSample d mv) s = _ := event_todo step.settled hands
    rw [event, settle_lastWork 65535 _ (stepKept_settled kept step.settled).1 rfl, moves]
    exact congrArg _ (settle_railOnArrives 65525 step kept wait claim frame)
  · refine ⟨_, ?_, onlyMovedTo_unclaimed r .off u rfl⟩
    have event : exec (.fallExpiry r) s = _ := event_settled (f := fallExpiry r) step.settled
    rw [event, fallExpiry_off step.used timer falling noForce unsensed, ← hu]
    exact congrArg _ (settle_railOffArrives 65526 step (by rw [hu]; exact stepKept_now s _) wait claim (by rw [falling]; rfl))
  · refine ⟨_, ?_, onlyMovedTo_unclaimed r .off u rfl⟩
    have event : exec (.dischargeExpiry r) s = _ := event_settled (f := dischargeExpiry r) step.settled
    rw [event, dischargeExpiry_off step.used timer discharging unsensed, ← hu]
    exact congrArg _ (settle_railOffArrives 65526 step (by rw [hu]; exact stepKept_now s _) wait claim (by rw [discharging]; rfl))
  · have kept : s.StepKept u := by rw [hu]; exact stepKept_now s _
    obtain ⟨waits, ends⟩ := settle_railOffDischarges 65526 step kept wait claim (by rw [falling]; rfl)
    have event : exec (.fallExpiry r) s = _ := event_settled (f := fallExpiry r) step.settled
    rw [event, fallExpiry_force step.used timer falling (by rw [force]; rfl), ← hu]
    have time : ((u.rail r).static.timerMs .discharging).map (fun t => u.now + Config.ms t) = some (u.now + 2000 * n) := by
      rw [stepKept_rail kept]
      unfold RailStatic.timerMs
      rw [force]; rfl
    exact ⟨fun no => ⟨_, congrArg _ (waits no), onlyMovedTo_enterState r .discharging u time⟩,
      fun yes => ⟨_, congrArg _ (ends yes), onlyMovedTo_unclaimed r .discharging u time⟩⟩
  · have kept := stepKept_sample hu
    obtain ⟨hands, moves⟩ := senseSample_safe step.toUp samples quiet hu step.used down safe
    refine ⟨_, ?_, onlyMovedTo_unclaimed r .off u rfl⟩
    have event : exec (.senseSample d mv) s = _ := event_todo step.settled hands
    rw [event, settle_lastWork 65535 _ (stepKept_settled kept step.settled).1 rfl, moves]
    refine congrArg _ (settle_railOffArrives 65525 step kept wait claim ?_)
    rcases down with down | down <;> rw [down] <;> rfl
  · have kept : s.StepKept u := by rw [hu]; exact stepKept_now s _
    obtain ⟨d, sense⟩ := Option.ne_none_iff_exists'.mp sensed
    have event : exec (.fallExpiry r) s = _ := event_settled (f := fallExpiry r) step.settled
    refine ⟨_, ?_, onlyMovedTo_faultUnclaimed r .fallTimeout u⟩
    rw [event, fallExpiry_faults step.used timer falling noForce sense, ← hu]
    exact congrArg _ (settle_railStepFaultsLast 65523 step kept wait claim alone FaultCause.noConfusion)
  · have kept : s.StepKept u := by rw [hu]; exact stepKept_now s _
    obtain ⟨d, sense⟩ := Option.ne_none_iff_exists'.mp sensed
    have event : exec (.dischargeExpiry r) s = _ := event_settled (f := dischargeExpiry r) step.settled
    refine ⟨_, ?_, onlyMovedTo_faultUnclaimed r .fallTimeout u⟩
    rw [event, dischargeExpiry_faults step.used timer discharging sense, ← hu]
    exact congrArg _ (settle_railStepFaultsLast 65523 step kept wait claim alone FaultCause.noConfusion)
  · have kept := stepKept_sample hu
    obtain ⟨l, hands, levels, taken⟩ := senseSample_alarm step.toUp samples faults hu step.used
    have event : exec (.senseSample d mv) s = _ := event_todo step.settled hands
    refine ⟨_, ?_, onlyMovedTo_faultUnclaimed r cause u⟩
    rw [event]
    exact congrArg _ (settle_alarmEndsStep step kept wait claim alone (faultReason_notRise faults) rfl taken levels)
  · have time : ((u.rail r).static.timerMs .rising).map (fun t => u.now + Config.ms t) = some (s.now + 2000 * s.riseTime r) := by
      rw [hu, (rail_unframed s r r).1, timerMs_rising]; rfl
    have event : exec (.railControlReply p cls r payload) s = _ := event_todo step.settled ((reply p cls payload .ok link fits
      (if_pos ((repliesOk_head payload).mpr ok))).trans (frameEnd_rises step.settled.1 frame isOn stays off prereqs path low))
    rw [← hu] at event
    subst kind
    obtain ⟨waits, ends⟩ := settle_frameRises 65524 step wait claim
    rw [← hu] at waits ends
    exact ⟨fun no => ⟨_, event.trans (congrArg _ (waits no)), onlyMovedTo_enterState r .rising u time⟩,
      fun yes => ⟨_, event.trans (congrArg _ (ends yes)), onlyMovedTo_unclaimed r .rising u time⟩⟩
  · have time : ((u.rail r).static.timerMs .falling).map (fun t => u.now + Config.ms t) =
        some (s.now + 2000 * (s.rail r).static.fallMs) := by
      rw [hu, (rail_unframed s r r).1]; rfl
    have event : exec (.railControlReply p cls r payload) s = _ := event_todo step.settled ((reply p cls payload .ok link fits
      (if_pos ((repliesOk_head payload).mpr ok))).trans
        (frameEnd_falls step.settled.1 frame isOff forStep ((isUp_iff _).mpr isUp)))
    rw [← hu] at event
    subst kind
    obtain ⟨waits, ends⟩ := settle_frameFalls 65523 step wait claim down
    rw [← hu] at waits ends
    exact ⟨fun no => ⟨_, event.trans (congrArg _ (waits no)), onlyMovedTo_enterState r .falling u time⟩,
      fun yes => ⟨_, event.trans (congrArg _ (ends yes)), onlyMovedTo_unclaimed r .falling u time⟩⟩
  · rw [hfailing] at fails
    have event : exec (.railControlReply p cls r payload) s = _ := event_todo step.settled ((reply p cls payload .errorReply link fits
      (if_neg fun yes => error ((repliesOk_head payload).mp yes))).trans
        (frameEnd_tells step.settled.1 frame (stepWaits_step step wait) (.inl ⟨rfl, rfl⟩) (frameFails_own fails)))
    rw [event, hu]
    exact congrArg _ (settle_frameFails 65526 .errorReply step (stepKept_now s s.now) wait claim fails)
  · rw [hfailing] at fails
    have waits := stepWaits_step step wait
    have hands := (railFrameDeadline_noReply frame sent second).trans
      (frameEnd_tells (s := { s with now := max s.now due }) (by exact step.settled.1) (by exact frame)
        waits (.inr ⟨rfl, rfl⟩) (frameFails_own fails))
    have event : exec (.railFrameDeadline r) s = _ := event_todo step.settled hands
    rw [event, hu]
    exact congrArg _ (settle_frameFails 65526 .noReply step (stepKept_now s (max s.now due)) wait claim fails)

end Sys2Proof.Machine
end

section
/-! How RAIL_ON and RAIL_OFF steps start: at once complete or failed, waiting, or with program 0's takeover (R8, R9, R19, R56,
R58). -/

namespace Sys2Proof.Machine

/-! ### The order of a step that ends at once (R8, R9) -/

/-- The step's rail as the step has just claimed it. -/
def State.claimed (s : State) (r : RailId) : State := modDyn r (fun d => { d with claim := .step }) s

theorem rail_claimed_self (s : State) (r : RailId) :
    (s.claimed r).rail r = { s.rail r with dyn := { (s.rail r).dyn with claim := .step } } := rail_modDyn_self r _ s

theorem claimed_states (s : State) (r q : RailId) : ((s.claimed r).rail q).static = (s.rail q).static ∧
    ((s.claimed r).rail q).dyn.state = (s.rail q).dyn.state := rail_modDyn_state (s := s) rfl q

theorem claimed_railState (s : State) (r q : RailId) : (s.claimed r).railState q = s.railState q :=
  railState_congr (claimed_states s r) q

theorem claimed_pathAvailable (s : State) (r : RailId) : (s.claimed r).pathAvailable r = s.pathAvailable r :=
  pathAvailable_congr r (claimed_states s r r).1 rfl

theorem claimed_allOn (s : State) (r : RailId) : (s.claimed r).allOn ((s.claimed r).rail r).static.prereqs =
    s.allOn (s.rail r).static.prereqs := by
  rw [(claimed_states s r r).1, allOn_congr (claimed_railState s r)]

theorem claimed_dependents (s : State) (r q : RailId) : q ∈ (s.claimed r).dependents r ↔ q ∈ s.dependents r := by
  rw [mem_dependents, mem_dependents, (claimed_states s r q).1]

/-- A claim that was free is free again once the step lets it go. -/
theorem claimed_unclaimed {s : State} {r : RailId} (free : (s.rail r).dyn.claim = .none) : (s.claimed r).unclaimed r = s := by
  unfold State.claimed State.unclaimed
  rw [modDyn_modDyn]
  exact modDyn_same r s _ (by rw [← free])

/-- A switch-on order whose rail leaves nothing to do, or nothing that can be done (R8). -/
theorem switchOn_ends {s : State} {r : RailId} {i : Nat} {noWait : Bool} {e : ProgramEnd} (used : (s.rail r).static.used = true)
    (ends : s.EndsAtOnce r i (.railOn r noWait) e) :
    ∃ failure, switchOn r (s.claimed r) = stepEnd failure (s.claimed r) ∧ ∀ c : Context, c.index = i → c.endOf failure = e := by
  have state : (s.claimed r).railState r = (s.rail r).dyn.state := (claimed_railState s r r).trans (railState_used used)
  obtain ⟨_, _, ⟨unused, _⟩ | ⟨_, how⟩⟩ := ends
  · rw [used] at unused; exact nomatch unused
  unfold switchOn
  rw [state, claimed_allOn, claimed_pathAvailable]
  rcases how with ⟨fault, rfl⟩ | ⟨_, ⟨up, rfl⟩ | ⟨off, unmet, rfl⟩ | ⟨off, met, lost, rfl⟩⟩ | ⟨no, _⟩
  · rw [fault]; exact ⟨some .railFault, rfl, fun c index => by rw [← index]; rfl⟩
  · rcases up with rising | on
    · rw [rising]; exact ⟨none, rfl, fun _ _ => rfl⟩
    · rw [on]; exact ⟨none, rfl, fun _ _ => rfl⟩
  · rw [off]
    dsimp only
    rw [unmet]; exact ⟨some .prereq, rfl, fun c index => by rw [← index]; rfl⟩
  · rw [off]
    dsimp only
    rw [met, lost]; exact ⟨some .noPath, rfl, fun c index => by rw [← index]; rfl⟩
  · exact nomatch no

/-- A switch-off order of the same kind (R9). -/
theorem switchOff_ends {s : State} {r : RailId} {i : Nat} {noWait : Bool} {e : ProgramEnd} (n : ProgNo)
    (used : (s.rail r).static.used = true) (ends : s.EndsAtOnce r i (.railOff r noWait) e) :
    ∃ failure, switchOff n r (s.claimed r) = stepEnd failure (s.claimed r) ∧ ∀ c : Context, c.index = i → c.endOf failure = e := by
  have state : (s.claimed r).railState r = (s.rail r).dyn.state := (claimed_railState s r r).trans (railState_used used)
  obtain ⟨_, frame, ⟨unused, _⟩ | ⟨_, how⟩⟩ := ends
  · rw [used] at unused; exact nomatch unused
  unfold switchOff
  dsimp only
  rw [takeOver_none n (by rw [rail_claimed_self]; exact frame), state, claimed_pathAvailable]
  have any : (∃ d ∈ s.dependents r, s.railState d ≠ .off) →
      ((s.claimed r).dependents r).any (fun d => (s.claimed r).railState d != .off) = true := fun ⟨d, mem, on⟩ =>
    List.any_eq_true.mpr ⟨d, (claimed_dependents s r d).mpr mem, by rw [claimed_railState]; exact bne_iff_ne.mpr on⟩
  have none : (∀ d ∈ s.dependents r, s.railState d = .off) →
      ((s.claimed r).dependents r).any (fun d => (s.claimed r).railState d != .off) = false := fun free =>
    List.any_eq_false.mpr fun d mem => by
      rw [claimed_railState, free d ((claimed_dependents s r d).mp mem)]; decide
  rcases how with ⟨fault, rfl⟩ | ⟨no, _⟩ | ⟨_, ⟨off, rfl⟩ | ⟨up, on, rfl⟩ | ⟨up, free, lost, rfl⟩⟩
  · rw [fault]; exact ⟨some .railFault, rfl, fun c index => by rw [← index]; rfl⟩
  · exact nomatch no
  · rw [off]; exact ⟨Option.none, rfl, fun _ _ => rfl⟩
  · refine ⟨some .order, ?_, fun c index => by rw [← index]; rfl⟩
    rcases up with up | up
    all_goals
      rw [up]
      dsimp only
      rw [any on]; rfl
  · refine ⟨some .noPath, ?_, fun c index => by rw [← index]; rfl⟩
    rcases up with up | up
    all_goals
      rw [up]
      dsimp only
      rw [none free, lost]; rfl

theorem takeOrder_ends {s : State} {r : RailId} {i : Nat} {k : StepKind} {e : ProgramEnd} (n : ProgNo) (rail : k.rail? = some r)
    (used : (s.rail r).static.used = true) (ends : s.EndsAtOnce r i k e) :
    ∃ failure, takeOrder n k (s.claimed r) = stepEnd failure (s.claimed r) ∧ ∀ c : Context, c.index = i → c.endOf failure = e := by
  rcases railKind_cases rail with ⟨noWait, rfl⟩ | ⟨noWait, rfl⟩
  · exact switchOn_ends used ends
  · exact switchOff_ends n used ends

/-- The last step of its program takes an order that ends it: its claim does not outlive it, and the program ends. -/
theorem settle_orderEnds (m : Nat) {s v : State} {c : Context} {x : Running} {r : RailId} {k : StepKind} {e : ProgramEnd}
    {a : Option Time} {b : Option SendFrame} {w : Wait} (n : ProgNo) (step : s.RailStep c x r k) (settled : v.Settled)
    (seq : v.seq = { s.seq with ctx := some { c with timer := a, frame := b, wait := w } }) (sched : v.sched = s.sched)
    (hold : v.fwd.hold = []) (used : (v.rail r).static.used = true) (ends : v.EndsAtOnce r c.index k e) :
    settle (m + 6) (takeOrder n k (v.claimed r)) = v.endedWith c e := by
  obtain ⟨failure, order, result⟩ := takeOrder_ends n step.rail used ends
  obtain ⟨claim, frame, _⟩ := ends
  have rail := rail_claimed_self v r
  have work := settle_stepEnd m [] failure step (v := v.claimed r) (by exact settled) (by exact seq) (by exact sched)
    (by exact hold) (by rw [rail])
  rw [todo_own, released_unframed k (by rw [rail]; exact frame), claimed_unclaimed claim, result c rfl] at work
  rw [order]
  exact work.trans (settle_done m (settled_endedWith _ _ settled))

/-! ### The program that the started step ends -/

/-- What the step's start has changed does not outlive its program. -/
theorem startedNext_ended (s : State) (c : Context) (x : Running) (now : Time) (timer : Option Time) (w : Wait) (e : ProgramEnd) :
    (s.startedNext c x now timer w).endedWith { c with index := c.index + 1, timer := none, frame := none, wait := .none } e =
      State.endedWith { s with now := now } c e := rfl

/-- A step on a rail that is not USED fails as it starts (R56, R58). -/
theorem startRailStep_unused {s : State} {n : ProgNo} {k : StepKind} {r : RailId} (unused : (s.rail r).static.used = false) :
    startRailStep n k r s = stepEnd (some .noPath) s := by
  unfold startRailStep
  rw [unused]; rfl

theorem stepEnd_unclaimed {s : State} {c : Context} {k : StepKind} {r : RailId} (failure : Option FailReason) (agenda : s.agenda = [])
    (ctx : s.seq.ctx = some c) (kind : (s.stepAt c.index).kind = k) (rail : k.rail? = some r)
    (claim : (s.rail r).dyn.claim ≠ .step) (frame : k.isRailOn = true → (s.rail r).dyn.frame = none) :
    stepEnd failure s = (s.tidied c).todo [.afterStep failure] := by
  unfold stepEnd
  rw [tidyStep_unclaimed _ ctx kind rail claim frame]
  exact later_eq_todo (by exact agenda) _

/-- The next step ends its program as it starts. -/
theorem event_endsAtOnce {s : State} {c : Context} {x : Running} {now : Time} {k : StepKind} {r : RailId} {e : ProgramEnd}
    (next : s.NextStepLast c x now k) (rail : k.rail? = some r) (ends : s.EndsAtOnce r (c.index + 1) k e) :
    exec .delayExpiry s = .next (State.endedWith { s with now := now } c e) := by
  obtain ⟨y, hy⟩ : ∃ y, y = s.startedNext c x now none .none := ⟨_, rfl⟩
  have event : exec .delayExpiry s = _ := event_railStart next.toNextStep rail
  rw [← hy] at event
  have settledY : y.Settled := by rw [hy]; exact next.settled
  have ⟨claim, frame, _⟩ := ends
  cases used : (s.rail r).static.used with
  | true =>
    have step := railStep_started next rail used
    rw [← hy] at step
    have endsY : y.EndsAtOnce r (c.index + 1) k e := by rw [hy]; exact ends
    have usedY : (y.rail r).static.used = true := by rw [hy]; exact used
    rw [event, startRailStep_claims usedY (by rw [hy]; exact claim) (by rw [hy]; exact frame)]
    refine congrArg _ ((settle_orderEnds 65529 c.program step settledY (seq_self step.lastStep.context) rfl step.noHold usedY endsY).trans ?_)
    rw [hy]; exact startedNext_ended s c x now none .none e
  | false =>
    have ending : e = .failed (c.index + 1) .noPath := by
      obtain ⟨_, _, ⟨_, ending⟩ | ⟨yes, _⟩⟩ := ends
      · exact ending
      · rw [used] at yes; exact nomatch yes
    have fails := startRailStep_unused (s := y) (n := c.program) (k := k) (r := r) (by rw [hy]; exact used)
    rw [stepEnd_unclaimed (some .noPath) settledY.1 (c := { c with index := c.index + 1, timer := none, frame := none, wait := .none })
      (by rw [hy]; rfl) (by rw [hy]; exact next.next) rail (by rw [hy]; exact fun no => nomatch (claim.symm.trans no))
      (fun _ => by rw [hy]; exact frame)] at fails
    rw [event, fails]
    refine congrArg _ ((settle_startEnds 65532 (failure := some .noPath) next.ordinary (fun no => nomatch no) (fun _ => next.aborts) next.unmarked next.noQueue rfl
      (by exact settledY) (x := { x with guarded := (s.stepAt (c.index + 1)).guarded }) (by rw [hy]; rfl) (by rw [hy]; rfl)).trans ?_)
    rw [hy, ending]; rfl

/-! ### The order of a step that moves a rail of the part (R8, R9) -/

/-- What an order asks of a rail of the part that it moves. -/
def State.MoveOrdered (s : State) (r : RailId) (noWait : Bool) (k : StepKind) (goal : RailState) : Prop :=
  (goal = .rising ∧ k = .railOn r noWait ∧ (s.rail r).dyn.state = .off ∧ s.allOn (s.rail r).static.prereqs = true ∧
      s.highAlarm r = false) ∨
    (goal = .falling ∧ k = .railOff r noWait ∧ ((s.rail r).dyn.state = .rising ∨ (s.rail r).dyn.state = .on) ∧
      ∀ d ∈ s.dependents r, s.railState d = .off)

theorem pathAvailable_part {s : State} {r : RailId} {i : Fin 12} (used : (s.rail r).static.used = true)
    (path : (s.rail r).static.path = .onPart i) : s.pathAvailable r = true := by
  unfold State.pathAvailable
  rw [used, path]; rfl

theorem takeOrder_moves {s : State} {r : RailId} {noWait : Bool} {k : StepKind} {goal : RailState} {i : Fin 12} (n : ProgNo)
    (used : (s.rail r).static.used = true) (path : (s.rail r).static.path = .onPart i)
    (frame : (s.rail r).dyn.frame = none) (order : s.MoveOrdered r noWait k goal) :
    takeOrder n k (s.claimed r) = moveRail r goal (stepWait .order none (s.claimed r)) := by
  have state : (s.claimed r).railState r = (s.rail r).dyn.state := (claimed_railState s r r).trans (railState_used used)
  have available : (s.claimed r).pathAvailable r = true := (claimed_pathAvailable s r).trans (pathAvailable_part used path)
  have onPart : ¬ (s.claimed r).isBoard r = true := by
    rw [isBoard_onPart (by rw [(claimed_states s r r).1]; exact path)]; exact Bool.false_ne_true
  rcases order with ⟨rfl, rfl, off, prereqs, _⟩ | ⟨rfl, rfl, up, free⟩
  · exact (switchOn_orders (state.trans off) ((claimed_allOn s r).trans prereqs) available).trans (if_neg onPart)
  · refine (switchOff_orders (by rw [rail_claimed_self]; exact frame) (up.imp state.trans state.trans) (fun d mem => ?_) available).trans
      (if_neg onPart)
    exact (claimed_railState s r d).trans (free d ((claimed_dependents s r d).mp mem))

/-- No dependent of a rail whose dependents are all OFF is up. -/
theorem noDependentUp_off {s : State} {r : RailId} (free : ∀ d ∈ s.dependents r, s.railState d = .off) : s.NoDependentUp r :=
  fun d used needs => by
    have off := free d ((mem_dependents s r d).mpr ⟨used, needs⟩)
    rw [railState_used used] at off
    rw [off]
    exact ⟨RailState.noConfusion, RailState.noConfusion⟩

theorem noDependentUp_claimed {s : State} {r : RailId} (down : s.NoDependentUp r) : (s.claimed r).NoDependentUp r := fun d => by
  rw [(claimed_states s r d).1, (claimed_states s r d).2]
  exact down d

/-- With NO_WAIT the report of such a move completes the step, and its program (R57, R58). -/
theorem settle_moveOrderEnds (m : Nat) {s v : State} {c : Context} {x : Running} {r : RailId} {k : StepKind} {goal : RailState}
    {i : Fin 12} {a : Option Time} {b : Option SendFrame} {w : Wait} (n : ProgNo) (step : s.RailStep c x r k) (settled : v.Settled)
    (seq : v.seq = { s.seq with ctx := some { c with timer := a, frame := b, wait := w } }) (sched : v.sched = s.sched)
    (hold : v.fwd.hold = []) (used : (v.rail r).static.used = true) (path : (v.rail r).static.path = .onPart i)
    (claim : (v.rail r).dyn.claim = .none) (frame : (v.rail r).dyn.frame = none) (order : v.MoveOrdered r true k goal) :
    settle (m + 10) (takeOrder n k (v.claimed r)) = (enterState r goal { v with
      seq := { s.seq with ctx := some { c with timer := none, frame := b, wait := .order } } }).endedWith c .done := by
  obtain ⟨u, hu⟩ : ∃ u, u = stepWait .order none (v.claimed r) := ⟨_, rfl⟩
  have seqU : u.seq = { s.seq with ctx := some { c with timer := none, frame := b, wait := .order } } := by
    rw [hu, stepWait_order (s := v.claimed r) (c := { c with timer := a, frame := b, wait := w }) .order
      (by rw [show (v.claimed r).seq = v.seq from rfl, seq])]
    dsimp only
    rw [show (v.claimed r).seq = v.seq from rfl, seq]
  have shape : u = State.claimed { v with seq := u.seq } r := by rw [hu]; rfl
  have railU : u.rail r = { v.rail r with dyn := { (v.rail r).dyn with claim := .step } } := by
    rw [shape]; exact rail_claimed_self _ r
  have released : u.unclaimed r = { v with seq := u.seq } := by
    conv => lhs; rw [shape]
    exact claimed_unclaimed claim
  obtain ⟨static, state, _⟩ := rail_entered r goal u
  have reports : seqRail r .state (enterState r goal u) = stepEnd none (enterState r goal u) := by
    have seqE := (enterState_seq r goal u).trans seqU
    have usedE : ((enterState r goal u).rail r).static.used = true := by rw [static, railU]; exact used
    rcases order with ⟨rfl, rfl, _⟩ | ⟨rfl, rfl, _⟩
    · exact ((seqRail_on (c := c) (a := none) (b := b) .state step seqE usedE).2.1 state).trans (if_pos rfl)
    · exact ((seqRail_off (c := c) (a := none) (b := b) .state step seqE usedE).2.1 (.inl state)).trans (if_pos ⟨rfl, rfl⟩)
  have high : u.highAlarm r = false ∨ goal ≠ .rising := by
    rcases order with ⟨_, _, _, _, calm⟩ | ⟨rfl, _⟩
    · refine .inl (Eq.trans ?_ calm)
      unfold State.highAlarm
      rw [railU, shape]; rfl
    · exact .inr RailState.noConfusion
  have down : ((u.rail r).dyn.state.isUp && !goal.isUp) = true → u.NoDependentUp r := fun falls => by
    rcases order with ⟨rfl, _⟩ | ⟨_, _, _, free⟩
    · rw [Bool.and_comm] at falls; exact nomatch falls
    · rw [shape]
      exact noDependentUp_claimed (by exact noDependentUp_off free)
  rw [takeOrder_moves n used path frame order, ← hu,
    settle_moveRail_ends m goal none step (by rw [shape]; exact settled) seqU (by rw [shape]; exact sched) (by rw [shape]; exact hold)
      (by rw [railU]) (fun _ => by rw [railU]; exact frame) high down reports, ← enterState_unclaimed, released, seqU]
  rfl

/-- A rail's change of state does not look at the Sequencer and the Scheduler. -/
theorem enterState_program (r : RailId) (st : RailState) (s : State) (seq : Sequencer) (sched : Scheduler) :
    enterState r st { s with seq := seq, sched := sched } = { enterState r st s with seq := seq, sched := sched } := by
  have driven : ∀ z : State, driveOutputs r st { z with seq := seq, sched := sched } =
      { driveOutputs r st z with seq := seq, sched := sched } := fun z => by
    have same : ({ z with seq := seq, sched := sched } : State).rail r = z.rail r := rfl
    unfold driveOutputs
    rw [same]
    dsimp only
    cases (z.rail r).static.path <;> cases (z.rail r).static.discharge <;> rfl
  have followed : ∀ old (z : State), followRail r old st { z with seq := seq, sched := sched } =
      { followRail r old st z with seq := seq, sched := sched } := fun old z => by
    have same : ({ z with seq := seq, sched := sched } : State).rail r = z.rail r := rfl
    unfold followRail
    rw [same]
    cases (z.rail r).static.sense <;> rfl
  unfold enterState
  exact (congrArg (followRail r (s.rail r).dyn.state st) (driven (modDyn r (fun d => { d with
    state := st, timer := ((s.rail r).static.timerMs st).map (fun t => s.now + Config.ms t), heldGood := st == .on
    faultCause := none }) s))).trans (followed _ _)

/-- The next step, with NO_WAIT, moves a rail of the part and completes: its program ends. -/
theorem event_movesAtOnce {s : State} {c : Context} {x : Running} {now : Time} {k : StepKind} {r : RailId} {goal : RailState}
    {i : Fin 12} (next : s.NextStepLast c x now k) (rail : k.rail? = some r) (used : (s.rail r).static.used = true)
    (path : (s.rail r).static.path = .onPart i) (claim : (s.rail r).dyn.claim = .none) (frame : (s.rail r).dyn.frame = none)
    (order : s.MoveOrdered r true k goal) :
    exec .delayExpiry s = .next ((enterState r goal { s with now := now }).endedWith c .done) := by
  obtain ⟨y, hy⟩ : ∃ y, y = s.startedNext c x now none .none := ⟨_, rfl⟩
  have event : exec .delayExpiry s = _ := event_railStart next.toNextStep rail
  have step := railStep_started next rail used
  rw [← hy] at event step
  have settledY : y.Settled := by rw [hy]; exact next.settled
  have orderY : y.MoveOrdered r true k goal := by rw [hy]; exact order
  have usedY : (y.rail r).static.used = true := by rw [hy]; exact used
  have pathY : (y.rail r).static.path = .onPart i := by rw [hy]; exact path
  have claimY : (y.rail r).dyn.claim = .none := by rw [hy]; exact claim
  have frameY : (y.rail r).dyn.frame = none := by rw [hy]; exact frame
  rw [event, startRailStep_claims usedY claimY frameY]
  refine congrArg _ ((settle_moveOrderEnds 65525 c.program step settledY (seq_self step.lastStep.context) rfl step.noHold usedY pathY
    claimY frameY orderY).trans ?_)
  rw [hy]
  have shape := enterState_program r goal { s with now := now } { s.seq with
    ctx := some { c with index := c.index + 1, timer := none, frame := none, wait := .order } }
    { s.sched with running := some { x with guarded := (s.stepAt (c.index + 1)).guarded } }
  obtain ⟨t, ht⟩ : ∃ t, t = enterState r goal { s with now := now } := ⟨_, rfl⟩
  have seqT : t.seq = s.seq := by rw [ht]; exact enterState_seq r goal _
  have schedT : t.sched = s.sched := by rw [ht]; exact enterState_sched r goal _
  rw [← ht] at shape ⊢
  refine (congrArg (fun z : State => z.endedWith { c with index := c.index + 1, timer := none, frame := none, wait := .none } .done)
    shape).trans ?_
  unfold State.endedWith
  rw [seqT, schedT]; rfl

/-! ### A step that waits as it starts (R8, R9, R19) -/

/-- The order waits for a rail that is on its way down. -/
theorem takeOrder_waits {s : State} {r : RailId} {k : StepKind} (n : ProgNo) (rail : k.rail? = some r)
    (used : (s.rail r).static.used = true) (frame : (s.rail r).dyn.frame = none)
    (down : (s.rail r).dyn.state = .falling ∨ (s.rail r).dyn.state = .discharging) :
    takeOrder n k (s.claimed r) = stepWait (if k.isRailOn = true then .fall else .order) none (s.claimed r) := by
  have state : (s.claimed r).railState r = (s.rail r).dyn.state := (claimed_railState s r r).trans (railState_used used)
  rcases railKind_cases rail with ⟨noWait, rfl⟩ | ⟨noWait, rfl⟩
  · show switchOn r (s.claimed r) = stepWait .fall none (s.claimed r)
    unfold switchOn
    rw [state]
    rcases down with down | down <;> rw [down]
  · show switchOff n r (s.claimed r) = stepWait .order none (s.claimed r)
    unfold switchOff
    dsimp only
    rw [takeOver_none n (by rw [rail_claimed_self]; exact frame), state]
    rcases down with down | down <;> rw [down]

/-- A FRAME claim, or a frame record with no claim, makes the step of any program but program 0 wait under a window. -/
theorem startRailStep_waits {s : State} {n : ProgNo} {k : StepKind} {r : RailId} {p : Port} (used : (s.rail r).static.used = true)
    (other : n ≠ 0) (held : s.claimPort r = some p) :
    startRailStep n k r s = stepWait .claim (some (s.port p).windowMs) s := by
  unfold startRailStep
  rw [used, held]
  exact if_neg other

theorem claimPort_held {s : State} {r : RailId} {p : Port} (held : (∃ tag, (s.rail r).dyn.claim = .frame p tag) ∨
    ((s.rail r).dyn.claim = .none ∧ (s.rail r).dyn.frame ≠ none ∧ (s.rail r).static.port? = some p)) :
    s.claimPort r = some p := by
  unfold State.claimPort
  rcases held with ⟨tag, claim⟩ | ⟨claim, frame, port⟩
  · rw [claim]
  · rw [claim]
    exact (if_pos (Option.isSome_iff_ne_none.mpr frame)).trans port

/-! ### Program 0 takes a rail over (R19) -/

/-- A RAIL_OFF step that waits for its order takes no notice of a claim's release while its rail is on its way down. -/
theorem seqRail_claimDown {s : State} {c : Context} {r : RailId} {noWait : Bool} (ctx : s.seq.ctx = some c)
    (kind : (s.stepAt c.index).kind = .railOff r noWait) (waits : c.wait = .order)
    (down : s.railState r = .falling ∨ s.railState r = .discharging) : seqRail r .claim s = s := by
  unfold seqRail
  rw [current_eq ctx kind]
  refine (if_neg (by rw [waits]; exact Wait.noConfusion)).trans ?_
  unfold railOffReport
  refine (if_pos ⟨waits, rfl⟩).trans ?_
  rcases down with down | down
  all_goals
    rw [down]
    exact if_neg (fun both => ReportKind.noConfusion both.2)

/-- A RAIL_OFF step that waits for nothing takes no report. -/
theorem seqRail_idle {s : State} {c : Context} {r : RailId} {noWait : Bool} (q : RailId) (kd : ReportKind) (ctx : s.seq.ctx = some c)
    (kind : (s.stepAt c.index).kind = .railOff r noWait) (idle : c.wait = .none) : seqRail q kd s = s := by
  unfold seqRail
  rw [current_eq ctx kind]
  refine (if_neg (by rw [idle]; exact Wait.noConfusion)).trans ?_
  exact if_neg (fun both => Wait.noConfusion (idle.symm.trans both.1))

/-- A report that the Sequencer takes no notice of. -/
theorem settle_reportIdle (n : Nat) (q : RailId) (kd : ReportKind) (ws : List Work) {s : State} (agenda : s.agenda = [])
    (hold : s.fwd.hold = []) (quiet : seqRail q kd s = s) : settle (n + 3) (s.todo (.report q kd :: ws)) = settle n (s.todo ws) :=
  (settle_report_noHold (n + 1) q kd ws agenda hold).trans (settle_plain n (.seqRail q kd) ws agenda rfl quiet agenda)

/-- A RAIL_OFF step ends and lets its rail go, behind what the event has already handed on. -/
theorem stepEnd_railOff {v : State} {c : Context} {r : RailId} {noWait : Bool} (failure : Option FailReason) (ws : List Work)
    (ctx : v.seq.ctx = some c) (kind : (v.stepAt c.index).kind = .railOff r noWait) (claim : (v.rail r).dyn.claim = .step) :
    stepEnd failure (v.todo ws) = ((v.unclaimed r).tidied c).todo (ws ++ [.report r .claim, .afterStep failure]) := by
  have current : (v.todo ws).current = some (c, .railOff r noWait) := current_eq (s := v) ctx kind
  have drop : dropStepClaim r (v.todo ws) = (v.unclaimed r).todo (ws ++ [.report r .claim]) := if_pos claim
  unfold stepEnd tidyStep
  rw [current]
  dsimp only
  have tidied := modCtx_tidied (s := (v.unclaimed r).todo (ws ++ [Work.report r .claim])) (c := c) (by exact ctx)
  rw [drop, tidied]
  show State.todo ((v.unclaimed r).tidied c) ((ws ++ [.report r .claim]) ++ [.afterStep failure]) = _
  rw [List.append_assoc]; rfl

/-- After a step that completed, the DELAY step behind it starts (R52, R59). -/
theorem afterStep_nextDelay {s : State} {c : Context} {x : Running} {time : Nat} (ctx : s.seq.ctx = some c)
    (running : s.sched.running = some x) (unmarked : x.marked = false) (noQueue : s.sched.queue = [])
    (range : s.inRange c.program (c.index + 1) = true) (kind : (s.stepAt (c.index + 1)).kind = .delay time) :
    afterStep none s = s.startedNext c x s.now (some (s.now + 2000 * time)) .none := by
  rw [afterStep_next ctx running (.inr (cutOffDue_none unmarked noQueue))]
  unfold goTo
  rw [if_pos range, startStep_delay ctx kind]
  unfold State.startedAt State.startedNext
  dsimp only
  rw [running]; rfl

/-- The order of a RAIL_OFF step of program 0, behind what the event has already handed on. -/
theorem switchOff_todo {s : State} {r : RailId} {ws : List Work} (frame : (s.rail r).dyn.frame = none) :
    ((s.railState r = .falling ∨ s.railState r = .discharging) →
      switchOff 0 r (s.todo ws) = (stepWait .order none s).todo ws) ∧
    (s.railState r = .off → switchOff 0 r (s.todo ws) = stepEnd none (s.todo ws)) ∧
    ((s.railState r = .rising ∨ s.railState r = .on) → (∀ d ∈ s.dependents r, s.railState d = .off) →
      s.pathAvailable r = true → s.isBoard r = false →
      switchOff 0 r (s.todo ws) = moveRail r .falling ((stepWait .order none s).todo ws)) := by
  have frameT : ((s.todo ws).rail r).dyn.frame = none := frame
  have state : (s.todo ws).railState r = s.railState r := rfl
  refine ⟨fun down => ?_, fun off => ?_, fun up free path part => ?_⟩
  · unfold switchOff
    dsimp only
    rw [takeOver_none 0 frameT, state]
    rcases down with down | down <;> rw [down] <;> rfl
  · unfold switchOff
    dsimp only
    rw [takeOver_none 0 frameT, state, off]
  · refine (switchOff_orders frameT up free path).trans (if_neg ?_)
    rw [show (s.todo ws).isBoard r = s.isBoard r from rfl, part]
    exact Bool.false_ne_true

/-- Program 0's RAIL_OFF step takes a FRAME claim away and gives its order in the same event. -/
theorem startRailStep_takes {s : State} {r : RailId} {noWait : Bool} {p : Port} {tag : Byte} (agenda : s.agenda = [])
    (used : (s.rail r).static.used = true) (claim : (s.rail r).dyn.claim = .frame p tag) :
    startRailStep 0 (.railOff r noWait) r s =
      switchOff 0 r (((clearClaimMark p tag s).claimed r).todo [.report r .claim]) := by
  have drops : dropClaim r (clearClaimMark p tag s) = ((clearClaimMark p tag s).unclaimed r).todo [.report r .claim] :=
    later_eq_todo (by exact agenda) _
  have port : s.claimPort r = some p := claimPort_held (.inl ⟨tag, claim⟩)
  unfold startRailStep
  rw [used, port]
  refine (if_neg Bool.false_ne_true).trans ((if_pos rfl).trans ?_)
  rw [claim]
  dsimp only
  rw [drops]
  show switchOff 0 r (State.todo (modDyn r (fun d => { d with claim := .step }) ((clearClaimMark p tag s).unclaimed r)) _) = _
  unfold State.claimed State.unclaimed
  rw [modDyn_modDyn]; rfl

/-- Where a frame record stands without a claim, program 0 gives its order at once. -/
theorem startRailStep_overFrame {s : State} {r : RailId} {noWait : Bool} (used : (s.rail r).static.used = true)
    (claim : (s.rail r).dyn.claim = .none) : startRailStep 0 (.railOff r noWait) r s = switchOff 0 r (s.claimed r) := by
  unfold startRailStep
  rw [used]
  cases s.claimPort r with
  | none => rfl
  | some p =>
    refine (if_neg Bool.false_ne_true).trans ((if_pos rfl).trans ?_)
    rw [claim]; rfl

theorem markThenOff_off {s : State} {r : RailId} {f : RailFrame} (frame : (s.rail r).dyn.frame = some f) (isOff : f.isOn = false) :
    markThenOff r s = s := by
  have kept : (s.rail r).dyn.frame.map (fun f => if f.isOn then { f with thenOff := true } else f) = (s.rail r).dyn.frame := by
    rw [frame, Option.map_some, isOff]; rfl
  exact modDyn_same r s _ (congrArg (fun g => { (s.rail r).dyn with frame := g }) kept)

theorem markThenOff_on {s : State} {r : RailId} {f : RailFrame} (frame : (s.rail r).dyn.frame = some f) (isOn : f.isOn = true) :
    markThenOff r s = modDyn r (fun d => { d with frame := some { f with thenOff := true } }) s := by
  refine modDyn_congr ?_
  rw [frame, Option.map_some, isOn]; rfl

theorem any_notOff {s : State} {r : RailId} (free : ∀ d ∈ s.dependents r, s.railState d = .off) :
    (s.dependents r).any (fun d => s.railState d != .off) = false :=
  List.any_eq_false.mpr fun d mem => by rw [free d mem]; decide

/-- An OFF frame in flight serves program 0's order, with purpose STEP (log 15). -/
theorem switchOff_serves {s : State} {r : RailId} {f : RailFrame} (frame : (s.rail r).dyn.frame = some f) (isOff : f.isOn = false)
    (up : s.railState r = .rising ∨ s.railState r = .on) (free : ∀ d ∈ s.dependents r, s.railState d = .off)
    (path : s.pathAvailable r = true) (board : s.isBoard r = true) :
    switchOff 0 r s = modDyn r (fun d => { d with frame := some { f with forStep := true } }) (stepWait .order none s) := by
  have taken : takeOver 0 r s = s := (if_pos rfl).trans (markThenOff_off frame isOff)
  have frameW : ((stepWait .order none s).rail r).dyn.frame = some f := frame
  unfold switchOff
  dsimp only
  rw [taken]
  have serves : needOff r true (stepWait .order none s) =
      modDyn r (fun d => { d with frame := some { f with forStep := true } }) (stepWait .order none s) := by
    unfold needOff
    rw [frameW]
    dsimp only
    rw [isOff]; rfl
  rcases up with up | up
  all_goals
    rw [up]
    dsimp only
    rw [any_notOff free, path]
    exact (if_neg Bool.false_ne_true).trans ((if_neg Bool.false_ne_true).trans ((if_pos board).trans serves))

/-- An ON frame in flight gains THEN_OFF, and an OFF rail completes the step beside it. -/
theorem switchOff_beside {s : State} {r : RailId} {f : RailFrame} (frame : (s.rail r).dyn.frame = some f) (isOn : f.isOn = true)
    (off : s.railState r = .off) : switchOff 0 r s =
      stepEnd none (modDyn r (fun d => { d with frame := some { f with thenOff := true } }) s) := by
  have taken : takeOver 0 r s = modDyn r (fun d => { d with frame := some { f with thenOff := true } }) s :=
    (if_pos rfl).trans (markThenOff_on frame isOn)
  have state : (modDyn r (fun d => { d with frame := some { f with thenOff := true } }) s).railState r = .off :=
    (railState_congr (rail_modDyn_state (s := s) rfl) r).trans off
  unfold switchOff
  dsimp only
  rw [taken, state]

/-! ### The statement -/

/-- The reports of the released claim say nothing to a step that has ended, and the DELAY behind it starts. -/
theorem settle_releasedThenDelay (m : Nat) {z : State} {c : Context} {x : Running} {r : RailId} {noWait : Bool} {time : Nat}
    (settled : z.Settled) (ctx : z.seq.ctx = some c) (idle : c.wait = .none)
    (kind : (z.stepAt c.index).kind = .railOff r noWait) (running : z.sched.running = some x) (unmarked : x.marked = false)
    (noQueue : z.sched.queue = []) (hold : z.fwd.hold = []) (range : z.inRange c.program (c.index + 1) = true)
    (next : (z.stepAt (c.index + 1)).kind = .delay time) :
    settle (m + 4) (z.todo [.report r .claim, .afterStep none]) = z.startedNext c x z.now (some (z.now + 2000 * time)) .none := by
  have quiet := seqRail_idle r .claim ctx kind idle
  rw [settle_reportIdle (m + 1) r .claim [.afterStep none] settled.1 hold quiet, settle_lastWork m (.afterStep none) settled.1 rfl]
  exact (congrArg (settle m) (afterStep_nextDelay ctx running unmarked noQueue range next)).trans (settle_settled m (by exact settled))

/-- Program 0's RAIL_OFF step on a rail whose claim a command's frame holds: the mark is cleared, the rail claimed, and the order is
given behind the report of the released claim. -/
theorem event_takes {s u v : State} {c : Context} {x : Running} {now : Time} {r : RailId} {noWait : Bool} {p : Port} {tag : Byte}
    (next : s.NextStep c x now (.railOff r noWait)) (zero : c.program = 0) (used : (s.rail r).static.used = true)
    (claim : (s.rail r).dyn.claim = .frame p tag)
    (hu : u = setOuts p ((s.outs p).map (fun e => if e.cmd.frame.tag = tag then { e with claimMark := false } else e)) s)
    (hv : v = modDyn r (fun d => { d with claim := .step }) (u.startedNext c x now none .order)) :
    ∃ w, w = (u.startedNext c x now none .none).claimed r ∧
      exec .delayExpiry s = .next (settle 65535 (switchOff 0 r (w.todo [.report r .claim]))) ∧
      stepWait .order none w = v ∧ w.rail r = { s.rail r with dyn := { (s.rail r).dyn with claim := .step } } ∧
      (∀ q, (w.rail q).static = (s.rail q).static ∧ (w.rail q).dyn.state = (s.rail q).dyn.state) ∧
      (∀ q, (v.rail q).static = (s.rail q).static ∧ (v.rail q).dyn.state = (s.rail q).dyn.state) := by
  have event : exec .delayExpiry s = _ := event_railStart next rfl
  rw [zero, startRailStep_takes (by exact next.settled.1) (by exact used) (by exact claim)] at event
  have marks : clearClaimMark p tag (s.startedNext c x now none .none) = u.startedNext c x now none .none := by rw [hu]; rfl
  have rails : ∀ timer wait q, (u.startedNext c x now timer wait).rail q = s.rail q := fun _ _ q => by rw [hu]; rfl
  rw [marks] at event
  refine ⟨_, rfl, event, by rw [hv]; rfl, ?_, fun q => ?_, fun q => ?_⟩
  · rw [rail_claimed_self, rails]
  · rw [← rails none .none q]; exact claimed_states _ r q
  · rw [hv, ← rails none .order q]; exact claimed_states _ r q

/-- Settles O45: what the order finds decides how the step starts; a step that ends at once leaves its rail unclaimed. -/
theorem railStepsStart : Obligations.RailStepsStart := by
  refine ⟨fun s c x now k r next rail => ⟨fun e ends => event_endsAtOnce next rail ends,
      fun i used path claim frame => ⟨fun kind off prereqs low => ?_, fun kind up free => ?_⟩⟩,
    fun s c x now k r next rail used => ⟨fun claim frame down => ?_, fun p other held => ?_⟩,
    fun s u v c x now r noWait p tag next zero hold used claim frame hu hv =>
      ⟨fun down => ?_, fun i waits path up free => ?_, fun time y z off unmarked noQueue range kind hy hz => ?_⟩,
    fun s c x now r noWait f next zero hold used claim frame =>
      ⟨fun p i on off isOff path available up free => ?_, fun time y z isOn off unmarked noQueue range kind hy hz => ?_⟩⟩
  · subst kind
    have moved := onlyMovedTo_enterState r .rising { s with now := now } (t := some (now + 2000 * s.riseTime r))
      (by rw [timerMs_rising]; rfl)
    exact ⟨_, event_movesAtOnce next rail used path claim frame (.inl ⟨rfl, rfl, off, prereqs, low⟩), moved⟩
  · subst kind
    exact ⟨_, event_movesAtOnce next rail used path claim frame (.inr ⟨rfl, rfl, up, free⟩),
      onlyMovedTo_enterState r .falling { s with now := now } rfl⟩
  · have waits := takeOrder_waits (s := s.startedNext c x now none .none) c.program rail (by exact used) (by exact frame) (by exact down)
    have event : exec .delayExpiry s = _ := event_orders next rail used claim frame
    rw [event]
    exact congrArg _ ((congrArg (settle 65535) waits).trans (settle_settled 65535 (by exact next.settled)))
  · have waits := startRailStep_waits (s := s.startedNext c x now none .none) (n := c.program) (k := k) (by exact used) other
      (claimPort_held (by exact held))
    have event : exec .delayExpiry s = _ := event_railStart next rail
    rw [event]
    exact congrArg _ ((congrArg (settle 65535) waits).trans (settle_settled 65535 (by exact next.settled)))
  · obtain ⟨w, _, event, waitsV, railW, states, statesV⟩ := event_takes next zero used claim hu hv
    have downs : ∀ z : State, (∀ q, (z.rail q).static = (s.rail q).static ∧ (z.rail q).dyn.state = (s.rail q).dyn.state) →
        z.railState r = .falling ∨ z.railState r = .discharging := fun z same => by
      rw [railState_congr same, railState_used used]; exact down
    have settledV : v.Settled := by rw [hv, hu]; exact next.settled
    have quiet : seqRail r .claim v = v := seqRail_claimDown (noWait := noWait) (by rw [hv]; rfl)
      (by rw [hv, hu]; exact next.next) rfl (downs v statesV)
    rw [event, (switchOff_todo (by rw [railW]; exact frame)).1 (downs w states), waitsV]
    refine congrArg _ ((settle_reportIdle 65532 r .claim [] settledV.1 (by rw [hv, hu]; exact hold) quiet).trans ?_)
    exact settle_done _ settledV
  · obtain ⟨w, hw, event, waitsV, railW, states, statesV⟩ := event_takes next zero used claim hu hv
    have stateW := railState_congr states
    have upW : w.railState r = .rising ∨ w.railState r = .on := by
      rw [stateW, railState_used used]; exact up
    have freeW : ∀ d ∈ w.dependents r, w.railState d = .off := fun d mem => by
      rw [mem_dependents, (states d).1] at mem
      rw [stateW]; exact free d ((mem_dependents s r d).mpr mem)
    have pathW : (w.rail r).static.path = .onPart i := by rw [railW]; exact path
    have moves := (switchOff_todo (ws := [.report r .claim]) (by rw [railW]; exact frame)).2.2 upW freeW
      (pathAvailable_part (by rw [railW]; exact used) pathW) (isBoard_onPart pathW)
    have isUp : (v.rail r).dyn.state.isUp = true := by rw [(statesV r).2]; exact (isUp_iff _).mpr up
    rw [waitsV, moveRail_todo r .falling v [.report r .claim] (.inr RailState.noConfusion), isUp] at moves
    have moved := movedTo_enterState r .falling v
    obtain ⟨e, he⟩ : ∃ e, e = enterState r .falling v := ⟨_, rfl⟩
    rw [← he] at moves moved
    have settledE : e.Settled := by
      rw [he, hv, hu]
      exact ⟨(enterState_agenda r .falling _).trans next.settled.1, (enterState_takeDue r .falling _).trans next.settled.2⟩
    have holdE : e.fwd.hold = [] := by
      rw [he, hv, hu]
      exact (congrArg Forwarding.hold (enterState_fwd r .falling _)).trans hold
    have seqE : e.seq = v.seq := by rw [he]; exact enterState_seq r .falling v
    have ctxE : e.seq.ctx = some { c with index := c.index + 1, timer := none, frame := none, wait := .order } := by
      rw [seqE, hv]; rfl
    have kindE : (e.stepAt (c.index + 1)).kind = .railOff r false := by
      rw [stepAt_congr (s := v) (by rw [seqE]), hv, hu, ← waits]; exact next.next
    have falling : e.railState r = .falling := by
      rw [railState_used (by rw [moved.rail, (statesV r).1]; exact used), moved.rail]
    have downV : v.NoDependentUp r := fun d => by
      rw [(statesV d).1, (statesV d).2]; exact noDependentUp_off free d
    rw [event, moves]
    refine ⟨e, congrArg _ ?_, ?_⟩
    · refine (settle_reportIdle 65532 r .claim _ settledE.1 holdE (seqRail_falling .claim ctxE kindE rfl falling)).trans ?_
      refine (settle_reportIdle 65529 r .state _ settledE.1 holdE (seqRail_falling .state ctxE kindE rfl falling)).trans ?_
      exact (settle_cascade_none 65528 r 0 [] settledE.1 (dependents_down_moved moved rfl downV)).trans (settle_done _ settledE)
    · rw [he]
      refine onlyMovedTo_enterState r .falling v ?_
      rw [(statesV r).1, hv, hu]; rfl
  · obtain ⟨w, hw, event, _, railW, states, _⟩ := event_takes next zero used claim hu hv
    obtain ⟨b, hb⟩ : ∃ b, b = State.tidied (w.unclaimed r) { c with index := c.index + 1, timer := none, frame := none, wait := .none } :=
      ⟨_, rfl⟩
    have ends := (switchOff_todo (ws := [.report r .claim]) (by rw [railW]; exact frame)).2.1
      (by rw [railState_congr states, railState_used used]; exact off)
    rw [stepEnd_railOff (noWait := noWait) none [.report r .claim] (by rw [hw]; rfl) (by rw [hw, hu]; exact next.next)
      (by rw [railW]), ← hb] at ends
    have released : w.unclaimed r = (u.startedNext c x now none .none).unclaimed r := by
      rw [hw]
      unfold State.claimed State.unclaimed
      rw [modDyn_modDyn]
    have settledB : b.Settled := by rw [hb, released, hu]; exact next.settled
    have holdB : b.fwd.hold = [] := by rw [hb, released, hu]; exact hold
    have ctxB : b.seq.ctx = some { c with index := c.index + 1, timer := none, frame := none, wait := .none } := by rw [hb]; rfl
    have kindB : (b.stepAt (c.index + 1)).kind = .railOff r noWait := by rw [hb, released, hu]; exact next.next
    have work := settle_releasedThenDelay 65528 (time := time) settledB ctxB rfl kindB
      (show b.sched.running = some { x with guarded := (s.stepAt (c.index + 1)).guarded } by rw [hb, released, hu]; rfl)
      unmarked (by rw [hb, released, hu]; exact noQueue) holdB (by rw [hb, released, hu, zero]; exact range)
      (by rw [hb, released, hu]; exact kind)
    rw [event, ends]
    refine congrArg _ ((settle_reportIdle 65532 r .claim _ settledB.1 holdB (seqRail_idle r .claim ctxB kindB rfl)).trans (work.trans ?_))
    rw [hb, released, hy, hz]; rfl
  · obtain ⟨b, hb⟩ : ∃ b, b = s.startedNext c x now none .none := ⟨_, rfl⟩
    have event : exec .delayExpiry s = _ := event_railStart next rfl
    have railB : ∀ q, b.rail q = s.rail q := fun q => by rw [hb]; rfl
    have stateB : ∀ q, (b.claimed r).railState q = s.railState q := fun q => by rw [claimed_railState, hb]; rfl
    have serves := switchOff_serves (s := b.claimed r) (r := r) (f := f) (by rw [rail_claimed_self, railB]; exact frame) isOff
      (by rw [stateB, railState_used used]; exact up)
      (fun d mem => by
        rw [claimed_dependents, mem_dependents, railB] at mem
        rw [stateB]; exact free d ((mem_dependents s r d).mpr mem))
      (by rw [claimed_pathAvailable, hb]; exact available)
      (isBoard_board (by rw [rail_claimed_self, railB]; exact path))
    rw [event, zero, ← hb, startRailStep_overFrame (by rw [railB]; exact used) (by rw [railB]; exact claim), serves]
    refine congrArg _ ((settle_settled 65535 (by rw [hb]; exact next.settled)).trans ?_)
    rw [hb]
    exact modDyn_modDyn r (fun d => { d with claim := .step }) (fun d => { d with frame := some { f with forStep := true } })
      (s.startedNext c x now none .order)
  · obtain ⟨b, hb⟩ : ∃ b, b = s.startedNext c x now none .none := ⟨_, rfl⟩
    obtain ⟨w, hw⟩ : ∃ w, w = modDyn r (fun d => { d with frame := some { f with thenOff := true } }) (b.claimed r) := ⟨_, rfl⟩
    obtain ⟨e, he⟩ : ∃ e, e = modDyn r (fun d => { d with frame := some { f with thenOff := true } }) s := ⟨_, rfl⟩
    have event : exec .delayExpiry s = _ := event_railStart next rfl
    have railB : ∀ q, b.rail q = s.rail q := fun q => by rw [hb]; rfl
    have beside := switchOff_beside (s := b.claimed r) (r := r) (f := f) (by rw [rail_claimed_self, railB]; exact frame) isOn
      (by rw [claimed_railState, railState_used (by rw [railB]; exact used), railB]; exact off)
    have ends := stepEnd_railOff (v := w) (c := { c with index := c.index + 1, timer := none, frame := none, wait := .none })
      (noWait := noWait) none [] (by rw [hw, hb]; rfl) (by rw [hw, hb]; exact next.next)
      (by rw [hw, rail_modDyn_self, rail_claimed_self])
    rw [todo_self (by rw [hw, hb]; exact next.settled.1)] at ends
    have released : w.unclaimed r = e.startedNext c x now none .none := by
      rw [hw]
      unfold State.claimed State.unclaimed
      rw [modDyn_modDyn, modDyn_modDyn,
        modDyn_congr (g := fun d => { d with frame := some { f with thenOff := true } }) (by dsimp only; rw [railB, ← claim]), hb, he]
      rfl
    rw [released] at ends
    obtain ⟨z', hz'⟩ : ∃ z', z' = State.tidied (e.startedNext c x now none .none)
        { c with index := c.index + 1, timer := none, frame := none, wait := .none } := ⟨_, rfl⟩
    rw [← hz', List.nil_append] at ends
    have work := settle_releasedThenDelay 65531 (z := z') (time := time) (by rw [hz', he]; exact next.settled)
      (show z'.seq.ctx = some { c with index := c.index + 1, timer := none, frame := none, wait := .none } by rw [hz']; rfl) rfl
      (show (z'.stepAt (c.index + 1)).kind = .railOff r noWait by rw [hz', he]; exact next.next)
      (show z'.sched.running = some { x with guarded := (s.stepAt (c.index + 1)).guarded } by rw [hz', he]; rfl)
      unmarked (by rw [hz', he]; exact noQueue) (by rw [hz', he]; exact hold) (by rw [hz', he, zero]; exact range)
      (by rw [hz', he]; exact kind)
    rw [event, zero, ← hb, startRailStep_overFrame (by rw [railB]; exact used) (by rw [railB]; exact claim), beside, ← hw, ends]
    refine congrArg _ (work.trans ?_)
    rw [hz', ← he, hy, hz, he]; rfl

end Sys2Proof.Machine
end

section
/-! A RAIL_ON or RAIL_OFF step that waited for a claim or a frame record goes on (R19, R56, R58). -/

namespace Sys2Proof.Machine

/-! ### The step that still runs -/

/-- The step that ran in `s` still runs in `v`, with no command held and nothing left to take. -/
structure State.StepStands (s v : State) : Prop where
  settled : v.Settled
  seq : v.seq = s.seq
  sched : v.sched = s.sched
  hold : v.fwd.hold = []

theorem stepStands_kept {s v : State} {c : Context} {x : Running} {r : RailId} {k : StepKind} (step : s.RailStep c x r k)
    (kept : s.StepKept v) : s.StepStands v :=
  ⟨stepKept_settled kept step.settled, kept.seq, kept.sched, by rw [kept.fwd]; exact step.noHold⟩

theorem stepStands_ctx {s v : State} {c : Context} {x : Running} {r : RailId} {k : StepKind} (step : s.RailStep c x r k)
    (stands : s.StepStands v) : v.seq.ctx = some c := by
  rw [stands.seq]; exact step.lastStep.context

theorem stepStands_kind {s v : State} {c : Context} {x : Running} {r : RailId} {k : StepKind} (step : s.RailStep c x r k)
    (stands : s.StepStands v) : (v.stepAt c.index).kind = k :=
  (congrArg Step.kind (stepAt_congr (by rw [stands.seq]) _)).trans step.kind

/-- What a report takes of the step where no other work waits. -/
theorem settle_reportTaken (m : Nat) {v : State} (q : RailId) (kd : ReportKind) (settled : v.Settled) (hold : v.fwd.hold = []) :
    settle (m + 3) (v.todo [.report q kd]) = settle m (seqRail q kd v) :=
  (settle_report_noHold (m + 1) q kd [] settled.1 hold).trans (settle_lastWork m (.seqRail q kd) settled.1 rfl)

theorem claimed_isBoard (s : State) (r : RailId) : (s.claimed r).isBoard r = s.isBoard r := by
  unfold State.isBoard
  rw [(claimed_states s r r).1]

/-! ### The wait for a claim or a frame record is over (R19) -/

/-- The step as it gives its order after the wait. -/
def State.goesOn (s : State) (c : Context) : State :=
  { s with seq := { s.seq with ctx := some { c with timer := none, wait := .none } } }

theorem seqRail_goesOn {s : State} {c : Context} {r : RailId} {k : StepKind} (kd : ReportKind) (ctx : s.seq.ctx = some c)
    (kind : (s.stepAt c.index).kind = k) (rail : k.rail? = some r) (waits : c.wait = .claim)
    (claim : (s.rail r).dyn.claim = .none) (frame : (s.rail r).dyn.frame = none) :
    seqRail r kd s = takeOrder c.program k ((s.goesOn c).claimed r) := by
  have taken : claimReport c k r r s = takeOrder c.program k ((s.goesOn c).claimed r) := by
    unfold claimReport
    rw [if_pos ⟨rfl, by rw [claimPort_none claim frame]; rfl⟩, modCtx_eq s _ c ctx]; rfl
  unfold seqRail
  rw [current_eq ctx kind]
  rcases railKind_cases rail with ⟨noWait, rfl⟩ | ⟨noWait, rfl⟩
  · exact (if_pos waits).trans taken
  · exact (if_pos waits).trans taken

theorem endedWith_goesOn (v : State) (c : Context) (e : ProgramEnd) : (v.goesOn c).endedWith c e = v.endedWith c e := rfl

/-- The report that ends the wait ends the program where the order ends the step. -/
theorem settle_goesOnEnds (m : Nat) {s v : State} {c : Context} {x : Running} {r : RailId} {k : StepKind} {e : ProgramEnd}
    (kd : ReportKind) (step : s.RailStep c x r k) (waits : c.wait = .claim) (stands : s.StepStands v)
    (used : (v.rail r).static.used = true) (ends : v.EndsAtOnce r c.index k e) :
    settle (m + 9) (v.todo [.report r kd]) = v.endedWith c e := by
  have ⟨claim, frame, _⟩ := ends
  have ctx := stepStands_ctx step stands
  rw [settle_reportTaken (m + 6) r kd stands.settled stands.hold,
    seqRail_goesOn kd ctx (stepStands_kind step stands) step.rail waits claim frame,
    ← endedWith_goesOn]
  exact settle_orderEnds m (a := none) (b := c.frame) (w := .none) c.program step (v := v.goesOn c) (by exact stands.settled)
    (by unfold State.goesOn; rw [stands.seq]) (by exact stands.sched) (by exact stands.hold) (by exact used) (by exact ends)

/-- It leaves the step waiting for a rail that is on its way down. -/
theorem settle_goesOnWaits (m : Nat) {s v : State} {c : Context} {x : Running} {r : RailId} {k : StepKind} (kd : ReportKind)
    (step : s.RailStep c x r k) (waits : c.wait = .claim) (stands : s.StepStands v) (used : (v.rail r).static.used = true)
    (claim : (v.rail r).dyn.claim = .none) (frame : (v.rail r).dyn.frame = none)
    (down : (v.rail r).dyn.state = .falling ∨ (v.rail r).dyn.state = .discharging) :
    settle (m + 9) (v.todo [.report r kd]) = modDyn r (fun d => { d with claim := .step }) { v with
      seq := { s.seq with ctx := some { c with timer := none, wait := if k.isRailOn = true then .fall else .order } } } := by
  have ctx := stepStands_ctx step stands
  rw [settle_reportTaken (m + 6) r kd stands.settled stands.hold,
    seqRail_goesOn kd ctx (stepStands_kind step stands) step.rail waits claim frame,
    takeOrder_waits (s := v.goesOn c) c.program step.rail (by exact used) (by exact frame) (by exact down), ← stands.seq]
  exact settle_settled _ (by exact stands.settled)

/-- It makes a switch-on frame on an OFF rail of a board. -/
theorem settle_goesOnMakes (m : Nat) {s v : State} {c : Context} {x : Running} {r : RailId} {k : StepKind} (kd : ReportKind)
    (step : s.RailStep c x r k) (waits : c.wait = .claim) (stands : s.StepStands v) (used : (v.rail r).static.used = true)
    (claim : (v.rail r).dyn.claim = .none) (frame : (v.rail r).dyn.frame = none) (isOn : k.isRailOn = true)
    (off : (v.rail r).dyn.state = .off) (prereqs : v.allOn (v.rail r).static.prereqs = true) (board : v.isBoard r = true)
    (path : v.pathAvailable r = true) :
    settle (m + 9) (v.todo [.report r kd]) = offerRail r (modDyn r (fun d => { d with
      claim := .step, frame := some (.made true true) }) { v with
        seq := { s.seq with ctx := some { c with timer := none, wait := .order } } }) := by
  have ctx := stepStands_ctx step stands
  obtain ⟨b, hb⟩ : ∃ b, b = v.goesOn c := ⟨_, rfl⟩
  have kind : ∃ noWait, k = .railOn r noWait := by
    rcases railKind_cases step.rail with yes | ⟨noWait, rfl⟩
    · exact yes
    · exact nomatch isOn
  obtain ⟨noWait, hk⟩ := kind
  have makes : takeOrder c.program k (b.claimed r) = makeFrame r true true (stepWait .order none (b.claimed r)) := by
    rw [hk]
    refine (switchOn_orders ((claimed_railState b r r).trans ?_) ((claimed_allOn b r).trans ?_)
      ((claimed_pathAvailable b r).trans ?_)).trans (if_pos ?_)
    · rw [hb]; exact (railState_used used).trans off
    · rw [hb]; exact prereqs
    · rw [hb]; exact path
    · rw [claimed_isBoard, hb]; exact board
  have waiting : stepWait .order none (b.claimed r) = State.claimed { v with
      seq := { s.seq with ctx := some { c with timer := none, wait := .order } } } r := by
    rw [hb, ← stands.seq]; rfl
  have made : makeFrame r true true (stepWait .order none (b.claimed r)) = offerRail r (modDyn r (fun d => { d with
      claim := .step, frame := some (.made true true) }) { v with
        seq := { s.seq with ctx := some { c with timer := none, wait := .order } } }) := by
    rw [waiting]
    unfold makeFrame State.claimed
    rw [modDyn_modDyn]; rfl
  rw [settle_reportTaken (m + 6) r kd stands.settled stands.hold,
    seqRail_goesOn kd ctx (stepStands_kind step stands) step.rail waits claim frame, ← hb, makes, made]
  exact settle_settled _ ⟨(offerRail_agenda r _).trans stands.settled.1, (offerRail_takeDue r _).trans stands.settled.2⟩

/-! ### What ends the wait -/

/-- What a step's order finds is told by the rails and by the path of its own. -/
theorem endsAtOnce_congr {s t : State} {r : RailId} {i : Nat} {k : StepKind} {e : ProgramEnd} (rails : ∀ q, t.rail q = s.rail q)
    (path : t.pathAvailable r = s.pathAvailable r) (ends : s.EndsAtOnce r i k e) : t.EndsAtOnce r i k e := by
  have states : ∀ q, t.railState q = s.railState q := fun q => by unfold State.railState; rw [rails]
  have dependents : t.dependents r = s.dependents r := by unfold State.dependents; simp only [rails]
  unfold State.EndsAtOnce at ends ⊢
  rw [rails, allOn_congr states, path, dependents]
  simp only [states]
  exact ends

/-- The port's arbiter, and the rail's claim as it is released behind it. -/
theorem arbitrated_unclaimed (p : Port) (s : State) (r : RailId) :
    (∀ q, ((arbitrate p s).unclaimed r).rail q = (s.unclaimed r).rail q) ∧
    ((arbitrate p s).unclaimed r).pathAvailable r = (s.unclaimed r).pathAvailable r ∧
    (∀ q, q ≠ p → ((arbitrate p s).unclaimed r).port q = s.port q) ∧
    { (arbitrate p s).unclaimed r with ports := s.ports } = s.unclaimed r := by
  refine ⟨fun q => ?_, ?_, fun q other => arbitrate_other other s, ?_⟩
  · by_cases same : q = r
    · rw [same, rail_unclaimed_self, rail_unclaimed_self, rail_arbitrate]
    · rw [rail_unclaimed_other _ same, rail_unclaimed_other _ same, rail_arbitrate]
  · have path : ∀ z : State, (z.unclaimed r).pathAvailable r = z.pathAvailable r := fun z =>
      pathAvailable_congr r (rail_unclaimed z r r).1 rfl
    rw [path, path, pathAvailable_arbitrate]
  · obtain ⟨ps, only⟩ := arbitrate_ports p s
    rw [only]; rfl

/-- The command that holds the rail's claim expires: its claim's report is what the waiting step hears. -/
theorem event_claimGone {s t : State} {c : Context} {x : Running} {r : RailId} {k : StepKind} {p : Port} {tag : Byte} {e : OutEntry}
    {isOn : Bool} (step : s.RailStep c x r k) (present : s.up.present = true) (found : s.outOf p tag = some e)
    (marked : e.claimMark = true) (effect : e.cmd.effect = some (r, isOn)) (claim : (s.rail r).dyn.claim = .frame p tag)
    (ht : t = (arbitrate p (s.outExpired p e)).unclaimed r) :
    exec (.outstandingDeadlineExpiry p tag) s = .next (settle 65535 (t.todo [.report r .claim])) ∧ s.StepStands t := by
  have hands := outstandingExpiry_hands step.settled.1 present found
  rw [releaseWork_marked marked effect, outOf_tag found] at hands
  have event : exec (.outstandingDeadlineExpiry p tag) s = _ := event_todo step.settled hands
  obtain ⟨u, hu⟩ : ∃ u, u = s.outExpired p e := ⟨_, rfl⟩
  have claimU : (u.rail r).dyn.claim = .frame p tag := by rw [hu]; exact claim
  have stands : s.StepStands u := by
    rw [hu]; exact ⟨step.settled, rfl, rfl, step.noHold⟩
  rw [← hu] at event ht
  obtain ⟨ps, only⟩ := arbitrate_ports p u
  have agenda : (arbitrate p u).agenda = [] := by rw [only]; exact stands.settled.1
  have released := releaseFrame_held (r := r) (p := p) (tag := tag) agenda (by rw [rail_arbitrate]; exact claimU)
  rw [← ht] at released
  refine ⟨?_, ?_⟩
  · rw [event]
    exact congrArg _ (settle_hands 65535 (.releaseFrame r p tag) [] [.report r .claim] agenda rfl released)
  · rw [ht, only]
    exact ⟨stands.settled, stands.seq, stands.sched, stands.hold⟩

theorem stepWaits_other {s : State} {c : Context} (r : RailId) (ctx : s.seq.ctx = some c) (other : c.wait ≠ .order) :
    s.stepWaits r = false := by
  unfold State.stepWaits
  rw [ctx]
  dsimp only
  rw [beq_eq_false_iff_ne.mpr other]; rfl

/-- The last attempt of a frame that no step waits for ends: the record's absence is what the waiting step hears. -/
theorem event_frameGone {s u : State} {c : Context} {x : Running} {r : RailId} {k : StepKind} {f : RailFrame} {due : Time}
    (step : s.RailStep c x r k) (waits : c.wait = .claim) (frame : (s.rail r).dyn.frame = some f) (sent : f.mark = .sent due)
    (second : f.attempt ≠ 1) (hu : u = State.unframed { s with now := max s.now due } r) :
    exec (.railFrameDeadline r) s = .next (settle 65536 (u.todo [.report r .frame])) ∧ s.StepStands u := by
  have idle : s.stepWaits r = false := stepWaits_other r step.lastStep.context (by rw [waits]; exact Wait.noConfusion)
  have hands := (railFrameDeadline_noReply frame sent second).trans
    (frameEnd_fails (s := { s with now := max s.now due }) (by exact step.settled.1) (by exact frame) idle FrameOutcome.noConfusion)
  rw [← hu] at hands
  refine ⟨event_todo step.settled hands, ?_⟩
  rw [hu]
  exact ⟨step.settled, rfl, rfl, step.noHold⟩

/-! ### A RAIL_ON step that waited for its rail to fall (R8, R57) -/

/-- The step waits for its order, without a time limit. -/
def State.ordered (s : State) (c : Context) : State :=
  { s with seq := { s.seq with ctx := some { c with timer := none, wait := .order } } }

theorem stepWait_ordered {s : State} {c : Context} (ctx : s.seq.ctx = some c) : stepWait .order none s = s.ordered c :=
  modCtx_eq s _ c ctx

/-- A rail's change of state and the step's wait do not meet. -/
theorem ordered_enterState (r : RailId) (st : RailState) (s : State) (c : Context) :
    (enterState r st s).ordered c = enterState r st (s.ordered c) := by
  have shape := enterState_program r st s { s.seq with ctx := some { c with timer := none, wait := .order } } s.sched
  obtain ⟨t, ht⟩ : ∃ t, t = enterState r st s := ⟨_, rfl⟩
  have seqT : t.seq = s.seq := by rw [ht]; exact enterState_seq r st s
  have schedT : t.sched = s.sched := by rw [ht]; exact enterState_sched r st s
  have self : t = { t with sched := s.sched } := by rw [← schedT]
  rw [← ht] at shape ⊢
  refine Eq.trans ?_ shape.symm
  unfold State.ordered
  rw [seqT]
  exact congrArg (fun z : State => { z with seq := { s.seq with ctx := some { c with timer := none, wait := .order } } }) self

theorem endedWith_ordered (v : State) (c : Context) (e : ProgramEnd) : (v.ordered c).endedWith c e = v.endedWith c e := rfl

theorem highAlarm_unsensed {s : State} {r : RailId} (unsensed : (s.rail r).static.sense = none) : s.highAlarm r = false := by
  unfold State.highAlarm
  rw [unsensed]

theorem seqRail_fell {s : State} {c : Context} {r : RailId} {noWait : Bool} (kd : ReportKind) (ctx : s.seq.ctx = some c)
    (kind : (s.stepAt c.index).kind = .railOn r noWait) (waits : c.wait = .fall) (off : s.railState r = .off) :
    seqRail r kd s = switchOn r s := by
  unfold seqRail
  rw [current_eq ctx kind]
  refine (if_neg (by rw [waits]; exact Wait.noConfusion)).trans ?_
  unfold railOnReport
  rw [waits]
  refine (if_pos rfl).trans ?_
  rw [off]

/-- FALL_MS brings the step's rail to OFF, and the step gives its order there. -/
theorem event_fell {s u e : State} {c : Context} {x : Running} {r : RailId} {noWait : Bool} {due : Time}
    (step : s.RailStep c x r (.railOn r noWait)) (waits : c.wait = .fall) (falling : (s.rail r).dyn.state = .falling)
    (timer : (s.rail r).dyn.timer = some due) (noForce : (s.rail r).static.discharge.isForce = false)
    (unsensed : (s.rail r).static.sense = none) (hu : u = { s with now := max s.now due }) (he : e = enterState r .off u) :
    exec (.fallExpiry r) s = .next (settle 65533 (switchOn r e)) ∧ s.StepStands e ∧
      e.rail r = { s.rail r with dyn := { (s.rail r).dyn with state := .off, timer := none, heldGood := false, faultCause := none } } ∧
      (∀ q, q ≠ r → e.rail q = s.rail q) ∧ e.ports = s.ports := by
  have moved := movedTo_enterState r .off u
  rw [← he] at moved
  have railU : ∀ q, u.rail q = s.rail q := fun q => by rw [hu]; rfl
  have stands : s.StepStands e := by
    rw [he, hu]
    exact ⟨⟨(enterState_agenda r .off _).trans step.settled.1, (enterState_takeDue r .off _).trans step.settled.2⟩,
      enterState_seq r .off _, enterState_sched r .off _, (congrArg Forwarding.hold (enterState_fwd r .off _)).trans step.noHold⟩
  have railE := moved.rail
  rw [railU] at railE
  have quiet : ((u.rail r).dyn.state.isUp && !RailState.off.isUp) = false := by rw [railU, falling]; rfl
  have moves := moveRail_settled r .off (s := u) (by rw [hu]; exact step.settled.1) (.inr RailState.noConfusion)
  rw [quiet, ← he] at moves
  have event : exec (.fallExpiry r) s = _ := event_todo step.settled
    ((fallExpiry_off step.used timer falling noForce unsensed).trans ((by rw [hu]) : _ = moveRail r .off u) |>.trans moves)
  refine ⟨?_, stands, railE, fun q other => (moved.others q other).trans (railU q), ?_⟩
  · rw [event]
    refine congrArg _ ((settle_reportTaken 65533 r .state stands.settled stands.hold).trans ?_)
    rw [seqRail_fell .state (stepStands_ctx step stands) (stepStands_kind step stands) waits
      (by rw [railState_used (by rw [railE]; exact step.used), railE])]
  · rw [he, hu]; exact enterState_ports r .off _

/-- What the rails' orders ask of their prerequisites is which of them are ON. -/
theorem allOn_moved {s t : State} {r : RailId} (others : ∀ q, q ≠ r → t.rail q = s.rail q)
    (own : (t.railState r == .on) = (s.railState r == .on)) (b : BitVec 24) : t.allOn b = s.allOn b := by
  have each : ∀ q, (t.railState q == .on) = (s.railState q == .on) := fun q => by
    by_cases same : q = r
    · rw [same]; exact own
    · unfold State.railState
      rw [others q same]
  unfold State.allOn
  simp only [each]

/-- A rail step's wait for its fall ends with its prerequisites missing: the step fails (R8). -/
theorem fellUnmet {s u : State} {c : Context} {x : Running} {r : RailId} {noWait : Bool} {due : Time}
    (step : s.RailStep c x r (.railOn r noWait)) (waits : c.wait = .fall) (claim : (s.rail r).dyn.claim = .step)
    (frame : (s.rail r).dyn.frame = none) (falling : (s.rail r).dyn.state = .falling)
    (timer : (s.rail r).dyn.timer = some due) (noForce : (s.rail r).static.discharge.isForce = false)
    (unsensed : (s.rail r).static.sense = none) (hu : u = { s with now := max s.now due })
    (unmet : s.allOn (s.rail r).static.prereqs = false) :
    exec (.fallExpiry r) s = .next (((enterState r .off u).unclaimed r).endedWith c (.failed c.index .prereq)) := by
  obtain ⟨e, he⟩ : ∃ e, e = enterState r .off u := ⟨_, rfl⟩
  obtain ⟨event, stands, railE, others, _⟩ := event_fell step waits falling timer noForce unsensed hu he
  have state : e.railState r = .off := by rw [railState_used (by rw [railE]; exact step.used), railE]
  have prereqs : e.allOn (e.rail r).static.prereqs = false := by
    rw [railE, allOn_moved others (by rw [state, railState_used step.used, falling]; rfl)]
    exact unmet
  have fails : switchOn r e = stepEnd (some .prereq) e := by
    unfold switchOn
    rw [state]
    dsimp only
    rw [prereqs]; rfl
  have work := settle_stepEnd 65527 [] (some .prereq) step stands.settled
    (stands.seq.trans (seq_self step.lastStep.context)) stands.sched stands.hold (by rw [railE]; exact claim)
  rw [todo_own, released_unframed _ (by rw [railE]; exact frame)] at work
  rw [event, fails, ← he]
  exact congrArg _ (work.trans (settle_done 65527 (settled_endedWith _ _ (settled_unclaimed r stands.settled))))

/-- It ends with the rail's board there to be told: the step makes its ON frame (R5, R8). -/
theorem fellMakes {s u : State} {c : Context} {x : Running} {r : RailId} {noWait : Bool} {due : Time}
    (step : s.RailStep c x r (.railOn r noWait)) (waits : c.wait = .fall) (falling : (s.rail r).dyn.state = .falling)
    (timer : (s.rail r).dyn.timer = some due) (noForce : (s.rail r).static.discharge.isForce = false)
    (unsensed : (s.rail r).static.sense = none) (hu : u = { s with now := max s.now due })
    (met : s.allOn (s.rail r).static.prereqs = true) (board : s.isBoard r = true) (path : s.pathAvailable r = true) :
    exec (.fallExpiry r) s =
      .next (offerRail r (modDyn r (fun d => { d with frame := some (.made true true) }) (enterState r .off (u.ordered c)))) := by
  obtain ⟨e, he⟩ : ∃ e, e = enterState r .off u := ⟨_, rfl⟩
  obtain ⟨event, stands, railE, others, ports⟩ := event_fell step waits falling timer noForce unsensed hu he
  have state : e.railState r = .off := by rw [railState_used (by rw [railE]; exact step.used), railE]
  have orders := switchOn_orders state
    (by rw [railE, allOn_moved others (by rw [state, railState_used step.used, falling]; rfl)]; exact met)
    ((pathAvailable_congr r (by rw [railE]) ports).trans path)
  rw [if_pos (by unfold State.isBoard at board ⊢; rw [railE]; exact board), stepWait_ordered (stepStands_ctx step stands), he,
    ordered_enterState] at orders
  rw [event, he, orders]
  refine congrArg _ (settle_settled 65533 ?_)
  have settledV : (u.ordered c).Settled := by rw [hu]; exact step.settled
  exact ⟨(offerRail_agenda r _).trans ((enterState_agenda r .off _).trans settledV.1),
    (offerRail_takeDue r _).trans ((enterState_takeDue r .off _).trans settledV.2)⟩

/-- It ends with a rail of the part: the rail rises; the step waits on, or with NO_WAIT completes (R8, R57). -/
theorem fellRises {s u : State} {c : Context} {x : Running} {r : RailId} {noWait : Bool} {due : Time} {i : Fin 12}
    (step : s.RailStep c x r (.railOn r noWait)) (waits : c.wait = .fall) (claim : (s.rail r).dyn.claim = .step)
    (frame : (s.rail r).dyn.frame = none) (falling : (s.rail r).dyn.state = .falling)
    (timer : (s.rail r).dyn.timer = some due) (noForce : (s.rail r).static.discharge.isForce = false)
    (unsensed : (s.rail r).static.sense = none) (hu : u = { s with now := max s.now due })
    (met : s.allOn (s.rail r).static.prereqs = true) (path : (s.rail r).static.path = .onPart i) :
    (noWait = false → exec (.fallExpiry r) s = .next (enterState r .rising (enterState r .off (u.ordered c)))) ∧
    (noWait = true →
      exec (.fallExpiry r) s = .next ((enterState r .rising (enterState r .off (u.unclaimed r))).endedWith c .done)) := by
  obtain ⟨e, he⟩ : ∃ e, e = enterState r .off u := ⟨_, rfl⟩
  obtain ⟨event, stands, railE, others, _⟩ := event_fell step waits falling timer noForce unsensed hu he
  have state : e.railState r = .off := by rw [railState_used (by rw [railE]; exact step.used), railE]
  have pathE : (e.rail r).static.path = .onPart i := by rw [railE]; exact path
  have orders := switchOn_orders state
    (by rw [railE, allOn_moved others (by rw [state, railState_used step.used, falling]; rfl)]; exact met)
    (pathAvailable_part (by rw [railE]; exact step.used) pathE)
  obtain ⟨b, hb⟩ : ∃ b, b = e.ordered c := ⟨_, rfl⟩
  have railB : b.rail r = e.rail r := by rw [hb]; rfl
  have settledB : b.Settled := by rw [hb]; exact stands.settled
  have holdB : b.fwd.hold = [] := by rw [hb]; exact stands.hold
  have seqB : b.seq = { s.seq with ctx := some { c with timer := none, frame := c.frame, wait := .order } } := by
    rw [hb]
    unfold State.ordered
    rw [stands.seq]
  have low : b.highAlarm r = false := highAlarm_unsensed (by rw [railB, railE]; exact unsensed)
  have rises : ((b.rail r).dyn.state.isUp && !RailState.rising.isUp) = true → b.NoDependentUp r := fun no => by
    rw [Bool.and_comm] at no; exact nomatch no
  rw [if_neg (by rw [isBoard_onPart pathE]; exact Bool.false_ne_true), stepWait_ordered (stepStands_ctx step stands), ← hb] at orders
  rw [event, orders]
  obtain ⟨static, stateR, _⟩ := rail_entered r .rising b
  have usedR : ((enterState r .rising b).rail r).static.used = true := by rw [static, railB, railE]; exact step.used
  have reports := (seqRail_on (v := enterState r .rising b) (c := c) (a := none) (b := c.frame) .state step
    ((enterState_seq r .rising b).trans seqB) usedR).2.1 stateR
  refine ⟨fun no => ?_, fun yes => ?_⟩
  · rw [if_neg (by rw [no]; exact Bool.false_ne_true)] at reports
    rw [settle_moveRail_waits 65529 .rising settledB holdB (.inl low) rises reports, hb, he, ordered_enterState]
  · rw [if_pos yes] at reports
    rw [settle_moveRail_ends 65523 .rising none step settledB seqB (by rw [hb]; exact stands.sched) holdB
      (by rw [railB, railE]; exact claim) (fun _ => by rw [railB, railE]; exact frame) (.inl low) rises reports,
      ← enterState_unclaimed]
    have shape : b.unclaimed r = (e.unclaimed r).ordered c := by rw [hb]; rfl
    rw [shape, ← ordered_enterState, endedWith_ordered, he, ← enterState_unclaimed]; rfl

end Sys2Proof.Machine
end

section
/-! A RAIL_ON step loses a prerequisite by an alarm, or a rail step its path by a capability record (R15, R17, R57; logs 41, 51). -/

namespace Sys2Proof.Machine

/-! ### A prerequisite enters FAULT (R15, R57; log 41) -/

/-- A change of another rail's dynamic half does not meet a rail's move. -/
theorem onlyMovedTo_modDyn {u t : State} {q r : RailId} {st : RailState} {timer : Option Time} {cause : Option FaultCause}
    (f : RailDynamic → RailDynamic) (other : q ≠ r) (moved : State.OnlyMovedTo q st timer cause u t) :
    State.OnlyMovedTo q st timer cause (modDyn r f u) (modDyn r f t) := by
  have own : (modDyn r f u).rail q = u.rail q := by rw [rail_modDyn, if_neg other]
  refine { rail := ?_, others := fun z away => ?_, enable := fun e path => ?_, noEnable := fun p i a b path => ?_,
           noDischarge := fun none => ?_, bleed := fun o bleed => ?_, force := fun o n force => ?_, channels := fun c => ?_,
           rest := ?_ }
  · rw [own, rail_modDyn, if_neg other]; exact moved.rail
  · by_cases same : z = r
    · rw [same, rail_modDyn_self, rail_modDyn_self, moved.others r (fun no => other no.symm)]
    · rw [rail_modDyn, rail_modDyn, if_neg same, if_neg same]; exact moved.others z away
  · rw [own] at path; exact moved.enable e path
  · rw [own] at path; exact moved.noEnable p i a b path
  · rw [own] at none; exact moved.noDischarge none
  · rw [own] at bleed; exact moved.bleed o bleed
  · rw [own] at force; exact moved.force o n force
  · rw [own]; exact moved.channels c
  · exact congrArg (fun z : State => { z with rails := (modDyn r f u).rails }) moved.rest

/-- A RAIL_ON step that waits for its order fails as a prerequisite leaves ON. -/
theorem seqRail_prereqLost {s : State} {c : Context} {r q : RailId} {noWait : Bool} (kd : ReportKind) (ctx : s.seq.ctx = some c)
    (kind : (s.stepAt c.index).kind = .railOn r noWait) (waits : c.wait = .order) (other : q ≠ r)
    (needs : inSet (s.rail r).static.prereqs q = true) (lost : s.railState q ≠ .on) :
    seqRail q kd s = stepEnd (some .prereqLost) s := by
  unfold seqRail
  rw [current_eq ctx kind]
  refine (if_neg (by rw [waits]; exact Wait.noConfusion)).trans ?_
  unfold railOnReport
  rw [waits]
  refine (if_neg other).trans (if_pos ?_)
  rw [needs, bne_iff_ne.mpr lost]; rfl

/-- What a sample needs to take a prerequisite of the step's rail to FAULT, with nothing else to do but the step and its rail. -/
structure State.PrereqFaults (s : State) (r q : RailId) (d : ChannelId) (mv : Nat) (y : Channel) (cause : FaultCause) : Prop where
  other : q ≠ r
  needs : inSet (s.rail r).static.prereqs q = true
  used : (s.rail q).static.used = true
  claim : (s.rail q).dyn.claim = .none
  frame : (s.rail q).dyn.frame = none
  noBoard : ∀ p i a b, (s.rail q).static.path = .board p i a b → s.pathAvailable q = false
  noAction : (s.rail q).static.faultAction = none
  others : ∀ z, z ≠ r → (s.rail z).static.used = true → inSet (s.rail z).static.prereqs q = true →
    (s.rail z).dyn.state ≠ .rising ∧ (s.rail z).dyn.state ≠ .on
  samples : s.Samples d mv q y
  faults : s.AlarmFaults d q y cause

/-- The fault of the prerequisite as the step's end finds it: the program is over, and RAIL_FAULT with the cascade stands out. -/
theorem event_prereqFaults {s u g t : State} {c : Context} {x : Running} {r q : RailId} {noWait : Bool} {d : ChannelId} {mv : Nat}
    {y : Channel} {cause : FaultCause} (step : s.RailStep c x r (.railOn r noWait)) (waits : c.wait = .order)
    (claim : (s.rail r).dyn.claim = .step) (faults : s.PrereqFaults r q d mv y cause) (hu : u = setChan d y (convTurn d s))
    (hg : g = u.faulted q cause) (ht : t = g.released r (.railOn r noWait)) :
    ∃ l, (l = [] ∨ l = [.good q] ∨ l = [.safe q] ∨ l = [.belowGood q]) ∧
      exec (.senseSample d mv) s = .next (settle 65524 ((raise .railFault (t.endedWith c (.failed c.index .prereqLost))).todo
        (.cascade q 0 :: .faultAction q :: l))) ∧
      State.OnlyMovedTo q .fault none (some cause) u g ∧ g.Settled ∧ g.fwd.hold = [] ∧ g.phase = .running := by
  have kept := stepKept_sample hu
  have railU := stepKept_rail kept
  obtain ⟨l, hands, levels, taken⟩ := senseSample_alarm step.toUp faults.samples faults.faults hu faults.used
  have settledU := stepKept_settled kept step.settled
  have settledG : g.Settled := by rw [hg]; exact settled_faulted q cause settledU
  have moved : State.OnlyMovedTo q .fault none (some cause) u g := by rw [hg]; exact onlyMovedTo_fault q cause u
  have seqG : g.seq = s.seq := by rw [hg]; exact (enterState_seq q .fault u).trans kept.seq
  have schedG : g.sched = s.sched := by rw [hg]; exact (enterState_sched q .fault u).trans kept.sched
  have holdG : g.fwd.hold = [] := by
    rw [hg]; exact (congrArg Forwarding.hold ((enterState_fwd q .fault u).trans kept.fwd)).trans step.noHold
  have phaseG : g.phase = .running := by
    rw [hg]
    refine (enterState_phase q .fault u).trans ?_
    rw [hu]; exact (convTurn_phase d s).trans step.running
  have unreached : g.pathAvailable q = false ∨ (g.rail q).static.port? = none := by
    rw [hg, pathAvailable_faulted, static_faulted, pathAvailable_congr (s := s) q (by rw [railU]) kept.ports, railU]
    cases path : (s.rail q).static.path with
    | onPart e => exact .inr (port?_part path)
    | board p i a b => exact .inl (faults.noBoard p i a b path)
  have stays : followOff q (u.faulted q cause) = g := by rw [← hg]; exact followOff_stays unreached
  have enters := taken.trans (enterFault_hands (s := u) q cause (by rw [stays]; exact settledG.1))
  rw [stays] at enters
  have railR : g.rail r = s.rail r := (moved.others r (fun no => faults.other no.symm)).trans (railU r)
  have fault : g.railState q = .fault := by
    rw [railState_used (by rw [moved.rail, railU]; exact faults.used), moved.rail]
  have lost : seqRail q .state g = stepEnd (some .prereqLost) g := by
    refine seqRail_prereqLost .state (noWait := noWait) (by rw [seqG]; exact step.lastStep.context) ?_ waits faults.other
      (by rw [railR]; exact faults.needs) (by rw [fault]; exact RailState.noConfusion)
    exact (congrArg Step.kind (stepAt_congr (by rw [seqG]) _)).trans step.kind
  have work := settle_reportEnds 65526 ([.faultClaim q, .raise .railFault, .cascade q 0, .faultAction q] ++ l) q .state
    (some .prereqLost) step settledG (seqG.trans (seq_self step.lastStep.context)) schedG holdG (by rw [railR]; exact claim) lost
  obtain ⟨w, hw⟩ : ∃ w, w = t.endedWith c (.failed c.index .prereqLost) := ⟨_, rfl⟩
  rw [← ht] at work
  have settledT : t.Settled := by
    rw [ht]; exact ⟨(released_agenda g r _).trans settledG.1, (released_takeDue g r _).trans settledG.2⟩
  have settledW : w.Settled := by rw [hw]; exact settled_endedWith _ _ settledT
  have free : (w.rail q).dyn.claim = .none := by
    rw [hw, rail_endedWith, ht]
    show (((markThenOff r g).unclaimed r).rail q).dyn.claim = .none
    rw [rail_unclaimed_other _ faults.other]
    unfold markThenOff
    rw [rail_modDyn, if_neg faults.other, moved.rail, railU]; exact faults.claim
  refine ⟨l, levels, ?_, moved, settledG, holdG, phaseG⟩
  have event : exec (.senseSample d mv) s = _ := event_todo step.settled hands
  rw [event]
  refine congrArg _ ((settle_hands 65535 _ l (faultWork q) settledU.1 rfl enters).trans (work.trans ?_))
  rw [show Context.endOf c (some .prereqLost) = .failed c.index .prereqLost from rfl, ← hw]
  refine (settle_plain 65525 (.faultClaim q) _ settledW.1 rfl (faultClaim_none free) settledW.1).trans ?_
  exact settle_raise 65524 .railFault _ settledW.1

/-- The step's ON frame in flight gains THEN_OFF; nothing falls. -/
theorem prereqFaults_beside {s u : State} {c : Context} {x : Running} {r q : RailId} {noWait : Bool} {d : ChannelId} {mv : Nat}
    {y : Channel} {cause : FaultCause} {f : RailFrame} (step : s.RailStep c x r (.railOn r noWait)) (waits : c.wait = .order)
    (claim : (s.rail r).dyn.claim = .step) (faults : s.PrereqFaults r q d mv y cause) (hu : u = setChan d y (convTurn d s))
    (off : (s.rail r).dyn.state = .off) (frame : (s.rail r).dyn.frame = some f) (isOn : f.isOn = true) :
    ∃ t : State, exec (.senseSample d mv) s = .next (raise .railFault (t.endedWith c (.failed c.index .prereqLost))) ∧
      State.OnlyMovedTo q .fault none (some cause)
        (modDyn r (fun z => { z with claim := .none, frame := some { f with thenOff := true } }) u) t := by
  obtain ⟨g, hg⟩ : ∃ g, g = u.faulted q cause := ⟨_, rfl⟩
  obtain ⟨t, ht⟩ : ∃ t, t = g.released r (.railOn r noWait) := ⟨_, rfl⟩
  obtain ⟨l, levels, event, moved, settledG, _⟩ := event_prereqFaults step waits claim faults hu hg ht
  have railU := stepKept_rail (stepKept_sample hu)
  have railR : g.rail r = s.rail r := (moved.others r (fun no => faults.other no.symm)).trans (railU r)
  have shape : t = modDyn r (fun z => { z with claim := .none, frame := some { f with thenOff := true } }) g := by
    rw [ht]
    show (markThenOff r g).unclaimed r = _
    rw [markThenOff_on (by rw [railR]; exact frame) isOn]
    exact modDyn_modDyn r _ _ g
  obtain ⟨w, hw⟩ : ∃ w, w = raise .railFault (t.endedWith c (.failed c.index .prereqLost)) := ⟨_, rfl⟩
  have railW : ∀ z, (w.rail z).static = (g.rail z).static ∧ (w.rail z).dyn.state = (g.rail z).dyn.state := fun z => by
    rw [hw, rail_raise, rail_endedWith, shape]
    exact rail_modDyn_state (s := g) rfl z
  have settledW : w.Settled := by
    rw [hw, shape]; exact settled_raise _ (settled_endedWith _ _ (by exact settledG))
  have downs : ∀ z ∈ w.dependents q, (w.railState z).isUp = false := dependents_down q fun z used needs => by
    rw [(railW z).1] at used needs
    rw [(railW z).2]
    by_cases same : z = r
    · rw [same, railR, off]; exact ⟨RailState.noConfusion, RailState.noConfusion⟩
    · by_cases own : z = q
      · rw [own, moved.rail]; exact ⟨RailState.noConfusion, RailState.noConfusion⟩
      · rw [moved.others z own, railU] at used needs ⊢
        exact faults.others z same used needs
  have noAction : (w.rail q).static.faultAction = none := by
    rw [(railW q).1, moved.rail, railU]; exact faults.noAction
  have fault : w.railState q = .fault := by
    rw [railState_used (by rw [(railW q).1, moved.rail, railU]; exact faults.used), (railW q).2, moved.rail]
  refine ⟨t, ?_, ?_⟩
  · rw [event, ← hw]
    refine congrArg _ ((settle_cascade_none 65523 q 0 _ settledW.1 downs).trans ?_)
    refine (settle_plain 65522 (.faultAction q) l settledW.1 rfl (faultAction_none noAction) settledW.1).trans ?_
    exact settle_levelsFaulted 65521 settledW fault levels
  · rw [shape]
    exact onlyMovedTo_modDyn _ faults.other moved

/-- The rail of the part that was rising falls by the cascade, behind RAIL_FAULT. -/
theorem prereqFaults_falls {s u : State} {c : Context} {x : Running} {r q : RailId} {noWait : Bool} {d : ChannelId} {mv : Nat}
    {y : Channel} {cause : FaultCause} {i : Fin 12} (step : s.RailStep c x r (.railOn r noWait)) (waits : c.wait = .order)
    (claim : (s.rail r).dyn.claim = .step) (faults : s.PrereqFaults r q d mv y cause) (hu : u = setChan d y (convTurn d s))
    (rising : (s.rail r).dyn.state = .rising) (path : (s.rail r).static.path = .onPart i) (frame : (s.rail r).dyn.frame = none)
    (down : s.NoDependentUp r) :
    ∃ t w : State, exec (.senseSample d mv) s = .next w ∧ State.OnlyMovedTo q .fault none (some cause) (u.unclaimed r) t ∧
      State.OnlyMovedTo r .falling (some (u.now + 2000 * (s.rail r).static.fallMs)) none
        (raise .railFault (t.endedWith c (.failed c.index .prereqLost))) w := by
  obtain ⟨g, hg⟩ : ∃ g, g = u.faulted q cause := ⟨_, rfl⟩
  obtain ⟨t, ht⟩ : ∃ t, t = g.released r (.railOn r noWait) := ⟨_, rfl⟩
  obtain ⟨l, levels, event, moved, settledG, holdG, phaseG⟩ := event_prereqFaults step waits claim faults hu hg ht
  have railU := stepKept_rail (stepKept_sample hu)
  have railR : g.rail r = s.rail r := (moved.others r (fun no => faults.other no.symm)).trans (railU r)
  have shape : t = g.unclaimed r := by
    rw [ht]; exact released_unframed _ (by rw [railR]; exact frame)
  obtain ⟨w, hw⟩ : ∃ w, w = raise .railFault (t.endedWith c (.failed c.index .prereqLost)) := ⟨_, rfl⟩
  have railW : ∀ z, (w.rail z).static = (g.rail z).static ∧ (w.rail z).dyn.state = (g.rail z).dyn.state := fun z => by
    rw [hw, rail_raise, rail_endedWith, shape]
    exact rail_unclaimed g r z
  have seqW : w.seq.ctx = none := by
    rw [hw, raise_seq]
    unfold State.endedWith
    rw [raise_seq]
  have calmW : w.Calm := by
    refine ⟨⟨?_, ?_⟩, ?_, fun c ctx => by rw [seqW] at ctx; exact nomatch ctx⟩
    · rw [hw, shape]; exact settled_raise _ (settled_endedWith _ _ (settled_unclaimed r settledG))
    · rw [hw, raise_phase, shape]
      unfold State.endedWith
      rw [raise_phase]; exact phaseG
    · rw [hw, raise_fwd, shape]
      unfold State.endedWith
      rw [raise_fwd]; exact holdG
  have nowW : w.now = u.now := by
    rw [hw, raise_now, shape]
    unfold State.endedWith
    rw [raise_now]
    exact (congrArg State.now moved.rest :)
  have fell := movedTo_enterState r .falling w
  have falls := settle_cascadeOne (i := i) 65518 (.faultAction q :: l) calmW (r := q) (d := r)
    (by rw [(railW r).1, railR]; exact step.used) (by rw [(railW r).1, railR]; exact faults.needs)
    (by rw [(railW r).1, railR]; exact path) (by rw [(railW r).2, railR, rising]; rfl) (fun z other used needs => by
      rw [(railW z).1] at used needs
      rw [(railW z).2]
      by_cases own : z = q
      · rw [own, moved.rail]; exact ⟨RailState.noConfusion, RailState.noConfusion⟩
      · rw [moved.others z own, railU] at used needs ⊢
        exact needs.elim (faults.others z other used) (down z used))
  obtain ⟨e, he⟩ : ∃ e, e = enterState r .falling w := ⟨_, rfl⟩
  rw [← he] at falls fell
  have railQ : e.rail q = w.rail q := fell.others q faults.other
  have settledE : e.Settled := by rw [he]; exact (calm_enterState calmW r .falling).settled
  have noAction : (e.rail q).static.faultAction = none := by
    rw [railQ, (railW q).1, moved.rail, railU]; exact faults.noAction
  have fault : e.railState q = .fault := by
    rw [railState_used (by rw [railQ, (railW q).1, moved.rail, railU]; exact faults.used), railQ, (railW q).2, moved.rail]
  refine ⟨t, e, ?_, ?_, ?_⟩
  · rw [event, ← hw]
    refine congrArg _ (falls.trans ?_)
    refine (settle_plain 65517 (.faultAction q) l settledE.1 rfl (faultAction_none noAction) settledE.1).trans ?_
    exact settle_levelsFaulted 65516 settledE fault levels
  · rw [shape]
    exact onlyMovedTo_modDyn _ faults.other moved
  · rw [he, ← hw]
    refine onlyMovedTo_enterState r .falling w ?_
    rw [(railW r).1, railR, nowW]; rfl

end Sys2Proof.Machine
end

section
/-! A rail step loses its rail's path by a capability record, and the statement of the waits (R17, R57; log 51). -/

namespace Sys2Proof.Machine

/-! ### The step is told first (R57; log 51) -/

/-- The program is over: a rail's report finds no one. -/
theorem calm_ended {s v : State} (r : RailId) (c : Context) (e : ProgramEnd) (stands : s.StepStands v) (running : v.phase = .running) :
    ((v.unclaimed r).endedWith c e).Calm := by
  have seq : ((v.unclaimed r).endedWith c e).seq.ctx = none := by
    unfold State.endedWith
    rw [raise_seq]
  refine ⟨⟨settled_endedWith _ _ (settled_unclaimed r stands.settled), ?_⟩, ?_, fun c ctx => by rw [seq] at ctx; exact nomatch ctx⟩
  · unfold State.endedWith
    rw [raise_phase]; exact running
  · unfold State.endedWith
    rw [raise_fwd]; exact stands.hold

/-- A RAIL_ON step that waits for its order or for the rail to fall fails with the path. -/
theorem settle_pathFailsStep (m : Nat) (ws : List Work) {s v : State} {c : Context} {x : Running} {r : RailId} {noWait : Bool}
    (step : s.RailStep c x r (.railOn r noWait)) (waits : c.wait = .order ∨ c.wait = .fall) (stands : s.StepStands v)
    (claim : (v.rail r).dyn.claim = .step) (frame : (v.rail r).dyn.frame = none) :
    settle (m + 7) (v.todo (.seqPathLost r :: ws)) =
      settle m (((v.unclaimed r).endedWith c (.failed c.index .noPath)).todo ws) := by
  have fails : handle (.seqPathLost r) v = stepEnd (some .noPath) v := by
    show seqPathLost r v = _
    unfold seqPathLost
    rw [current_eq (stepStands_ctx step stands) (stepStands_kind step stands)]
    exact if_pos ⟨rfl, waits⟩
  rw [settle_todo (m + 6) (.seqPathLost r) ws stands.settled.1 rfl, fails,
    settle_stepEnd m ws (some .noPath) step stands.settled (stands.seq.trans (seq_self step.lastStep.context)) stands.sched stands.hold
      claim, released_unframed _ frame]
  rfl

/-- A RAIL_OFF step takes no notice of its rail's path. -/
theorem seqPathLost_off {s : State} {c : Context} {r : RailId} {noWait : Bool} (ctx : s.seq.ctx = some c)
    (kind : (s.stepAt c.index).kind = .railOff r noWait) : seqPathLost r s = s := by
  unfold seqPathLost
  rw [current_eq ctx kind]

/-- A rail that is up loses its frame record and falls. -/
theorem losePath_clearsAndFalls {s v : State} {r : RailId} (agenda : s.agenda = []) (used : (s.rail r).static.used = true)
    (up : (s.rail r).dyn.state = .rising ∨ (s.rail r).dyn.state = .on) (frame : (s.rail r).dyn.frame ≠ none)
    (hv : v = withdrawRail r (s.unframed r)) :
    losePath r s = (enterState r .falling v).todo [.seqPathLost r, .report r .frame, .report r .state, .cascade r 0] := by
  have cleared : withdrawRail r (clearFrame r (s.todo [.seqPathLost r])) = v.todo [.seqPathLost r, .report r .frame] := by
    rw [hv, ← withdrawRail_todo]; rfl
  have railV : v.rail r = { s.rail r with dyn := { (s.rail r).dyn with frame := none } } := by
    rw [hv]
    unfold State.rail
    rw [withdrawRail_rails]
    exact rail_unframed_self s r
  have isUp : (v.rail r).dyn.state.isUp = true := by rw [railV]; exact (isUp_iff _).mpr up
  have up' : ((v.todo [.seqPathLost r, .report r .frame]).railState r).isUp = true := by
    show (v.railState r).isUp = true
    rw [railState_used (by rw [railV]; exact used)]; exact isUp
  have some : ((s.todo [.seqPathLost r]).rail r).dyn.frame.isSome = true := Option.isSome_iff_ne_none.mpr frame
  unfold losePath
  dsimp only
  rw [later_eq_todo agenda, if_pos some, cleared, if_pos up', moveRail_todo r .falling v _ (.inr RailState.noConfusion), isUp]; rfl

/-! ### The capability record (R130, R132) -/

/-- What a capability record needs to take the step's rail from its path, and nothing else. -/
structure State.PathDropped (s : State) (r : RailId) (p : Port) (payload : List Byte) (a : Capability) (old : Agreed) : Prop where
  len : payload.length ≤ 60
  link : (s.port p).link = .up
  record : decCapability payload = some a
  agreed : (s.port p).agreed = some old
  lost : old.rails.filter (fun q => q ∉ (s.agree p a).rails) = [r]
  new : r ∉ old.mismatch
  notices : old.notices = true → a.notices = true
  port : (s.rail r).static.port? = some p

/-- The record is agreed, and the path's loss stands before the two events. -/
theorem event_dropped {s u : State} {c : Context} {x : Running} {r : RailId} {k : StepKind} {p : Port} {tag : Byte}
    {payload : List Byte} {a : Capability} {old : Agreed} (step : s.RailStep c x r k) (dropped : s.PathDropped r p payload a old)
    (hu : u = modPort p (fun x => { x with agreed := some (s.agree p a) }) s) :
    exec (.unsolicitedCapability p tag payload) s =
        .next (settle 65536 (u.todo [.pathLost [r], .raise .capMismatch, .raise .linkChange])) ∧
      s.StepStands u ∧ ∀ q, u.rail q = s.rail q := by
  have event := exec_unsolicited tag step.toUp dropped.len dropped.link dropped.record dropped.agreed
  rw [← hu, replaceWork_drops dropped.lost dropped.new dropped.notices step.used dropped.port] at event
  refine ⟨event, ?_, fun q => by rw [hu]; rfl⟩
  rw [hu]
  exact ⟨step.settled, rfl, rfl, step.noHold⟩

theorem stepStands_moved {s u : State} (r : RailId) (st : RailState) (stands : s.StepStands u) : s.StepStands (enterState r st u) :=
  ⟨⟨(enterState_agenda r st u).trans stands.settled.1, (enterState_takeDue r st u).trans stands.settled.2⟩,
    (enterState_seq r st u).trans stands.seq, (enterState_sched r st u).trans stands.sched,
    (congrArg Forwarding.hold (enterState_fwd r st u)).trans stands.hold⟩

/-- The state in which the frame record is gone and its place given up. -/
theorem withdrawn_spec {s u v : State} {r : RailId} (stands : s.StepStands u) (hv : v = withdrawRail r (u.unframed r)) :
    s.StepStands v ∧ v.rail r = { u.rail r with dyn := { (u.rail r).dyn with frame := none } } ∧
      (∀ q, (v.rail q).static = (u.rail q).static ∧ (v.rail q).dyn.state = (u.rail q).dyn.state) ∧ v.now = u.now ∧
      v.phase = u.phase := by
  have rails : v.rails = (u.unframed r).rails := by rw [hv]; exact withdrawRail_rails r _
  have rail : ∀ q, v.rail q = (u.unframed r).rail q := fun q => by unfold State.rail; rw [rails]
  obtain ⟨ps, only⟩ := withdrawRail_ports r (u.unframed r)
  refine ⟨?_, ?_, fun q => ?_, ?_, ?_⟩
  · rw [hv, only]
    exact ⟨stands.settled, stands.seq, stands.sched, stands.hold⟩
  · rw [rail, rail_unframed_self]
  · rw [rail]; exact rail_unframed u r q
  · rw [hv, only]; rfl
  · rw [hv, only]; rfl

/-- A RAIL_ON step's rising rail falls with its path, behind the end of its program. -/
theorem dropped_fallsOn {s u : State} {c : Context} {x : Running} {r : RailId} {noWait : Bool} {p : Port} (tag : Byte)
    {payload : List Byte} {a : Capability} {old : Agreed} (step : s.RailStep c x r (.railOn r noWait))
    (dropped : s.PathDropped r p payload a old) (hu : u = modPort p (fun x => { x with agreed := some (s.agree p a) }) s)
    (waits : c.wait = .order ∨ c.wait = .fall) (claim : (s.rail r).dyn.claim = .step) (rising : (s.rail r).dyn.state = .rising)
    (frame : (s.rail r).dyn.frame = none) (down : s.NoDependentUp r) :
    exec (.unsolicitedCapability p tag payload) s = .next (raise .linkChange (raise .capMismatch
      (((enterState r .falling u).unclaimed r).endedWith c (.failed c.index .noPath)))) := by
  obtain ⟨event, stands, rails⟩ := event_dropped (tag := tag) step dropped hu
  have moved := movedTo_enterState r .falling u
  obtain ⟨e, he⟩ : ∃ e, e = enterState r .falling u := ⟨_, rfl⟩
  have standsE : s.StepStands e := by rw [he]; exact stepStands_moved r .falling stands
  have falls := losePath_falls stands.settled.1 (by rw [rails]; exact step.used) (by rw [rails]; exact .inl rising)
    (by rw [rails]; exact frame)
  have phase : e.phase = .running := by
    rw [he, hu]; exact (enterState_phase r .falling _).trans step.running
  have downs : ∀ q ∈ e.dependents r, (e.railState q).isUp = false := by
    rw [he]; exact dependents_down_moved moved rfl (fun d => by rw [rails]; exact down d)
  rw [← he] at falls moved
  have calm := calm_ended r c (.failed c.index .noPath) standsE phase
  rw [event, ← he]
  refine congrArg _ ((settle_hands 65535 (.pathLost [r]) _ _ stands.settled.1 rfl falls).trans ?_)
  refine (settle_pathFailsStep 65528 _ step waits standsE (by rw [moved.rail, rails]; exact claim)
    (by rw [moved.rail, rails]; exact frame)).trans ?_
  refine (settle_report_calm 65525 r .state _ calm.settled.1 calm.noHold calm.noRailStep).trans ?_
  refine (settle_cascade_none 65524 r 0 _ calm.settled.1 (dependents_down_ended e c _ r downs)).trans ?_
  exact settle_twoRaises 65522 .capMismatch .linkChange calm.settled

/-- A RAIL_ON step's frame is withdrawn with the path of its OFF rail. -/
theorem dropped_withdraws {s u v : State} {c : Context} {x : Running} {r : RailId} {noWait : Bool} {p : Port} (tag : Byte)
    {payload : List Byte} {a : Capability} {old : Agreed} (step : s.RailStep c x r (.railOn r noWait))
    (dropped : s.PathDropped r p payload a old) (hu : u = modPort p (fun x => { x with agreed := some (s.agree p a) }) s)
    (hv : v = withdrawRail r (u.unframed r)) (waits : c.wait = .order ∨ c.wait = .fall) (claim : (s.rail r).dyn.claim = .step)
    (off : (s.rail r).dyn.state = .off) (frame : (s.rail r).dyn.frame ≠ none) :
    exec (.unsolicitedCapability p tag payload) s =
      .next (raise .linkChange (raise .capMismatch ((v.unclaimed r).endedWith c (.failed c.index .noPath)))) := by
  obtain ⟨event, stands, rails⟩ := event_dropped (tag := tag) step dropped hu
  obtain ⟨standsV, railV, _, _, phaseV⟩ := withdrawn_spec stands hv
  obtain ⟨f, isSome⟩ := Option.ne_none_iff_exists'.mp frame
  have clears := losePath_clears stands.settled.1 (by rw [rails]; exact step.used)
    (by rw [rails, off]; exact fun no => no.elim RailState.noConfusion RailState.noConfusion) (by rw [rails]; exact isSome)
  rw [show withdrawRail r (modDyn r (fun d => { d with frame := none }) u) = v from hv.symm] at clears
  have calm := calm_ended r c (.failed c.index .noPath) standsV (by rw [phaseV, hu]; exact step.running)
  rw [event]
  refine congrArg _ ((settle_hands 65535 (.pathLost [r]) _ _ stands.settled.1 rfl clears).trans ?_)
  refine (settle_pathFailsStep 65528 _ step waits standsV (by rw [railV, rails]; exact claim) (by rw [railV])).trans ?_
  refine (settle_report_calm 65525 r .frame _ calm.settled.1 calm.noHold calm.noRailStep).trans ?_
  exact settle_twoRaises 65523 .capMismatch .linkChange calm.settled

/-- A RAIL_OFF step's rail falls with its path, its frame withdrawn: the step waits on, or with NO_WAIT completes. -/
theorem dropped_fallsOff {s u v : State} {c : Context} {x : Running} {r : RailId} {noWait : Bool} {p : Port} (tag : Byte)
    {payload : List Byte} {a : Capability} {old : Agreed} (step : s.RailStep c x r (.railOff r noWait))
    (dropped : s.PathDropped r p payload a old) (hu : u = modPort p (fun x => { x with agreed := some (s.agree p a) }) s)
    (hv : v = withdrawRail r (u.unframed r)) (waits : c.wait = .order) (claim : (s.rail r).dyn.claim = .step)
    (up : (s.rail r).dyn.state = .rising ∨ (s.rail r).dyn.state = .on) (frame : (s.rail r).dyn.frame ≠ none)
    (down : s.NoDependentUp r) :
    (noWait = false → exec (.unsolicitedCapability p tag payload) s =
      .next (raise .linkChange (raise .capMismatch (enterState r .falling v)))) ∧
    (noWait = true → exec (.unsolicitedCapability p tag payload) s =
      .next (raise .linkChange (raise .capMismatch (((enterState r .falling v).unclaimed r).endedWith c .done)))) := by
  obtain ⟨event, stands, rails⟩ := event_dropped (tag := tag) step dropped hu
  obtain ⟨standsV, railV, statesV, _, phaseV⟩ := withdrawn_spec stands hv
  have falls := losePath_clearsAndFalls stands.settled.1 (by rw [rails]; exact step.used) (by rw [rails]; exact up)
    (by rw [rails]; exact frame) hv
  have moved := movedTo_enterState r .falling v
  obtain ⟨e, he⟩ : ∃ e, e = enterState r .falling v := ⟨_, rfl⟩
  rw [← he] at falls moved
  have standsE : s.StepStands e := by rw [he]; exact stepStands_moved r .falling standsV
  have seqE : e.seq = { s.seq with ctx := some { c with timer := c.timer, frame := c.frame, wait := .order } } := by
    rw [← waits]; exact standsE.seq.trans (seq_self step.lastStep.context)
  have usedE : (e.rail r).static.used = true := by rw [moved.rail, railV, rails]; exact step.used
  have reports := fun kd => (seqRail_off (a := c.timer) (b := c.frame) kd step seqE usedE).2.1 (.inl (by rw [moved.rail]))
  have quiet : seqRail r .frame e = e := (reports .frame).trans (if_neg fun both => ReportKind.noConfusion both.2)
  have tells : handle (.seqPathLost r) e = e := seqPathLost_off (stepStands_ctx step standsE) (stepStands_kind step standsE)
  have downs : ∀ q ∈ e.dependents r, (e.railState q).isUp = false := dependents_down_moved moved rfl fun d => by
    rw [(statesV d).1, (statesV d).2, rails]; exact down d
  have starts : settle 65536 (u.todo [.pathLost [r], .raise .capMismatch, .raise .linkChange]) =
      settle 65531 (e.todo [.report r .state, .cascade r 0, .raise .capMismatch, .raise .linkChange]) := by
    refine (settle_hands 65535 (.pathLost [r]) _ _ stands.settled.1 rfl falls).trans ?_
    refine (settle_plain 65534 (.seqPathLost r) _ standsE.settled.1 rfl tells standsE.settled.1).trans ?_
    exact settle_reportIdle 65531 r .frame _ standsE.settled.1 standsE.hold quiet
  rw [event, starts, ← he]
  refine ⟨fun no => congrArg _ ?_, fun yes => congrArg _ ?_⟩
  · have stays : seqRail r .state e = e := (reports .state).trans (if_neg fun both => by rw [no] at both; exact nomatch both.1)
    refine (settle_reportIdle 65528 r .state _ standsE.settled.1 standsE.hold stays).trans ?_
    refine (settle_cascade_none 65527 r 0 _ standsE.settled.1 downs).trans ?_
    exact settle_twoRaises 65525 .capMismatch .linkChange standsE.settled
  · have completes : seqRail r .state e = stepEnd none e := (reports .state).trans (if_pos ⟨yes, rfl⟩)
    refine (settle_reportEnds 65522 _ r .state none step standsE.settled seqE standsE.sched standsE.hold
      (by rw [moved.rail, railV, rails]; exact claim) completes).trans ?_
    rw [released_unframed _ (by rw [moved.rail, railV])]
    have settledW : ((e.unclaimed r).endedWith c (Context.endOf c none)).Settled :=
      settled_endedWith _ _ (settled_unclaimed r standsE.settled)
    refine (settle_cascade_none 65521 r 0 _ settledW.1 (dependents_down_ended e c _ r downs)).trans ?_
    exact settle_twoRaises 65519 .capMismatch .linkChange settledW

/-! ### The statement -/

/-- Settles O46: the report that ends a wait gives the order against the rail as it then stands; a prerequisite's fault and a lost
path fail the step before what else they bring. -/
theorem railStepsWaitAndGoOn : Obligations.RailStepsWaitAndGoOn := by
  refine ⟨fun s u c x r k step waits => ⟨fun p tag e on present found marked effect claim frame hu => ?_,
      fun f due claim frame sent second hu => ?_⟩,
    fun s u v c x r noWait due step waits claim frame falling timer noForce unsensed hu hv =>
      ⟨fun unmet => ?_, fun met board path => ?_, fun i met path => ?_⟩,
    fun s u c x r q noWait d mv y cause step waits claim other needs used free noFrame noBoard noAction others samples faults hu => ?_,
    fun s u v c x r k p tag payload a old step claim len link record agreed lost new notices port hu hv => ?_⟩
  · obtain ⟨z, hz⟩ : ∃ z, z = s.outExpired p e := ⟨_, rfl⟩
    obtain ⟨t, ht⟩ : ∃ t, t = (arbitrate p z).unclaimed r := ⟨_, rfl⟩
    obtain ⟨event, stands⟩ := event_claimGone (t := t) step present found marked effect claim (by rw [ht, hz])
    obtain ⟨rails, path, ports, rest⟩ := arbitrated_unclaimed p z r
    have released : z.unclaimed r = u := by rw [hz, hu]; rfl
    have railZ : z.rail r = s.rail r := by rw [hz]; rfl
    rw [← ht, released] at rails path rest
    rw [← ht] at ports
    have portZ : ∀ q, z.port q = s.port q := fun q => by rw [hz]; rfl
    have portsZ : z.ports = s.ports := by rw [hz]; rfl
    rw [portsZ] at rest
    have railT : t.rail r = { s.rail r with dyn := { (s.rail r).dyn with claim := .none } } := by
      rw [rails, ← released, rail_unclaimed_self, railZ]
    have used : (t.rail r).static.used = true := by rw [railT]; exact step.used
    refine ⟨fun y ends => ⟨t, ?_, fun q other => (ports q other).trans (portZ q), rest⟩, fun down =>
      ⟨t, ?_, fun q other => (ports q other).trans (portZ q), rest⟩⟩
    · rw [event]
      exact congrArg _ (settle_goesOnEnds 65526 .claim step waits stands used (endsAtOnce_congr rails path ends))
    · rw [event]
      exact congrArg _ (settle_goesOnWaits 65526 .claim step waits stands used (by rw [railT]) (by rw [railT]; exact frame)
        (by rw [railT]; exact down))
  · obtain ⟨event, stands⟩ := event_frameGone step waits frame sent second hu
    have railU : u.rail r = { s.rail r with dyn := { (s.rail r).dyn with frame := none } } := by
      rw [hu]; exact rail_unframed_self _ r
    have used : (u.rail r).static.used = true := by rw [railU]; exact step.used
    refine ⟨fun y ends => ?_, fun down => ?_, fun isOn off prereqs board path => ?_⟩
    · rw [event]
      exact congrArg _ (settle_goesOnEnds 65527 .frame step waits stands used ends)
    · rw [event, settle_goesOnWaits 65527 .frame step waits stands used (by rw [railU]; exact claim) (by rw [railU])
        (by rw [railU]; exact down)]
    · have states : ∀ q, u.railState q = s.railState q := railState_congr (by rw [hu]; exact rail_unframed _ r)
      rw [event, settle_goesOnMakes 65527 .frame step waits stands used (by rw [railU]; exact claim) (by rw [railU]) isOn
        (by rw [railU]; exact off) (by rw [railU, allOn_congr states]; exact prereqs)
        (by unfold State.isBoard at board ⊢; rw [railU]; exact board)
        ((pathAvailable_congr r (by rw [railU]) (by rw [hu]; rfl)).trans path)]
  · exact ⟨_, fellUnmet step waits claim frame falling timer noForce unsensed hu unmet, onlyMovedTo_unclaimed r .off u rfl⟩
  · have ordered : u.ordered c = v := by rw [hv, hu]; rfl
    have makes := fellMakes step waits falling timer noForce unsensed hu met board path
    rw [ordered] at makes
    exact ⟨_, makes, onlyMovedTo_enterState r .off v rfl⟩
  · have ordered : u.ordered c = v := by rw [hv, hu]; rfl
    obtain ⟨goesOn, completes⟩ := fellRises step waits claim frame falling timer noForce unsensed hu met path
    have time : ∀ z : State, (z.rail r).static = (s.rail r).static → z.now = u.now →
        (((enterState r .off z).rail r).static.timerMs .rising).map (fun t => (enterState r .off z).now + Config.ms t) =
          some (u.now + 2000 * (s.rail r).static.settleMs) := fun z static now => by
      rw [(rail_entered r .off z).1, static, timerMs_rising, if_pos unsensed, enterState_now, now]; rfl
    rw [ordered] at goesOn
    refine ⟨fun no => ⟨_, _, goesOn no, onlyMovedTo_enterState r .off v rfl, onlyMovedTo_enterState r .rising _ (time v ?_ ?_)⟩,
      fun yes => ⟨_, _, completes yes, onlyMovedTo_enterState r .off (u.unclaimed r) rfl,
        onlyMovedTo_enterState r .rising _ (time (u.unclaimed r) ?_ rfl)⟩⟩
    · rw [hv, hu]; rfl
    · rw [hv]
    · rw [rail_unclaimed_self, hu]; rfl
  · have prereq : s.PrereqFaults r q d mv y cause :=
      ⟨other, needs, used, free, noFrame, noBoard, noAction, others, samples, faults⟩
    exact ⟨fun f off frame isOn => prereqFaults_beside step waits claim prereq hu off frame isOn,
      fun i rising path frame down => prereqFaults_falls step waits claim prereq hu rising path frame down⟩
  · have dropped : s.PathDropped r p payload a old := ⟨len, link, record, agreed, lost, new, notices, port⟩
    have railU : ∀ q, u.rail q = s.rail q := fun q => by rw [hu]; rfl
    have fall : ∀ z : State, (z.rail r).static = (s.rail r).static → z.now = s.now →
        ((z.rail r).static.timerMs .falling).map (fun t => z.now + Config.ms t) =
          some (s.now + 2000 * (s.rail r).static.fallMs) := fun z static now => by rw [static, now]; rfl
    have nowU : u.now = s.now := by rw [hu]; rfl
    refine ⟨fun noWait kind waits => ?_, fun noWait kind waits up frame down => ?_⟩
    · subst kind
      exact ⟨fun rising frame down => ⟨_, dropped_fallsOn tag step dropped hu waits claim rising frame down,
          onlyMovedTo_unclaimed r .falling u (fall u (by rw [railU]) nowU)⟩,
        fun off frame => dropped_withdraws tag step dropped hu hv waits claim off frame⟩
    · subst kind
      obtain ⟨goesOn, completes⟩ := dropped_fallsOff tag step dropped hu hv waits claim up frame down
      obtain ⟨_, stands, _⟩ := event_dropped (tag := tag) step dropped hu
      obtain ⟨_, railV, _, nowV, _⟩ := withdrawn_spec stands hv
      have static : (v.rail r).static = (s.rail r).static := by rw [railV, railU]
      exact ⟨fun no => ⟨_, goesOn no, onlyMovedTo_enterState r .falling v (fall v static (nowV.trans nowU))⟩,
        fun yes => ⟨_, completes yes, onlyMovedTo_unclaimed r .falling v (fall v static (nowV.trans nowU))⟩⟩

end Sys2Proof.Machine
end

section
/-! LOAD_RAIL: its checks in order, and what the record in force changes (O19). -/

namespace Sys2Proof.Machine

/-! ### The request (R25) -/

theorem exec_loadRail {s : State} (h : s.Ready) (tag : Byte) {payload : List Byte} (length : payload.length = 25) :
    exec (.loadRail tag payload) s = .next (settle 65535 (reqLoadRail (requestFrame 0x10 tag payload) s.taken)) := by
  have received : exec (.loadRail tag payload) s =
      .next (settle 65535 (sized 25 reqLoadRail (requestFrame 0x10 tag payload) s.taken)) :=
    event_request 0x10 tag payload h (by omega)
  rw [received, sized_fits _ length]

theorem arg_loadRail (tag : Byte) (payload : List Byte) : (requestFrame 0x10 tag payload).arg 0 = at1 payload 0 := rfl

@[simp] theorem railConflicts_taken (s : State) (r : RailId) (x : RailStatic) :
    s.taken.railConflicts r x = s.railConflicts r x := rfl

@[simp] theorem railInUse_taken (s : State) (r : RailId) (x : RailStatic) : s.taken.railInUse r x = s.railInUse r x := rfl

@[simp] theorem budgetOk_putRail_taken (s : State) (r : RailId) (x : RailStatic) :
    (putRail r x s.taken).budgetOk = (putRail r x s).budgetOk := rfl

theorem reqLoadRail_badIndex (s : State) (tag : Byte) {payload : List Byte} (out : 24 ≤ at1 payload 0) :
    reqLoadRail (requestFrame 0x10 tag payload) s = answer (requestFrame 0x10 tag payload) stBadIndex s := by
  unfold reqLoadRail
  rw [arg_loadRail, railOf?_ge out]

/-- The checks behind the rail's number, and the load behind them. -/
theorem reqLoadRail_eq (s : State) (tag : Byte) {payload : List Byte} {r : RailId} (number : r.val = at1 payload 0) :
    reqLoadRail (requestFrame 0x10 tag payload) s =
      checked [(s.rtu.stage == .commit, stCommitted), (s.saving, stBusy)] (requestFrame 0x10 tag payload) (fun s =>
        match decRail payload 1 with
        | none => answer (requestFrame 0x10 tag payload) stBadRequest s
        | some x =>
          checked [
            (!railFits r x || s.railConflicts r x, stBadRequest),
            (s.railInUse r x, stInUse),
            (s.zeroHas (fun k => k.rail? == some r) && !(putRail r x s).budgetOk, stBudget)]
            (requestFrame 0x10 tag payload) (loadRailAct r x (requestFrame 0x10 tag payload)) s) s := by
  have found : railOf? (at1 payload 0) = some r := by rw [← number]; exact railOf?_lt r.isLt
  unfold reqLoadRail
  rw [arg_loadRail, found]
  rfl

/-- The checks on a record that is decoded, and the load behind them. -/
theorem reqLoadRail_decoded (s : State) (tag : Byte) {payload : List Byte} {r : RailId} {x : RailStatic}
    (number : r.val = at1 payload 0) (stage : s.rtu.stage ≠ .commit) (idle : s.saving = false)
    (good : decRail payload 1 = some x) : reqLoadRail (requestFrame 0x10 tag payload) s =
      checked [
        (!railFits r x || s.railConflicts r x, stBadRequest),
        (s.railInUse r x, stInUse),
        (s.zeroHas (fun k => k.rail? == some r) && !(putRail r x s).budgetOk, stBudget)]
        (requestFrame 0x10 tag payload) (loadRailAct r x (requestFrame 0x10 tag payload)) s := by
  rw [reqLoadRail_eq s tag number, checked_passes _ _ _ _ _ _ (by simp [stage]), checked_passes _ _ _ _ _ _ idle,
    checked_nil, good]

/-- The first part of O19: the checks in their order. -/
theorem loadRail_refuses {s : State} (tag : Byte) {payload : List Byte} (ready : s.Ready) (length : payload.length = 25) :
    (24 ≤ at1 payload 0 →
      exec (.loadRail tag payload) s = .next (s.replied (requestFrame 0x10 tag payload) stBadIndex [])) ∧
    (∀ r : RailId, r.val = at1 payload 0 →
      (s.rtu.stage = .commit →
        exec (.loadRail tag payload) s = .next (s.replied (requestFrame 0x10 tag payload) stCommitted [])) ∧
      (s.rtu.stage ≠ .commit → s.saving = true →
        exec (.loadRail tag payload) s = .next (s.replied (requestFrame 0x10 tag payload) stBusy [])) ∧
      (s.rtu.stage ≠ .commit → s.saving = false →
        (decRail payload 1 = none →
          exec (.loadRail tag payload) s = .next (s.replied (requestFrame 0x10 tag payload) stBadRequest [])) ∧
        (∀ x, decRail payload 1 = some x →
          (railFits r x = false ∨ s.railConflicts r x = true →
            exec (.loadRail tag payload) s = .next (s.replied (requestFrame 0x10 tag payload) stBadRequest [])) ∧
          (railFits r x = true → s.railConflicts r x = false → s.railInUse r x = true →
            exec (.loadRail tag payload) s = .next (s.replied (requestFrame 0x10 tag payload) stInUse [])) ∧
          (railFits r x = true → s.railConflicts r x = false → s.railInUse r x = false →
            s.zeroHas (fun k => k.rail? == some r) = true → (putRail r x s).budgetOk = false →
            exec (.loadRail tag payload) s = .next (s.replied (requestFrame 0x10 tag payload) stBudget []))))) := by
  rw [exec_loadRail ready tag length]
  refine ⟨fun out => ?_, fun r number => ⟨fun commit => ?_, fun stage saving => ?_, fun stage idle =>
    ⟨fun bad => ?_, fun x good => ?_⟩⟩⟩
  · rw [reqLoadRail_badIndex _ tag out, settle_answer _ ready]
  · rw [reqLoadRail_eq _ tag number]; simp [checked_fails, commit, settle_answer _ ready]
  · rw [reqLoadRail_eq _ tag number]; simp [checked_fails, checked_passes, stage, saving, settle_answer _ ready]
  · rw [reqLoadRail_eq _ tag number]; simp [checked_passes, stage, idle, bad, settle_answer _ ready]
  · rw [reqLoadRail_decoded s.taken tag number stage idle good]
    refine ⟨fun unfit => ?_, fun fits free used => ?_, fun fits free unused zero exceeds => ?_⟩
    · have fails : (!railFits r x || s.taken.railConflicts r x) = true := by
        rcases unfit with no | conflict
        · simp [no]
        · simp [conflict]
      rw [checked_fails _ _ _ _ _ _ fails, settle_answer _ ready]
    · simp [checked_fails, checked_passes, fits, free, used, settle_answer _ ready]
    · simp [checked_fails, checked_passes, fits, free, unused, zero, exceeds, settle_answer _ ready]

/-- A record that passes every check is put in force. -/
theorem loadRail_accepts {s : State} (tag : Byte) {payload : List Byte} {r : RailId} {x : RailStatic} (ready : s.Ready)
    (length : payload.length = 25) (number : r.val = at1 payload 0) (stage : s.rtu.stage ≠ .commit)
    (idle : s.saving = false) (good : decRail payload 1 = some x) (fits : railFits r x = true)
    (free : s.railConflicts r x = false) (unused : s.railInUse r x = false)
    (within : s.zeroHas (fun k => k.rail? == some r) = false ∨ (putRail r x s).budgetOk = true) :
    exec (.loadRail tag payload) s =
      .next (settle 65535 (loadRailAct r x (requestFrame 0x10 tag payload) s.taken)) := by
  have budget : (s.zeroHas (fun k => k.rail? == some r) && !(putRail r x s).budgetOk) = false := by
    rcases within with no | ok
    · simp [no]
    · simp [ok]
  rw [exec_loadRail ready tag length, reqLoadRail_decoded s.taken tag number stage idle good]
  simp [checked_passes, fits, free, unused, budget]

/-! ### The record in force (R26, R30) -/

theorem roleOf_congr {s t : State} (rails : t.rails = s.rails) (rtu : t.rtu = s.rtu) (c : ChannelId) :
    t.roleOf c = s.roleOf c := by
  unfold State.roleOf State.rail
  rw [rails, rtu]

theorem reagree_congr {s t : State} (rails : t.rails = s.rails) (p : Port) (a : Agreed) : t.reagree p a = s.reagree p a := by
  unfold State.reagree State.portRails State.rail
  rw [rails]

/-- The record replaced, and the roles with it. -/
def State.railLoaded (s : State) (r : RailId) (x : RailStatic) : State := refreshRoles (putRail r x s)

theorem chan_refreshRoles (s : State) (c : ChannelId) : (refreshRoles s).chan c = (s.chan c).withRole (s.roleOf c) := by
  unfold refreshRoles
  dsimp only
  split
  · exact get_ofFn _ c
  · exact get_ofFn _ c

theorem roleChange_iff (s : State) :
    allChannels.any (fun c => (s.chan c).role != s.roleOf c) = true ↔ ∃ c, (s.chan c).role ≠ s.roleOf c := by
  rw [List.any_eq_true]
  refine ⟨fun ⟨c, _, differs⟩ => ⟨c, by simpa using differs⟩, fun ⟨c, differs⟩ => ⟨c, ?_, by simpa using differs⟩⟩
  exact List.mem_finRange c

open Classical in
theorem marks_refreshRoles (s : State) :
    (refreshRoles s).marks = if ∃ c, (s.chan c).role ≠ s.roleOf c then s.rtu.plan.marks else s.marks := by
  unfold refreshRoles
  dsimp only
  by_cases changes : ∃ c, (s.chan c).role ≠ s.roleOf c
  · rw [if_pos changes, if_pos ((roleChange_iff s).mpr changes)]; rfl
  · rw [if_neg changes, if_neg (fun any => changes ((roleChange_iff s).mp any))]

theorem refreshRoles_rest (s : State) : ({ refreshRoles s with chans := s.chans, marks := s.marks } : State) = s := by
  apply State.ext <;> simp

/-- What O19 says of the rails, the channels and the marks once the record is in force. -/
structure State.RailInForce (s : State) (r : RailId) (x : RailStatic) (t : State) : Prop where
  rail : t.rail r = { static := x, dyn := RailDynamic.idle }
  others : ∀ q, q ≠ r → t.rail q = s.rail q
  chans : ∀ c, t.chan c = (s.chan c).withRole (t.roleOf c)
  marks : (∃ c, (s.chan c).role ≠ t.roleOf c) → t.marks = s.rtu.plan.marks
  marksKept : (¬ ∃ c, (s.chan c).role ≠ t.roleOf c) → t.marks = s.marks

theorem railInForce_railLoaded (s : State) (r : RailId) (x : RailStatic) : s.RailInForce r x (s.railLoaded r x) := by
  have roles : ∀ c, (s.railLoaded r x).roleOf c = (putRail r x s).roleOf c :=
    roleOf_congr (refreshRoles_rails _) (refreshRoles_rtu _)
  have rails : ∀ q, (s.railLoaded r x).rail q = (putRail r x s).rail q := fun q =>
    congrArg (fun v => v.get q) (refreshRoles_rails (putRail r x s))
  refine ⟨(rails r).trans (rail_setRail_self r _ s), fun q other => ?_, fun c => ?_, fun changes => ?_, fun same => ?_⟩
  · rw [rails q]; exact (rail_setRail r q _ s).trans (if_neg other)
  · rw [roles c]; exact chan_refreshRoles (putRail r x s) c
  · simp only [roles] at changes
    exact (marks_refreshRoles (putRail r x s)).trans (if_pos changes)
  · simp only [roles] at same
    exact (marks_refreshRoles (putRail r x s)).trans (if_neg same)

/-- The four tables alone decide it. -/
theorem railInForce_congr {s t u : State} {r : RailId} {x : RailStatic} (h : s.RailInForce r x t) (rails : u.rails = t.rails)
    (chans : u.chans = t.chans) (marks : u.marks = t.marks) (rtu : u.rtu = t.rtu) : s.RailInForce r x u := by
  have roles : ∀ c, u.roleOf c = t.roleOf c := roleOf_congr rails rtu
  refine ⟨(congrArg (fun v => v.get r) rails).trans h.rail, fun q other =>
    (congrArg (fun v => v.get q) rails).trans (h.others q other), fun c => ?_, fun changes => ?_, fun same => ?_⟩
  · rw [roles c]; exact (congrArg (fun v => v.get c) chans).trans (h.chans c)
  · simp only [roles] at changes; exact marks.trans (h.marks changes)
  · simp only [roles] at same; exact marks.trans (h.marksKept same)

theorem railLoaded_rest (s : State) (r : RailId) (x : RailStatic) :
    ({ s.railLoaded r x with rails := s.rails, chans := s.chans, marks := s.marks } : State) = s :=
  congrArg (fun v : State => { v with rails := s.rails }) (refreshRoles_rest (putRail r x s))

/-! ### The ports that a record names (R26) -/

theorem refreshPath_rests {x : RailStatic} {s : State} (down : ∀ p, x.port? = some p → s.isUp p = false) :
    refreshPath x s = s := by
  unfold refreshPath
  cases named : x.port? with
  | none => rfl
  | some p =>
    dsimp only
    unfold refreshAgreed
    cases (s.port p).agreed with
    | none => rfl
    | some a =>
      dsimp only
      rw [down p named]; rfl

theorem refreshPath_up {x : RailStatic} {s : State} {p : Port} {a : Agreed} (named : x.port? = some p)
    (up : s.isUp p = true) (agreed : (s.port p).agreed = some a) :
    refreshPath x s = setAgreed p (a.rails, a.mismatch) (s.reagree p a) s := by
  unfold refreshPath refreshAgreed
  rw [named]
  dsimp only
  rw [agreed]
  dsimp only
  rw [if_pos up]

theorem isUp_congr {s t : State} {p : Port} (port : t.port p = s.port p) : t.isUp p = s.isUp p := by
  unfold State.isUp; rw [port]

theorem isUp_railLoaded (s : State) (r : RailId) (x : RailStatic) (p : Port) : (s.railLoaded r x).isUp p = s.isUp p :=
  isUp_congr (congrArg (fun v => v.get p.idx) (refreshRoles_ports (putRail r x s)))

theorem loadRailAct_rests {s : State} {r : RailId} {x : RailStatic} (f : Frame)
    (down : ∀ p, x.port? = some p ∨ (s.rail r).static.port? = some p → s.isUp p = false) :
    loadRailAct r x f s = acceptLater f (s.railLoaded r x) := by
  have new : refreshPath x (s.railLoaded r x) = s.railLoaded r x := refreshPath_rests fun p named =>
    (isUp_railLoaded s r x p).trans (down p (.inl named))
  have old : refreshPath (s.rail r).static (s.railLoaded r x) = s.railLoaded r x := refreshPath_rests fun p named =>
    (isUp_railLoaded s r x p).trans (down p (.inr named))
  change acceptLater f (if (s.rail r).static.port? = x.port? then refreshPath x (s.railLoaded r x)
    else refreshPath (s.rail r).static (refreshPath x (s.railLoaded r x))) = _
  rw [new, old, ite_self]

/-- The record in force and the port's agreed record with it. -/
def State.railAgreed (s : State) (r : RailId) (x : RailStatic) (p : Port) (b : Agreed) : State :=
  modPort p (fun y => { y with agreed := some b }) (s.railLoaded r x)

theorem railLoaded_agenda (s : State) (r : RailId) (x : RailStatic) : (s.railLoaded r x).agenda = s.agenda :=
  refreshRoles_agenda (putRail r x s)

theorem reagree_railLoaded (s : State) (r : RailId) (x : RailStatic) (p : Port) (a : Agreed) :
    (s.railLoaded r x).reagree p a = (putRail r x s).reagree p a :=
  reagree_congr (refreshRoles_rails (putRail r x s)) p a

theorem loadRailAct_up {s : State} {r : RailId} {x : RailStatic} {p : Port} {a : Agreed} (f : Frame) (empty : s.agenda = [])
    (named : x.port? = some p) (old : ∀ q, (s.rail r).static.port? = some q → q = p ∨ s.isUp q = false)
    (up : s.isUp p = true) (agreed : (s.port p).agreed = some a) :
    loadRailAct r x f s = (s.railAgreed r x p ((putRail r x s).reagree p a)).todo
      (agreedWork (a.rails, a.mismatch) ((putRail r x s).reagree p a) ++ [.reply (replyFrame f stOk [])]) := by
  have ports : (s.railLoaded r x).port p = s.port p :=
    congrArg (fun v => v.get p.idx) (refreshRoles_ports (putRail r x s))
  have new : refreshPath x (s.railLoaded r x) = (s.railAgreed r x p ((putRail r x s).reagree p a)).todo
      (agreedWork (a.rails, a.mismatch) ((putRail r x s).reagree p a)) := by
    rw [refreshPath_up named ((isUp_railLoaded s r x p).trans up) ((congrArg PortRec.agreed ports).trans agreed),
      reagree_railLoaded, setAgreed_hands p _ _ ((railLoaded_agenda s r x).trans empty)]
    rfl
  have act : loadRailAct r x f s = acceptLater f (refreshPath x (s.railLoaded r x)) := by
    change acceptLater f (if (s.rail r).static.port? = x.port? then refreshPath x (s.railLoaded r x)
      else refreshPath (s.rail r).static (refreshPath x (s.railLoaded r x))) = _
    by_cases same : (s.rail r).static.port? = x.port?
    · rw [if_pos same]
    · rw [if_neg same, new]
      refine congrArg (acceptLater f) (refreshPath_rests fun q named' => ?_)
      have other : q ≠ p := fun eq => same (by rw [named', named, eq])
      have kept : ((s.railAgreed r x p ((putRail r x s).reagree p a)).todo
          (agreedWork (a.rails, a.mismatch) ((putRail r x s).reagree p a))).port q = (s.railLoaded r x).port q :=
        (port_modPort p q (fun y => { y with agreed := some ((putRail r x s).reagree p a) })
          (s.railLoaded r x)).trans (if_neg other)
      rw [isUp_congr kept, isUp_railLoaded]
      exact (old q named').resolve_left other
  rw [act, new, acceptLater_todo]

theorem settled_railLoaded {s : State} (h : s.Settled) (r : RailId) (x : RailStatic) : (s.railLoaded r x).Settled :=
  ⟨(refreshRoles_agenda (putRail r x s)).trans h.1, (refreshRoles_takeDue (putRail r x s)).trans h.2⟩

theorem railLoaded_present {s : State} (present : s.up.present = true) (r : RailId) (x : RailStatic) :
    (s.railLoaded r x).up.present = true :=
  (congrArg Upstream.present (refreshRoles_up (putRail r x s))).trans present

theorem settled_railAgreed {s : State} (h : s.Settled) (r : RailId) (x : RailStatic) (p : Port) (b : Agreed) :
    (s.railAgreed r x p b).Settled := settled_railLoaded h r x

theorem railInForce_answered {s t : State} {r : RailId} {x : RailStatic} (h : s.taken.RailInForce r x t) (f : Frame) :
    s.RailInForce r x (t.answered f stOk []) :=
  ⟨h.rail, h.others, h.chans, h.marks, h.marksKept⟩

theorem railInForce_railAgreed (s : State) (r : RailId) (x : RailStatic) (p : Port) (b : Agreed) :
    s.RailInForce r x (s.railAgreed r x p b) :=
  railInForce_congr (railInForce_railLoaded s r x) rfl rfl rfl rfl

theorem railAgreed_port_self (s : State) (r : RailId) (x : RailStatic) (p : Port) (b : Agreed) :
    (s.railAgreed r x p b).port p = { s.port p with agreed := some b } := by
  have kept : (s.railLoaded r x).port p = s.port p := congrArg (fun v => v.get p.idx) (refreshRoles_ports (putRail r x s))
  unfold State.railAgreed
  rw [port_modPort_self, kept]

theorem railAgreed_port_other (s : State) (r : RailId) (x : RailStatic) {p q : Port} (b : Agreed) (other : q ≠ p) :
    (s.railAgreed r x p b).port q = s.port q := by
  have kept : (s.railLoaded r x).port q = s.port q := congrArg (fun v => v.get q.idx) (refreshRoles_ports (putRail r x s))
  unfold State.railAgreed
  rw [port_modPort, if_neg other, kept]

theorem railAgreed_rest (s : State) (r : RailId) (x : RailStatic) (p : Port) (b : Agreed) :
    ({ s.railAgreed r x p b with rails := s.rails, chans := s.chans, marks := s.marks, ports := s.ports } : State) = s :=
  congrArg (fun v : State => { v with ports := s.ports }) (railLoaded_rest s r x)

theorem answered_eq {s u : State} (e : u = s) (f : Frame) : u.answered f stOk [] = s.answered f stOk [] := by rw [e]

/-- A raised kind looks at no table that a load changes. -/
theorem raise_beside {s u : State} (k : EventKind)
    (rest : ({ u with rails := s.rails, chans := s.chans, marks := s.marks, ports := s.ports } : State) = s) :
    ({ raise k u with rails := s.rails, chans := s.chans, marks := s.marks, ports := s.ports } : State) = raise k s := by
  obtain ⟨ev, up, shape⟩ := raise_shape k s
  rw [shape u (congrArg State.ev rest :) (congrArg State.up rest :) (congrArg State.phase rest :), shape s rfl rfl rfl]
  exact congrArg (fun v : State => { v with ev := ev, up := up }) rest

theorem raise_railInForce {s t : State} {r : RailId} {x : RailStatic} (k : EventKind) (h : s.RailInForce r x t) :
    s.RailInForce r x (raise k t) :=
  railInForce_congr h (raise_rails k t) (raise_chans k t) (raise_marks k t) (raise_rtu k t)

/-- Settles O19: the checks of R25 in order; then the record, the roles and the marks, and the named port's agreed record. -/
theorem loadRailChecksAndReplaces : Obligations.LoadRailChecksAndReplaces := by
  refine ⟨?refusals, ?resting, ?agreeing⟩
  case refusals =>
    rintro s tag payload _ ready length rfl
    exact loadRail_refuses tag ready length
  case resting =>
    intro s tag payload r x ready length number stage idle good fits free unused within down
    have settled := settled_railLoaded (settled_taken ready.settled) r x
    have present := railLoaded_present (s := s.taken) ready.present r x
    have inForce := railInForce_answered (railInForce_railLoaded s.taken r x) (requestFrame 0x10 tag payload)
    refine ⟨(s.taken.railLoaded r x).answered (requestFrame 0x10 tag payload) stOk [], ?_, inForce.rail, inForce.others,
      inForce.chans, ?_, answered_eq (railLoaded_rest s.taken r x) _⟩
    · rw [loadRail_accepts tag ready length number stage idle good fits free unused within,
        loadRailAct_rests _ (by exact down), acceptLater_idle _ settled.1, settle_lastReply _ _ settled present]
    · split
      · next changes => exact inForce.marks changes
      · next same => exact inForce.marksKept same
  case agreeing =>
    rintro s tag payload _ r x p a b ready length rfl number stage idle good fits free unused within named old up agreed
      eqb kept
    have settled := settled_railAgreed (settled_taken ready.settled) r x p b
    have present : (s.taken.railAgreed r x p b).up.present = true :=
      railLoaded_present (s := s.taken) ready.present r x
    have inForce := railInForce_railAgreed s.taken r x p b
    have isUp : s.taken.isUp p = true := by rw [isUp_taken]; unfold State.isUp; rw [up]; rfl
    have act : loadRailAct r x (requestFrame 0x10 tag payload) s.taken =
        (s.taken.railAgreed r x p b).todo
          (agreedWork (a.rails, a.mismatch) b ++
            [.reply (replyFrame (requestFrame 0x10 tag payload) stOk [])]) :=
      eqb ▸ loadRailAct_up _ ready.settled.1 named (by exact old) isUp agreed
    have rest := railAgreed_rest s.taken r x p b
    have self := railAgreed_port_self s.taken r x p b
    have other := fun q => railAgreed_port_other s.taken r x (p := p) (q := q) b
    rw [loadRail_accepts tag ready length number stage idle good fits free unused within, act,
      agreedWork_kept (by exact kept)]
    obtain ⟨u, hu⟩ : ∃ u, u = s.taken.railAgreed r x p b := ⟨_, rfl⟩
    rw [← hu] at settled present inForce self other rest ⊢
    by_cases new : ∃ q ∈ b.mismatch, q ∉ a.mismatch
    · rw [if_pos (mismatch_any.mpr new)]
      have answered := railInForce_answered (raise_railInForce .capMismatch inForce) (requestFrame 0x10 tag payload)
      refine ⟨(raise .capMismatch u).answered (requestFrame 0x10 tag payload) stOk [],
        congrArg _ (settle_raiseThenReply 65533 _ _ settled present), answered.rail, answered.others, answered.chans, ?_,
        ?_, ?_, fun none => absurd new (by simpa using none), fun q mem fresh => ?_⟩
      · split
        · next changes => exact answered.marks changes
        · next same => exact answered.marksKept same
      · exact (congrArg (fun v => v.get p.idx) (raise_ports .capMismatch u)).trans self
      · exact fun q no => (congrArg (fun v => v.get q.idx) (raise_ports .capMismatch u)).trans (other q no)
      · exact answered_eq (raise_beside .capMismatch rest) _
    · rw [if_neg (fun any => new (mismatch_any.mp any))]
      have answered := railInForce_answered inForce (requestFrame 0x10 tag payload)
      refine ⟨u.answered (requestFrame 0x10 tag payload) stOk [], congrArg _ (settle_lastReply 65534 _ settled present),
        answered.rail, answered.others, answered.chans, ?_, self, other, fun _ => answered_eq rest _,
        fun q mem fresh => absurd ⟨q, mem, fresh⟩ new⟩
      split
      · next changes => exact answered.marks changes
      · next same => exact answered.marksKept same

end Sys2Proof.Machine
end

section
/-! The end of the 2 ms wait, and the part as it starts (R27, R171, R185, R192). -/

namespace Sys2Proof.Machine

/-! ### The end of the wait (R192 item 3) -/

/-- The load is over (R192). -/
def State.loaded (s : State) : State := { s with phase := .loading }

theorem settled_loaded {s : State} (h : s.Settled) : s.loaded.Settled := h

theorem exec_startupWaitEnd {s : State} {due : Time} (h : s.Settled) (waiting : s.phase = .waiting due) :
    exec .startupWaitEnd s = .next (startupLoad (advance due s)).loaded := by
  have keeps := startupLoad_keeps (advance due s)
  have ends : startupWaitEnd s = (startupLoad (advance due s)).loaded := by unfold startupWaitEnd; rw [waiting]; rfl
  obtain ⟨u, hu⟩ : ∃ u, u = startupLoad (advance due s) := ⟨_, rfl⟩
  rw [← hu] at keeps ends ⊢
  have settled : u.loaded.Settled := settled_loaded ⟨keeps.agenda.trans h.1, keeps.takeDue.trans h.2⟩
  have event : exec .startupWaitEnd s = .next (startupWaitEnd s) :=
    event_plain (f := startupWaitEnd) h (by rw [ends]; exact settled)
  rw [event, ends]

/-- A bit of the pending set tells of its kind. -/
theorem fallback_pending {x : Word16} (h : x.getLsbD 14 = true) : x &&& EventKind.configFallback.bit ≠ 0 := by
  intro zero
  have none := congrArg (fun y : Word16 => y.getLsbD 14) zero
  rw [BitVec.getLsbD_and, h] at none
  exact absurd none (by decide)

/-- The mask is the default mask, and the record copy is read from the slot (R115, R171). -/
theorem startupLoad_finishes (s : State) : (startupLoad s).ev.mask = (startupLoad s).ev.defaultMask ∧
    (startupLoad s).rtu.record = s.store.slot.copy := by
  have keeps := (judged_keeps s).trans (crossed_keeps (judged s))
  rw [startupLoad_eq]
  obtain ⟨u, hu⟩ : ∃ u, u = crossed (judged s) := ⟨_, rfl⟩
  rw [← hu] at keeps ⊢
  exact ⟨rfl, congrArg Slot.copy keeps.slot⟩

/-- The first part of O8: what each group's accept code and CRC decide, and what the load leaves. -/
theorem startupWaitEnd_judges {s : State} {due : Time} (h : s.Settled) (waiting : s.phase = .waiting due) :
    ∃ t, exec .startupWaitEnd s = .next t ∧ t.phase = .loading ∧ t.now = max s.now due ∧
      t.ev.mask = t.ev.defaultMask ∧ t.rtu.record = s.store.slot.copy ∧ t.store.groups = s.store.groups ∧
      (∀ g : Fin 5, g = 0 ∨ g = 1 ∨ g = 4 → (s.store.groups.get g).code ≠ 0xA5 → t.store.loads.get g = .code) ∧
      (∀ g : Fin 5, g = 0 ∨ g = 1 ∨ g = 4 → (s.store.groups.get g).code = 0xA5 →
        crc16 (s.store.groups.get g).contents ≠ (s.store.groups.get g).crc → t.store.loads.get g = .crc) ∧
      (∀ g : Fin 5, (s.store.groups.get g).code ≠ 0xA5 → (s.store.groups.get g).code ≠ 0xFF →
        t.ev.pending &&& EventKind.configFallback.bit ≠ 0) ∧
      t.en = s.en ∧ t.dis = s.dis ∧ t.ctl = s.ctl := by
  have keeps := startupLoad_keeps (advance due s)
  have alone : ∀ g : Fin 5, g = 0 ∨ g = 1 ∨ g = 4 → ∃ v, v.store.groups = s.store.groups ∧
      (startupLoad (advance due s)).store.loads.get g = (judgeGroup g v).store.loads.get g := by
    intro g which
    have others : g ≠ 3 ∧ g ≠ 2 := by rcases which with rfl | rfl | rfl <;> decide
    obtain ⟨v, groups, loads⟩ := judged_loads (advance due s) g
    exact ⟨v, groups, (startupLoad_loads _ g others.1 others.2).trans loads⟩
  have finished := startupLoad_finishes (advance due s)
  have falls := startupLoad_fallback (advance due s)
  rw [exec_startupWaitEnd h waiting]
  obtain ⟨u, hu⟩ : ∃ u, u = startupLoad (advance due s) := ⟨_, rfl⟩
  rw [← hu] at keeps alone finished falls ⊢
  obtain ⟨mask, record⟩ := finished
  refine ⟨u.loaded, rfl, rfl, keeps.now, mask, record, keeps.groups, fun g which code => ?_,
    fun g which code bad => ?_, fun g code fresh => fallback_pending (falls g code fresh), keeps.en, keeps.dis, keeps.ctl⟩
  · obtain ⟨v, groups, loads⟩ := alone g which
    exact loads.trans (judgeGroup_code g v (by rw [groups]; exact code))
  · obtain ⟨v, groups, loads⟩ := alone g which
    exact loads.trans (judgeGroup_crc g v (by rw [groups]; exact code) (by rw [groups]; exact bad))

/-! ### The end of the load (R27, R127, R171, R192 items 4 and 5) -/

/-- The part starts: its rails, its converter, its mode and its ATTN. -/
def State.started (s : State) : State :=
  startEvents (startRails { s with
    phase := .running
    mode := .active
    conv := { running := true, next := 0, roundDue := s.now } })

theorem startupLoadComplete_eq {s : State} (loading : s.phase = .loading) :
    startupLoadComplete s = lookAtPorts s.started := by
  unfold startupLoadComplete; rw [loading]; rfl

theorem settled_started {s : State} (h : s.Settled) : s.started.Settled := by
  unfold State.started startEvents
  exact ⟨(followRequesting_agenda _ _).trans h.1, (followRequesting_takeDue _ _).trans h.2⟩

/-- ATTN is asserted exactly when something requests it (R167, R171). -/
theorem startEvents_ev {s : State} (low : s.ev.attn = false) :
    (startEvents s).ev = { s.ev with attn := s.ev.requesting != 0 } := by
  unfold startEvents followRequesting
  dsimp only
  by_cases none : s.ev.requesting = 0
  · have quiet : (s.ev.requesting != 0) = false := by rw [none]; rfl
    rw [quiet, if_neg (by decide), none, if_neg (by decide)]
    exact (congrArg (fun b => { s.ev with attn := b }) low :)
  · have asks : (s.ev.requesting != 0) = true := by simpa using none
    rw [asks, if_pos (by decide)]
    split <;> rfl

theorem startRails_rail (s : State) (r : RailId) : ((startRails s).rail r).static = (s.rail r).static ∧
    ((startRails s).rail r).dyn = if (s.rail r).static.used then
      { RailDynamic.idle with state := .falling, timer := some (s.now + Config.ms (s.rail r).static.fallMs) }
      else RailDynamic.idle := by
  unfold startRails State.rail
  rw [get_ofFn]
  dsimp only
  split <;> exact ⟨rfl, rfl⟩

theorem lookAtPorts_enters {s : State} {p : Port} (active : s.mode = .active) (fit : (s.port p).canExchange = true) :
    ((lookAtPorts s).port p).link = .exchange ∧ ((lookAtPorts s).port p).probeCount = 1 := by
  obtain ⟨t, port, mode, looked⟩ := lookAtPorts_port s p
  rw [looked, lookAtPort_enters (by rw [port]; exact fit) (mode.trans active)]
  exact ⟨enterExchange_link p t, enterExchange_probeCount p t⟩

theorem lookAtPorts_rests {s : State} {p : Port} (unfit : (s.port p).canExchange = false) :
    (lookAtPorts s).port p = s.port p := by
  obtain ⟨t, port, mode, looked⟩ := lookAtPorts_port s p
  rw [looked, lookAtPort_stay (by rw [port]; exact unfit), port]

/-- The third part of O8: the part as it starts. -/
theorem startupLoadComplete_starts {s : State} (h : s.Settled) (loading : s.phase = .loading) (low : s.ev.attn = false) :
    ∃ t, exec .startupLoadComplete s = .next t ∧ t.phase = .running ∧ t.mode = .active ∧
      t.conv = { running := true, next := 0, roundDue := s.now } ∧
      (∀ r, (t.rail r).static = (s.rail r).static ∧ (t.rail r).dyn =
        if (s.rail r).static.used then
          { RailDynamic.idle with state := .falling, timer := some (s.now + Config.ms (s.rail r).static.fallMs) }
        else RailDynamic.idle) ∧
      t.en = s.en ∧ t.dis = s.dis ∧ t.ctl = s.ctl ∧ t.rtu = s.rtu ∧ t.line = s.line ∧
      t.ev = { s.ev with attn := s.ev.requesting != 0 } ∧
      (∀ p, (s.port p).canExchange = true → (t.port p).link = .exchange ∧ (t.port p).probeCount = 1) ∧
      (∀ p, (s.port p).canExchange = false → t.port p = s.port p) := by
  have settled : (lookAtPorts s.started).Settled :=
    ⟨(lookAtPorts_agenda _).trans (settled_started h).1, (lookAtPorts_takeDue _).trans (settled_started h).2⟩
  have event : exec .startupLoadComplete s = .next (startupLoadComplete s) :=
    event_plain (f := startupLoadComplete) h (by rw [startupLoadComplete_eq loading]; exact settled)
  have active : s.started.mode = .active := followRequesting_mode _ _
  have ports : s.started.ports = s.ports := followRequesting_ports _ _
  have port : ∀ p, s.started.port p = s.port p := fun p => congrArg (fun v => v.get p.idx) ports
  refine ⟨lookAtPorts s.started, by rw [event, startupLoadComplete_eq loading], ?_, (lookAtPorts_mode _).trans active, ?_,
    fun r => ?_, ?_, ?_, ?_, ?_, ?_, ?_, fun p fit => ?_, fun p unfit => ?_⟩
  · exact (lookAtPorts_phase _).trans (followRequesting_phase _ _)
  · exact (lookAtPorts_conv _).trans (followRequesting_conv _ _)
  · have rail : (lookAtPorts s.started).rail r = (startRails { s with
        phase := .running, mode := .active, conv := { running := true, next := 0, roundDue := s.now } }).rail r :=
      congrArg (fun v => v.get r) ((lookAtPorts_rails _).trans (followRequesting_rails _ _))
    rw [rail]
    exact startRails_rail { s with
      phase := .running, mode := .active, conv := { running := true, next := 0, roundDue := s.now } } r
  · exact (lookAtPorts_en _).trans (followRequesting_en _ _)
  · exact (lookAtPorts_dis _).trans (followRequesting_dis _ _)
  · exact (lookAtPorts_ctl _).trans (followRequesting_ctl _ _)
  · exact (lookAtPorts_rtu _).trans (followRequesting_rtu _ _)
  · exact (lookAtPorts_line _).trans (followRequesting_line _ _)
  · exact (lookAtPorts_ev _).trans (startEvents_ev (by exact low))
  · exact lookAtPorts_enters active (by rw [port p]; exact fit)
  · exact (lookAtPorts_rests (by rw [port p]; exact unfit)).trans (port p)

end Sys2Proof.Machine
end

section
/-! The start-up load: each group on its own, then the groups together (R185, R186). -/

namespace Sys2Proof.Machine

/-! ### CONFIG_FALLBACK -/

/-- CONFIG_FALLBACK joins the pending set of `s` exactly where `F` holds, and no other kind does. -/
structure State.Pended (F : Prop) (s t : State) : Prop where
  falls : F → t.ev.pending = s.ev.pending ||| EventKind.configFallback.bit
  stands : ¬ F → t.ev.pending = s.ev.pending

theorem pended_trans {F G : Prop} {s t u : State} (a : State.Pended F s t) (b : State.Pended G t u) :
    State.Pended (F ∨ G) s u := by
  by_cases f : F
  · refine ⟨fun _ => ?_, fun no => absurd (.inl f) no⟩
    by_cases g : G
    · rw [b.falls g, a.falls f, BitVec.or_assoc, BitVec.or_self]
    · rw [b.stands g, a.falls f]
  · refine ⟨fun either => ?_, fun no => ?_⟩
    · rw [b.falls (either.resolve_left f), a.stands f]
    · rw [b.stands (fun g => no (.inr g)), a.stands f]

theorem pended_congr {F G : Prop} {s t : State} (h : State.Pended F s t) (same : G ↔ F) : State.Pended G s t :=
  ⟨fun g => h.falls (same.mp g), fun no => h.stands (fun f => no (same.mpr f))⟩

theorem pended_no {F : Prop} {s t : State} (no : ¬ F) (same : t.ev.pending = s.ev.pending) : State.Pended F s t :=
  ⟨fun f => absurd f no, fun _ => same⟩

theorem pended_fallback {F : Prop} {s t : State} (f : F) (same : t.ev.pending = s.ev.pending) :
    State.Pended F s (fallback t) :=
  ⟨fun _ => by rw [← same]; rfl, fun no => absurd f no⟩

/-! ### The tables of a group -/

theorem groupAlike_refl (g : Fin 5) (s : State) : s.GroupAlike g s := by
  match g with
  | 0 => exact ⟨fun _ => rfl, fun _ => ⟨rfl, rfl, rfl⟩⟩
  | 1 => rfl
  | 2 => exact ⟨rfl, rfl, rfl⟩
  | 3 => rfl
  | 4 => exact ⟨fun _ => ⟨rfl, rfl⟩, rfl, rfl⟩

theorem groupAlike_trans {g : Fin 5} {s t u : State} (a : s.GroupAlike g t) (b : t.GroupAlike g u) : s.GroupAlike g u := by
  match g with
  | 0 =>
    obtain ⟨rails, chans⟩ := a
    obtain ⟨rails', chans'⟩ := b
    refine ⟨fun r => (rails' r).trans (rails r), fun c => ?_⟩
    obtain ⟨low, high, debounce⟩ := chans c
    obtain ⟨low', high', debounce'⟩ := chans' c
    exact ⟨low'.trans low, high'.trans high, debounce'.trans debounce⟩
  | 1 => exact Eq.trans b a
  | 2 =>
    obtain ⟨steps, headers, templates⟩ := a
    obtain ⟨steps', headers', templates'⟩ := b
    exact ⟨steps'.trans steps, headers'.trans headers, templates'.trans templates⟩
  | 3 => exact Eq.trans b a
  | 4 =>
    obtain ⟨ports, hold, mask⟩ := a
    obtain ⟨ports', hold', mask'⟩ := b
    refine ⟨fun p => ?_, hold'.trans hold, mask'.trans mask⟩
    obtain ⟨window, fair⟩ := ports p
    obtain ⟨window', fair'⟩ := ports' p
    exact ⟨window'.trans window, fair'.trans fair⟩

/-- A load result and a fallback are no table's. -/
theorem groupAlike_setLoad (g k : Fin 5) (x : LoadResult) (s : State) : s.GroupAlike k (setLoad g x s) := by
  match k with
  | 0 => exact groupAlike_refl 0 s
  | 1 => exact groupAlike_refl 1 s
  | 2 => exact groupAlike_refl 2 s
  | 3 => exact groupAlike_refl 3 s
  | 4 => exact groupAlike_refl 4 s

theorem groupAlike_fallback (k : Fin 5) (s : State) : s.GroupAlike k (fallback s) := by
  match k with
  | 0 => exact groupAlike_refl 0 s
  | 1 => exact groupAlike_refl 1 s
  | 2 => exact groupAlike_refl 2 s
  | 3 => exact groupAlike_refl 3 s
  | 4 => exact groupAlike_refl 4 s

/-! ### What a stored group's contents decide (R184, R185) -/

/-- Contents that fit give the group's tables whatever stood there before. -/
def LoadFixes (g : Fin 5) (load : State → Option State) : Prop :=
  ∀ s s' v : State, load s = some v → ∃ v', load s' = some v' ∧ v.GroupAlike g v'

/-- They leave the other groups' tables and the pending set. -/
def LoadSpares (g : Fin 5) (load : State → Option State) : Prop :=
  ∀ s v : State, load s = some v → v.ev.pending = s.ev.pending ∧ ∀ k, k ≠ g → s.GroupAlike k v

/-- G1's tables put in force. -/
def State.withRails (s : State) (rails : RailId → RailStatic) (levels : ChannelId → Nat × Nat × Nat) : State :=
  { s with
    rails := Vector.ofFn (fun r => { s.rails.get r with static := rails r })
    chans := Vector.ofFn (fun c => { s.chans.get c with
      low := (levels c).1, high := (levels c).2.1, debounce := (levels c).2.2 }) }

theorem loadOne_cases (b : List Byte) : (∀ s, loadOne b s = none) ∨
    ∃ rails levels, ∀ s : State, loadOne b s = some (s.withRails rails levels) := by
  unfold loadOne
  cases allSome ((List.range 24).map (storedRail b)) with
  | none => exact .inl fun _ => rfl
  | some rails =>
    dsimp only
    split
    · exact .inr ⟨fun r => rails.getD r.val RailStatic.unused,
        fun c => (at2 b (576 + 5 * c.val), at2 b (578 + 5 * c.val), at1 b (580 + 5 * c.val)), fun _ => rfl⟩
    · exact .inl fun _ => rfl

theorem withRails_rail (s : State) (rails : RailId → RailStatic) (levels : ChannelId → Nat × Nat × Nat) (r : RailId) :
    ((s.withRails rails levels).rail r).static = rails r := by
  unfold State.withRails State.rail
  rw [get_ofFn]

theorem withRails_chan (s : State) (rails : RailId → RailStatic) (levels : ChannelId → Nat × Nat × Nat) (c : ChannelId) :
    (s.withRails rails levels).chan c = { s.chan c with
      low := (levels c).1, high := (levels c).2.1, debounce := (levels c).2.2 } := by
  unfold State.withRails State.chan
  rw [get_ofFn]

theorem withRails_port (s : State) (rails : RailId → RailStatic) (levels : ChannelId → Nat × Nat × Nat) (p : Port) :
    (s.withRails rails levels).port p = s.port p := by
  have ports : (s.withRails rails levels).ports = s.ports := by unfold State.withRails; rfl
  unfold State.port
  rw [ports]

theorem loadOne_group (b : List Byte) : LoadFixes 0 (loadOne b) ∧ LoadSpares 0 (loadOne b) := by
  refine ⟨fun s s' v loads => ?_, fun s v loads => ?_⟩
  all_goals rcases loadOne_cases b with unfit | ⟨rails, levels, fits⟩
  · rw [unfit s] at loads; cases loads
  · obtain rfl := Option.some.inj ((fits s).symm.trans loads)
    refine ⟨_, fits s', fun r => ?_, fun c => ?_⟩
    · rw [withRails_rail, withRails_rail]
    · rw [withRails_chan, withRails_chan]; exact ⟨rfl, rfl, rfl⟩
  · rw [unfit s] at loads; cases loads
  · obtain rfl := Option.some.inj ((fits s).symm.trans loads)
    refine ⟨rfl, fun k other => ?_⟩
    match k with
    | 0 => exact absurd rfl other
    | 1 => exact Eq.refl s.fwd.admission
    | 2 => exact ⟨Eq.refl s.seq.steps, Eq.refl s.seq.headers, Eq.refl s.seq.templates⟩
    | 3 => exact Eq.refl s.rtu.plan
    | 4 =>
      refine ⟨fun p => ?_, Eq.refl s.fwd.orderHoldMs, Eq.refl s.ev.defaultMask⟩
      rw [withRails_port]; exact ⟨rfl, rfl⟩

theorem loadTwo_cases (b : List Byte) : (∀ s, loadTwo b s = none) ∨
    ∃ table, ∀ s : State, loadTwo b s = some { s with fwd := { s.fwd with admission := table } } := by
  unfold loadTwo
  cases allSome ((List.range 64).map (fun i => decAdmit b (12 * i))) with
  | none => exact .inl fun _ => rfl
  | some l =>
    dsimp only
    split
    · exact .inr ⟨vecOf 64 none l, fun _ => rfl⟩
    · exact .inl fun _ => rfl

theorem loadTwo_group (b : List Byte) : LoadFixes 1 (loadTwo b) ∧ LoadSpares 1 (loadTwo b) := by
  refine ⟨fun s s' v loads => ?_, fun s v loads => ?_⟩
  all_goals rcases loadTwo_cases b with unfit | ⟨table, fits⟩
  · rw [unfit s] at loads; cases loads
  · obtain rfl := Option.some.inj ((fits s).symm.trans loads)
    exact ⟨_, fits s', rfl⟩
  · rw [unfit s] at loads; cases loads
  · obtain rfl := Option.some.inj ((fits s).symm.trans loads)
    refine ⟨rfl, fun k other => ?_⟩
    match k with
    | 0 => exact groupAlike_refl 0 s
    | 1 => exact absurd rfl other
    | 2 => exact groupAlike_refl 2 s
    | 3 => exact groupAlike_refl 3 s
    | 4 => exact groupAlike_refl 4 s

/-- G3's tables put in force. -/
def State.withPrograms (s : State) (steps : Vector Step 256) (headers : Vector Header 12)
    (templates : Vector (Option Template) 16) : State :=
  { s with seq := { s.seq with steps := steps, headers := headers, templates := templates } }

theorem loadThree_cases (b : List Byte) : (∀ s, loadThree b s = none) ∨
    ∃ steps headers templates, ∀ s : State, loadThree b s = some (s.withPrograms steps headers templates) := by
  unfold loadThree
  cases allSome ((List.range 256).map (fun i => decStep b (8 * i))) with
  | none => exact .inl fun _ => rfl
  | some steps =>
    cases allSome ((List.range 12).map (storedHeader b)) with
    | none => exact .inl fun _ => rfl
    | some headers =>
      cases allSome ((List.range 16).map (storedTemplate b)) with
      | none => exact .inl fun _ => rfl
      | some templates =>
        have same : ∀ s : State, (s.withPrograms (vecOf 256 Step.initial steps) (vecOf 12 (Header.initial 0) headers)
            (vecOf 16 none templates)).zeroHas StepKind.isRailOn =
            (State.reset.withPrograms (vecOf 256 Step.initial steps) (vecOf 12 (Header.initial 0) headers)
            (vecOf 16 none templates)).zeroHas StepKind.isRailOn := fun _ => rfl
        by_cases rises : (State.reset.withPrograms (vecOf 256 Step.initial steps) (vecOf 12 (Header.initial 0) headers)
            (vecOf 16 none templates)).zeroHas StepKind.isRailOn = true
        · exact .inl fun s => if_pos ((same s).trans rises)
        · exact .inr ⟨_, _, _, fun s => if_neg (fun has => rises ((same s).symm.trans has))⟩

theorem loadThree_group (b : List Byte) : LoadFixes 2 (loadThree b) ∧ LoadSpares 2 (loadThree b) := by
  refine ⟨fun s s' v loads => ?_, fun s v loads => ?_⟩
  all_goals rcases loadThree_cases b with unfit | ⟨steps, headers, templates, fits⟩
  · rw [unfit s] at loads; cases loads
  · obtain rfl := Option.some.inj ((fits s).symm.trans loads)
    exact ⟨_, fits s', rfl, rfl, rfl⟩
  · rw [unfit s] at loads; cases loads
  · obtain rfl := Option.some.inj ((fits s).symm.trans loads)
    refine ⟨rfl, fun k other => ?_⟩
    match k with
    | 0 => exact groupAlike_refl 0 s
    | 1 => exact groupAlike_refl 1 s
    | 2 => exact absurd rfl other
    | 3 => exact groupAlike_refl 3 s
    | 4 => exact groupAlike_refl 4 s

theorem loadFour_group (b : List Byte) : LoadFixes 3 (loadFour b) ∧ LoadSpares 3 (loadFour b) := by
  have four : ∀ s, loadFour b s = (decPlan b).map (fun p => { s with rtu := { s.rtu with plan := p } }) := fun _ => rfl
  refine ⟨fun s s' v loads => ?_, fun s v loads => ?_⟩
  all_goals rw [four] at loads; obtain ⟨p, found, rfl⟩ := Option.map_eq_some_iff.mp loads
  · exact ⟨{ s' with rtu := { s'.rtu with plan := p } }, by rw [four, found]; rfl, rfl⟩
  · refine ⟨rfl, fun k other => ?_⟩
    match k with
    | 0 => exact groupAlike_refl 0 s
    | 1 => exact groupAlike_refl 1 s
    | 2 => exact groupAlike_refl 2 s
    | 3 => exact absurd rfl other
    | 4 => exact groupAlike_refl 4 s

theorem loadFive_group (b : List Byte) : LoadFixes 4 (loadFive b) ∧ LoadSpares 4 (loadFive b) := by
  have five : ∀ s, loadFive b s = (decPortSettings b).map (fun x => applyPortSettings x s) := fun _ => rfl
  refine ⟨fun s s' v loads => ?_, fun s v loads => ?_⟩
  all_goals rw [five] at loads; obtain ⟨x, found, rfl⟩ := Option.map_eq_some_iff.mp loads
  · refine ⟨applyPortSettings x s', by rw [five, found]; rfl, fun p => ?_, rfl, rfl⟩
    rw [port_applyPortSettings, port_applyPortSettings]; exact ⟨rfl, rfl⟩
  · refine ⟨rfl, fun k other => ?_⟩
    match k with
    | 0 => exact groupAlike_refl 0 s
    | 1 => exact groupAlike_refl 1 s
    | 2 => exact groupAlike_refl 2 s
    | 3 => exact groupAlike_refl 3 s
    | 4 => exact absurd rfl other

theorem loadGroup_group (g : Fin 5) (b : List Byte) : LoadFixes g (loadGroup g b) ∧ LoadSpares g (loadGroup g b) := by
  match g with
  | 0 => exact loadOne_group b
  | 1 => exact loadTwo_group b
  | 2 => exact loadThree_group b
  | 3 => exact loadFour_group b
  | 4 => exact loadFive_group b

/-! ### One group judged (R185) -/

/-- The four outcomes of a judgement, `w` the state before it. -/
theorem judgeGroup_code_eq {g : Fin 5} {w : State} (code : (w.store.groups.get g).code ≠ 0xA5) : judgeGroup g w =
    if (w.store.groups.get g).code = 0xFF then setLoad g .code w else fallback (setLoad g .code w) := if_pos code

theorem judgeGroup_crc_eq {g : Fin 5} {w : State} (code : (w.store.groups.get g).code = 0xA5)
    (bad : crc16 (w.store.groups.get g).contents ≠ (w.store.groups.get g).crc) :
    judgeGroup g w = fallback (setLoad g .crc w) :=
  (if_neg (not_not_intro code)).trans (if_pos bad)

theorem judgeGroup_unfit_eq {g : Fin 5} {w : State} (code : (w.store.groups.get g).code = 0xA5)
    (sound : crc16 (w.store.groups.get g).contents = (w.store.groups.get g).crc)
    (unfit : loadGroup g (w.store.groups.get g).contents w = none) : judgeGroup g w = fallback (setLoad g .unfit w) := by
  unfold judgeGroup
  dsimp only
  rw [if_neg (not_not_intro code), if_neg (not_not_intro sound), unfit]

theorem judgeGroup_stored_eq {g : Fin 5} {w v : State} (code : (w.store.groups.get g).code = 0xA5)
    (sound : crc16 (w.store.groups.get g).contents = (w.store.groups.get g).crc)
    (fits : loadGroup g (w.store.groups.get g).contents w = some v) : judgeGroup g w = setLoad g .stored v := by
  unfold judgeGroup
  dsimp only
  rw [if_neg (not_not_intro code), if_neg (not_not_intro sound), fits]

/-- What a judgement leaves of its group's tables, of the others', and of the pending set. -/
structure Judgement (g : Fin 5) (w t : State) : Prop where
  code : (w.store.groups.get g).code ≠ 0xA5 → t.store.loads.get g = .code ∧ w.GroupAlike g t
  crc : (w.store.groups.get g).code = 0xA5 → crc16 (w.store.groups.get g).contents ≠ (w.store.groups.get g).crc →
    t.store.loads.get g = .crc ∧ w.GroupAlike g t
  unfit : (w.store.groups.get g).code = 0xA5 → crc16 (w.store.groups.get g).contents = (w.store.groups.get g).crc →
    loadGroup g (w.store.groups.get g).contents w = none → t.store.loads.get g = .unfit ∧ w.GroupAlike g t
  stored : (w.store.groups.get g).code = 0xA5 → crc16 (w.store.groups.get g).contents = (w.store.groups.get g).crc →
    ∀ v, loadGroup g (w.store.groups.get g).contents w = some v → t.store.loads.get g = .stored ∧ v.GroupAlike g t
  others : ∀ k, k ≠ g → w.GroupAlike k t
  pending : State.Pended (t.store.loads.get g ≠ .stored ∧ (w.store.groups.get g).code ≠ 0xFF) w t

theorem setLoad_own (g : Fin 5) (x : LoadResult) (s : State) : (setLoad g x s).store.loads.get g = x := by
  rw [setLoad_loads, if_pos rfl]

theorem defaults_alike (g k : Fin 5) (x : LoadResult) (s : State) : s.GroupAlike k (fallback (setLoad g x s)) :=
  groupAlike_trans (groupAlike_setLoad g k x s) (groupAlike_fallback k _)

theorem fallback_own (g : Fin 5) (x : LoadResult) (s : State) : (fallback (setLoad g x s)).store.loads.get g = x :=
  setLoad_own g x s

theorem judgeGroup_judgement (g : Fin 5) (w : State) : Judgement g w (judgeGroup g w) := by
  by_cases code : (w.store.groups.get g).code = 0xA5
  · have written : (w.store.groups.get g).code ≠ 0xFF := by rw [code]; decide
    by_cases sound : crc16 (w.store.groups.get g).contents = (w.store.groups.get g).crc
    · cases fits : loadGroup g (w.store.groups.get g).contents w with
      | none =>
        rw [judgeGroup_unfit_eq code sound fits]
        refine ⟨absurd code, fun _ => absurd sound, fun _ _ _ => ⟨fallback_own g _ w, defaults_alike g g _ w⟩,
          fun _ _ v some' => (nomatch fits.symm.trans some'), fun k _ => defaults_alike g k _ w, ?_⟩
        exact pended_fallback ⟨by rw [fallback_own]; decide, written⟩ rfl
      | some v =>
        obtain ⟨pending, spared⟩ := (loadGroup_group g (w.store.groups.get g).contents).2 w v fits
        rw [judgeGroup_stored_eq code sound fits]
        refine ⟨absurd code, fun _ => absurd sound, fun _ _ none' => (nomatch fits.symm.trans none'),
          fun _ _ v' some' => ?_, fun k other => groupAlike_trans (spared k other) (groupAlike_setLoad g k _ v), ?_⟩
        · obtain rfl := Option.some.inj (fits.symm.trans some')
          exact ⟨setLoad_own g _ v, groupAlike_setLoad g g _ v⟩
        · exact pended_no (fun ⟨falls, _⟩ => falls (setLoad_own g _ v)) pending
    · rw [judgeGroup_crc_eq code sound]
      refine ⟨absurd code, fun _ _ => ⟨fallback_own g _ w, defaults_alike g g _ w⟩, fun _ ok => absurd ok sound,
        fun _ ok => absurd ok sound, fun k _ => defaults_alike g k _ w, ?_⟩
      exact pended_fallback ⟨by rw [fallback_own]; decide, written⟩ rfl
  · rw [judgeGroup_code_eq code]
    by_cases fresh : (w.store.groups.get g).code = 0xFF
    · rw [if_pos fresh]
      refine ⟨fun _ => ⟨setLoad_own g _ w, groupAlike_setLoad g g _ w⟩, fun yes => absurd yes code, fun yes => absurd yes code,
        fun yes => absurd yes code, fun k _ => groupAlike_setLoad g k _ w, ?_⟩
      exact pended_no (fun ⟨_, written⟩ => written fresh) rfl
    · rw [if_neg fresh]
      refine ⟨fun _ => ⟨fallback_own g _ w, defaults_alike g g _ w⟩, fun yes => absurd yes code, fun yes => absurd yes code,
        fun yes => absurd yes code, fun k _ => defaults_alike g k _ w, ?_⟩
      exact pended_fallback ⟨by rw [fallback_own]; decide, fresh⟩ rfl

end Sys2Proof.Machine
end

section
/-! The five groups judged in turn, and then together (R185, R186). -/

namespace Sys2Proof.Machine

/-! ### The five groups in turn -/

/-- What the judgement of another group leaves of group `k`: its tables, its load result, the store's contents. -/
structure Untouched (k : Fin 5) (s t : State) : Prop where
  tables : s.GroupAlike k t
  loads : t.store.loads.get k = s.store.loads.get k
  groups : t.store.groups = s.store.groups

theorem untouched_refl (k : Fin 5) (s : State) : Untouched k s s := ⟨groupAlike_refl k s, rfl, rfl⟩

theorem untouched_trans {k : Fin 5} {s t u : State} (a : Untouched k s t) (b : Untouched k t u) : Untouched k s u :=
  ⟨groupAlike_trans a.tables b.tables, b.loads.trans a.loads, b.groups.trans a.groups⟩

theorem untouched_judged {g k : Fin 5} {s t : State} (h : Untouched k s t) (other : k ≠ g) :
    Untouched k s (judgeGroup g t) :=
  untouched_trans h
    ⟨(judgeGroup_judgement g t).others k other, judgeGroup_loads g k t other, (judgeGroup_keeps g t).groups⟩

/-- The state in which group `g` is judged. -/
def State.before (s : State) (g : Fin 5) : State :=
  match g with
  | 0 => s
  | 1 => judgeGroup 0 s
  | 2 => judgeGroup 1 (judgeGroup 0 s)
  | 3 => judgeGroup 2 (judgeGroup 1 (judgeGroup 0 s))
  | 4 => judgeGroup 3 (judgeGroup 2 (judgeGroup 1 (judgeGroup 0 s)))

/-- The groups judged before group `g` leave it. -/
theorem untouched_before (s : State) (g : Fin 5) : Untouched g s (s.before g) := by
  match g with
  | 0 => exact untouched_refl 0 s
  | 1 => exact untouched_judged (untouched_refl 1 s) (g := 0) (by decide)
  | 2 => exact untouched_judged (untouched_judged (untouched_refl 2 s) (g := 0) (by decide)) (g := 1) (by decide)
  | 3 =>
    exact untouched_judged (untouched_judged (untouched_judged (untouched_refl 3 s) (g := 0) (by decide))
      (g := 1) (by decide)) (g := 2) (by decide)
  | 4 =>
    have chain : s.before 4 = judgeGroup 3 (judgeGroup 2 (judgeGroup 1 (judgeGroup 0 s))) := rfl
    rw [chain]
    exact untouched_judged (untouched_judged (untouched_judged (untouched_judged (untouched_refl 4 s)
      (g := 0) (by decide)) (g := 1) (by decide)) (g := 2) (by decide)) (g := 3) (by decide)

/-- The groups judged after it leave it too. -/
theorem untouched_after (s : State) (g : Fin 5) : Untouched g (judgeGroup g (s.before g)) (judged s) := by
  match g with
  | 0 =>
    exact untouched_judged (untouched_judged (untouched_judged (untouched_judged (untouched_refl 0 _)
      (g := 1) (by decide)) (g := 2) (by decide)) (g := 3) (by decide)) (g := 4) (by decide)
  | 1 =>
    exact untouched_judged (untouched_judged (untouched_judged (untouched_refl 1 _) (g := 2) (by decide))
      (g := 3) (by decide)) (g := 4) (by decide)
  | 2 => exact untouched_judged (untouched_judged (untouched_refl 2 _) (g := 3) (by decide)) (g := 4) (by decide)
  | 3 => exact untouched_judged (untouched_refl 3 _) (g := 4) (by decide)
  | 4 => exact untouched_refl 4 _

/-- What the second part of O8 says of one group: its load result, and its tables, the stored ones or the defaults. Whether
the contents fit, and the tables they give, are the same in every state `r`. -/
theorem judged_group {s : State} (r : State) (defaults : ∀ g, State.reset.GroupAlike g s) (g : Fin 5) (a : GroupArea)
    (area : a = s.store.groups.get g) :
    (a.code ≠ 0xA5 → (judged s).store.loads.get g = .code ∧ State.reset.GroupAlike g (judged s)) ∧
    (a.code = 0xA5 → crc16 a.contents ≠ a.crc →
      (judged s).store.loads.get g = .crc ∧ State.reset.GroupAlike g (judged s)) ∧
    (a.code = 0xA5 → crc16 a.contents = a.crc →
      (loadGroup g a.contents r = none →
        (judged s).store.loads.get g = .unfit ∧ State.reset.GroupAlike g (judged s)) ∧
      (∀ v, loadGroup g a.contents r = some v →
        (judged s).store.loads.get g = .stored ∧ v.GroupAlike g (judged s))) := by
  have before := untouched_before s g
  have after := untouched_after s g
  have judgement := judgeGroup_judgement g (s.before g)
  obtain ⟨fixes, -⟩ := loadGroup_group g a.contents
  obtain ⟨w, hw⟩ : ∃ w, w = s.before g := ⟨_, rfl⟩
  obtain ⟨t, ht⟩ : ∃ t, t = judgeGroup g w := ⟨_, rfl⟩
  obtain ⟨u, hu⟩ : ∃ u, u = judged s := ⟨_, rfl⟩
  rw [← hu, ← hw, ← ht] at after
  rw [← hw, ← ht] at judgement
  rw [← hw] at before
  rw [← hu]
  have areaW : w.store.groups.get g = a := by rw [before.groups, area]
  have keepsDefaults : w.GroupAlike g t → State.reset.GroupAlike g u := fun kept =>
    groupAlike_trans (defaults g) (groupAlike_trans before.tables (groupAlike_trans kept after.tables))
  rw [after.loads]
  have byCode := judgement.code
  have byCrc := judgement.crc
  have byUnfit := judgement.unfit
  have byStored := judgement.stored
  rw [areaW] at byCode byCrc byUnfit byStored
  refine ⟨fun code => ?_, fun code bad => ?_, fun code sound => ⟨fun unfit => ?_, fun v fits => ?_⟩⟩
  · obtain ⟨loads, kept⟩ := byCode code
    exact ⟨loads, keepsDefaults kept⟩
  · obtain ⟨loads, kept⟩ := byCrc code bad
    exact ⟨loads, keepsDefaults kept⟩
  · have unfitW : loadGroup g a.contents w = none := by
      cases loadsW : loadGroup g a.contents w with
      | none => rfl
      | some v =>
        obtain ⟨v', fits, _⟩ := fixes w r v loadsW
        exact (nomatch unfit.symm.trans fits)
    obtain ⟨loads, kept⟩ := byUnfit code sound unfitW
    exact ⟨loads, keepsDefaults kept⟩
  · obtain ⟨v', fitsW, alike⟩ := fixes r w v fits
    obtain ⟨loads, kept⟩ := byStored code sound v' fitsW
    exact ⟨loads, groupAlike_trans alike (groupAlike_trans kept after.tables)⟩

/-- Group `g` holds its defaults other than for a store that was never written. -/
def State.FellBack (s : State) (u : State) (g : Fin 5) : Prop :=
  u.store.loads.get g ≠ .stored ∧ (s.store.groups.get g).code ≠ 0xFF

theorem pended_judgeGroup (s : State) (g : Fin 5) :
    State.Pended (s.FellBack (judged s) g) (s.before g) (judgeGroup g (s.before g)) := by
  refine pended_congr (judgeGroup_judgement g (s.before g)).pending ?_
  unfold State.FellBack
  rw [(untouched_after s g).loads, (untouched_before s g).groups]

theorem exists_five {P : Fin 5 → Prop} : (∃ g, P g) ↔ P 0 ∨ P 1 ∨ P 2 ∨ P 3 ∨ P 4 := by
  simp [Fin.exists_fin_succ]

/-- CONFIG_FALLBACK where some group fell back, and only there (R185). -/
theorem pended_judged (s : State) : State.Pended (∃ g, s.FellBack (judged s) g) s (judged s) :=
  pended_congr
    (pended_trans (pended_judgeGroup s 0) (pended_trans (pended_judgeGroup s 1) (pended_trans (pended_judgeGroup s 2)
      (pended_trans (pended_judgeGroup s 3) (pended_judgeGroup s 4))))) exists_five

end Sys2Proof.Machine
end

section
/-! The checks of the groups together (R186), and the start-up load as a whole (O8). -/

namespace Sys2Proof.Machine

/-! ### The bulk channel and the budget (R186 items 1 and 2) -/

/-- A USED rail senses the plan's bulk channel. -/
def State.BulkSensed (u : State) : Prop :=
  ∃ r, (u.rail r).static.used = true ∧ (u.rail r).static.sense ≠ none ∧ (u.rail r).static.sense = u.rtu.plan.bulk

theorem bulkSensed_some {u : State} (h : u.BulkSensed) : u.rtu.plan.bulk ≠ none := by
  obtain ⟨r, _, senses, same⟩ := h
  rwa [← same]

theorem sensedBy_iff {u : State} {c : ChannelId} (bulk : u.rtu.plan.bulk = some c) :
    allRails.any (fun r => (u.rail r).static.used && (u.rail r).static.sense == some c) = true ↔ u.BulkSensed := by
  rw [List.any_eq_true]
  constructor
  · rintro ⟨r, _, both⟩
    obtain ⟨used, senses⟩ := Bool.and_eq_true_iff.mp both
    have sense : (u.rail r).static.sense = some c := by simpa using senses
    exact ⟨r, used, by rw [sense]; exact Option.some_ne_none c, sense.trans bulk.symm⟩
  · rintro ⟨r, used, _, same⟩
    exact ⟨r, List.mem_finRange r, Bool.and_eq_true_iff.mpr ⟨used, by rw [same, bulk]; exact beq_self_eq_true _⟩⟩

/-- The plan on its defaults, with a load result that says so. -/
def State.planDefaulted (u : State) : State := fallback (setLoad 3 .unfit (defaultFour u))

theorem crossBulk_sensed {u : State} (h : u.BulkSensed) : crossBulk u = u.planDefaulted := by
  unfold crossBulk State.planDefaulted
  cases bulk : u.rtu.plan.bulk with
  | none => exact absurd bulk (bulkSensed_some h)
  | some c =>
    dsimp only
    rw [if_pos ((sensedBy_iff bulk).mpr h)]

theorem crossBulk_free {u : State} (h : ¬ u.BulkSensed) : crossBulk u = u := by
  unfold crossBulk
  cases bulk : u.rtu.plan.bulk with
  | none => rfl
  | some c =>
    dsimp only
    rw [if_neg (fun senses => h ((sensedBy_iff bulk).mp senses))]

/-- What the two checks leave of `u`, where `p` is the plan that the first leaves. -/
structure State.JointlyFit (u : State) (p : Plan) (x : State) : Prop where
  rails : x.rails = u.rails
  chans : x.chans = u.chans
  fwd : x.fwd = u.fwd
  ports : x.ports = u.ports
  mask : x.ev.defaultMask = u.ev.defaultMask
  loads : ∀ g : Fin 5, g ≠ 2 → g ≠ 3 → x.store.loads.get g = u.store.loads.get g
  exceeds : p.reserveMs < u.worstCase 0 → State.reset.GroupAlike 2 x ∧ x.rtu.plan = Plan.initial ∧
    x.store.loads.get 2 = .budget ∧ x.store.loads.get 3 = .budget
  within : u.worstCase 0 ≤ p.reserveMs → x.seq = u.seq ∧ x.rtu.plan = p ∧
    x.store.loads.get 2 = u.store.loads.get 2 ∧
    (p = u.rtu.plan → x.store.loads.get 3 = u.store.loads.get 3) ∧ (p ≠ u.rtu.plan → x.store.loads.get 3 = .unfit)
  pending : State.Pended (p.reserveMs < u.worstCase 0 ∨ p ≠ u.rtu.plan) u x

theorem planDefaulted_loads (u : State) (g : Fin 5) : u.planDefaulted.store.loads.get g =
    if g = 3 then .unfit else u.store.loads.get g := by
  unfold State.planDefaulted
  rw [fallback_store, setLoad_loads]; rfl

theorem planDefaulted_plan (u : State) : u.planDefaulted.rtu.plan = Plan.initial := rfl

theorem planDefaulted_ev (u : State) : u.planDefaulted.ev = { u.ev with
    pending := u.ev.pending ||| EventKind.configFallback.bit } := rfl

theorem planDefaulted_rest (u : State) :
    ({ u.planDefaulted with rtu := u.rtu, ev := u.ev, store := u.store } : State) = u := rfl

theorem worstCase_planDefaulted (u : State) : u.planDefaulted.worstCase 0 = u.worstCase 0 := rfl

/-- G3 and G4 on their defaults, with load results that say so. -/
def State.budgetDefaulted (w : State) : State :=
  fallback (setLoad 2 .budget (setLoad 3 .budget (defaultThree (defaultFour w))))

theorem budgetDefaulted_loads (w : State) (g : Fin 5) : w.budgetDefaulted.store.loads.get g =
    if g = 2 then .budget else if g = 3 then .budget else w.store.loads.get g := by
  unfold State.budgetDefaulted
  rw [fallback_store, setLoad_loads, setLoad_loads]; rfl

theorem budgetDefaulted_plan (w : State) : w.budgetDefaulted.rtu.plan = Plan.initial := rfl

theorem budgetDefaulted_ev (w : State) : w.budgetDefaulted.ev = { w.ev with
    pending := w.ev.pending ||| EventKind.configFallback.bit } := rfl

theorem budgetDefaulted_programs (w : State) : State.reset.GroupAlike 2 w.budgetDefaulted := by
  have reset : State.reset.seq = Sequencer.initial := by unfold State.reset; rfl
  refine ⟨?_, ?_, ?_⟩
  all_goals rw [reset]; unfold State.budgetDefaulted; rfl

theorem budgetDefaulted_rest (w : State) :
    ({ w.budgetDefaulted with seq := w.seq, rtu := w.rtu, ev := w.ev, store := w.store } : State) = w := by
  unfold State.budgetDefaulted fallback setLoad setStore defaultThree defaultFour; rfl

theorem crossBudget_exceeds {w : State} (exceeds : w.rtu.plan.reserveMs < w.worstCase 0) :
    crossBudget w = w.budgetDefaulted :=
  if_neg (by unfold State.budgetOk; simpa using exceeds)

theorem crossBudget_within {w : State} (within : w.worstCase 0 ≤ w.rtu.plan.reserveMs) : crossBudget w = w :=
  if_pos (by unfold State.budgetOk; simpa using within)

/-- A program 0 whose worst case exceeds RESERVE_MS, with the plan as the first check leaves it in `w`. -/
theorem jointlyFit_exceeds {u w : State} {p : Plan} (exceeds : p.reserveMs < u.worstCase 0)
    (rest : ({ w with rtu := u.rtu, ev := u.ev, store := u.store } : State) = u) (mask : w.ev.defaultMask = u.ev.defaultMask)
    (loads : ∀ g : Fin 5, g ≠ 3 → w.store.loads.get g = u.store.loads.get g)
    (pending : w.ev.pending ||| EventKind.configFallback.bit = u.ev.pending ||| EventKind.configFallback.bit) :
    u.JointlyFit p w.budgetDefaulted := by
  have restX := budgetDefaulted_rest w
  have ev := budgetDefaulted_ev w
  have plan := budgetDefaulted_plan w
  have programs := budgetDefaulted_programs w
  have results := budgetDefaulted_loads w
  obtain ⟨x, hx⟩ : ∃ x, x = w.budgetDefaulted := ⟨_, rfl⟩
  rw [← hx] at restX ev plan programs ⊢
  simp only [← hx] at results
  refine ⟨(congrArg State.rails restX :).trans (congrArg State.rails rest :),
    (congrArg State.chans restX :).trans (congrArg State.chans rest :),
    (congrArg State.fwd restX :).trans (congrArg State.fwd rest :),
    (congrArg State.ports restX :).trans (congrArg State.ports rest :),
    (congrArg EventUnit.defaultMask ev :).trans mask, fun g two three => ?_, fun _ => ⟨programs, plan, results 2, results 3⟩,
    fun within => absurd exceeds (Nat.not_lt.mpr within),
    ⟨fun _ => (congrArg EventUnit.pending ev :).trans pending, fun no => absurd (.inl exceeds) no⟩⟩
  rw [results g, if_neg two, if_neg three]; exact loads g three

theorem jointlyFit_sensed {u : State} (sensed : u.BulkSensed) :
    u.JointlyFit Plan.initial (crossBudget u.planDefaulted) := by
  have differs : Plan.initial ≠ u.rtu.plan := fun same => bulkSensed_some sensed (by rw [← same]; rfl)
  have rest := planDefaulted_rest u
  have ev := planDefaulted_ev u
  have plan := planDefaulted_plan u
  have worst := worstCase_planDefaulted u
  have results := planDefaulted_loads u
  obtain ⟨w, hw⟩ : ∃ w, w = u.planDefaulted := ⟨_, rfl⟩
  rw [← hw] at rest ev plan worst ⊢
  simp only [← hw] at results
  have others : ∀ g : Fin 5, g ≠ 3 → w.store.loads.get g = u.store.loads.get g := fun g three => by
    rw [results g, if_neg three]
  have mask : w.ev.defaultMask = u.ev.defaultMask := (congrArg EventUnit.defaultMask ev :)
  have pending : w.ev.pending = u.ev.pending ||| EventKind.configFallback.bit := (congrArg EventUnit.pending ev :)
  by_cases exceeds : Plan.initial.reserveMs < u.worstCase 0
  · rw [crossBudget_exceeds (by rw [plan, worst]; exact exceeds)]
    exact jointlyFit_exceeds exceeds rest mask others (by rw [pending, BitVec.or_assoc, BitVec.or_self])
  · rw [crossBudget_within (by rw [plan, worst]; exact Nat.not_lt.mp exceeds)]
    exact ⟨(congrArg State.rails rest :), (congrArg State.chans rest :), (congrArg State.fwd rest :),
      (congrArg State.ports rest :), mask, fun g _ three => others g three, fun yes => absurd yes exceeds,
      fun _ => ⟨(congrArg State.seq rest :), plan, others 2 (by decide), fun same => absurd same differs, fun _ => results 3⟩,
      ⟨fun _ => pending, fun no => absurd (.inr differs) no⟩⟩

theorem jointlyFit_free (u : State) : u.JointlyFit u.rtu.plan (crossBudget u) := by
  by_cases exceeds : u.rtu.plan.reserveMs < u.worstCase 0
  · rw [crossBudget_exceeds exceeds]
    exact jointlyFit_exceeds exceeds rfl rfl (fun _ _ => rfl) rfl
  · rw [crossBudget_within (Nat.not_lt.mp exceeds)]
    exact ⟨rfl, rfl, rfl, rfl, rfl, fun _ _ _ => rfl, fun yes => absurd yes exceeds, fun _ => ⟨rfl, rfl, rfl, fun _ => rfl,
      fun no => absurd rfl no⟩, ⟨fun either => either.elim (fun yes => absurd yes exceeds) (fun no => absurd rfl no),
      fun _ => rfl⟩⟩

/-! ### The roles (R30, R38, R186 item 3) -/

/-- What the third check and the roles leave of `x`. -/
structure State.RolesFit (x t : State) : Prop where
  seq : t.seq = x.seq
  fwd : t.fwd = x.fwd
  ports : t.ports = x.ports
  mask : t.ev.defaultMask = x.ev.defaultMask
  loads : t.store.loads = x.store.loads
  plan : t.rtu.plan = x.rtu.plan.keepRoles x
  rails : ∀ r, (t.rail r).static = (x.rail r).static.keepRole x
  chans : ∀ c, (t.chan c).low = (x.chan c).low ∧ (t.chan c).high = (x.chan c).high ∧
    (t.chan c).debounce = (x.chan c).debounce ∧ (t.chan c).role = t.roleOf c
  marks : t.marks = t.rtu.plan.marks
  pending : State.Pended (t.rtu.plan ≠ x.rtu.plan ∨ ∃ r, (t.rail r).static ≠ (x.rail r).static) x t

/-- The references to programs of another priority are gone. -/
def State.rolesKept (x : State) : State :=
  { x with
    rails := Vector.ofFn (fun r => { x.rails.get r with static := (x.rails.get r).static.keepRole x })
    rtu := { x.rtu with plan := x.rtu.plan.keepRoles x } }

theorem rolesKept_rail (x : State) (r : RailId) : (x.rolesKept.rail r).static = (x.rail r).static.keepRole x := by
  unfold State.rolesKept State.rail
  rw [get_ofFn]

/-- Some reference is to a program of another priority. -/
def State.Misnamed (x : State) : Prop :=
  x.rtu.plan.keepRoles x ≠ x.rtu.plan ∨ ∃ r, (x.rail r).static.keepRole x ≠ (x.rail r).static

theorem misnamed_iff (x : State) : (x.rtu.plan.keepRoles x != x.rtu.plan ||
    allRails.any (fun r => (x.rail r).static.keepRole x != (x.rail r).static)) = true ↔ x.Misnamed := by
  rw [Bool.or_eq_true, List.any_eq_true, bne_iff_ne]
  refine or_congr Iff.rfl ⟨fun ⟨r, _, differs⟩ => ⟨r, bne_iff_ne.mp differs⟩, fun ⟨r, differs⟩ => ⟨r, ?_, ?_⟩⟩
  · exact List.mem_finRange r
  · exact bne_iff_ne.mpr differs

theorem crossRoles_misnamed {x : State} (h : x.Misnamed) : crossRoles x = fallback x.rolesKept := by
  unfold crossRoles
  dsimp only
  rw [if_pos ((misnamed_iff x).mpr h)]; rfl

theorem crossRoles_named {x : State} (h : ¬ x.Misnamed) : crossRoles x = x.rolesKept := by
  unfold crossRoles
  dsimp only
  rw [if_neg (fun named => h ((misnamed_iff x).mp named))]
  unfold State.rolesKept; rfl

theorem rolesKept_ev (x : State) : x.rolesKept.ev = x.ev := by unfold State.rolesKept; rfl

theorem rolesKept_plan (x : State) : x.rolesKept.rtu.plan = x.rtu.plan.keepRoles x := by unfold State.rolesKept; rfl

theorem rolesKept_rest (x : State) : ({ x.rolesKept with rails := x.rails, rtu := x.rtu } : State) = x := by
  unfold State.rolesKept; rfl

theorem withEv_rolesKept (x : State) : ({ x.rolesKept with ev := x.ev } : State) = x.rolesKept := by
  unfold State.rolesKept; rfl

/-- The roles, the marks, the mask and the record copy once the tables stand. -/
def State.tablesStand (y : State) : State := (finishLoad (rebuildMarks (refreshRoles y))).loaded

theorem withRole_thresholds (c : Channel) (role : Role) : (c.withRole role).low = c.low ∧ (c.withRole role).high = c.high ∧
    (c.withRole role).debounce = c.debounce ∧ (c.withRole role).role = role := by
  unfold Channel.withRole
  split
  · next same => exact ⟨rfl, rfl, rfl, same⟩
  · exact ⟨rfl, rfl, rfl, rfl⟩

theorem refreshRoles_shape (y : State) : ∃ chans marks, (∀ c : ChannelId, chans.get c = (y.chan c).withRole (y.roleOf c)) ∧
    refreshRoles y = { y with chans := chans, marks := marks } := by
  refine ⟨(refreshRoles y).chans, (refreshRoles y).marks, chan_refreshRoles y, ?_⟩
  apply State.ext <;> simp

theorem rolesFit_tablesStand {x y : State} {F : Prop} (rest : ({ y with ev := x.ev } : State) = x.rolesKept)
    (mask : y.ev.defaultMask = x.ev.defaultMask) (pending : State.Pended F x y) (changed : F ↔ x.Misnamed) :
    x.RolesFit y.tablesStand := by
  have planK := rolesKept_plan x
  have railK := rolesKept_rail x
  have kept := rolesKept_rest x
  obtain ⟨k, hk⟩ : ∃ k, k = x.rolesKept := ⟨_, rfl⟩
  rw [← hk] at planK kept rest
  simp only [← hk] at railK
  have plan : y.rtu.plan = x.rtu.plan.keepRoles x := (congrArg (fun v : State => v.rtu.plan) rest).trans planK
  have chans : y.chans = x.chans := (congrArg State.chans rest :).trans (congrArg State.chans kept :)
  have seq : y.seq = x.seq := (congrArg State.seq rest :).trans (congrArg State.seq kept :)
  have fwd : y.fwd = x.fwd := (congrArg State.fwd rest :).trans (congrArg State.fwd kept :)
  have ports : y.ports = x.ports := (congrArg State.ports rest :).trans (congrArg State.ports kept :)
  have store : y.store = x.store := (congrArg State.store rest :).trans (congrArg State.store kept :)
  have rail : ∀ r, (y.rail r).static = (x.rail r).static.keepRole x := fun r =>
    (congrArg (fun v : State => (v.rail r).static) rest).trans (railK r)
  obtain ⟨table, marks, roles, shape⟩ := refreshRoles_shape y
  obtain ⟨t, ht⟩ : ∃ t, t = y.tablesStand := ⟨_, rfl⟩
  have stands : t = { y with
      phase := .loading, chans := table, marks := y.rtu.plan.marks, ev := { y.ev with mask := y.ev.defaultMask }
      rtu := { y.rtu with record := y.store.slot.copy } } := by
    rw [ht]; unfold State.tablesStand; rw [shape]; rfl
  have role : ∀ c, t.roleOf c = y.roleOf c := by
    intro c; rw [stands]; rfl
  have railT : ∀ r, t.rail r = y.rail r := by intro r; rw [stands]; rfl
  have planT : t.rtu.plan = y.rtu.plan := by rw [stands]
  have chanT : ∀ c, t.chan c = (x.chan c).withRole (y.roleOf c) := by
    intro c
    have before : y.chan c = x.chan c := congrArg (fun v => v.get c) chans
    rw [stands, ← before]; exact roles c
  rw [← ht]
  refine ⟨by rw [stands]; exact seq, by rw [stands]; exact fwd, by rw [stands]; exact ports, by rw [stands]; exact mask,
    by rw [stands]; exact congrArg Store.loads store, planT.trans plan, fun r => by rw [railT]; exact rail r, fun c => ?_,
    by rw [planT, stands], ?_⟩
  · obtain ⟨low, high, debounce, own⟩ := withRole_thresholds (x.chan c) (y.roleOf c)
    rw [chanT c, role c]; exact ⟨low, high, debounce, own⟩
  · have pendingT : State.Pended F x t := ⟨fun f => by rw [stands]; exact pending.falls f,
      fun no => by rw [stands]; exact pending.stands no⟩
    refine pended_congr pendingT ?_
    rw [changed, planT, plan]
    unfold State.Misnamed
    simp only [railT, rail]

theorem rolesFit_crossRoles (x : State) : x.RolesFit (crossRoles x).tablesStand := by
  have ev := rolesKept_ev x
  have rest := withEv_rolesKept x
  have stands := fun y F => rolesFit_tablesStand (x := x) (y := y) (F := F)
  by_cases misnamed : x.Misnamed
  · rw [crossRoles_misnamed misnamed]
    obtain ⟨k, hk⟩ : ∃ k, k = x.rolesKept := ⟨_, rfl⟩
    rw [← hk] at ev rest stands ⊢
    exact stands (fallback k) x.Misnamed rest (congrArg EventUnit.defaultMask ev :)
      (pended_fallback misnamed (congrArg EventUnit.pending ev :)) Iff.rfl
  · rw [crossRoles_named misnamed]
    obtain ⟨k, hk⟩ : ∃ k, k = x.rolesKept := ⟨_, rfl⟩
    rw [← hk] at ev rest stands ⊢
    exact stands k x.Misnamed rest (congrArg EventUnit.defaultMask ev :)
      (pended_no misnamed (congrArg EventUnit.pending ev :)) Iff.rfl

end Sys2Proof.Machine
end

section
/-! The start-up wait and the load (O8). -/

namespace Sys2Proof.Machine

/-- The load: the groups in turn, the groups together, and the tables as they stand. -/
theorem loaded_startupLoad (s : State) :
    (startupLoad s).loaded = (crossRoles (crossBudget (crossBulk (judged s)))).tablesStand := by
  rw [startupLoad_eq]; rfl

theorem jointlyFit_crossed (u : State) : ∃ p, (u.BulkSensed → p = Plan.initial) ∧ (¬ u.BulkSensed → p = u.rtu.plan) ∧
    u.JointlyFit p (crossBudget (crossBulk u)) := by
  by_cases sensed : u.BulkSensed
  · exact ⟨Plan.initial, fun _ => rfl, fun no => absurd sensed no, by
      rw [crossBulk_sensed sensed]; exact jointlyFit_sensed sensed⟩
  · exact ⟨u.rtu.plan, fun yes => absurd yes sensed, fun _ => rfl, by
      rw [crossBulk_free sensed]; exact jointlyFit_free u⟩

theorem groupAlike_advance {g : Fin 5} {r s : State} (due : Time) (h : r.GroupAlike g s) :
    r.GroupAlike g (advance due s) := by
  match g with
  | 0 => exact h
  | 1 => exact h
  | 2 => exact h
  | 3 => exact h
  | 4 => exact h

theorem header_congr {s t : State} (seq : t.seq = s.seq) (n : ProgNo) : t.header n = s.header n := by
  unfold State.header; rw [seq]

/-- A plan keeps the references to programs of the priorities that its roles ask for (R186 item 3). -/
theorem keepRoles_eq (s : State) (p : Plan) : p.keepRoles s = { p with
    levels := p.levels.map (fun l => { l with program := l.program.filter (fun n => (s.header n).priority == 2) })
    resume := match p.resume with
      | .wait => .wait
      | .auto d n => if (s.header n).priority = 1 then .auto d n else .wait } := by
  unfold Plan.keepRoles
  cases p.resume <;> rfl

theorem keepRoles_initial (s : State) : Plan.initial.keepRoles s = Plan.initial := rfl

/-- The plan put back on its defaults, or a reference dropped: that is when CONFIG_FALLBACK joins (R186). -/
theorem fallback_iff {u x t : State} {p : Plan} (sensed : u.BulkSensed → p = Plan.initial)
    (free : ¬ u.BulkSensed → p = u.rtu.plan) (fit : u.JointlyFit p x) (roles : x.RolesFit t) :
    (p.reserveMs < u.worstCase 0 ∨ t.rtu.plan ≠ u.rtu.plan ∨ ∃ r, (t.rail r).static ≠ (u.rail r).static) ↔
      (p.reserveMs < u.worstCase 0 ∨ p ≠ u.rtu.plan) ∨
        t.rtu.plan ≠ x.rtu.plan ∨ ∃ r, (t.rail r).static ≠ (x.rail r).static := by
  have rail : ∀ r, x.rail r = u.rail r := fun r => congrArg (fun v => v.get r) fit.rails
  simp only [rail]
  by_cases exceeds : p.reserveMs < u.worstCase 0
  · exact ⟨fun _ => .inl (.inl exceeds), fun _ => .inl exceeds⟩
  · obtain ⟨-, plan, -⟩ := fit.within (Nat.not_lt.mp exceeds)
    have replaced : p ≠ u.rtu.plan → t.rtu.plan ≠ u.rtu.plan := by
      intro differs same
      have isSensed : u.BulkSensed := Classical.byContradiction fun no => differs (free no)
      refine bulkSensed_some isSensed ?_
      rw [← same, roles.plan, plan, sensed isSensed, keepRoles_initial]; rfl
    have kept : p = u.rtu.plan → x.rtu.plan = u.rtu.plan := plan.trans
    constructor
    · rintro (yes | changed | rails)
      · exact absurd yes exceeds
      · by_cases same : p = u.rtu.plan
        · exact .inr (.inl (by rw [kept same]; exact changed))
        · exact .inl (.inr same)
      · exact .inr (.inr rails)
    · rintro ((yes | differs) | changed | rails)
      · exact absurd yes exceeds
      · exact .inr (.inl (replaced differs))
      · by_cases same : p = u.rtu.plan
        · exact .inr (.inl (by rw [← kept same]; exact changed))
        · exact .inr (.inl (replaced same))
      · exact .inr (.inr rails)

/-- The second part of O8: each group on its own, then the groups together. -/
theorem startupWaitEnd_loads {s : State} {due : Time} (h : s.Settled) (waiting : s.phase = .waiting due)
    (defaults : ∀ g, State.reset.GroupAlike g s) :
    ∃ t u p, exec .startupWaitEnd s = .next t ∧
      (∀ (g : Fin 5) (a : GroupArea), a = s.store.groups.get g →
        (a.code ≠ 0xA5 → u.store.loads.get g = .code ∧ State.reset.GroupAlike g u) ∧
        (a.code = 0xA5 → crc16 a.contents ≠ a.crc → u.store.loads.get g = .crc ∧ State.reset.GroupAlike g u) ∧
        (a.code = 0xA5 → crc16 a.contents = a.crc →
          (loadGroup g a.contents s = none → u.store.loads.get g = .unfit ∧ State.reset.GroupAlike g u) ∧
          (∀ v, loadGroup g a.contents s = some v → u.store.loads.get g = .stored ∧ v.GroupAlike g u))) ∧
      State.Pended (∃ g, s.FellBack u g) s u ∧ (u.BulkSensed → p = Plan.initial) ∧ (¬ u.BulkSensed → p = u.rtu.plan) ∧
      ∃ x, u.JointlyFit p x ∧ x.RolesFit t := by
  have groups := judged_group s fun g => groupAlike_advance due (defaults g)
  have pended := pended_judged (advance due s)
  obtain ⟨p, sensed, free, fit⟩ := jointlyFit_crossed (judged (advance due s))
  have roles := rolesFit_crossRoles (crossBudget (crossBulk (judged (advance due s))))
  rw [exec_startupWaitEnd h waiting, loaded_startupLoad]
  obtain ⟨u, hu⟩ : ∃ u, u = judged (advance due s) := ⟨_, rfl⟩
  rw [← hu] at pended sensed free fit roles ⊢
  simp only [← hu] at groups
  exact ⟨_, u, p, rfl, groups, ⟨pended.falls, pended.stands⟩, sensed, free, _, fit, roles⟩

theorem plan_within {u x t : State} {p : Plan} (fit : u.JointlyFit p x) (roles : x.RolesFit t)
    (within : u.worstCase 0 ≤ p.reserveMs) : t.rtu.plan = p.keepRoles t := by
  obtain ⟨-, plan, -⟩ := fit.within within
  have header : x.header = t.header := funext fun n => (header_congr roles.seq n).symm
  rw [roles.plan, plan, keepRoles_eq, keepRoles_eq, header]

/-- Settles O8: the wait's end, the load as a whole, and the part as it starts. -/
theorem startupWaitAndLoadStartThePart : Obligations.StartupWaitAndLoadStartThePart := by
  refine ⟨fun s due settled waiting => startupWaitEnd_judges settled waiting, fun s due settled waiting defaults => ?_,
    fun s settled loading low => startupLoadComplete_starts settled loading low⟩
  obtain ⟨t, u, p, ends, groups, pended, sensed, free, x, fit, roles⟩ := startupWaitEnd_loads settled waiting defaults
  have header : ∀ n, t.header n = x.header n := header_congr roles.seq
  have loads : ∀ g, t.store.loads.get g = x.store.loads.get g := fun g => congrArg (fun v => v.get g) roles.loads
  have chan : ∀ c, x.chan c = u.chan c := fun c => congrArg (fun v => v.get c) fit.chans
  have port : ∀ q, t.port q = u.port q := fun q => congrArg (fun v => v.get q.idx) (roles.ports.trans fit.ports)
  refine ⟨t, u, p, ends, groups, ?pending, ?plan, fun exceeds => ?exceeds, fun within => ?within, fun r => ?rails,
    fun c => ?chans, ?admission, ?settings, roles.marks, fun g which => ?results, ?raised⟩
  case pending =>
    split
    · next falls => exact pended.falls falls
    · next stands => exact pended.stands stands
  case plan =>
    split
    · next yes => exact sensed yes
    · next no => exact free no
  case exceeds =>
    obtain ⟨⟨steps, headers, templates⟩, plan, two, three⟩ := fit.exceeds exceeds
    refine ⟨⟨?_, ?_, ?_⟩, ?_, (loads 2).trans two, (loads 3).trans three⟩
    · rw [roles.seq]; exact steps
    · rw [roles.seq]; exact headers
    · rw [roles.seq]; exact templates
    · exact roles.plan.trans (by rw [plan, keepRoles_initial]; rfl)
  case within =>
    obtain ⟨seq, -, two, same, differs⟩ := fit.within within
    refine ⟨?_, (loads 2).trans two, ?_, (plan_within fit roles within).trans ((keepRoles_eq t p).trans ?_)⟩
    · have kept : t.seq = u.seq := roles.seq.trans seq
      exact ⟨congrArg Sequencer.steps kept, congrArg Sequencer.headers kept, congrArg Sequencer.templates kept⟩
    · rw [loads 3]
      split
      · next eq => exact same eq
      · next ne => exact differs ne
    · cases p.resume <;> rfl
  case rails =>
    have rail : x.rail r = u.rail r := congrArg (fun v => v.get r) fit.rails
    rw [roles.rails r, rail]
    simp only [header]
    rfl
  case chans =>
    rw [← chan c]; exact roles.chans c
  case admission => exact congrArg Forwarding.admission (roles.fwd.trans fit.fwd)
  case settings =>
    refine ⟨fun q => ?_, congrArg Forwarding.orderHoldMs (roles.fwd.trans fit.fwd), roles.mask.trans fit.mask⟩
    rw [port q]; exact ⟨rfl, rfl⟩
  case results =>
    have others : g ≠ 2 ∧ g ≠ 3 := by rcases which with rfl | rfl | rfl <;> decide
    exact (loads g).trans (fit.loads g others.1 others.2)
  case raised =>
    have raised := pended_congr (pended_trans fit.pending roles.pending) (fallback_iff sensed free fit roles)
    split
    · next falls => exact raised.falls falls
    · next stands => exact raised.stands stands

end Sys2Proof.Machine
end
